-- ==== Sys2Proof/Word.lean ====
section
/-!
DEFINITION. The word types of the module: 32-bit registers (R3), 64-bit times and positions (R60, R69), bytes.
-/
namespace Sys2Proof

/-- A 32-bit register or doorbell word (R3). -/
abbrev Word := BitVec 32

/-- A 64-bit value: a time in ns, a domain position, a physical address. -/
abbrev DWord := BitVec 64

/-- One byte of memory or of a descriptor. -/
abbrev Byte := BitVec 8

end Sys2Proof
end

