-- ==== Sys2Proof/Syntax.lean ====
section
/-!
DEFINITION. The commands of the module: one constructor for each row of the opcode table. Every command carries first the
time in ns that has passed since the command before it (log entry 2); the other operands name the hart, channel, ring or
operation the row speaks of, and the measured quantities the module cannot know by itself.
-/
namespace Sys2Proof

/-- Who issued a Comb transaction: an engine operation by its number, or a hart. -/
inductive Requester where
  | op (id : Nat)
  | hart (t : Fin 19)
  deriving DecidableEq, Repr

/-- The valve channel conditions that are detected after a duration (Table 08.7). -/
inductive SolFaultKind where
  | shortBat
  | openLoad
  | regErr
  deriving DecidableEq, Repr

/-- A measurement a power tile reports with its hub frame: the mean current of a valve or load switch in mA and whether it is in
current limit; a fan drive's speed in rpm and thermistor reading in 0.1 °C, both signed; the feed voltage in 10 mV. -/
inductive Meas where
  | current (port : Fin 144) (mA : BitVec 16) (limiting : Bool)
  | fan (n : Fin 8) (speed temp : BitVec 16)
  | volt (v : BitVec 16)
  deriving DecidableEq, Repr

/-- The DIO conditions that are detected (Table 10.3). -/
inductive DioFaultKind where
  | openLoad
  | openWire
  | overtemp
  deriving DecidableEq, Repr

/-- The fan drive conditions that are detected (Table 11.2). -/
inductive FanFaultKind where
  | hall
  | drvHot
  deriving DecidableEq, Repr

/-- What reaches the ISO 11783 agent of a controller (R644): its own claim falls due, the wait for contenders passes, or another
node claims an address with its NAME. -/
inductive ClaimEv where
  | claim
  | settled
  | other (name : BitVec 64) (sa : BitVec 8)
  deriving DecidableEq, Repr

/-- What the loops of a Forager band measure at an observable epoch (Table 13.6): antenna, Forager, band 5 or 1, code phase, code
periods, carrier phase, Doppler, C/N0, whether the lock indicator fell below its threshold, and whether the integration changed. -/
structure GnsMeas where
  ant : Fin 2
  f : Fin 64
  b5 : Bool
  code : BitVec 32
  periods : BitVec 32
  adr : BitVec 64
  doppler : BitVec 32
  cn0 : BitVec 16
  slip : Bool
  tintChanged : Bool
  deriving DecidableEq, Repr

/-- Who asks for ownership of a line (R719): an L2, to store to it, or an engine's write through its stop. -/
inductive OwnAgent where
  | cluster (c : Fin 4)
  | engine (stop : Fin 64)
  deriving DecidableEq, Repr

/-- What a scrubber finds in a word whose storage holds no data of the model: nothing, an error of one bit, or one it cannot
correct. -/
inductive ScrubFind where
  | clean
  | fixed (bit : Fin 72)
  | lost
  deriving DecidableEq, Repr

/-- A step of Smoker on one target of one test (Table 20.1): an ECC checker of a block, the pulse of a load switch, DIO output or DIO
input (by port index) and its end, the current-sense offset of a valve channel in mA, the internal reference of the converter of some
channels (by port index), the lockstep comparator of a pair, the links of a stop. -/
inductive SmkStep where
  | ecc (b : Fin 14) (good : Bool)
  | pulse (port : Fin 272)
  | pulseEnd (good : Bool)
  | offset (c : Fin 48) (mA : BitVec 16)
  | adc (ports : List (Fin 512)) (good : Bool)
  | lockstep (pair : Fin 3) (good : Bool)
  | comb (stop : Fin 64) (good : Bool)
  deriving DecidableEq, Repr

/-- A test of a vision tile begins, or ends with its result (R849, R850). -/
inductive TileEv where
  | takeOut
  | result (good : Bool)
  deriving DecidableEq, Repr

/-- The instructions of the test access port (R854). -/
inductive TapIr where
  | bypass
  | idcode
  | samplePreload
  | extest
  deriving DecidableEq, Repr

/-- What the wake comparators see (R830): the ignition level, a wake-up pattern on a CAN transceiver held in standby, and the voltages
of AIN62 and AIN63 in mV. -/
structure WakeIn where
  ign : Bool
  wup : Option (Fin 16)
  a : Nat
  b : Nat
  deriving DecidableEq, Repr

/-- How a start-up goes (R822, R803, R825): which memory channel fails its training, if one does, whether each image bank fails its verification, whether
the boot-select contact is asserted as the supply comes up, and the ms the fill took. -/
structure StartIn where
  fails : Option (Fin 16)
  bad0 : Bool
  bad1 : Bool
  bootSel : Bool
  fillMs : Fin 351
  deriving DecidableEq, Repr

/-- The commands, in the order of the opcode table. -/
inductive Instr where
  /-- REGISTER_WRITE (R892). -/
  | registerWrite (dt : Nat) (hart : Fin 19) (page : Fin 20) (off : BitVec 16) (v : Word)
  /-- REGISTER_READ_CLEAR (R8). -/
  | registerReadClear (dt : Nat) (hart : Fin 19) (page : Fin 20) (off : BitVec 16)
  /-- LO_REGISTER_READ (R900). -/
  | loRegisterRead (dt : Nat) (hart : Fin 19) (page : Fin 20) (off : BitVec 16)
  /-- HI_REGISTER_WRITE (R901). -/
  | hiRegisterWrite (dt : Nat) (hart : Fin 19) (page : Fin 20) (off : BitVec 16) (v : Word)
  /-- CORE_MEMORY_ACCESS (R190). -/
  | coreMemoryAccess (dt : Nat) (hart : Fin 19) (addr : DWord) (lg : Fin 4) (st : Option DWord)
  /-- UNMAPPED_ACCESS (R693). -/
  | unmappedAccess (dt : Nat) (hart : Fin 19) (addr : DWord) (st : Option Word)
  /-- SP_ATOMIC_ALIAS_LOAD (R21). -/
  | spAtomicAliasLoad (dt : Nat) (pair : Fin 3) (addr : Word)
  /-- OWNERSHIP_REQUEST (R719). -/
  | ownershipRequest (dt : Nat) (line : BitVec 36) (who : List OwnAgent)
  /-- LINE_WRITEBACK (R720). -/
  | lineWriteback (dt : Nat) (line : BitVec 36) (c : Fin 4)
  /-- COMB_SINGLE_BIT_CORRECTED (R54). -/
  | combSingleBitCorrected (dt : Nat) (stop : Fin 64) (off : BitVec 40) (b : Fin 72)
  /-- COMB_UNCORRECTABLE (R55). -/
  | combUncorrectable (dt : Nat) (r : Requester)
  /-- COMB_TIMEOUT (R56). -/
  | combTimeout (dt : Nat) (r : Requester)
  /-- LATE_RESPONSE_DISCARD (R57). -/
  | lateResponseDiscard (dt : Nat)
  /-- RESERVATION_TAKES_EFFECT (R59). -/
  | reservationTakesEffect (dt : Nat) (p : Fin 8)
  /-- VISION_POWER_CAP (R33). -/
  | visionPowerCap (dt : Nat) (v : BitVec 16)
  /-- PPS_EDGE (R63). -/
  | ppsEdge (dt : Nat)
  /-- HOLDOVER_ENTRY (R65). -/
  | holdoverEntry (dt : Nat)
  /-- DOMAIN_CFG_WRITE (R122). -/
  | domainCfgWrite (dt : Nat) (hart : Fin 19) (i : Fin 16) (div : Bool) (v : Word)
  /-- DOMAIN_EDGE (R81). -/
  | domainEdge (dt : Nat) (i : Fin 16) (level : Bool)
  /-- INDEX_EDGE (R76). -/
  | indexEdge (dt : Nat) (i : Fin 16)
  /-- DOMAIN_STOP_TIMEOUT (R79). -/
  | domainStopTimeout (dt : Nat) (i : Fin 16)
  /-- FUSION_UPDATE_ARRIVAL (R84). -/
  | fusionUpdateArrival (dt : Nat) (i : Fin 16) (level : Bool)
  /-- HELD_UPDATE_APPLY (R84). -/
  | heldUpdateApply (dt : Nat) (i : Fin 16) (level : Bool)
  /-- EVENT_ISSUE (R108). -/
  | eventIssue (dt : Nat)
  /-- DEFERRED_VALVE_START (R114). -/
  | deferredValveStart (dt : Nat) (c : Fin 48)
  /-- SLOT_ARM (R101). -/
  | slotArm (dt id : Nat)
  /-- SLOT_DISARM (R103). -/
  | slotDisarm (dt id : Nat)
  /-- SLOT_CMD_ARM (R121). -/
  | slotCmdArm (dt : Nat) (hart : Fin 19)
  /-- SLOT_CMD_READ (R121). -/
  | slotCmdRead (dt : Nat) (hart : Fin 19)
  /-- SLOT_CMD_DISARM (R121). -/
  | slotCmdDisarm (dt : Nat) (hart : Fin 19)
  /-- DOORBELL_STORE (R130). -/
  | doorbellStore (dt : Nat) (hart : Fin 19) (addr : DWord) (v : Word)
  /-- DOORBELL_READ (R131). -/
  | doorbellRead (dt : Nat) (r : Fin 1024)
  /-- DESCRIPTOR_FETCH (R140). -/
  | descriptorFetch (dt : Nat) (eng : Fin 13)
  /-- COMPLETION_WRITE (R153). -/
  | completionWrite (dt : Nat) (op : Option Nat)
  /-- RING_IRQ_TIMER (R167). -/
  | ringIrqTimer (dt : Nat) (r : Fin 1024)
  /-- RING_ENABLE (R128). -/
  | ringEnable (dt : Nat) (hart : Fin 19) (r : Fin 1024) (reset : Bool)
  /-- RING_DISABLE (R170). -/
  | ringDisable (dt : Nat) (hart : Fin 19) (r : Fin 1024)
  /-- RING_DRAIN_DONE (R170). -/
  | ringDrainDone (dt : Nat) (r : Fin 1024)
  /-- RING_RESET (R174). -/
  | ringReset (dt : Nat) (hart : Fin 19) (r : Fin 1024)
  /-- COPY (R146). -/
  | copy (dt id : Nat)
  /-- BLOCK_FILL (R146). -/
  | blockFill (dt id : Nat)
  /-- LAYOUT_LOAD (R187). -/
  | layoutLoad (dt : Nat) (hart : Fin 19)
  /-- START (R194). -/
  | start (dt : Nat) (hart : Fin 19) (p : Fin 8)
  /-- STOP (R197). -/
  | stop (dt : Nat) (hart : Fin 19) (p : Fin 8)
  /-- RESTART (R194). -/
  | restart (dt : Nat) (hart : Fin 19) (p : Fin 8)
  /-- RECONFIGURE (R201). -/
  | reconfigure (dt : Nat) (hart : Fin 19) (p : Fin 8)
  /-- STOP_DRAIN_DONE (R197). -/
  | stopDrainDone (dt : Nat)
  /-- FILL_DONE_RELEASE (R199). -/
  | fillDoneRelease (dt : Nat) (p : Fin 8)
  /-- PRESENCE_LOSS (R211). -/
  | presenceLoss (dt : Nat)
  /-- PRESENCE_RETURN (R211). -/
  | presenceReturn (dt : Nat)
  /-- PRESENCE_LOSS_TIMEOUT (R212). -/
  | presenceLossTimeout (dt : Nat)
  /-- PRESENCE_ASSERT (R213). -/
  | presenceAssert (dt : Nat)
  /-- RETRY_TIMER_EXPIRY (R214). -/
  | retryTimerExpiry (dt : Nat)
  /-- CHALLENGE_ANSWER (R220). -/
  | challengeAnswer (dt : Nat) (ident : BitVec 24) (sof : Nat) (sig : List Byte)
  /-- ROUND_DECISION (R221). -/
  | roundDecision (dt : Nat)
  /-- LOOPED_FRAME_DELIVERY (R206). -/
  | loopedFrameDelivery (dt : Nat) (b : Fin 128)
  /-- CAMERA_ENABLE (R280). -/
  | cameraEnable (dt : Nat) (hart : Fin 19) (c : Fin 16)
  /-- CAMERA_DISABLE (R272). -/
  | cameraDisable (dt : Nat) (hart : Fin 19) (c : Fin 16)
  /-- CAMERA_GEOM_WRITE (R252). -/
  | cameraGeomWrite (dt : Nat) (hart : Fin 19) (c : Fin 16) (v : Word)
  /-- CAMERA_LINK_UP (R231). -/
  | cameraLinkUp (dt : Nat) (c : Fin 16)
  /-- CAMERA_LINK_DOWN (R230). -/
  | cameraLinkDown (dt : Nat) (c : Fin 16)
  /-- CAMERA_TRAINING_RETRY (R230). -/
  | cameraTrainingRetry (dt : Nat) (c : Fin 16)
  /-- POST (R243). -/
  | post (dt id : Nat)
  /-- REPROCESS (R257). -/
  | reprocess (dt id : Nat)
  /-- PROFILE (R250). -/
  | profile (dt id : Nat)
  /-- CCI (R273). -/
  | cci (dt id : Nat) (ack : Bool) (data : List Byte)
  /-- CCI_TIMEOUT (R273). -/
  | cciTimeout (dt id : Nat)
  /-- FRAME_START (R239). -/
  | frameStart (dt : Nat) (c vc : Fin 16) (fmt : Fin 8)
  /-- FRAME_END (R255). -/
  | frameEnd (dt : Nat) (c : Fin 16) (intact : Bool) (xs : List Nat)
  /-- ELASTIC_BUFFER_OVERFLOW (R254). -/
  | elasticBufferOverflow (dt : Nat)
  /-- FRAME_CAPACITY_OVERRUN (R267). -/
  | frameCapacityOverrun (dt : Nat) (c : Fin 16)
  /-- ARRIVAL_DEADLINE (R266). -/
  | arrivalDeadline (dt : Nat) (c : Fin 16)
  /-- PIPELINE_PASS_START (R257). -/
  | pipelinePassStart (dt : Nat) (k : Fin 2)
  /-- PIPELINE_PASS_END (R264). -/
  | pipelinePassEnd (dt : Nat) (k : Fin 2)
  /-- PROCESSING_DEADLINE (R259). -/
  | processingDeadline (dt : Nat) (c : Fin 16)
  /-- CONVERTER_SAMPLE (R283). -/
  | converterSample (dt port : Nat) (vals : List Int)
  /-- SFE_CHANNEL_RECONFIG (R907). -/
  | sfeChannelReconfig (dt : Nat) (hart : Fin 19) (port : Fin 512) (v : Word)
  /-- SPD_EDGE_CAPTURE (R282). -/
  | spdEdgeCapture (dt : Nat) (k : Fin 40) (partner : Bool) (width : Nat)
  /-- SENT_FRAME (R287). -/
  | sentFrame (dt : Nat) (k : Fin 16) (age tick : Nat) (status : Fin 16) (data : List (Fin 16)) (crcOk : Bool) (slow : Option (BitVec 8 × BitVec 16 × Bool))
  /-- RECBUF (R291). -/
  | recbuf (dt id : Nat)
  /-- BUFFER_FLUSH_TIMEOUT (R294). -/
  | bufferFlushTimeout (dt id : Nat)
  /-- IMPACT_BEGIN (R297). -/
  | impactBegin (dt : Nat) (c : Fin 48)
  /-- IMPACT_END (R297). -/
  | impactEnd (dt : Nat) (c : Fin 48)
  /-- LOSS_SAMPLE_STEP (R305). -/
  | lossSampleStep (dt : Nat) (w : Fin 16)
  /-- LOSS_WINDOW_LENGTH_END (R305). -/
  | lossWindowLengthEnd (dt : Nat) (w : Fin 16)
  /-- PADDLE_FILL (R315). -/
  | paddleFill (dt id : Nat)
  /-- CAL (R318). -/
  | cal (dt id : Nat)
  /-- WIDTH (R335). -/
  | width (dt id : Nat)
  /-- CONVERT (R338). -/
  | convert (dt id : Nat)
  /-- PADDLE_RECORD (R316). -/
  | paddleRecord (dt : Nat)
  /-- HISTORY_ENTRY (R328). -/
  | historyEntry (dt : Nat)
  /-- YIELD_BIN_TIMEOUT (R333). -/
  | yieldBinTimeout (dt : Nat)
  /-- YIELD_ENABLE (R310). -/
  | yieldEnable (dt : Nat) (hart : Fin 19) (v : Word)
  /-- CONTROL_TICK (R350). -/
  | controlTick (dt : Nat)
  /-- SETPOINT (R380). -/
  | setpoint (dt id : Nat)
  /-- MEAS (R378). -/
  | meas (dt id : Nat)
  /-- MODE (R381). -/
  | mode (dt id : Nat)
  /-- LOOP_TABLE_LOAD (R384). -/
  | loopTableLoad (dt id : Nat)
  /-- INJECT (R388). -/
  | inject (dt id : Nat)
  /-- CAPTURE (R390). -/
  | capture (dt id : Nat)
  /-- READCAP (R393). -/
  | readcap (dt id : Nat)
  /-- CTL_SLOT_SEL_WRITE (R400). -/
  | ctlSlotSelWrite (dt : Nat) (hart : Fin 19) (v : Word)
  /-- REC_CMD_WRITE (R401). -/
  | recCmdWrite (dt : Nat) (hart : Fin 19)
  /-- REC_CMD_READ (R401). -/
  | recCmdRead (dt : Nat) (hart : Fin 19)
  /-- SOL_ENABLE (R447). -/
  | solEnable (dt : Nat) (hart : Fin 19) (c : Fin 48) (v : Word)
  /-- SOL_DISABLE (R428). -/
  | solDisable (dt : Nat) (hart : Fin 19) (c : Fin 48) (v : Word)
  /-- SOLPROF (R421). -/
  | solprof (dt id : Nat)
  /-- SOLCUR (R422). -/
  | solcur (dt id : Nat)
  /-- PHASE_END (R415). -/
  | phaseEnd (dt : Nat) (c : Fin 48) (peak : Bool)
  /-- OFFTIME_END (R425). -/
  | offtimeEnd (dt : Nat) (c : Fin 48)
  /-- TIME_TO_PEAK (R429). -/
  | timeToPeak (dt : Nat) (c : Fin 48) (reached : Bool)
  /-- SOL_OVERCURRENT (R431). -/
  | solOvercurrent (dt : Nat) (c : Fin 48)
  /-- SOL_FAULT_DETECT (R431). -/
  | solFaultDetect (dt : Nat) (c : Fin 48) (kind : SolFaultKind)
  /-- DRV_HOT (R431). -/
  | drvHot (dt : Nat) (c : Fin 48) (hot : Bool)
  /-- CLAMP_LIMIT (R411). -/
  | clampLimit (dt : Nat) (c : Fin 48)
  /-- OIL_TEMP_UPDATE (R433). -/
  | oilTempUpdate (dt : Nat)
  /-- THERMAL_MODEL_STEP (R434). -/
  | thermalModelStep (dt : Nat) (c : Fin 48) (duty vf i irms : Nat)
  /-- LSW_ENABLE (R482). -/
  | lswEnable (dt : Nat) (hart : Fin 19) (c : Fin 96) (v : Word)
  /-- LSWSET (R459). -/
  | lswset (dt id : Nat)
  /-- CURRENT_LIMIT_TIMEOUT (R453). -/
  | currentLimitTimeout (dt : Nat) (c : Fin 96) (dur : Nat)
  /-- OPEN_ON (R454). -/
  | openOn (dt : Nat) (c : Fin 96)
  /-- OFF_HIGH (R454). -/
  | offHigh (dt : Nat) (c : Fin 96)
  /-- OVERTEMP (R455). -/
  | overtemp (dt : Nat) (c : Fin 96)
  /-- OVERTEMP_RESTART (R455). -/
  | overtempRestart (dt : Nat) (c : Fin 96)
  /-- LSW_FAULT_CLEAR (R456). -/
  | lswFaultClear (dt : Nat) (hart : Fin 19) (c : Fin 96) (v : Word) (stillHot : Bool)
  /-- FEED_SHED (R462). -/
  | feedShed (dt : Nat) (t : Fin 8) (mean inst : Nat)
  /-- FEED_TRIP (R465). -/
  | feedTrip (dt : Nat) (t : Fin 8) (inst dur : Nat)
  /-- TILE_FRAME (R472). -/
  | tileFrame (dt : Nat) (t : Fin 8) (crcOk : Bool) (meas : List Meas)
  /-- TILE_WATCHDOG_EXPIRY (R472). -/
  | tileWatchdogExpiry (dt : Nat) (t : Fin 8)
  /-- WATCHDOG_PERIOD_START (R473). -/
  | watchdogPeriodStart (dt : Nat)
  /-- WATCHDOG_PERIOD_END (R475). -/
  | watchdogPeriodEnd (dt : Nat)
  /-- WDANS (R475). -/
  | wdans (dt id : Nat)
  /-- ARM (R477). -/
  | arm (dt : Nat) (hart : Fin 19) (t : Fin 8)
  /-- FS_LOCK (R468). -/
  | fsLock (dt : Nat) (hart : Fin 19) (t : Fin 8)
  /-- DIO_ENABLE (R499). -/
  | dioEnable (dt : Nat) (hart : Fin 19) (c : Fin 128) (v : Word)
  /-- DIOSET (R494). -/
  | dioset (dt id : Nat)
  /-- DIOBUF (R491). -/
  | diobuf (dt id : Nat)
  /-- COUNTER_FILTER_STEP (R485). -/
  | counterFilterStep (dt : Nat) (c : Fin 128) (raw : Bool) (age : Nat)
  /-- DEBOUNCE_EXPIRY (R486). -/
  | debounceExpiry (dt : Nat) (c : Fin 128) (raw : Bool) (stable : Nat)
  /-- FILTER_CHANGE (R488). -/
  | filterChange (dt : Nat) (c : Fin 128)
  /-- DIO_OVERLOAD (R495). -/
  | dioOverload (dt : Nat) (c : Fin 128)
  /-- DIO_FAULT_DETECT (R495). -/
  | dioFaultDetect (dt : Nat) (c : Fin 128) (kind : DioFaultKind)
  /-- SILENT (R496). -/
  | silent (dt : Nat) (t : Fin 2)
  /-- FAN_ENABLE (R521). -/
  | fanEnable (dt : Nat) (hart : Fin 19) (n : Fin 8) (v : Word)
  /-- FANSET (R507). -/
  | fanset (dt id : Nat)
  /-- FANTAB (R509). -/
  | fantab (dt id : Nat)
  /-- TABLE_MODE_ENTRY (R511). -/
  | tableModeEntry (dt : Nat) (n : Fin 8)
  /-- THERMISTOR_FAULT (R512). -/
  | thermistorFault (dt : Nat) (n : Fin 8)
  /-- THERMISTOR_RELEASE (R512). -/
  | thermistorRelease (dt : Nat) (n : Fin 8)
  /-- FAN_OVERCURRENT (R518). -/
  | fanOvercurrent (dt : Nat) (n : Fin 8)
  /-- STALL (R518). -/
  | stall (dt : Nat) (n : Fin 8) (dur : Nat)
  /-- STALL_RESTART (R518). -/
  | stallRestart (dt : Nat) (n : Fin 8)
  /-- FAN_FAULT_DETECT (R518). -/
  | fanFaultDetect (dt : Nat) (n : Fin 8) (kind : FanFaultKind)
  /-- XN7200_MEASUREMENT (R515). -/
  | xn7200Measurement (dt : Nat) (n : Fin 8) (period : Option Nat)
  /-- FUS_ENABLE (R576). -/
  | fusEnable (dt : Nat) (hart : Fin 19)
  /-- DETECT (R548). -/
  | detect (dt id : Nat)
  /-- FIX (R543). -/
  | fix (dt id : Nat)
  /-- INIT (R542). -/
  | init (dt id : Nat)
  /-- OUTBUF (R569). -/
  | outbuf (dt id : Nat)
  /-- EGO_STEP (R534). -/
  | egoStep (dt : Nat) (l0 l1 : Bool)
  /-- IMU_TIMEOUT (R542). -/
  | imuTimeout (dt : Nat)
  /-- EGO_FAULT_EXIT (R542). -/
  | egoFaultExit (dt : Nat)
  /-- GNSS_LOST (R544). -/
  | gnssLost (dt : Nat)
  /-- GNSS_HOLDOFF_END (R545). -/
  | gnssHoldoffEnd (dt : Nat)
  /-- FUSION_CYCLE (R548). -/
  | fusionCycle (dt : Nat)
  /-- SOURCE_STALE (R564). -/
  | sourceStale (dt : Nat) (src : Fin 16)
  /-- DEGRADATION_RECOVER (R567). -/
  | degradationRecover (dt : Nat)
  /-- GNS_ANT_ENABLE (R612). -/
  | gnsAntEnable (dt : Nat) (hart : Fin 19) (a : Fin 2) (v : Word)
  /-- BIAS_FAULT (R578). -/
  | biasFault (dt : Nat) (a : Fin 2) (short : Bool)
  /-- BIAS_RETRY (R578). -/
  | biasRetry (dt : Nat) (a : Fin 2) (still : Bool)
  /-- CHAN (R592). -/
  | chan (dt id : Nat)
  /-- GNSS_STOP (R593). -/
  | gnssStop (dt id : Nat)
  /-- OBSBUF (R597). -/
  | obsbuf (dt id : Nat)
  /-- CLOCK (R602). -/
  | clock (dt id : Nat)
  /-- ACQUISITION_PEAK (R585). -/
  | acquisitionPeak (dt : Nat) (a : Fin 2) (i : Fin 64) (cn0 : BitVec 16)
  /-- TRACK_REACHED (R585). -/
  | trackReached (dt : Nat) (a : Fin 2) (i : Fin 64) (b5 : Bool) (doppler code : Word)
  /-- PULL_IN_TIMEOUT (R586). -/
  | pullInTimeout (dt : Nat) (a : Fin 2) (i : Fin 64)
  /-- SEARCH_TIMEOUT (R587). -/
  | searchTimeout (dt : Nat) (a : Fin 2) (i : Fin 64)
  /-- LOSS_OF_LOCK (R589). -/
  | lossOfLock (dt : Nat) (a : Fin 2) (i : Fin 64) (b5 : Bool)
  /-- OBSERVABLE_EPOCH (R596). -/
  | observableEpoch (dt : Nat) (ms : List GnsMeas)
  /-- INTEGRATION_END (R599). -/
  | integrationEnd (dt : Nat) (a : Fin 2) (i : Fin 64) (b5 : Bool) (iq : List Word) (sync : Bool)
  /-- NAV_SYMBOL_RECORD (R600). -/
  | navSymbolRecord (dt : Nat) (a : Fin 2) (i : Fin 64) (b5 : Bool) (age : Nat) (syms : List Bool)
  /-- INTERNAL_PPS_INVALID (R604). -/
  | internalPpsInvalid (dt : Nat)
  /-- PPS_OUT_PULSE (R609). -/
  | ppsOutPulse (dt : Nat)
  /-- CAN_ENABLE (R615). -/
  | canEnable (dt : Nat) (hart : Fin 19) (n : Fin 16) (v : Word)
  /-- CAN_DISABLE (R639). -/
  | canDisable (dt : Nat) (hart : Fin 19) (n : Fin 16) (v : Word)
  /-- CAN_RESTART (R618). -/
  | canRestart (dt : Nat) (hart : Fin 19) (n : Fin 16)
  /-- BUS_OFF_RECOVERY_DONE (R618). -/
  | busOffRecoveryDone (dt : Nat) (n : Fin 16)
  /-- CAN_FRAME_RECEIVED (R622). -/
  | canFrameReceived (dt : Nat) (n : Fin 16) (idw : Word) (dlc : Fin 16) (rtr esi : Bool) (data : List Byte) (age : Nat)
  /-- FIFO_RECORD_WRITE (R628). -/
  | fifoRecordWrite (dt : Nat) (n : Fin 16)
  /-- TXSET (R640). -/
  | txset (dt id : Nat)
  /-- TXREQ (R631). -/
  | txreq (dt id : Nat)
  /-- CAN_ABORT (R638). -/
  | canAbort (dt id : Nat)
  /-- CAN_RXBUF (R628). -/
  | canRxbuf (dt id : Nat)
  /-- LINSCHED (R650). -/
  | linsched (dt id : Nat)
  /-- LINPUB (R652). -/
  | linpub (dt id : Nat)
  /-- CAN_TRANSMIT_START (R635). -/
  | canTransmitStart (dt : Nat) (n : Fin 16)
  /-- CAN_TRANSMIT_END (R642). -/
  | canTransmitEnd (dt : Nat) (n : Fin 16) (tdcv : Fin 128)
  /-- CAN_ARB_LOST (R636). -/
  | canArbLost (dt : Nat) (n : Fin 16)
  /-- CAN_TX_ERROR (R636). -/
  | canTxError (dt : Nat) (n : Fin 16) (counted : Bool)
  /-- ADDRESS_CLAIM (R644). -/
  | addressClaim (dt : Nat) (n : Fin 16) (ev : ClaimEv)
  /-- HEARTBEAT_SEND (R645). -/
  | heartbeatSend (dt : Nat) (n : Fin 16)
  /-- WATCH_TIMEOUT (R646). -/
  | watchTimeout (dt : Nat) (n : Fin 16)
  /-- LIN_SLOT (R651). -/
  | linSlot (dt : Nat) (c : Fin 2) (noResp chk bitErr frameErr : Bool) (data : List Byte)
  /-- LIN_WAKE (R654). -/
  | linWake (dt : Nat) (c : Fin 2)
  /-- ETH_ENABLE (R663). -/
  | ethEnable (dt : Nat) (hart : Fin 19) (n : Fin 12) (v : Word)
  /-- ETH_DISABLE (R670). -/
  | ethDisable (dt : Nat) (hart : Fin 19) (n : Fin 12) (v : Word)
  /-- ETH_LINK_CHANGE (R663). -/
  | ethLinkChange (dt : Nat) (n : Fin 12) (up : Bool)
  /-- ETH_LINK_RETRY (R663). -/
  | ethLinkRetry (dt : Nat) (n : Fin 12)
  /-- TXPKT (R667). -/
  | txpkt (dt id : Nat)
  /-- ETH_RXBUF (R668). -/
  | ethRxbuf (dt id : Nat)
  /-- GCL (R674). -/
  | gcl (dt id : Nat)
  /-- GATE_LIST_TAKES_EFFECT (R674). -/
  | gateListTakesEffect (dt : Nat) (n : Fin 12)
  /-- ETH_FRAME_SEND (R671). -/
  | ethFrameSend (dt : Nat) (n : Fin 12)
  /-- ETH_FRAME_RECEIVE (R661). -/
  | ethFrameReceive (dt : Nat) (n : Fin 12) (bs : List Byte) (fcsOk : Bool) (age : Nat)
  /-- GPTP_SYNC (R676). -/
  | gptpSync (dt : Nat) (n : Fin 12)
  /-- PDELAY_EXCHANGE (R676). -/
  | pdelayExchange (dt : Nat) (n : Fin 12) (measured : Option Nat)
  /-- SWARM_ENABLE (R682). -/
  | swarmEnable (dt : Nat) (hart : Fin 19)
  /-- SWARM_PERIOD (R681). -/
  | swarmPeriod (dt : Nat)
  /-- ANNOUNCE_RECEIVED (R683). -/
  | announceReceived (dt : Nat) (sender : BitVec 160) (field : Word) (tSend : DWord) (ents : List (BitVec 160 × DWord)) (age back : Nat)
  /-- JOIN_RECEIVED (R685). -/
  | joinReceived (dt : Nat) (sender : BitVec 160) (field : Word) (leader : BitVec 160) (age : Nat)
  /-- JOIN_TIMEOUT (R686). -/
  | joinTimeout (dt : Nat)
  /-- LEADER_LOST (R688). -/
  | leaderLost (dt : Nat)
  /-- SCRUB_WORD (R708). -/
  | scrubWord (dt : Nat) (b : Fin 14) (i : Nat) (found : ScrubFind)
  /-- SCRUB_BEHIND (R712). -/
  | scrubBehind (dt : Nat) (b : Fin 14) (i : Nat)
  /-- MEM_ERR_LATCH_CLEAR (R705). -/
  | memErrLatchClear (dt : Nat) (hart : Fin 19)
  /-- WRITE (R713). -/
  | write (dt : Nat) (hart : Fin 19)
  /-- READRAW (R714). -/
  | readraw (dt : Nat) (hart : Fin 19)
  /-- REGION_CREATE (R733). -/
  | regionCreate (dt : Nat) (hart : Fin 19) (r : Fin 16) (v : Word)
  /-- REGION_ENABLE_CHANGE (R737). -/
  | regionEnableChange (dt : Nat) (hart : Fin 19) (r : Fin 16) (v : Word)
  /-- DELETE (R737). -/
  | delete (dt : Nat) (hart : Fin 19) (r : Fin 16)
  /-- STO_WRITE (R741). -/
  | stoWrite (dt id gb : Nat)
  /-- STO_READ (R745). -/
  | stoRead (dt id : Nat) (bad : List Nat)
  /-- TRIM (R743). -/
  | trim (dt id : Nat)
  /-- DIE_LATENCY_WINDOW (R747). -/
  | dieLatencyWindow (dt : Nat) (slow : List (Fin 128))
  /-- DIE_RETIRE (R750). -/
  | dieRetire (dt : Nat) (d : Fin 128) (gb : Nat)
  /-- APPEND (R764). -/
  | append (dt id : Nat)
  /-- EVR_READ (R766). -/
  | evrRead (dt id : Nat)
  /-- RECORDER_SCAN (R762). -/
  | recorderScan (dt torn : Nat)
  /-- DIAG_EVENT_RECORD (R759). -/
  | diagEventRecord (dt : Nat)
  /-- DIAG_HELD_RECORD (R904). -/
  | diagHeldRecord (dt : Nat) (ty inst : BitVec 16)
  /-- STAGE (R782). -/
  | stage (dt id : Nat)
  /-- PUT (R783). -/
  | put (dt id : Nat)
  /-- APPLY (R784). -/
  | apply (dt id : Nat)
  /-- ACTIVATE (R787). -/
  | activate (dt id : Nat)
  /-- ACTIVATION_COMPLETE (R793). -/
  | activationComplete (dt : Nat)
  /-- CONFIRM (R794). -/
  | confirm (dt id : Nat)
  /-- GRD_ABORT (R799). -/
  | grdAbort (dt id : Nat)
  /-- UNLOCK (R806). -/
  | unlock (dt id : Nat)
  /-- GETID (R775). -/
  | getid (dt id : Nat)
  /-- HASH (R808). -/
  | hash (dt id : Nat)
  /-- RANDOM (R808). -/
  | random (dt id : Nat)
  /-- SIGN (R809). -/
  | sign (dt id : Nat)
  /-- CONFIRM_WINDOW_EXPIRY (R796). -/
  | confirmWindowExpiry (dt : Nat)
  /-- PARKED_FALLBACK (R797). -/
  | parkedFallback (dt : Nat)
  /-- RECOVERY_DATAGRAM (R804). -/
  | recoveryDatagram (dt : Nat) (bytes : List Byte)
  /-- UNLOCK_EXPIRY (R807). -/
  | unlockExpiry (dt : Nat)
  /-- NEW_NONCE (R806). -/
  | newNonce (dt : Nat) (hart : Fin 19)
  /-- LOCK (R807). -/
  | lock (dt : Nat) (hart : Fin 19)
  /-- IGNITION_RISE (R822). -/
  | ignitionRise (dt : Nat)
  /-- START_UP (R822). -/
  | startUp (dt : Nat) (x : StartIn)
  /-- TRAINING_RETRY (R825). -/
  | trainingRetry (dt : Nat) (x : StartIn)
  /-- LOW_SUPPLY_HALT (R817). -/
  | lowSupplyHalt (dt : Nat) (v : BitVec 16)
  /-- VISION_RESUME (R817). -/
  | visionResume (dt : Nat) (v : BitVec 16)
  /-- BROWNOUT (R818). -/
  | brownout (dt : Nat) (v : BitVec 16)
  /-- BROWNOUT_RECOVERY (R819). -/
  | brownoutRecovery (dt : Nat) (v : BitVec 16) (w : WakeIn)
  /-- FEED_UV (R820). -/
  | feedUv (dt : Nat) (t : Fin 8) (v : BitVec 16)
  /-- FEED_OV (R820). -/
  | feedOv (dt : Nat) (t : Fin 8) (v : BitVec 16)
  /-- FEED_RECOVERY (R820). -/
  | feedRecovery (dt : Nat) (t : Fin 8) (v : BitVec 16)
  /-- FEED_POWER_UP (R469). -/
  | feedPowerUp (dt : Nat) (t : Fin 8)
  /-- SOFTWARE_RESET (R826). -/
  | softwareReset (dt : Nat) (hart : Fin 19) (v : Word)
  /-- LOCKSTEP_MISMATCH (R826). -/
  | lockstepMismatch (dt : Nat) (pair : Fin 3)
  /-- GO (R832). -/
  | go (dt : Nat) (hart : Fin 19) (w : WakeIn)
  /-- AUTO_SLEEP (R831). -/
  | autoSleep (dt : Nat) (w : WakeIn)
  /-- WAKE (R834). -/
  | wake (dt : Nat) (w : WakeIn)
  /-- KEEP_ALIVE_MIRROR (R830). -/
  | keepAliveMirror (dt : Nat)
  /-- KA_LOSS (R830). -/
  | kaLoss (dt : Nat) (logic : Bool)
  /-- RTC_WRITE (R830). -/
  | rtcWrite (dt : Nat) (hart : Fin 19) (v : Word)
  /-- SMOKER_STEP (R843). -/
  | smokerStep (dt : Nat) (x : SmkStep)
  /-- SMOKER_ABANDON (R843). -/
  | smokerAbandon (dt : Nat)
  /-- TILE_TEST (R849). -/
  | tileTest (dt : Nat) (t : Fin 100) (ev : TileEv)
  /-- SMOKER_BEHIND (R857). -/
  | smokerBehind (dt : Nat)
  /-- ENTER (R856). -/
  | enter (dt : Nat) (hart : Fin 19)
  /-- PLATE_CAP (R883). -/
  | plateCap (dt : Nat) (a b : BitVec 16)
  /-- PLATE_ABOVE_100 (R884). -/
  | plateAbove100 (dt : Nat) (a b : BitVec 16)
  /-- THERMAL_SHUTDOWN (R885). -/
  | thermalShutdown (dt : Nat) (a b : BitVec 16)
  /-- PLATE_SENSOR_INVALID (R882). -/
  | plateSensorInvalid (dt : Nat) (a b : BitVec 16)
  /-- SUP5_CURRENT_LIMIT (R876). -/
  | sup5CurrentLimit (dt : Nat) (j : Fin 4) (lim : Bool)
  /-- SENSOR_INPUT_FAULT (R875). -/
  | sensorInputFault (dt : Nat) (port : Fin 512) (openWire range : Bool)
  /-- SOL_FAULT_ENDS (R431). -/
  | solFaultEnds (dt : Nat) (c : Fin 48) (kind : SolFaultKind)
  /-- DIO_OVERTEMP_RECOVERY (R495). -/
  | dioOvertempRecovery (dt : Nat) (c : Fin 128)
  /-- DIO_OPEN_WIRE_ENDS (R495). -/
  | dioOpenWireEnds (dt : Nat) (c : Fin 128)
  /-- FAN_DRV_HOT_RECOVERY (R518). -/
  | fanDrvHotRecovery (dt : Nat) (n : Fin 8)
  /-- ANTENNA_BIAS_RECOVERY (R578). -/
  | antennaBiasRecovery (dt : Nat) (a : Fin 2)
  /-- CAN_RX_ERROR (R617). -/
  | canRxError (dt : Nat) (n : Fin 16) (by8 : Bool)
  /-- CAN_BUS_INTEGRATED (R617). -/
  | canBusIntegrated (dt : Nat) (n : Fin 16)
  /-- KEEP_ALIVE_POWER_UP (R821). -/
  | keepAlivePowerUp (dt : Nat)
  /-- THERMAL_RESTART (R885). -/
  | thermalRestart (dt : Nat) (t : BitVec 16) (w : WakeIn)
  /-- TAP_INSTRUCTION (R855). -/
  | tapInstruction (dt : Nat) (ir : TapIr)
  deriving DecidableEq, Repr

end Sys2Proof
end

