-- ==== Sys2Proof/Decode.lean ====
section
/-!
DEFINITION. The commands that words of the opcode table spell: its rows give no bits, so no word spells one.
-/
namespace Sys2Proof

/-- The command a word spells by the bits of the opcode table, which gives no row any. -/
def decodeTableWord (_nbits _w : Nat) : Option Instr := none

end Sys2Proof
end

