-- ==== Sys2Proof/Machine/Nums.lean ====
section
/-!
DEFINITION. Plain arithmetic the chapters share: exact fractions, signed and saturating fields, byte lists in
little-endian order (R3), and the 64-bit comparison of domain positions (R71).
-/
namespace Sys2Proof.Machine

/-- An exact fraction in lowest terms; `den` is positive. -/
structure Q where
  num : Int
  den : Nat
  deriving DecidableEq, Repr, Inhabited

/-- The fraction n / d in lowest terms; n / 0 counts as 0. -/
def mkQ (n : Int) (d : Nat) : Q :=
  if d = 0 then ⟨0, 1⟩ else
    let g := Nat.gcd n.natAbs d
    ⟨n / (g : Int), d / g⟩

/-- A whole number as a fraction. -/
def qi (n : Int) : Q := ⟨n, 1⟩
/-- Sum. -/
def qadd (a b : Q) : Q := mkQ (a.num * b.den + b.num * a.den) (a.den * b.den)
/-- Difference. -/
def qsub (a b : Q) : Q := mkQ (a.num * b.den - b.num * a.den) (a.den * b.den)
/-- Product. -/
def qmul (a b : Q) : Q := mkQ (a.num * b.num) (a.den * b.den)
/-- Negation. -/
def qneg (a : Q) : Q := ⟨-a.num, a.den⟩
/-- Quotient; division by 0 counts as 0. -/
def qdiv (a b : Q) : Q :=
  if b.num = 0 then ⟨0, 1⟩
  else if b.num > 0 then mkQ (a.num * b.den) (a.den * b.num.natAbs)
  else mkQ (-(a.num * b.den)) (a.den * b.num.natAbs)
/-- Less than. -/
def qlt (a b : Q) : Bool := decide (a.num * b.den < b.num * a.den)
/-- At most. -/
def qle (a b : Q) : Bool := decide (a.num * b.den ≤ b.num * a.den)
/-- The smaller of two fractions. -/
def qmin (a b : Q) : Q := if qle a b then a else b
/-- The larger of two fractions. -/
def qmax (a b : Q) : Q := if qle a b then b else a
/-- Limits a fraction to a range. -/
def qclamp (x lo hi : Q) : Q := qmin (qmax x lo) hi
/-- The largest whole number not above the fraction. -/
def qfloor (a : Q) : Int := a.num / (a.den : Int)
/-- The smallest whole number not below the fraction. -/
def qceil (a : Q) : Int := -((-a.num) / (a.den : Int))
/-- Rounds to the nearest whole number, a half going upwards. -/
def qround (a : Q) : Int := (2 * a.num + a.den) / (2 * (a.den : Int))
/-- Truncates towards 0. -/
def qtrunc (a : Q) : Int := Int.tdiv a.num a.den

/-- A w-bit field read as a two's-complement number. -/
def sx (w n : Nat) : Int := if n % 2 ^ w < 2 ^ (w - 1) then (n % 2 ^ w : Nat) else (n % 2 ^ w : Nat) - (2 ^ w : Nat)

/-- A signed number as the w-bit pattern that holds it. -/
def ux (w : Nat) (x : Int) : Nat := (x % ((2 ^ w : Nat) : Int)).toNat

/-- Limits a signed number to a range. -/
def clampI (x lo hi : Int) : Int := if x < lo then lo else if hi < x then hi else x

/-- Limits a number to a range. -/
def clampN (x lo hi : Nat) : Nat := if x < lo then lo else if hi < x then hi else x

/-- Limits a signed number to what a signed w-bit field holds. -/
def satI (w : Nat) (x : Int) : Int := clampI x (-((2 ^ (w - 1) : Nat) : Int)) (((2 ^ (w - 1) : Nat) : Int) - 1)

/-- Limits a number to what a w-bit field holds. -/
def satN (w n : Nat) : Nat := min n (2 ^ w - 1)

/-- The difference of two positions of one domain, by 64-bit two's complement (R71). -/
def diff64 (a b : Int) : Int := Int.bmod (a - b) (2 ^ 64)

/-- The bits [hi:lo] of a number. -/
def bits (n hi lo : Nat) : Nat := n / 2 ^ lo % 2 ^ (hi + 1 - lo)

/-- One bit of a number. -/
def bit (n i : Nat) : Bool := n / 2 ^ i % 2 = 1

/-- A truth value as a bit. -/
def b2n (b : Bool) : Nat := if b then 1 else 0

/-- The little-endian number held in bytes (R3). -/
def leNat : List Byte → Nat
  | [] => 0
  | b :: bs => b.toNat + 256 * leNat bs

/-- The n little-endian bytes of a number (R3). -/
def leBytes : Nat → Nat → List Byte
  | 0, _ => []
  | n + 1, x => BitVec.ofNat 8 x :: leBytes n (x / 256)

/-- The big-endian number held in bytes. -/
def beNat (bs : List Byte) : Nat := leNat bs.reverse

/-- n bytes from offset i of a byte list. -/
def slice (bs : List Byte) (i n : Nat) : List Byte := (bs.drop i).take n

/-- The little-endian number in n bytes from offset i. -/
def fld (bs : List Byte) (i n : Nat) : Nat := leNat (slice bs i n)

/-- The n bytes, all 0. -/
def zeros (n : Nat) : List Byte := List.replicate n 0

/-- Every byte of the list is 0. -/
def allZero (bs : List Byte) : Bool := bs.all (· == 0)

/-- A list of bytes cut or padded with zeros to n bytes. -/
def padTo (n : Nat) (bs : List Byte) : List Byte := bs.take n ++ zeros (n - bs.length)

/-- Replaces the bytes of a list from offset i on. -/
def patch (bs : List Byte) (i : Nat) (xs : List Byte) : List Byte :=
  bs.take i ++ xs ++ bs.drop (i + xs.length)

/-- The whole square root of a number, by one binary digit a round. -/
def isqrtAux : Nat → Nat → Nat → Nat
  | 0, _, r => r
  | k + 1, n, r => let c := r + 2 ^ k; if c * c ≤ n then isqrtAux k n c else isqrtAux k n r

/-- The largest r with r² ≤ n, for n below 2^128. -/
def isqrt (n : Nat) : Nat := isqrtAux 64 n 0

end Sys2Proof.Machine
end

