-- ==== Sys2Proof/Config.lean ====
section
/-!
DEFINITION. The free values: what the spec leaves open and the machine nevertheless produces. Each is a constant with
no body, so that no proof can see what it is and a statement about one holds for every value.
-/
namespace Sys2Proof

/-- A fresh open number, applied to the model's own counter of open values drawn so far (log entry 1). -/
opaque Config.freeNat : Nat → Nat

/-- The check byte of the (72,64) SECDED code over a 64-bit word; the spec gives the code's kind but not its
matrix (log entry 12). -/
opaque Config.eccCheck : Nat → Byte

/-- What the (72,64) SECDED code finds in a word with three or more flipped bits, given the flipped data and check bits: modulo
74, 0 no error, 1 to 72 a bit it corrects, 73 an uncorrectable error (log entry 12). -/
opaque Config.eccWide : Nat → Nat → Nat

/-- Whether an ECDSA P-256 signature (64 bytes) over a digest verifies against a public key (X then Y); the
algorithm is published and not restated by the spec (log entry 13). Arguments: key, digest, signature. -/
opaque Config.ecdsaP256Verify : List Byte → List Byte → List Byte → Bool

/-- The bytes a published digest, cipher or encoding gives, where the spec names the algorithm and does not restate
it: the selector says which (log entry 13). -/
opaque Config.published : Nat → List Byte → List Byte

/-- The directory set of a line within its slice, of 8,192 sets; the spec does not give it (log entry 12). -/
opaque Config.dirSet : Nat → Nat

open Machine in
/-- What floating-point arithmetic makes of an exact result: 64 in double precision, 32 in single precision, 0 in the precision of
a value for which the spec gives none. The order in which roundings happen is open (log entry 14). -/
opaque Config.fl : Nat → Q → Q

open Machine in
/-- Elementary functions whose values are no fractions and constants that the spec names without a value (log entry 14): 0 sine and
1 cosine of an angle in rad, 2 the angle in rad from north of a direction given as east and north, 3 roll and 4 pitch in rad of a
quaternion, 5 an angle in rad brought to the range of a difference, 6 square root, 8 the strength of gravity in m/s², 9 half
the angle of a revolution in rad. -/
opaque Config.elem : Nat → List Q → Q

open Machine in
/-- Vectors the spec names without a formula (log entry 14): 0 quat_exp of a rotation vector, 1 an IMU axis permutation by its
code, 2 the attitude a small rotation turns a quaternion to, 3 the attitude an INIT gives from a heading and the attitude before,
4 the foot of the perpendicular on a track's arc, 5 the states a track is born with, 6 noises without a value, 7 the ego state
at enable. -/
opaque Config.vecs : Nat → List Q → List Q

open Machine in
/-- Matrices the spec names without a formula (log entry 14): 0 the ego covariance after a step, 1 how an ego measurement depends
on the error states, 2 the ego covariance at enable and after an INIT, 3 the process noise of a track per second, 4 the
covariance a track is born with, 5 the inverse of a matrix that has none, 6 how a track's measurement depends on its states. -/
opaque Config.mats : Nat → List Q → List (List Q) → List (List Q)

/-- The number of candidate tracks each class may have; the spec names the limit without a value (log entry 15). -/
opaque Config.candLimit : Nat → Nat

end Sys2Proof
end

