-- ==== Sys2Proof/Machine/Maps.lean ====
section
/-!
DEFINITION. Sparse tables: a list of key and value pairs kept in rising order of the key, in which an
absent key stands for the table's own default. Arrays of channels, slots and rings are held this way, so that the
state after reset stays small and two equal tables are equal data.
-/
namespace Sys2Proof.Machine

/-- A sparse table from numbers to values. -/
abbrev Map (α : Type) := List (Nat × α)

/-- The entry at a key, if there is one. -/
def mget {α : Type} : Map α → Nat → Option α
  | [], _ => none
  | (k, v) :: m, a => if k = a then some v else mget m a

/-- Sets the entry at a key, keeping the keys in rising order. -/
def mset {α : Type} : Map α → Nat → α → Map α
  | [], a, x => [(a, x)]
  | (k, v) :: m, a, x =>
    if a < k then (a, x) :: (k, v) :: m
    else if a = k then (a, x) :: m
    else (k, v) :: mset m a x

/-- Removes the entry at a key. -/
def mdel {α : Type} : Map α → Nat → Map α
  | [], _ => []
  | (k, v) :: m, a => if k = a then m else (k, v) :: mdel m a

/-- The entry at a key, or a default where the table lists none. -/
def mgetD {α : Type} (m : Map α) (a : Nat) (d : α) : α := (mget m a).getD d

/-- Changes the entry at a key, starting from a default where the table lists none. -/
def mmod {α : Type} (m : Map α) (a : Nat) (d : α) (f : α → α) : Map α := mset m a (f (mgetD m a d))

/-- The keys stand in strictly rising order: the canonical form of a sparse table. -/
def Map.sorted {α : Type} : Map α → Bool
  | [] => true
  | [_] => true
  | (k, _) :: (k', v') :: m => decide (k < k') && Map.sorted ((k', v') :: m)

/-- Puts an entry into a list ordered by a rank. -/
def insertBy {α : Type} (le : α → α → Bool) (x : α) : List α → List α
  | [] => [x]
  | y :: ys => if le x y then x :: y :: ys else y :: insertBy le x ys

/-- Orders a list by a rank. -/
def sortBy {α : Type} (le : α → α → Bool) (l : List α) : List α := l.foldr (insertBy le) []

end Sys2Proof.Machine
end

