-- ==== Sys2Proof/Machine/Blocks.lean ====
section
/-!
DEFINITION. The state of the module's blocks beside the registers: what each chapter keeps. A value that a register
reports and hardware stores lives in the register file; what no register shows, or what is wider than a register,
lives here.
-/
namespace Sys2Proof.Machine

/-! ## Descriptor rings (chapter 03) -/

/-- A completion before its phase bit is added (Table 03.6): the engine-specific bytes are d8 (8–15), d20 (20–23),
d28 (28–30) and d31 (31 [6:0]). -/
structure Cpl where
  tov : Nat
  d8 : Nat := 0
  user : Nat := 0
  d20 : Nat := 0
  index : Nat := 0
  status : Nat := 0
  d28 : Nat := 0
  d31 : Nat := 0
  deriving DecidableEq, Repr

/-- One fetched descriptor until its completion is written (R51, R138). `stage` is 0 while a FENCE holds its start
(R137), 1 while the operation runs, 2 once it has ended and `cpl` is to be written, 3 while it waits at the head of its
ring for room (R292). -/
structure Flight where
  id : Nat
  ring : Nat
  idx : Nat
  eng : Nat
  part : Nat
  desc : List Byte
  counted : Bool
  stage : Nat
  cpl : Cpl
  since : Nat
  deriving DecidableEq, Repr

/-- A completion no descriptor reserved (R155), waiting to be written or dropped. `part` is the partition the source
belongs to (R102); a completion that must follow an acceptance completion names that operation (R99). -/
structure UCpl where
  ring : Nat
  part : Nat
  cpl : Cpl
  after : Option Nat := none
  deriving DecidableEq, Repr

/-- What a ring keeps beside its registers: the fetched count F, the produced count N, the last value read from the
doorbell word, the reserved completion entries (R140), whether it has been reset since it last ran (R133), and the
interrupt triggers (R167). -/
structure Ring where
  f : Nat := 0
  n : Nat := 0
  p : Nat := 0
  reserved : Nat := 0
  fresh : Bool := true
  watched : Bool := false
  woken : Bool := false
  sinceIrq : Nat := 0
  unsignalled : Option Nat := none
  deriving DecidableEq, Repr

/-- The rings block: rings, operations in flight in fetch order, completions waiting, and the round-robin turn of each
engine and class (R159): the ring served last and the descriptors taken in this turn. -/
structure Rng where
  rings : Map Ring := []
  flights : List Flight := []
  ucpl : List UCpl := []
  nextId : Nat := 0
  turns : Map (Nat × Nat) := []
  deriving DecidableEq, Repr

/-! ## Waggle (chapter 02) -/

/-- What a domain's position is predicted from (R81): state code of Table 02.3, last edge position and time,
direction, velocity and acceleration at the edge, clamp distance, and the position not to fall behind (R85). -/
structure Pred where
  state : Nat
  pe : Int
  te : Int
  d : Int
  v : Q
  a : Q
  snext : Int
  hold : Option Int
  deriving DecidableEq, Repr

/-- A fusion update held until its time of validity (R84). -/
structure Upd where
  pos : Int
  vel : Q
  acc : Q
  tov : Int
  deriving DecidableEq, Repr

/-- An angle domain: its prediction, the edges since PRIMING, the last edge time, period and mean speed, the edge index
and revolution (R74), the high-water mark (R89), the index interval (R77), the predictions of the last 100 ms (R118),
updates held (R84), the time of the last edge, and the position up to which crossings have been counted (R92). -/
structure Dom where
  p : Pred
  n : Nat
  tLast : Int
  per : Nat
  vavg : Q
  idx : Int
  rev : Int
  hwm : Int
  cnt : Int
  mixed : Bool
  cntDir : Int
  counting : Bool
  hist : List (Int × Pred)
  held : List Upd
  lastAt : Nat
  acct : Int
  deriving DecidableEq, Repr

/-- An armed event slot (R93): its 32-byte record, the index k of the next firing, the firings made, whose it is, the
completion ring fixed at arming (R102), and whether it was armed through WGL_SLOT_CMD (R121). -/
structure Slot where
  raw : List Byte
  k : Nat
  kmin : Nat
  fired : Nat
  part : Nat
  cplRing : Nat
  quiet : Bool
  deriving DecidableEq, Repr

/-- One firing of a slot: what its action and its completion need (Table 02.6). -/
structure Fire where
  slot : Nat
  raw : List Byte
  part : Nat
  cplRing : Nat
  quiet : Bool
  k : Nat
  pos : Int
  tov : Nat
  dir : Nat
  catchup : Bool
  late : Bool
  deriving DecidableEq, Repr

/-- Waggle: elapsed time since reset (unaffected by steps and slews, R904), the timebase (R60) with the fraction
its rate correction has not yet counted, the rate correction in 0.1 ppm (R63), the run of good PPS edges (R64),
whether a PPS is valid, whether the first time solution has come (R66), the instant the last action was issued in
half nanoseconds (R108), domains and armed slots, ego-motion updates on their way to each domain (R539),
and when holdover was entered (R608). -/
structure Wgl where
  now : Nat := 0
  tb : Nat := 0
  tbFrac : Nat := 0
  corr : Int := 0
  good : Nat := 0
  firstSol : Bool := false
  last2 : Nat := 0
  doms : Map Dom := []
  slots : Map Slot := []
  sent : Map (List Upd) := []
  holdAt : Nat := 0
  deriving DecidableEq, Repr

/-! ## Partitions and the header (chapter 04) -/

/-- One entry of the layout in force (R186). -/
structure LEnt where
  ty : Nat
  part : Nat
  a : Nat
  b : Nat
  deriving DecidableEq, Repr

/-- A Comb reservation and whether its slots are in force (R59). -/
structure Resv where
  part : Nat
  src : Nat
  dst : Nat
  cls : Nat
  n : Nat
  inForce : Bool
  ending : Bool
  deriving DecidableEq, Repr

/-- An answer of a challenge round (R220): slot, identifier, validity, whether it is of header class. -/
structure HAns where
  slot : Nat
  ident : Nat
  valid : Bool
  header : Bool
  deriving DecidableEq, Repr

/-- A challenge round in progress (R215): nonce, round, the instant its challenge frame ends, the answers so far. -/
structure Chal where
  nonce : List Byte
  r : Nat
  endAt : Nat
  ans : List HAns
  deriving DecidableEq, Repr

/-- The configuration record of the installed set (Table 04.10). -/
structure CfgRec where
  mode : Nat := 0
  hdrPorts : List Nat := []
  raisePorts : List Nat := []
  cmdMb : List Nat := []
  link : List (Bool × Nat × Nat) := []
  ident : List (Nat × Nat × List Byte) := []
  deriving DecidableEq, Repr

/-- A partition command or activation in progress (R194): its kind (1 START, 2 STOP, 3 RESTART, 4 RECONFIGURE,
5 activation), the partition, and whether its stop part has ended. -/
structure PCmd where
  kind : Nat
  part : Nat
  drained : Bool
  deriving DecidableEq, Repr

/-- Partitions and header: the layout in force, Comb reservations, the command in progress, the presence loop and its
loss time, whether header outputs are off, the retry timer, the challenge in progress, and the challenge frame
last sent (R216); the vision tiles each partition now holds stand in SMK_PART_TILES. -/
structure Prp where
  layout : List LEnt := []
  resv : List Resv := []
  cmd : Option PCmd := none
  cfg : CfgRec := {}
  loop : Bool := false
  lostAt : Option Nat := none
  outsOff : Bool := true
  retryAt : Option Nat := none
  chal : Option Chal := none
  frame : Option (Nat × List Byte) := none
  deriving DecidableEq, Repr

/-! ## Imaging (chapter 05) -/

/-- An open frame record (R238): trigger sequence number, crossing time, position, exposure in 100 ns, domain, flags, the
POST that gave its buffer, whether its frame has started, whether its raw data are complete, whether it became ready
within its camera's share, and its two deadlines. -/
structure FrameRec where
  seq : Nat
  cross : Nat
  pos : Int
  expo : Nat
  dom : Nat
  catchup : Bool
  late : Bool
  op : Nat
  started : Bool
  ready : Bool
  inShare : Bool
  samples : List Nat
  arriveBy : Nat
  procBy : Nat
  deriving DecidableEq, Repr

/-- A camera: posted buffers in order (their POST operations), open records in trigger order, crossing times of holes whose
frame has not come, the number of triggers since enable, the ring that last posted, the pixel bucket in thousandths and
when it was last filled, the incoming frame (some record, or none for one being discarded), pending CCI operations,
when the link began its present state, the profiles, and the times at which lines 0 and 1 rise and fall. -/
structure Cam where
  posted : List Nat := []
  recs : List FrameRec := []
  dead : List Nat := []
  seq : Nat := 0
  lastRing : Option Nat := none
  bucket : Nat := 0
  bucketAt : Nat := 0
  incoming : Option (Option Nat) := none
  linkAt : Nat := 0
  profs : Map (List Byte) := []
  line0 : Nat × Nat := (0, 0)
  line1 : Nat × Nat := (0, 0)
  deriving DecidableEq, Repr

/-- A pass of a memory-fed pipeline: a camera's frame record, or a REPROCESS operation, and the profile it began with
(R251). -/
structure Pass where
  cam : Nat
  seq : Option Nat
  op : Nat
  prof : List Byte
  deriving DecidableEq, Repr

/-- A memory-fed pipeline: the pass it runs, REPROCESS operations waiting in fetch order, and the pixels processed in the
second begun at `sec`. -/
structure Pipe where
  busy : Option Pass := none
  reproc : List Nat := []
  sec : Nat := 0
  pix : Nat := 0
  deriving DecidableEq, Repr

/-- The imaging engine. -/
structure Img where
  cams : Map Cam := []
  pipes : Map Pipe := []
  deriving DecidableEq, Repr

/-! ## Record buffers (R290 to R295) -/

/-- A queue of posted record buffers: the operations in order, the bytes written to the first, when its first record came
(elapsed ns), the TOV of its last record, the records dropped since the last completion, and the raw chunk in progress
as its offset and count (R296). -/
structure BufQ where
  bufs : List Nat := []
  written : Nat := 0
  first : Option Nat := none
  tov : Nat := 0
  drops : Nat := 0
  chunk : Option (Nat × Nat) := none
  deriving DecidableEq, Repr

/-! ## Sensor front-end and yield unit (chapter 06) -/

/-- An impact detector (R297): the begin of an impact whose first sample has come, whether it has begun, its samples, the
end once reached and whether it is LONG, the end of the impact before, the windows open at the beginning, and the
intervals it counts in. -/
structure ImpDet where
  hit : Option Nat := none
  begun : Bool := false
  xs : List Int := []
  ended : Option (Nat × Bool) := none
  lastEnd : Option Nat := none
  openMask : Nat := 0
  ivals : List (Nat × Nat) := []
  deriving DecidableEq, Repr

/-- An interval of a loss window that has ended and may still wait for impacts that began in it: its number, its end on the
timebase, its stamp, the counts, the distance, the cause, and the owner. -/
structure WPend where
  ival : Nat
  endTov : Nat
  stamp : List Byte
  grain : Nat
  other : Nat
  dist : Nat
  cause : Nat
  part : Option Nat
  deriving DecidableEq, Repr

/-- A loss window: the open crossing while open, the current interval's number, counts and high-water mark at its start, the
step in force, the domain and mark that end its length (31 for the timebase), ended intervals, and the last loss
rates with the time they were written. -/
structure Win where
  openAt : Option Nat := none
  ival : Nat := 0
  grain : Nat := 0
  other : Nat := 0
  start : Int := 0
  len : Option (Nat × Int) := none
  pend : List WPend := []
  rates : List (Nat × Nat) := []
  deriving DecidableEq, Repr

/-- The sensor front-end: the newest samples of each port with their times (newest first, port indices of Table 04.3), the
newest IMU samples, the aperture grids (first aperture and number taken, R907), impact detectors, windows, the fault
conditions present (open, range), and the last edge of each speed input with its period. -/
structure Sfe where
  last : Map (List (Nat × Int)) := []
  imu : List (Nat × List Int) := []
  grid : Map (Nat × Nat) := []
  dets : Map ImpDet := []
  wins : Map Win := []
  faults : Map (Bool × Bool) := []
  spd : Map (Nat × Nat) := []
  deriving DecidableEq, Repr

/-- A paddle at or past the plate (R311): its number counted through all revolutions, the crossing of its start and end,
the bridge samples with their rates, whether the bridge had a fault, and the calibration in force at its end. -/
structure Pad where
  j : Int
  t0 : Nat
  t1 : Option Nat
  cs : List (Int × Nat)
  fault : Bool
  cal : Option (List Byte)
  deriving DecidableEq, Repr

/-- An entry of the transport-delay history (R328): time, ground high-water mark, and those of the three segment
domains. -/
structure HEnt where
  t : Nat
  g : Int
  s0 : Int
  s1 : Int
  s2 : Int
  deriving DecidableEq, Repr

/-- An open yield bin (R332): number, first cut time, mass in mg, mass-weighted moisture and the mass it covers, flags, last
CAL_ID, paddles, highest flow. -/
structure Bin where
  b : Int
  tcut : Nat
  mass : Nat
  moist : Int
  moistMass : Nat
  moistN : Nat
  flags : Nat
  calId : Nat
  n : Nat
  flowMax : Nat
  deriving DecidableEq, Repr

/-- The yield unit: the number of the next paddle to reach the plate and of the first since enable, paddles in order (the
last one still at the plate), paddle fills by number, the calibrations (in force
once the completion of its operation is written, R319), moisture values with the elevator mark, history (newest
first) and where the next entry goes, open bins, the last bin written, the record count, when a paddle was last
added, waiting widths and the width in force. -/
structure Yld where
  nextJ : Int := 0
  firstJ : Int := 0
  pads : List Pad := []
  fills : List (Int × Nat × Nat) := []
  cal : Option (List Byte) := none
  calNext : Option (Nat × List Byte) := none
  moist : List (Int × Q) := []
  hist : List HEnt := []
  histN : Nat := 0
  base : HEnt := ⟨0, 0, 0, 0, 0⟩
  bins : List Bin := []
  lastBin : Option Int := none
  seq : Nat := 0
  lastAdd : Nat := 0
  widths : List (Int × Nat) := []
  width : Option Nat := none
  deriving DecidableEq, Repr

/-! ## Control engine (chapter 07) -/

/-- A control-engine slot: its loaded record, state of Table 07.4, active source, act, TRIM, set-point, output, BUMP,
evaluations at a relay level, flags of its last evaluation, measurements of both sources with the effective one, band centre,
set-point and output after injection, the tick of its last evaluation, its entry from OFF, whether its active source was bad
then, whether it has switched by itself since a source was commanded, and the forced value. -/
structure CSlot where
  raw : Option (List Byte) := none
  state : Nat := 0
  sel : Bool := false
  act : Int := 0
  trim : Int := 0
  sp : Int := 0
  out : Int := 0
  bump : Int := 0
  relayN : Nat := 0
  sat : Bool := false
  stale : Bool := false
  srcFault : Bool := false
  blocked : Bool := false
  mA : Int := 0
  mB : Int := 0
  m : Int := 0
  band : Int := 0
  spOut : Int := 0
  outOut : Int := 0
  prevEval : Option Nat := none
  entry : Nat := 0
  bad : Bool := false
  autoDone : Bool := false
  forced : Int := 0
  eccBad : Bool := false
  deriving DecidableEq, Repr

/-- A lane's signal generator (R385 to R389): its operation, descriptor, next evaluation n, whether it has begun, and the
PRBS register. -/
structure Inj where
  op : Nat
  desc : List Byte
  n : Nat
  begun : Bool
  lfsr : Nat
  deriving DecidableEq, Repr

/-- The capture (R390 to R392): its operation, descriptor, whether it has begun, entries written, and the evaluations of each
listed slot since it began. -/
structure Capt where
  op : Nat
  desc : List Byte
  begun : Bool
  written : Nat
  seen : List Nat
  deriving DecidableEq, Repr

/-- The control engine: the timebase value at which the next tick starts, the number of that tick, the slots and the slots as
the last completed tick left them with those under injection (R400), ring measurements (arrival, raw, VALID), generators by lane, the capture, and
capture SRAM. -/
structure Ctl where
  nextAt : Nat := 0
  tick : Nat := 0
  slots : Map CSlot := []
  shown : Map CSlot := []
  shownInj : List Nat := []
  meas : Map (Nat × Int × Bool) := []
  inj : Map Inj := []
  capt : Option Capt := none
  sram : Map (List Byte) := []
  deriving DecidableEq, Repr

/-! ## Power tiles (chapters 08 to 11) -/

/-- An output channel, by port index (Table 04.3): it stands at its fail-safe output until its source commands it (R470,
R477), that output (a switch or DIO output 0 or 1; a fan drive 0 stopped, 1 table mode, 2 the request kept), the last
command of a switch or DIO output, the per-channel forces of a stopped partition and of header outputs, and whether it
is off for over-temperature and latched so (R455). -/
structure OutCh where
  stay : Bool := true
  fs : Nat := 0
  cmd : Bool := false
  pf : Bool := false
  hf : Bool := false
  ot : Bool := false
  otLatch : Bool := false
  deriving DecidableEq, Repr

/-- The hub's serial watchdog (R473 to R477): FEED as the hub sends it, when the period began, answers fetched in it, whether
a correct one came, whether it failed, whether it has been judged at its end, whether FEED has been set throughout it, complete periods in a row with FEED set
throughout, and failed periods in a row (R829). -/
structure Hub where
  feed : Bool := false
  periodAt : Nat := 0
  nAns : Nat := 0
  answered : Bool := false
  failed : Bool := false
  ended : Bool := true
  whole : Bool := false
  done : Nat := 0
  fails : Nat := 0
  deriving DecidableEq, Repr

/-- The power tiles: outputs, the hub, when each tile last received a valid frame with FEED and any valid frame, tiles whose
DIO outputs are off for silence (R496), and the millisecond in which each tile last judged shedding. -/
structure Til where
  outs : Map OutCh := []
  hub : Hub := {}
  feedAt : Map Nat := []
  goodAt : Map Nat := []
  silent : List Nat := []
  shedMs : Map Nat := []
  deriving DecidableEq, Repr

/-- A valve channel: what it does (0 off, 1 regulates a command, 2 regulates a fail-safe code, 3 runs a profile), the code
regulated, the last code received (R408), the running profile's copy (R418), number, phase, phase start and measured
code at its start, whether its time to peak is judged, the SOL_TTP limits and off-time in force, when the off-time ends,
the waiting start with its firing, the last DEST 4 value, the SOL_CFG and SOL_COIL_LIM words in force (R446), when dither began, faults
present, the coil estimate in °C, the correction factor, since when the measured temperature departs, whether the
model is invalid (R434 to R441), and the millisecond of the last step. -/
structure Sol where
  out : Nat := 0
  base : Nat := 0
  code : Nat := 0
  prof : List Byte := []
  no : Nat := 0
  phase : Nat := 0
  phaseAt : Nat := 0
  startCode : Nat := 0
  ttpDone : Bool := false
  ttpMin : Nat := 0
  ttpMax : Nat := 0
  offtime : Nat := 0
  offEnd : Nat := 0
  pend : Option (Nat × Option Fire) := none
  lastV : Int := 0
  cfg : Nat := 0
  lim : Nat := 0x070805DC
  dithAt : Nat := 0
  drvHot : Bool := false
  shortBat : Bool := false
  openNow : Bool := false
  temp : Q := ⟨0, 1⟩
  k : Q := ⟨1, 1⟩
  devSince : Option Nat := none
  invalid : Bool := false
  stepMs : Option Nat := none
  deriving DecidableEq, Repr

/-- The valve drive: channels, stored profiles with their owners (R421), and the millisecond of the last oil temperature. -/
structure Vlv where
  chs : Map Sol := []
  profs : Map (Nat × List Byte) := []
  oilMs : Option Nat := none
  deriving DecidableEq, Repr

/-- A DIO input's filter (R485 to R488): the counter, when it last stepped, whether the debounce filter is in force and since
when, whether open wire is present, and the filtered levels with the time each was decided, newest first. -/
structure Dio where
  cnt : Nat := 0
  stepAt : Nat := 0
  deb : Bool := true
  debAt : Nat := 0
  openNow : Bool := false
  hist : List (Nat × Bool) := []
  deriving DecidableEq, Repr

/-- A fan drive: the last request of its source and when it came, the stored table (R509), whether it is in table mode, the
ramp's start value and time (R502), since when it is stopped for a stall, whether its bridge is hot, whether the
thermistor is out of range, the thermistor reading and since when the resistance is back, and the duty of an
XN7200-type fan. -/
structure Fan where
  req : Int := 0
  cmdAt : Nat := 0
  table : Option (List Byte) := none
  tmode : Bool := false
  from_ : Q := ⟨0, 1⟩
  fromAt : Nat := 0
  stall : Option Nat := none
  hot : Bool := false
  sensor : Bool := false
  temp : Int := 0
  duty : Nat := 0
  measAt : Nat := 0
  deriving DecidableEq, Repr

/-! ## Fusion (chapter 12) -/

/-- The ego filter (R533): position, velocity, attitude, gyro and accelerometer biases, wheel scale, ground distance in m,
forward speed and its change per second at the last step, yaw rate, and the error covariance. -/
structure Ego where
  p : List Q := []
  v : List Q := []
  q : List Q := []
  bg : List Q := []
  ba : List Q := []
  k : Q := ⟨1, 1⟩
  d : Q := ⟨0, 1⟩
  vf : Q := ⟨0, 1⟩
  acc : Q := ⟨0, 1⟩
  yaw : Q := ⟨0, 1⟩
  cov : List (List Q) := []
  deriving DecidableEq, Repr

/-- What one propagator step took (R534, R535): its number, mean rates and forces before the biases, the mean speed of the
available wheels, whether a zero-velocity update replaces it, the yaw rate of two wheels, the speed that d integrates while not
RUN, whether RUN, the two noises, and the fixes applied in it. -/
structure EgoIn where
  n : Nat
  w : List Q
  f : List Q
  wheel : Option Q
  zero : Bool
  turn : Option Q
  dspeed : Q
  running : Bool
  wheelSd : Q
  nhcSd : Q
  fixes : List (List Byte)
  deriving DecidableEq, Repr

/-- A fix in the buffer: its operation, descriptor, time of validity, whether it has been tested. -/
structure FFix where
  op : Nat
  desc : List Byte
  tov : Nat
  tested : Bool
  deriving DecidableEq, Repr

/-- A detection batch in the buffer: operation, source, time of validity, fetch time, entries. -/
structure DBatch where
  op : Nat
  src : Nat
  tov : Nat
  fetched : Nat
  dets : List (List Byte)
  deriving DecidableEq, Repr

/-- A track (R552, R558 to R560): class, state, states and covariance at a time, generation, USER, hits of the observed cycles
(newest first), observed cycles, consecutive misses, the time of its last hit, whether this cycle has hit it, and the last hit of
each source with the observed cycle it lies in. -/
structure Track where
  cls : Nat
  state : Nat
  xs : List Q
  cov : List (List Q)
  at_ : Nat
  gen : Nat
  user : Nat
  hits : List Bool := []
  obs : Nat := 0
  miss : Nat := 0
  lastHit : Nat := 0
  hitNow : Bool := false
  srcHits : Map (Nat × Nat) := []
  deriving DecidableEq, Repr

/-- A tested input (R544 to R546): consecutive failures and passes, since when it is rejected, and whether its hold-off has
ended. -/
structure InTest where
  fails : Nat := 0
  passes : Nat := 0
  since : Nat := 0
  open_ : Bool := false
  deriving DecidableEq, Repr

/-- The fusion engine: number of the next step and of the next cycle, ego state before a FAULT, filter, history (newest first),
INIT operations waiting, fixes and batches held, the time of validity of the newest tested fix and of the newest applied one, GNSS
and wheel tests, the lower step waiting and since when, detections found late since the last cycle, when each source last had a batch, its last d²/m values (newest first),
tracks by index and the generation of each index. -/
structure Fus where
  step : Nat := 0
  cyc : Nat := 0
  before : Nat := 0
  ego : Ego := {}
  hist : List (Ego × EgoIn) := []
  inits : List Nat := []
  fixes : List FFix := []
  batches : List DBatch := []
  fixTov : Option Nat := none
  appliedTov : Option Nat := none
  gnss : InTest := {}
  wheels : Map InTest := []
  lower : Option (Nat × Nat) := none
  lateN : Nat := 0
  srcAt : Map Nat := []
  srcNis : Map (List Q) := []
  tracks : Map Track := []
  gens : Map Nat := []
  deriving DecidableEq, Repr

/-! ## GNSS (chapter 13) -/

/-- A band of a Forager: the peak its PULL_IN began with and the entry to TRACK (elapsed ns), whether it is synchronised to bits or
the secondary code, whether ADR has restarted since the last epoch, and whether symbols are left from a TRACK just ended. -/
structure GBand where
  peakAt : Nat := 0
  lockAt : Nat := 0
  sync : Bool := false
  restart : Bool := false
  left : Bool := false
  deriving DecidableEq, Repr

/-- An assigned Forager: its CHAN operation, whether that is pending, its descriptor, and when it was fetched (elapsed ns). -/
structure Forager where
  op : Nat
  pending : Bool
  desc : List Byte
  since : Nat
  deriving DecidableEq, Repr

/-- The GNSS baseband: assigned Foragers (antenna × 64 + number), their bands (Forager × 2 + band), epochs written since each antenna
was enabled, the last epoch instant, antennas whose next header reports a step, the solution in force, the timebase after the last
step, the last whole GPS second with a PPS edge, the PPS_OUT contact with its last rise and the last second it pulsed for, and when a
shorted bias was last tried. -/
structure Gns where
  fors : Map Forager := []
  bands : Map GBand := []
  epochs : Map Nat := []
  lastEpoch : Nat := 0
  stepped : Map Bool := []
  sol : Option (List Byte) := none
  stepAt : Option Nat := none
  lastSec : Option Int := none
  pps : Bool := false
  ppsAt : Nat := 0
  ppsSec : Nat := 0
  biasAt : Map Nat := []
  deriving DecidableEq, Repr

/-! ## CAN and LIN (chapter 14) -/

/-- A CAN frame: the ID word of Table 14.4 (ID, IDE, FDF, BRS), DLC, RTR, ESI, and the data bytes of its length. -/
structure CanFrame where
  idw : Nat
  dlc : Nat
  rtr : Bool
  esi : Bool
  data : List Byte
  deriving DecidableEq, Repr

/-- A pending request of a buffer (R631): the ring operation attached to it, and the attempts made with the start of frame of
the last. -/
structure CanReq where
  op : Option Nat
  tries : Nat := 0
  sof : Nat := 0
  deriving DecidableEq, Repr

/-- A transmit buffer: ID word, DLC, RTR, 64 content bytes, its pending request, and the one made while its frame is on the
bus (R632). -/
structure CanMb where
  idw : Nat := 0
  dlc : Nat := 0
  rtr : Bool := false
  data : List Byte := zeros 64
  req : Option CanReq := none
  next : Option CanReq := none
  deriving DecidableEq, Repr

/-- A frame being sent, or looped (R206): its buffer, content, start of frame, and the ABORT that waits for it (R638). -/
structure CanTx where
  mb : Nat
  frame : CanFrame
  sof : Nat
  abort : Option Nat := none
  deriving DecidableEq, Repr

/-- A controller: the frame on the bus, looped frames not yet delivered, whether bus-off recovery runs, the receive FIFO's
records with their times of validity and the frames taken into it, and the ISO 11783 agent: the address being claimed, the
claims of other nodes, the frame it sent last, when the heartbeat was last sent and its sequence counter, and when the partner's
was last received. -/
structure CanCtl where
  tx : Option CanTx := none
  loops : List CanTx := []
  recov : Bool := false
  fifo : List (Nat × List Byte) := []
  fifoSeq : Nat := 0
  claiming : Option Nat := none
  others : Map Nat := []
  sent : Option CanFrame := none
  hbAt : Nat := 0
  hbSeq : Nat := 251
  seenAt : Nat := 0
  deriving DecidableEq, Repr

/-- A LIN channel: the schedule in force with its publish data, the entry in progress and when its slot began, and the schedule
waiting with its operation. -/
structure LinCh where
  sched : List (List Byte) := []
  cur : Option Nat := none
  slotAt : Nat := 0
  wait : Option (List (List Byte) × Nat) := none
  deriving DecidableEq, Repr

/-- CAN and LIN: controllers, transmit buffers under controller × 128 + buffer, LIN channels. -/
structure Can where
  ctls : Map CanCtl := []
  mbs : Map CanMb := []
  lins : Map LinCh := []
  deriving DecidableEq, Repr

/-! ## Ethernet and Swarm (chapter 15) -/

/-- A gate list: BASE, CYCLE, and each entry's mask and interval (R673). -/
structure GateList where
  base : Nat
  cycle : Nat
  ents : List (Nat × Nat)
  deriving DecidableEq, Repr

/-- A gPTP message the port sent last of its kind: 0 Sync with its time in ns, 1 a Pdelay answer; with clock class and priorities
(R676, R677). -/
structure GptpMsg where
  kind : Nat
  time : Nat
  cls : Nat
  prio1 : Nat
  prio2 : Nat
  deriving DecidableEq, Repr

/-- A port: frames queued by class (their operations, oldest first), since when each class's head is the head (timebase), credits in bits
by class with the elapsed time they are true at, the class on the wire and until when (elapsed ns), the frame sent last with its
timestamp, the gate list in force with the timebase it counts from, lists accepted with the operation and instant of each, when the
link state began, gPTP messages sent with the time of the last Sync, and the link delay measured. -/
structure EthPort where
  txq : Map (List Nat) := []
  headAt : Map Nat := []
  credit : Map Q := []
  creditAt : Nat := 0
  sending : Option Nat := none
  busyTill : Nat := 0
  sent : Option (Nat × List Byte) := none
  gate : Option GateList := none
  gates : List (Nat × GateList × Nat) := []
  linkAt : Nat := 0
  gptp : List GptpMsg := []
  syncAt : Nat := 0
  delay : Option Nat := none
  deriving DecidableEq, Repr

/-- A member a Swarm leader knows: identifier, group time its last JOIN was received, elapsed time of that, whether it came since the
last ANNOUNCE. -/
structure Member where
  id : Nat
  tRecv : Int
  at_ : Nat
  since : Bool
  deriving DecidableEq, Repr

/-- The Swarm agent (R681 to R688): its leader, members, transmit timestamps of its JOINs (newest first), when it last sent its period's
frame, when it entered JOINING, when its leader was last heard, and leaders it ignores until a time. -/
structure Swarm where
  leader : Nat := 0
  members : List Member := []
  joins : List Nat := []
  sentAt : Nat := 0
  joinAt : Nat := 0
  heardAt : Nat := 0
  ignore : List (Nat × Nat) := []
  deriving DecidableEq, Repr

/-- Ethernet. -/
structure Eth where
  ports : Map EthPort := []
  swarm : Swarm := {}
  deriving DecidableEq, Repr

/-! ## Season store and event recorder (chapter 17) -/

/-- The season store: written blocks by region × 2^36 + block number, free blocks of the yield reserve, writes of the last second
(elapsed time and bytes), when READ_ONLY was entered, when the last latency window ended, and each slow die's windows within the
bound in a row. -/
structure Sto where
  blks : Map (List Byte) := []
  reserve : Nat := 15625000
  writes : List (Nat × Nat) := []
  roAt : Option Nat := none
  winAt : Nat := 0
  good : Map Nat := []
  deriving DecidableEq, Repr

/-- A recorder record: its number and bytes. -/
structure EvRec where
  seq : Nat
  bytes : List Byte
  deriving DecidableEq, Repr

/-- An area of the recorder: records, oldest first, the bytes they occupy, and the numbers of records overwritten (R757, R766). -/
structure EvArea where
  recs : List EvRec := []
  used : Nat := 0
  lost : List Nat := []
  deriving DecidableEq, Repr

/-- The event recorder: the general and safety areas, the next record number, for each rate-limited event (type × 2^16 + instance) the
elapsed time of its last record and the occurrences held since (R904), and each partition's appends of the last second. -/
structure Evr where
  gen : EvArea := {}
  saf : EvArea := {}
  seq : Nat := 0
  rates : Map (Nat × Nat) := []
  apps : Map (List (Nat × Nat)) := []
  deriving DecidableEq, Repr

/-! ## Guard (chapter 18) -/

/-- A component of a manifest (Table 18.3). -/
structure Comp where
  kind : Nat
  inst : Nat
  ver : Nat
  base : Option (List Byte)
  result : List Byte
  rlen : Nat
  plen : Nat
  phash : List Byte
  ctr : Option (Nat × Nat)
  load : Nat
  deriving DecidableEq, Repr

/-- A manifest (Table 18.2). -/
structure Manif where
  seq : Nat
  hwtype : Nat
  hwmask : Nat
  unit : Option (List Byte)
  scope : Nat
  part : Nat
  window : Option Nat
  comps : List Comp
  deriving DecidableEq, Repr

/-- A component as a bank holds it: kind, instance, load address, the SHA-384 its manifest gave, and its bytes. -/
structure Image where
  kind : Nat
  inst : Nat
  load : Nat
  result : List Byte
  bytes : List Byte
  deriving DecidableEq, Repr

/-- Guard: the unit identifier, the device's public key and certificates, the signing keys by slot, the keys of the season store's
regions, the two image banks and whether the bank that holds no confirmed set still holds an earlier confirmed one, the manifest of
the session, the payload bytes staged by component, the end of the confirm window (elapsed ns), whether a debug nonce has been drawn,
the open debug scope with its end, and the last recovery answer. -/
structure Grd where
  serial : Nat := 0
  pub : List Byte := zeros 64
  devCert : List Byte := []
  intCert : List Byte := []
  keys : Map (List Byte) := []
  stoKeys : Map (List Byte) := []
  bank0 : List Image := []
  bank1 : List Image := []
  earlier : Bool := false
  man : Option Manif := none
  stage : Map (Map Byte) := []
  winEnd : Option Nat := none
  nonce : Bool := false
  dbgEnd : Option Nat := none
  answer : List Byte := []
  deriving DecidableEq, Repr

/-! ## Smoker (chapter 20) -/

/-- Smoker: the channel under an output or input pulse, by port index; the partition that holds each vision tile; the tile under test
with the state it had and its stand-in; when the cycle began, the targets of it that have been tested, and whether it has been found
behind; and the instruction of the test access port with whether it drives contacts (R855). -/
structure Smk where
  test : Option Nat := none
  own : Map Nat := []
  tile : Option (Nat × Nat × Option Nat) := none
  cycleAt : Nat := 0
  passed : List Nat := []
  behind : Bool := false
  ir : Nat := 0
  drives : Bool := false
  deriving DecidableEq, Repr

/-! ## Power (chapters 19 and 21) -/

/-- The power state of the module (R821). -/
inductive PowerState where
  | off
  | sleep
  | on
  deriving DecidableEq, Repr

/-- Power and the keep-alive domain: the power state and whether start-up has come to its end; the real-time clock in units of
1/32,768 s at a time (R830); the ns of operation at a time; the mirror of clock, operating time and power cycles with when it was
written; whether the kept values are lost; the wake comparators' conditions (bits as PWR_RST_CAUSE.WAKE); since when ignition is
low; why the logic domain is off (after a brown-out, after a thermal shutdown); the cause of the start-up in progress, its retries
and when it failed; whether the logic domain has been halted for good; the vision power cap that the supply voltage gives and the
one in force, in mW, with the tile clock in Hz; and since when the plate is above 100 °C and above 110 °C. -/
structure Pwr where
  state : PowerState := .on
  up : Bool := true
  rtc : Nat := 0
  rtcAt : Nat := 0
  op : Nat := 0
  opAt : Nat := 0
  mirror : Nat × Nat × Nat := (0, 0, 0)
  mirrorAt : Nat := 0
  kaLost : Bool := false
  cmp : Nat := 0
  ignLow : Option Nat := none
  brown : Bool := false
  hot : Bool := false
  trial : Bool := false
  tries : Nat := 0
  failedAt : Option Nat := none
  halted : Bool := false
  vCap : Nat := 230000
  cap : Nat := 230000
  hz : Nat := 1050000000
  hotAt : Option Nat := none
  overAt : Option Nat := none
  deriving DecidableEq, Repr

end Sys2Proof.Machine
end

