-- ==== Sys2Proof/Machine/Regs.lean ====
section
/-!
DEFINITION. The set-up registers: one descriptor for each field (its place, written from the field tables of the
chapters), and one row for each register (how many there are, the reset value, which bits behave as RW, W1C, W1S,
WO and RC under R6, and whose view writes it). Addresses are page × 0x1_0000 + offset (R890, Table 22.1).
-/
namespace Sys2Proof.Machine

/-- Where a register field lies: the address of the first register, the two strides, the low bit and the width. -/
structure Fld where
  addr : Nat
  st1 : Nat
  st2 : Nat
  lo : Nat
  w : Nat
  deriving DecidableEq, Repr

/-- Whose view writes a register (R892 and the chapters' register rules). -/
inductive Right where
  | p0                 -- partition 0's view
  | p1                 -- partition 1's view (R399)
  | port (first : Nat) -- the view of the owner of port `first` + row number
  | ring               -- the view of the ring's bound partition
  | spWin              -- partition 0 and the partition on the pair (R226)
  | spAmo              -- the same, for the atomic operand and kind
  | fusOwner           -- the owner of the fusion engine
  | swarmOwner         -- the owner of the Swarm port (R691)
  | none               -- no view
  deriving DecidableEq, Repr

/-- One register of the map, with the bits of each access type (R6). -/
structure RegRow where
  addr : Nat
  n1 : Nat
  st1 : Nat
  n2 : Nat
  st2 : Nat
  reset : Nat
  rw : Nat
  w1c : Nat
  w1s : Nat
  wo : Nat
  rc : Nat
  right : Right
  pair : Nat
  deriving DecidableEq, Repr

/-- WGL_CTRL.DISC_EN, bits [0:0]. -/
def F.WGL_CTRL_DISC_EN : Fld := ⟨0x00000, 0x0, 0x0, 0, 1⟩
/-- WGL_CTRL.STEP_ALLOW, bits [1:1]. -/
def F.WGL_CTRL_STEP_ALLOW : Fld := ⟨0x00000, 0x0, 0x0, 1, 1⟩
/-- WGL_STATUS.DISC, bits [1:0]. -/
def F.WGL_STATUS_DISC : Fld := ⟨0x00004, 0x0, 0x0, 0, 2⟩
/-- WGL_STATUS.STEPPED, bits [2:2]. -/
def F.WGL_STATUS_STEPPED : Fld := ⟨0x00004, 0x0, 0x0, 2, 1⟩
/-- WGL_TIME_LO.TIME, bits [31:0]. -/
def F.WGL_TIME_LO_TIME : Fld := ⟨0x00010, 0x0, 0x0, 0, 32⟩
/-- WGL_TIME_HI.TIME, bits [31:0]. -/
def F.WGL_TIME_HI_TIME : Fld := ⟨0x00014, 0x0, 0x0, 0, 32⟩
/-- WGL_SLEW_MAX.SLEW, bits [11:0]. -/
def F.WGL_SLEW_MAX_SLEW : Fld := ⟨0x00020, 0x0, 0x0, 0, 12⟩
/-- WGL_PPS_OFFSET.OFFSET, bits [31:0]. -/
def F.WGL_PPS_OFFSET_OFFSET : Fld := ⟨0x00024, 0x0, 0x0, 0, 32⟩
/-- WGL_CNT.COUNT, bits [31:0]. -/
def F.WGL_CNT_COUNT : Fld := ⟨0x00040, 0x4, 0x0, 0, 32⟩
/-- WGL_SLOT_RANGE.BASE, bits [11:0]. -/
def F.WGL_SLOT_RANGE_BASE : Fld := ⟨0x00080, 0x4, 0x0, 0, 12⟩
/-- WGL_SLOT_RANGE.COUNT, bits [28:16]. -/
def F.WGL_SLOT_RANGE_COUNT : Fld := ⟨0x00080, 0x4, 0x0, 16, 13⟩
/-- WGL_SLOT_SEL.SLOT, bits [11:0]. -/
def F.WGL_SLOT_SEL_SLOT : Fld := ⟨0x00100, 0x0, 0x0, 0, 12⟩
/-- WGL_SLOT_DATA.DATA, bits [31:0]. -/
def F.WGL_SLOT_DATA_DATA : Fld := ⟨0x00120, 0x4, 0x0, 0, 32⟩
/-- WGL_SLOT_CMD.OP, bits [1:0]. -/
def F.WGL_SLOT_CMD_OP : Fld := ⟨0x00140, 0x0, 0x0, 0, 2⟩
/-- WGL_SLOT_ST.STATUS, bits [15:0]. -/
def F.WGL_SLOT_ST_STATUS : Fld := ⟨0x00144, 0x0, 0x0, 0, 16⟩
/-- WGL_DOM_CFG.TYPE, bits [1:0]. -/
def F.WGL_DOM_CFG_TYPE : Fld := ⟨0x01000, 0x40, 0x0, 0, 2⟩
/-- WGL_DOM_CFG.SRC, bits [3:2]. -/
def F.WGL_DOM_CFG_SRC : Fld := ⟨0x01000, 0x40, 0x0, 2, 2⟩
/-- WGL_DOM_CFG.DIR, bits [5:4]. -/
def F.WGL_DOM_CFG_DIR : Fld := ⟨0x01000, 0x40, 0x0, 4, 2⟩
/-- WGL_DOM_CFG.ACC_EN, bits [6:6]. -/
def F.WGL_DOM_CFG_ACC_EN : Fld := ⟨0x01000, 0x40, 0x0, 6, 1⟩
/-- WGL_DOM_CFG.EDGE_CH, bits [13:8]. -/
def F.WGL_DOM_CFG_EDGE_CH : Fld := ⟨0x01000, 0x40, 0x0, 8, 6⟩
/-- WGL_DOM_CFG.IDX_EN, bits [14:14]. -/
def F.WGL_DOM_CFG_IDX_EN : Fld := ⟨0x01000, 0x40, 0x0, 14, 1⟩
/-- WGL_DOM_CFG.IDX_CH, bits [21:16]. -/
def F.WGL_DOM_CFG_IDX_CH : Fld := ⟨0x01000, 0x40, 0x0, 16, 6⟩
/-- WGL_DOM_CFG.DIR_CH, bits [30:24]. -/
def F.WGL_DOM_CFG_DIR_CH : Fld := ⟨0x01000, 0x40, 0x0, 24, 7⟩
/-- WGL_DOM_DIV.DIV, bits [31:0]. -/
def F.WGL_DOM_DIV_DIV : Fld := ⟨0x01004, 0x40, 0x0, 0, 32⟩
/-- WGL_DOM_STOP.TIMEOUT, bits [23:0]. -/
def F.WGL_DOM_STOP_TIMEOUT : Fld := ⟨0x01008, 0x40, 0x0, 0, 24⟩
/-- WGL_DOM_AMAX.AMAX, bits [31:0]. -/
def F.WGL_DOM_AMAX_AMAX : Fld := ⟨0x0100c, 0x40, 0x0, 0, 32⟩
/-- WGL_DOM_STATUS.STATE, bits [2:0]. -/
def F.WGL_DOM_STATUS_STATE : Fld := ⟨0x01010, 0x40, 0x0, 0, 3⟩
/-- WGL_DOM_STATUS.DIR, bits [3:3]. -/
def F.WGL_DOM_STATUS_DIR : Fld := ⟨0x01010, 0x40, 0x0, 3, 1⟩
/-- WGL_DOM_STATUS.IDX_SEEN, bits [4:4]. -/
def F.WGL_DOM_STATUS_IDX_SEEN : Fld := ⟨0x01010, 0x40, 0x0, 4, 1⟩
/-- WGL_DOM_STATUS.IDX_ERR, bits [5:5]. -/
def F.WGL_DOM_STATUS_IDX_ERR : Fld := ⟨0x01010, 0x40, 0x0, 5, 1⟩
/-- WGL_DOM_POS_LO.POS, bits [31:0]. -/
def F.WGL_DOM_POS_LO_POS : Fld := ⟨0x01018, 0x40, 0x0, 0, 32⟩
/-- WGL_DOM_POS_HI.POS, bits [31:0]. -/
def F.WGL_DOM_POS_HI_POS : Fld := ⟨0x0101c, 0x40, 0x0, 0, 32⟩
/-- WGL_DOM_PERIOD.PERIOD, bits [31:0]. -/
def F.WGL_DOM_PERIOD_PERIOD : Fld := ⟨0x01020, 0x40, 0x0, 0, 32⟩
/-- WGL_DOM_HWM_LO.HWM, bits [31:0]. -/
def F.WGL_DOM_HWM_LO_HWM : Fld := ⟨0x01028, 0x40, 0x0, 0, 32⟩
/-- WGL_DOM_HWM_HI.HWM, bits [31:0]. -/
def F.WGL_DOM_HWM_HI_HWM : Fld := ⟨0x0102c, 0x40, 0x0, 0, 32⟩
/-- WGL_BIND.COUNT, bits [2:0]. -/
def F.WGL_BIND_COUNT : Fld := ⟨0x02000, 0x4, 0x0, 0, 3⟩
/-- WGL_BIND.D0, bits [7:4]. -/
def F.WGL_BIND_D0 : Fld := ⟨0x02000, 0x4, 0x0, 4, 4⟩
/-- WGL_BIND.D1, bits [11:8]. -/
def F.WGL_BIND_D1 : Fld := ⟨0x02000, 0x4, 0x0, 8, 4⟩
/-- WGL_BIND.D2, bits [15:12]. -/
def F.WGL_BIND_D2 : Fld := ⟨0x02000, 0x4, 0x0, 12, 4⟩
/-- WGL_BIND.D3, bits [19:16]. -/
def F.WGL_BIND_D3 : Fld := ⟨0x02000, 0x4, 0x0, 16, 4⟩
/-- RNG_ENG_INFLIGHT.COUNT, bits [15:0]. -/
def F.RNG_ENG_INFLIGHT_COUNT : Fld := ⟨0x10000, 0x4, 0x0, 0, 16⟩
/-- RNG_QUOTA.RESV, bits [15:0]. -/
def F.RNG_QUOTA_RESV : Fld := ⟨0x14000, 0x4, 0x0, 0, 16⟩
/-- RNG_QUOTA.CAP, bits [31:16]. -/
def F.RNG_QUOTA_CAP : Fld := ⟨0x14000, 0x4, 0x0, 16, 16⟩
/-- RNG_DROP.COUNT, bits [31:0]. -/
def F.RNG_DROP_COUNT : Fld := ⟨0x15000, 0x4, 0x0, 0, 32⟩
/-- RNG_BASE_LO.BASE, bits [31:0]. -/
def F.RNG_BASE_LO_BASE : Fld := ⟨0x18000, 0x20, 0x0, 0, 32⟩
/-- RNG_BASE_HI.BASE, bits [31:0]. -/
def F.RNG_BASE_HI_BASE : Fld := ⟨0x18004, 0x20, 0x0, 0, 32⟩
/-- RNG_CFG.LOG2SIZE, bits [4:0]. -/
def F.RNG_CFG_LOG2SIZE : Fld := ⟨0x18008, 0x20, 0x0, 0, 5⟩
/-- RNG_CFG.KIND, bits [5:5]. -/
def F.RNG_CFG_KIND : Fld := ⟨0x18008, 0x20, 0x0, 5, 1⟩
/-- RNG_CFG.ORDER, bits [6:6]. -/
def F.RNG_CFG_ORDER : Fld := ⟨0x18008, 0x20, 0x0, 6, 1⟩
/-- RNG_CFG.CLASS, bits [9:8]. -/
def F.RNG_CFG_CLASS : Fld := ⟨0x18008, 0x20, 0x0, 8, 2⟩
/-- RNG_CFG.CPL_RING, bits [25:16]. -/
def F.RNG_CFG_CPL_RING : Fld := ⟨0x18008, 0x20, 0x0, 16, 10⟩
/-- RNG_BIND.ENGINE, bits [3:0]. -/
def F.RNG_BIND_ENGINE : Fld := ⟨0x1800c, 0x20, 0x0, 0, 4⟩
/-- RNG_BIND.PARTITION, bits [6:4]. -/
def F.RNG_BIND_PARTITION : Fld := ⟨0x1800c, 0x20, 0x0, 4, 3⟩
/-- RNG_BIND.VALID, bits [8:8]. -/
def F.RNG_BIND_VALID : Fld := ⟨0x1800c, 0x20, 0x0, 8, 1⟩
/-- RNG_DB_LO.DB, bits [31:0]. -/
def F.RNG_DB_LO_DB : Fld := ⟨0x18010, 0x20, 0x0, 0, 32⟩
/-- RNG_DB_HI.DB, bits [31:0]. -/
def F.RNG_DB_HI_DB : Fld := ⟨0x18014, 0x20, 0x0, 0, 32⟩
/-- RNG_IRQ.COUNT, bits [9:0]. -/
def F.RNG_IRQ_COUNT : Fld := ⟨0x18018, 0x20, 0x0, 0, 10⟩
/-- RNG_IRQ.TIME, bits [21:10]. -/
def F.RNG_IRQ_TIME : Fld := ⟨0x18018, 0x20, 0x0, 10, 12⟩
/-- RNG_IRQ.TARGET, bits [26:22]. -/
def F.RNG_IRQ_TARGET : Fld := ⟨0x18018, 0x20, 0x0, 22, 5⟩
/-- RNG_CTRL.ENABLE, bits [0:0]. -/
def F.RNG_CTRL_ENABLE : Fld := ⟨0x1801c, 0x20, 0x0, 0, 1⟩
/-- RNG_CTRL.RESET, bits [1:1]. -/
def F.RNG_CTRL_RESET : Fld := ⟨0x1801c, 0x20, 0x0, 1, 1⟩
/-- RNG_CTRL.STATE, bits [3:2]. -/
def F.RNG_CTRL_STATE : Fld := ⟨0x1801c, 0x20, 0x0, 2, 2⟩
/-- RNG_CTRL.OVERRUN, bits [4:4]. -/
def F.RNG_CTRL_OVERRUN : Fld := ⟨0x1801c, 0x20, 0x0, 4, 1⟩
/-- RNG_CTRL.CPL_FULL, bits [5:5]. -/
def F.RNG_CTRL_CPL_FULL : Fld := ⟨0x1801c, 0x20, 0x0, 5, 1⟩
/-- RNG_CTRL.ERR, bits [31:16]. -/
def F.RNG_CTRL_ERR : Fld := ⟨0x1801c, 0x20, 0x0, 16, 16⟩
/-- PRP_LAYOUT_ADDR_LO.ADDR, bits [31:0]. -/
def F.PRP_LAYOUT_ADDR_LO_ADDR : Fld := ⟨0x20000, 0x0, 0x0, 0, 32⟩
/-- PRP_LAYOUT_ADDR_HI.ADDR, bits [31:0]. -/
def F.PRP_LAYOUT_ADDR_HI_ADDR : Fld := ⟨0x20004, 0x0, 0x0, 0, 32⟩
/-- PRP_LAYOUT_CMD.LOAD, bits [0:0]. -/
def F.PRP_LAYOUT_CMD_LOAD : Fld := ⟨0x20008, 0x0, 0x0, 0, 1⟩
/-- PRP_PART_CMD.PART, bits [2:0]. -/
def F.PRP_PART_CMD_PART : Fld := ⟨0x20010, 0x0, 0x0, 0, 3⟩
/-- PRP_PART_CMD.OP, bits [6:4]. -/
def F.PRP_PART_CMD_OP : Fld := ⟨0x20010, 0x0, 0x0, 4, 3⟩
/-- PRP_PART_ST.STATUS, bits [15:0]. -/
def F.PRP_PART_ST_STATUS : Fld := ⟨0x20014, 0x0, 0x0, 0, 16⟩
/-- PRP_PART_ST.BUSY, bits [16:16]. -/
def F.PRP_PART_ST_BUSY : Fld := ⟨0x20014, 0x0, 0x0, 16, 1⟩
/-- PRP_PART_STATUS.STATE, bits [2:0]. -/
def F.PRP_PART_STATUS_STATE : Fld := ⟨0x20100, 0x4, 0x0, 0, 3⟩
/-- PRP_PART_STATUS.RESTARTS, bits [31:16]. -/
def F.PRP_PART_STATUS_RESTARTS : Fld := ⟨0x20100, 0x4, 0x0, 16, 16⟩
/-- PRP_FAULT_ADDR_LO.ADDR, bits [31:0]. -/
def F.PRP_FAULT_ADDR_LO_ADDR : Fld := ⟨0x20200, 0x0, 0x0, 0, 32⟩
/-- PRP_FAULT_ADDR_HI.ADDR, bits [31:0]. -/
def F.PRP_FAULT_ADDR_HI_ADDR : Fld := ⟨0x20204, 0x0, 0x0, 0, 32⟩
/-- PRP_FAULT_INFO.TAG, bits [3:0]. -/
def F.PRP_FAULT_INFO_TAG : Fld := ⟨0x20208, 0x0, 0x0, 0, 4⟩
/-- PRP_FAULT_INFO.WRITE, bits [4:4]. -/
def F.PRP_FAULT_INFO_WRITE : Fld := ⟨0x20208, 0x0, 0x0, 4, 1⟩
/-- PRP_FAULT_INFO.STOP, bits [10:5]. -/
def F.PRP_FAULT_INFO_STOP : Fld := ⟨0x20208, 0x0, 0x0, 5, 6⟩
/-- PRP_FAULT_INFO.VALID, bits [31:31]. -/
def F.PRP_FAULT_INFO_VALID : Fld := ⟨0x20208, 0x0, 0x0, 31, 1⟩
/-- PRP_FAULT_CNT.COUNT, bits [31:0]. -/
def F.PRP_FAULT_CNT_COUNT : Fld := ⟨0x2020c, 0x0, 0x0, 0, 32⟩
/-- PRP_PORT_OWNER.OWNER, bits [2:0]. -/
def F.PRP_PORT_OWNER_OWNER : Fld := ⟨0x21000, 0x4, 0x0, 0, 3⟩
/-- PRP_PORT_OWNER.VALID, bits [3:3]. -/
def F.PRP_PORT_OWNER_VALID : Fld := ⟨0x21000, 0x4, 0x0, 3, 1⟩
/-- PRP_HDR_CFG.MODE, bits [0:0]. -/
def F.PRP_HDR_CFG_MODE : Fld := ⟨0x23000, 0x0, 0x0, 0, 1⟩
/-- PRP_HDR_CFG.PRES_CH, bits [14:8]. -/
def F.PRP_HDR_CFG_PRES_CH : Fld := ⟨0x23000, 0x0, 0x0, 8, 7⟩
/-- PRP_HDR_CFG.RETRY, bits [21:16]. -/
def F.PRP_HDR_CFG_RETRY : Fld := ⟨0x23000, 0x0, 0x0, 16, 6⟩
/-- PRP_HDR_STATUS.STATE, bits [2:0]. -/
def F.PRP_HDR_STATUS_STATE : Fld := ⟨0x23004, 0x0, 0x0, 0, 3⟩
/-- PRP_HDR_STATUS.PRESENT, bits [3:3]. -/
def F.PRP_HDR_STATUS_PRESENT : Fld := ⟨0x23004, 0x0, 0x0, 3, 1⟩
/-- PRP_HDR_STATUS.ROUND, bits [7:4]. -/
def F.PRP_HDR_STATUS_ROUND : Fld := ⟨0x23004, 0x0, 0x0, 4, 4⟩
/-- PRP_HDR_STATUS.NANS, bits [12:8]. -/
def F.PRP_HDR_STATUS_NANS : Fld := ⟨0x23004, 0x0, 0x0, 8, 5⟩
/-- PRP_HDR_STATUS.LATE, bits [23:16]. -/
def F.PRP_HDR_STATUS_LATE : Fld := ⟨0x23004, 0x0, 0x0, 16, 8⟩
/-- PRP_HDR_STATUS.FOREIGN, bits [31:24]. -/
def F.PRP_HDR_STATUS_FOREIGN : Fld := ⟨0x23004, 0x0, 0x0, 24, 8⟩
/-- PRP_HDR_ANS.ID, bits [23:0]. -/
def F.PRP_HDR_ANS_ID : Fld := ⟨0x23040, 0x4, 0x0, 0, 24⟩
/-- PRP_HDR_ANS.VALID, bits [24:24]. -/
def F.PRP_HDR_ANS_VALID : Fld := ⟨0x23040, 0x4, 0x0, 24, 1⟩
/-- PRP_HDR_ANS.HEADER, bits [25:25]. -/
def F.PRP_HDR_ANS_HEADER : Fld := ⟨0x23040, 0x4, 0x0, 25, 1⟩
/-- PRP_SP_WIN.BASE, bits [7:0]. -/
def F.PRP_SP_WIN_BASE : Fld := ⟨0x24000, 0x4, 0x0, 0, 8⟩
/-- PRP_SP_AMO_ARG.ARG, bits [31:0]. -/
def F.PRP_SP_AMO_ARG_ARG : Fld := ⟨0x24100, 0x10, 0x0, 0, 32⟩
/-- PRP_SP_AMO_OP.OP, bits [1:0]. -/
def F.PRP_SP_AMO_OP_OP : Fld := ⟨0x24104, 0x10, 0x0, 0, 2⟩
/-- IMG_PIPE_STATUS.SHARE_SUM, bits [11:0]. -/
def F.IMG_PIPE_STATUS_SHARE_SUM : Fld := ⟨0x30000, 0x4, 0x0, 0, 12⟩
/-- IMG_PIPE_STATUS.LOAD, bits [27:16]. -/
def F.IMG_PIPE_STATUS_LOAD : Fld := ⟨0x30000, 0x4, 0x0, 16, 12⟩
/-- IMG_CAM_CFG.ENABLE, bits [0:0]. -/
def F.IMG_CAM_CFG_ENABLE : Fld := ⟨0x31000, 0x40, 0x0, 0, 1⟩
/-- IMG_CAM_CFG.GEAR, bits [3:1]. -/
def F.IMG_CAM_CFG_GEAR : Fld := ⟨0x31000, 0x40, 0x0, 1, 3⟩
/-- IMG_CAM_CFG.FMT, bits [6:4]. -/
def F.IMG_CAM_CFG_FMT : Fld := ⟨0x31000, 0x40, 0x0, 4, 3⟩
/-- IMG_CAM_CFG.PIPE, bits [8:7]. -/
def F.IMG_CAM_CFG_PIPE : Fld := ⟨0x31000, 0x40, 0x0, 7, 2⟩
/-- IMG_CAM_CFG.VC, bits [12:9]. -/
def F.IMG_CAM_CFG_VC : Fld := ⟨0x31000, 0x40, 0x0, 9, 4⟩
/-- IMG_CAM_CFG.BIND, bits [18:13]. -/
def F.IMG_CAM_CFG_BIND : Fld := ⟨0x31000, 0x40, 0x0, 13, 6⟩
/-- IMG_CAM_GEOM.WIDTH, bits [15:0]. -/
def F.IMG_CAM_GEOM_WIDTH : Fld := ⟨0x31004, 0x40, 0x0, 0, 16⟩
/-- IMG_CAM_GEOM.HEIGHT, bits [31:16]. -/
def F.IMG_CAM_GEOM_HEIGHT : Fld := ⟨0x31004, 0x40, 0x0, 16, 16⟩
/-- IMG_CAM_TRIG.FS_MIN, bits [15:0]. -/
def F.IMG_CAM_TRIG_FS_MIN : Fld := ⟨0x31008, 0x40, 0x0, 0, 16⟩
/-- IMG_CAM_TRIG.STROBE_DIO, bits [22:16]. -/
def F.IMG_CAM_TRIG_STROBE_DIO : Fld := ⟨0x31008, 0x40, 0x0, 16, 7⟩
/-- IMG_CAM_TRIG.STROBE_EN, bits [23:23]. -/
def F.IMG_CAM_TRIG_STROBE_EN : Fld := ⟨0x31008, 0x40, 0x0, 23, 1⟩
/-- IMG_CAM_DEADLINE.ARRIVAL, bits [15:0]. -/
def F.IMG_CAM_DEADLINE_ARRIVAL : Fld := ⟨0x3100c, 0x40, 0x0, 0, 16⟩
/-- IMG_CAM_DEADLINE.PROC, bits [31:16]. -/
def F.IMG_CAM_DEADLINE_PROC : Fld := ⟨0x3100c, 0x40, 0x0, 16, 16⟩
/-- IMG_CAM_SHARE.SHARE, bits [11:0]. -/
def F.IMG_CAM_SHARE_SHARE : Fld := ⟨0x31010, 0x40, 0x0, 0, 12⟩
/-- IMG_CAM_STATUS.LINK, bits [1:0]. -/
def F.IMG_CAM_STATUS_LINK : Fld := ⟨0x31014, 0x40, 0x0, 0, 2⟩
/-- IMG_CAM_STATUS.GEAR, bits [4:2]. -/
def F.IMG_CAM_STATUS_GEAR : Fld := ⟨0x31014, 0x40, 0x0, 2, 3⟩
/-- IMG_CAM_STATUS.PROF_OK, bits [8:5]. -/
def F.IMG_CAM_STATUS_PROF_OK : Fld := ⟨0x31014, 0x40, 0x0, 5, 4⟩
/-- IMG_CAM_STATUS.ERR, bits [31:16]. -/
def F.IMG_CAM_STATUS_ERR : Fld := ⟨0x31014, 0x40, 0x0, 16, 16⟩
/-- IMG_CAM_CNT.COUNT, bits [31:0]. -/
def F.IMG_CAM_CNT_COUNT : Fld := ⟨0x31020, 0x40, 0x4, 0, 32⟩
/-- SFE_IMP_CFG.EN, bits [0:0]. -/
def F.SFE_IMP_CFG_EN : Fld := ⟨0x41000, 0x8, 0x0, 0, 1⟩
/-- SFE_IMP_CFG.REC, bits [1:1]. -/
def F.SFE_IMP_CFG_REC : Fld := ⟨0x41000, 0x8, 0x0, 1, 1⟩
/-- SFE_IMP_CFG.CLS, bits [4:2]. -/
def F.SFE_IMP_CFG_CLS : Fld := ⟨0x41000, 0x8, 0x0, 2, 3⟩
/-- SFE_IMP_CFG.BIND, bits [10:5]. -/
def F.SFE_IMP_CFG_BIND : Fld := ⟨0x41000, 0x8, 0x0, 5, 6⟩
/-- SFE_IMP_CFG.THR, bits [31:16]. -/
def F.SFE_IMP_CFG_THR : Fld := ⟨0x41000, 0x8, 0x0, 16, 16⟩
/-- SFE_IMP_TIME.HOLD, bits [7:0]. -/
def F.SFE_IMP_TIME_HOLD : Fld := ⟨0x41004, 0x8, 0x0, 0, 8⟩
/-- SFE_IMP_TIME.DEAD, bits [15:8]. -/
def F.SFE_IMP_TIME_DEAD : Fld := ⟨0x41004, 0x8, 0x0, 8, 8⟩
/-- SFE_CLS_W.WLO, bits [15:0]. -/
def F.SFE_CLS_W_WLO : Fld := ⟨0x41200, 0x10, 0x4, 0, 16⟩
/-- SFE_CLS_W.WHI, bits [31:16]. -/
def F.SFE_CLS_W_WHI : Fld := ⟨0x41200, 0x10, 0x4, 16, 16⟩
/-- SFE_BRG_CFG.EN, bits [0:0]. -/
def F.SFE_BRG_CFG_EN : Fld := ⟨0x41400, 0x4, 0x0, 0, 1⟩
/-- SFE_BRG_CFG.RATE, bits [3:1]. -/
def F.SFE_BRG_CFG_RATE : Fld := ⟨0x41400, 0x4, 0x0, 1, 3⟩
/-- SFE_BRG_CFG.GAIN, bits [6:4]. -/
def F.SFE_BRG_CFG_GAIN : Fld := ⟨0x41400, 0x4, 0x0, 4, 3⟩
/-- SFE_BRG_CFG.BIND, bits [12:7]. -/
def F.SFE_BRG_CFG_BIND : Fld := ⟨0x41400, 0x4, 0x0, 7, 6⟩
/-- SFE_AIN_CFG.EN, bits [0:0]. -/
def F.SFE_AIN_CFG_EN : Fld := ⟨0x41500, 0x4, 0x0, 0, 1⟩
/-- SFE_AIN_CFG.RANGE, bits [2:1]. -/
def F.SFE_AIN_CFG_RANGE : Fld := ⟨0x41500, 0x4, 0x0, 1, 2⟩
/-- SFE_AIN_CFG.DEC, bits [10:3]. -/
def F.SFE_AIN_CFG_DEC : Fld := ⟨0x41500, 0x4, 0x0, 3, 8⟩
/-- SFE_AIN_CFG.BIND, bits [16:11]. -/
def F.SFE_AIN_CFG_BIND : Fld := ⟨0x41500, 0x4, 0x0, 11, 6⟩
/-- SFE_SPD_CFG.EN, bits [0:0]. -/
def F.SFE_SPD_CFG_EN : Fld := ⟨0x41600, 0x4, 0x0, 0, 1⟩
/-- SFE_SPD_CFG.BIND, bits [6:1]. -/
def F.SFE_SPD_CFG_BIND : Fld := ⟨0x41600, 0x4, 0x0, 1, 6⟩
/-- SFE_SPD_CFG.MINPULSE, bits [14:7]. -/
def F.SFE_SPD_CFG_MINPULSE : Fld := ⟨0x41600, 0x4, 0x0, 7, 8⟩
/-- SFE_SNT_CFG.EN, bits [0:0]. -/
def F.SFE_SNT_CFG_EN : Fld := ⟨0x41700, 0x4, 0x0, 0, 1⟩
/-- SFE_SNT_CFG.TICK, bits [8:1]. -/
def F.SFE_SNT_CFG_TICK : Fld := ⟨0x41700, 0x4, 0x0, 1, 8⟩
/-- SFE_SNT_CFG.NIB, bits [11:9]. -/
def F.SFE_SNT_CFG_NIB : Fld := ⟨0x41700, 0x4, 0x0, 9, 3⟩
/-- SFE_SNT_CFG.CRC, bits [12:12]. -/
def F.SFE_SNT_CFG_CRC : Fld := ⟨0x41700, 0x4, 0x0, 12, 1⟩
/-- SFE_SNT_CFG.PAUSE, bits [13:13]. -/
def F.SFE_SNT_CFG_PAUSE : Fld := ⟨0x41700, 0x4, 0x0, 13, 1⟩
/-- SFE_SNT_CFG.SLOW, bits [15:14]. -/
def F.SFE_SNT_CFG_SLOW : Fld := ⟨0x41700, 0x4, 0x0, 14, 2⟩
/-- SFE_SNT_CFG.BIND, bits [21:16]. -/
def F.SFE_SNT_CFG_BIND : Fld := ⟨0x41700, 0x4, 0x0, 16, 6⟩
/-- SFE_SNT_ERR.COUNT, bits [31:0]. -/
def F.SFE_SNT_ERR_COUNT : Fld := ⟨0x41740, 0x4, 0x0, 0, 32⟩
/-- SFE_FAULT.OPEN, bits [0:0]. -/
def F.SFE_FAULT_OPEN : Fld := ⟨0x41800, 0x4, 0x0, 0, 1⟩
/-- SFE_FAULT.RANGE, bits [1:1]. -/
def F.SFE_FAULT_RANGE : Fld := ⟨0x41800, 0x4, 0x0, 1, 1⟩
/-- SFE_FAULT.SAT, bits [2:2]. -/
def F.SFE_FAULT_SAT : Fld := ⟨0x41800, 0x4, 0x0, 2, 1⟩
/-- SFE_FAULT.NOW, bits [3:3]. -/
def F.SFE_FAULT_NOW : Fld := ⟨0x41800, 0x4, 0x0, 3, 1⟩
/-- SFE_WIN_MASK_LO.MASK, bits [31:0]. -/
def F.SFE_WIN_MASK_LO_MASK : Fld := ⟨0x42000, 0x10, 0x0, 0, 32⟩
/-- SFE_WIN_MASK_HI.MASK, bits [31:0]. -/
def F.SFE_WIN_MASK_HI_MASK : Fld := ⟨0x42004, 0x10, 0x0, 0, 32⟩
/-- SFE_WIN_CFG.DOMAIN, bits [3:0]. -/
def F.SFE_WIN_CFG_DOMAIN : Fld := ⟨0x42008, 0x10, 0x0, 0, 4⟩
/-- SFE_WIN_CFG.BIND, bits [9:4]. -/
def F.SFE_WIN_CFG_BIND : Fld := ⟨0x42008, 0x10, 0x0, 4, 6⟩
/-- SFE_WIN_CFG.OWNED, bits [10:10]. -/
def F.SFE_WIN_CFG_OWNED : Fld := ⟨0x42008, 0x10, 0x0, 10, 1⟩
/-- SFE_WIN_CFG.OWNER, bits [13:11]. -/
def F.SFE_WIN_CFG_OWNER : Fld := ⟨0x42008, 0x10, 0x0, 11, 3⟩
/-- SFE_WIN_CFG.OPEN, bits [14:14]. -/
def F.SFE_WIN_CFG_OPEN : Fld := ⟨0x42008, 0x10, 0x0, 14, 1⟩
/-- SFE_WIN_STEP.STEP, bits [31:0]. -/
def F.SFE_WIN_STEP_STEP : Fld := ⟨0x4200c, 0x10, 0x0, 0, 32⟩
/-- SFE_SNAP_CH.PORT_A, bits [8:0]. -/
def F.SFE_SNAP_CH_PORT_A : Fld := ⟨0x42400, 0x10, 0x4, 0, 9⟩
/-- SFE_SNAP_CH.VA, bits [9:9]. -/
def F.SFE_SNAP_CH_VA : Fld := ⟨0x42400, 0x10, 0x4, 9, 1⟩
/-- SFE_SNAP_CH.PORT_B, bits [24:16]. -/
def F.SFE_SNAP_CH_PORT_B : Fld := ⟨0x42400, 0x10, 0x4, 16, 9⟩
/-- SFE_SNAP_CH.VB, bits [25:25]. -/
def F.SFE_SNAP_CH_VB : Fld := ⟨0x42400, 0x10, 0x4, 25, 1⟩
/-- SFE_SNAP_CH.BIND, bits [31:26]. -/
def F.SFE_SNAP_CH_BIND : Fld := ⟨0x42400, 0x10, 0x4, 26, 6⟩
/-- SFE_YLD_CFG.EN, bits [0:0]. -/
def F.SFE_YLD_CFG_EN : Fld := ⟨0x43000, 0x0, 0x0, 0, 1⟩
/-- SFE_YLD_CFG.BRG, bits [4:1]. -/
def F.SFE_YLD_CFG_BRG : Fld := ⟨0x43000, 0x0, 0x0, 1, 4⟩
/-- SFE_YLD_CFG.EDOM, bits [8:5]. -/
def F.SFE_YLD_CFG_EDOM : Fld := ⟨0x43000, 0x0, 0x0, 5, 4⟩
/-- SFE_YLD_CFG.GDOM, bits [12:9]. -/
def F.SFE_YLD_CFG_GDOM : Fld := ⟨0x43000, 0x0, 0x0, 9, 4⟩
/-- SFE_YLD_CFG.SNT, bits [16:13]. -/
def F.SFE_YLD_CFG_SNT : Fld := ⟨0x43000, 0x0, 0x0, 13, 4⟩
/-- SFE_YLD_CFG.MOIST_EN, bits [17:17]. -/
def F.SFE_YLD_CFG_MOIST_EN : Fld := ⟨0x43000, 0x0, 0x0, 17, 1⟩
/-- SFE_YLD_CFG.NSEG, bits [19:18]. -/
def F.SFE_YLD_CFG_NSEG : Fld := ⟨0x43000, 0x0, 0x0, 18, 2⟩
/-- SFE_YLD_CFG.PADDLES, bits [27:20]. -/
def F.SFE_YLD_CFG_PADDLES : Fld := ⟨0x43000, 0x0, 0x0, 20, 8⟩
/-- SFE_YLD_OFFSET.OFFSET, bits [31:0]. -/
def F.SFE_YLD_OFFSET_OFFSET : Fld := ⟨0x43004, 0x0, 0x0, 0, 32⟩
/-- SFE_YLD_SEG.DOMAIN, bits [3:0]. -/
def F.SFE_YLD_SEG_DOMAIN : Fld := ⟨0x43008, 0x8, 0x0, 0, 4⟩
/-- SFE_YLD_SEG_LEN.LEN, bits [31:0]. -/
def F.SFE_YLD_SEG_LEN_LEN : Fld := ⟨0x4300c, 0x8, 0x0, 0, 32⟩
/-- SFE_YLD_HIST_LO.ADDR, bits [31:0]. -/
def F.SFE_YLD_HIST_LO_ADDR : Fld := ⟨0x43020, 0x0, 0x0, 0, 32⟩
/-- SFE_YLD_HIST_HI.ADDR, bits [31:0]. -/
def F.SFE_YLD_HIST_HI_ADDR : Fld := ⟨0x43024, 0x0, 0x0, 0, 32⟩
/-- SFE_YLD_RES.ROT, bits [15:0]. -/
def F.SFE_YLD_RES_ROT : Fld := ⟨0x43028, 0x0, 0x0, 0, 16⟩
/-- SFE_YLD_RES.GND, bits [31:16]. -/
def F.SFE_YLD_RES_GND : Fld := ⟨0x43028, 0x0, 0x0, 16, 16⟩
/-- SFE_YLD_STEP.STEP, bits [31:0]. -/
def F.SFE_YLD_STEP_STEP : Fld := ⟨0x4302c, 0x0, 0x0, 0, 32⟩
/-- SFE_YLD_FILL.WAIT, bits [6:0]. -/
def F.SFE_YLD_FILL_WAIT : Fld := ⟨0x43030, 0x0, 0x0, 0, 7⟩
/-- SFE_YLD_CAMSHIFT.SHIFT, bits [31:0]. -/
def F.SFE_YLD_CAMSHIFT_SHIFT : Fld := ⟨0x43034, 0x0, 0x0, 0, 32⟩
/-- SFE_YLD_MOIST_SHIFT.SHIFT, bits [31:0]. -/
def F.SFE_YLD_MOIST_SHIFT_SHIFT : Fld := ⟨0x4303c, 0x0, 0x0, 0, 32⟩
/-- SFE_YLD_MOIST.GAIN, bits [15:0]. -/
def F.SFE_YLD_MOIST_GAIN : Fld := ⟨0x43038, 0x0, 0x0, 0, 16⟩
/-- SFE_YLD_MOIST.OFS, bits [31:16]. -/
def F.SFE_YLD_MOIST_OFS : Fld := ⟨0x43038, 0x0, 0x0, 16, 16⟩
/-- SFE_YLD_STATUS.RUN, bits [0:0]. -/
def F.SFE_YLD_STATUS_RUN : Fld := ⟨0x43040, 0x0, 0x0, 0, 1⟩
/-- SFE_YLD_STATUS.CAL, bits [1:1]. -/
def F.SFE_YLD_STATUS_CAL : Fld := ⟨0x43040, 0x0, 0x0, 1, 1⟩
/-- SFE_YLD_STATUS.PEND, bits [8:2]. -/
def F.SFE_YLD_STATUS_PEND : Fld := ⟨0x43040, 0x0, 0x0, 2, 7⟩
/-- SFE_YLD_STATUS.ERR, bits [31:16]. -/
def F.SFE_YLD_STATUS_ERR : Fld := ⟨0x43040, 0x0, 0x0, 16, 16⟩
/-- SFE_DROP.COUNT, bits [31:0]. -/
def F.SFE_DROP_COUNT : Fld := ⟨0x43100, 0x4, 0x0, 0, 32⟩
/-- CTL_TICK_LO.TICK, bits [31:0]. -/
def F.CTL_TICK_LO_TICK : Fld := ⟨0x50010, 0x0, 0x0, 0, 32⟩
/-- CTL_TICK_HI.TICK, bits [31:0]. -/
def F.CTL_TICK_HI_TICK : Fld := ⟨0x50014, 0x0, 0x0, 0, 32⟩
/-- CTL_CNT.COUNT, bits [31:0]. -/
def F.CTL_CNT_COUNT : Fld := ⟨0x50040, 0x4, 0x0, 0, 32⟩
/-- CTL_INJ_STATUS.SLOT, bits [7:0]. -/
def F.CTL_INJ_STATUS_SLOT : Fld := ⟨0x50080, 0x4, 0x0, 0, 8⟩
/-- CTL_INJ_STATUS.ACTIVE, bits [8:8]. -/
def F.CTL_INJ_STATUS_ACTIVE : Fld := ⟨0x50080, 0x4, 0x0, 8, 1⟩
/-- CTL_CAP_STATUS.WRITTEN, bits [16:0]. -/
def F.CTL_CAP_STATUS_WRITTEN : Fld := ⟨0x500c0, 0x0, 0x0, 0, 17⟩
/-- CTL_CAP_STATUS.ACTIVE, bits [17:17]. -/
def F.CTL_CAP_STATUS_ACTIVE : Fld := ⟨0x500c0, 0x0, 0x0, 17, 1⟩
/-- CTL_SLOT_SEL.SLOT, bits [7:0]. -/
def F.CTL_SLOT_SEL_SLOT : Fld := ⟨0x50200, 0x0, 0x0, 0, 8⟩
/-- CTL_SP.VALUE, bits [31:0]. -/
def F.CTL_SP_VALUE : Fld := ⟨0x50204, 0x0, 0x0, 0, 32⟩
/-- CTL_MEAS.VALUE, bits [31:0]. -/
def F.CTL_MEAS_VALUE : Fld := ⟨0x50208, 0x0, 0x0, 0, 32⟩
/-- CTL_OUT.VALUE, bits [31:0]. -/
def F.CTL_OUT_VALUE : Fld := ⟨0x5020c, 0x0, 0x0, 0, 32⟩
/-- CTL_BAND.VALUE, bits [31:0]. -/
def F.CTL_BAND_VALUE : Fld := ⟨0x50210, 0x0, 0x0, 0, 32⟩
/-- CTL_TRIM.VALUE, bits [31:0]. -/
def F.CTL_TRIM_VALUE : Fld := ⟨0x50214, 0x0, 0x0, 0, 32⟩
/-- CTL_SLOT_STATUS.STATE, bits [2:0]. -/
def F.CTL_SLOT_STATUS_STATE : Fld := ⟨0x50218, 0x0, 0x0, 0, 3⟩
/-- CTL_SLOT_STATUS.ACT, bits [4:3]. -/
def F.CTL_SLOT_STATUS_ACT : Fld := ⟨0x50218, 0x0, 0x0, 3, 2⟩
/-- CTL_SLOT_STATUS.SEL, bits [5:5]. -/
def F.CTL_SLOT_STATUS_SEL : Fld := ⟨0x50218, 0x0, 0x0, 5, 1⟩
/-- CTL_SLOT_STATUS.SAT, bits [6:6]. -/
def F.CTL_SLOT_STATUS_SAT : Fld := ⟨0x50218, 0x0, 0x0, 6, 1⟩
/-- CTL_SLOT_STATUS.STALE, bits [7:7]. -/
def F.CTL_SLOT_STATUS_STALE : Fld := ⟨0x50218, 0x0, 0x0, 7, 1⟩
/-- CTL_SLOT_STATUS.SRC_FAULT, bits [8:8]. -/
def F.CTL_SLOT_STATUS_SRC_FAULT : Fld := ⟨0x50218, 0x0, 0x0, 8, 1⟩
/-- CTL_SLOT_STATUS.DEST_BLOCKED, bits [9:9]. -/
def F.CTL_SLOT_STATUS_DEST_BLOCKED : Fld := ⟨0x50218, 0x0, 0x0, 9, 1⟩
/-- CTL_SLOT_STATUS.INJ, bits [10:10]. -/
def F.CTL_SLOT_STATUS_INJ : Fld := ⟨0x50218, 0x0, 0x0, 10, 1⟩
/-- CTL_REC_DATA.DATA, bits [31:0]. -/
def F.CTL_REC_DATA_DATA : Fld := ⟨0x50400, 0x4, 0x0, 0, 32⟩
/-- CTL_REC_CMD.OP, bits [1:0]. -/
def F.CTL_REC_CMD_OP : Fld := ⟨0x50480, 0x0, 0x0, 0, 2⟩
/-- CTL_REC_ST.STATUS, bits [15:0]. -/
def F.CTL_REC_ST_STATUS : Fld := ⟨0x50484, 0x0, 0x0, 0, 16⟩
/-- SOL_OIL_CFG.SRC, bits [1:0]. -/
def F.SOL_OIL_CFG_SRC : Fld := ⟨0x60000, 0x0, 0x0, 0, 2⟩
/-- SOL_OIL_CFG.IDX, bits [13:8]. -/
def F.SOL_OIL_CFG_IDX : Fld := ⟨0x60000, 0x0, 0x0, 8, 6⟩
/-- SOL_OIL_CFG.FIXED, bits [31:16]. -/
def F.SOL_OIL_CFG_FIXED : Fld := ⟨0x60000, 0x0, 0x0, 16, 16⟩
/-- SOL_OIL_SCALE.GAIN, bits [15:0]. -/
def F.SOL_OIL_SCALE_GAIN : Fld := ⟨0x60004, 0x0, 0x0, 0, 16⟩
/-- SOL_OIL_SCALE.OFS, bits [31:16]. -/
def F.SOL_OIL_SCALE_OFS : Fld := ⟨0x60004, 0x0, 0x0, 16, 16⟩
/-- SOL_OIL_TEMP.T_OIL, bits [15:0]. -/
def F.SOL_OIL_TEMP_T_OIL : Fld := ⟨0x60008, 0x0, 0x0, 0, 16⟩
/-- SOL_OIL_TEMP.FIXED_USED, bits [16:16]. -/
def F.SOL_OIL_TEMP_FIXED_USED : Fld := ⟨0x60008, 0x0, 0x0, 16, 1⟩
/-- SOL_CNT.COUNT, bits [31:0]. -/
def F.SOL_CNT_COUNT : Fld := ⟨0x60040, 0x4, 0x0, 0, 32⟩
/-- SOL_PROF_INFO.OWNER, bits [2:0]. -/
def F.SOL_PROF_INFO_OWNER : Fld := ⟨0x60100, 0x4, 0x0, 0, 3⟩
/-- SOL_PROF_INFO.VALID, bits [3:3]. -/
def F.SOL_PROF_INFO_VALID : Fld := ⟨0x60100, 0x4, 0x0, 3, 1⟩
/-- SOL_PROF_INFO.NPHASE, bits [7:4]. -/
def F.SOL_PROF_INFO_NPHASE : Fld := ⟨0x60100, 0x4, 0x0, 4, 4⟩
/-- SOL_CFG.ENABLE, bits [0:0]. -/
def F.SOL_CFG_ENABLE : Fld := ⟨0x61000, 0x40, 0x0, 0, 1⟩
/-- SOL_CFG.MODE, bits [2:1]. -/
def F.SOL_CFG_MODE : Fld := ⟨0x61000, 0x40, 0x0, 1, 2⟩
/-- SOL_CFG.IFS, bits [4:3]. -/
def F.SOL_CFG_IFS : Fld := ⟨0x61000, 0x40, 0x0, 3, 2⟩
/-- SOL_CFG.PWM, bits [6:5]. -/
def F.SOL_CFG_PWM : Fld := ⟨0x61000, 0x40, 0x0, 5, 2⟩
/-- SOL_CFG.TTP_ACT, bits [7:7]. -/
def F.SOL_CFG_TTP_ACT : Fld := ⟨0x61000, 0x40, 0x0, 7, 1⟩
/-- SOL_CFG.DECAY, bits [9:8]. -/
def F.SOL_CFG_DECAY : Fld := ⟨0x61000, 0x40, 0x0, 8, 2⟩
/-- SOL_CFG.SHED, bits [11:10]. -/
def F.SOL_CFG_SHED : Fld := ⟨0x61000, 0x40, 0x0, 10, 2⟩
/-- SOL_CFG.DITH_AMP, bits [23:16]. -/
def F.SOL_CFG_DITH_AMP : Fld := ⟨0x61000, 0x40, 0x0, 16, 8⟩
/-- SOL_CFG.DITH_F, bits [31:24]. -/
def F.SOL_CFG_DITH_F : Fld := ⟨0x61000, 0x40, 0x0, 24, 8⟩
/-- SOL_OFFTIME.OFFTIME, bits [16:0]. -/
def F.SOL_OFFTIME_OFFTIME : Fld := ⟨0x61004, 0x40, 0x0, 0, 17⟩
/-- SOL_TTP.MIN, bits [15:0]. -/
def F.SOL_TTP_MIN : Fld := ⟨0x61008, 0x40, 0x0, 0, 16⟩
/-- SOL_TTP.MAX, bits [31:16]. -/
def F.SOL_TTP_MAX : Fld := ⟨0x61008, 0x40, 0x0, 16, 16⟩
/-- SOL_COIL_R.R25, bits [15:0]. -/
def F.SOL_COIL_R_R25 : Fld := ⟨0x6100c, 0x40, 0x0, 0, 16⟩
/-- SOL_COIL_TH.RTH, bits [15:0]. -/
def F.SOL_COIL_TH_RTH : Fld := ⟨0x61010, 0x40, 0x0, 0, 16⟩
/-- SOL_COIL_TH.TAU, bits [31:16]. -/
def F.SOL_COIL_TH_TAU : Fld := ⟨0x61010, 0x40, 0x0, 16, 16⟩
/-- SOL_COIL_LIM.T_WARN, bits [15:0]. -/
def F.SOL_COIL_LIM_T_WARN : Fld := ⟨0x61014, 0x40, 0x0, 0, 16⟩
/-- SOL_COIL_LIM.T_LIM, bits [31:16]. -/
def F.SOL_COIL_LIM_T_LIM : Fld := ⟨0x61014, 0x40, 0x0, 16, 16⟩
/-- SOL_CAL.TC, bits [15:0]. -/
def F.SOL_CAL_TC : Fld := ⟨0x61018, 0x40, 0x0, 0, 16⟩
/-- SOL_CAL.T_CAL, bits [31:16]. -/
def F.SOL_CAL_T_CAL : Fld := ⟨0x61018, 0x40, 0x0, 16, 16⟩
/-- SOL_STATUS.STATE, bits [2:0]. -/
def F.SOL_STATUS_STATE : Fld := ⟨0x61020, 0x40, 0x0, 0, 3⟩
/-- SOL_STATUS.PHASE, bits [5:3]. -/
def F.SOL_STATUS_PHASE : Fld := ⟨0x61020, 0x40, 0x0, 3, 3⟩
/-- SOL_STATUS.PEND, bits [6:6]. -/
def F.SOL_STATUS_PEND : Fld := ⟨0x61020, 0x40, 0x0, 6, 1⟩
/-- SOL_STATUS.LIMITED, bits [7:7]. -/
def F.SOL_STATUS_LIMITED : Fld := ⟨0x61020, 0x40, 0x0, 7, 1⟩
/-- SOL_STATUS.MODEL_INVALID, bits [8:8]. -/
def F.SOL_STATUS_MODEL_INVALID : Fld := ⟨0x61020, 0x40, 0x0, 8, 1⟩
/-- SOL_STATUS.CH_FAULT, bits [9:9]. -/
def F.SOL_STATUS_CH_FAULT : Fld := ⟨0x61020, 0x40, 0x0, 9, 1⟩
/-- SOL_STATUS.COIL_HOT, bits [10:10]. -/
def F.SOL_STATUS_COIL_HOT : Fld := ⟨0x61020, 0x40, 0x0, 10, 1⟩
/-- SOL_STATUS.PROF, bits [21:16]. -/
def F.SOL_STATUS_PROF : Fld := ⟨0x61020, 0x40, 0x0, 16, 6⟩
/-- SOL_FAULT.OVERCURRENT, bits [0:0]. -/
def F.SOL_FAULT_OVERCURRENT : Fld := ⟨0x61024, 0x40, 0x0, 0, 1⟩
/-- SOL_FAULT.SHORT_BAT, bits [1:1]. -/
def F.SOL_FAULT_SHORT_BAT : Fld := ⟨0x61024, 0x40, 0x0, 1, 1⟩
/-- SOL_FAULT.OPEN, bits [2:2]. -/
def F.SOL_FAULT_OPEN : Fld := ⟨0x61024, 0x40, 0x0, 2, 1⟩
/-- SOL_FAULT.REG_ERR, bits [3:3]. -/
def F.SOL_FAULT_REG_ERR : Fld := ⟨0x61024, 0x40, 0x0, 3, 1⟩
/-- SOL_FAULT.TTP_SHORT, bits [4:4]. -/
def F.SOL_FAULT_TTP_SHORT : Fld := ⟨0x61024, 0x40, 0x0, 4, 1⟩
/-- SOL_FAULT.TTP_LONG, bits [5:5]. -/
def F.SOL_FAULT_TTP_LONG : Fld := ⟨0x61024, 0x40, 0x0, 5, 1⟩
/-- SOL_FAULT.DRV_HOT, bits [6:6]. -/
def F.SOL_FAULT_DRV_HOT : Fld := ⟨0x61024, 0x40, 0x0, 6, 1⟩
/-- SOL_FAULT.COIL_HOT, bits [7:7]. -/
def F.SOL_FAULT_COIL_HOT : Fld := ⟨0x61024, 0x40, 0x0, 7, 1⟩
/-- SOL_FAULT.CLAMP_LIMIT, bits [8:8]. -/
def F.SOL_FAULT_CLAMP_LIMIT : Fld := ⟨0x61024, 0x40, 0x0, 8, 1⟩
/-- SOL_FAULT.SHED, bits [9:9]. -/
def F.SOL_FAULT_SHED : Fld := ⟨0x61024, 0x40, 0x0, 9, 1⟩
/-- SOL_CURRENT.MEAN, bits [15:0]. -/
def F.SOL_CURRENT_MEAN : Fld := ⟨0x61028, 0x40, 0x0, 0, 16⟩
/-- SOL_CURRENT.CODE, bits [27:16]. -/
def F.SOL_CURRENT_CODE : Fld := ⟨0x61028, 0x40, 0x0, 16, 12⟩
/-- SOL_TEMP.T, bits [15:0]. -/
def F.SOL_TEMP_T : Fld := ⟨0x6102c, 0x40, 0x0, 0, 16⟩
/-- SOL_TEMP.T_MEAS, bits [31:16]. -/
def F.SOL_TEMP_T_MEAS : Fld := ⟨0x6102c, 0x40, 0x0, 16, 16⟩
/-- SOL_TTP_LAST.TIME, bits [15:0]. -/
def F.SOL_TTP_LAST_TIME : Fld := ⟨0x61030, 0x40, 0x0, 0, 16⟩
/-- SOL_TTP_LAST.VALID, bits [16:16]. -/
def F.SOL_TTP_LAST_VALID : Fld := ⟨0x61030, 0x40, 0x0, 16, 1⟩
/-- SOL_ST.STATUS, bits [15:0]. -/
def F.SOL_ST_STATUS : Fld := ⟨0x61034, 0x40, 0x0, 0, 16⟩
/-- LSW_TILE_CTRL.ARM, bits [0:0]. -/
def F.LSW_TILE_CTRL_ARM : Fld := ⟨0x70000, 0x40, 0x0, 0, 1⟩
/-- LSW_TILE_CTRL.FS_LOCK, bits [1:1]. -/
def F.LSW_TILE_CTRL_FS_LOCK : Fld := ⟨0x70000, 0x40, 0x0, 1, 1⟩
/-- LSW_TILE_STATUS.STATE, bits [1:0]. -/
def F.LSW_TILE_STATUS_STATE : Fld := ⟨0x70004, 0x40, 0x0, 0, 2⟩
/-- LSW_TILE_STATUS.FS_LOCKED, bits [2:2]. -/
def F.LSW_TILE_STATUS_FS_LOCKED : Fld := ⟨0x70004, 0x40, 0x0, 2, 1⟩
/-- LSW_TILE_STATUS.FEED, bits [3:3]. -/
def F.LSW_TILE_STATUS_FEED : Fld := ⟨0x70004, 0x40, 0x0, 3, 1⟩
/-- LSW_TILE_STATUS.CRC_ERR, bits [31:16]. -/
def F.LSW_TILE_STATUS_CRC_ERR : Fld := ⟨0x70004, 0x40, 0x0, 16, 16⟩
/-- LSW_TILE_FEED.VOLT, bits [15:0]. -/
def F.LSW_TILE_FEED_VOLT : Fld := ⟨0x70008, 0x40, 0x0, 0, 16⟩
/-- LSW_TILE_FEED.CURR, bits [31:16]. -/
def F.LSW_TILE_FEED_CURR : Fld := ⟨0x70008, 0x40, 0x0, 16, 16⟩
/-- LSW_TILE_SHED.COUNT, bits [31:0]. -/
def F.LSW_TILE_SHED_COUNT : Fld := ⟨0x7000c, 0x40, 0x0, 0, 32⟩
/-- LSW_FS.ENTRY, bits [31:0]. -/
def F.LSW_FS_ENTRY : Fld := ⟨0x70010, 0x40, 0x4, 0, 32⟩
/-- LSW_FS_CODE.CODE, bits [11:0]. -/
def F.LSW_FS_CODE_CODE : Fld := ⟨0x70400, 0x4, 0x0, 0, 12⟩
/-- LSW_WD_CFG.EN, bits [0:0]. -/
def F.LSW_WD_CFG_EN : Fld := ⟨0x70800, 0x0, 0x0, 0, 1⟩
/-- LSW_WD_CFG.PERIOD, bits [10:1]. -/
def F.LSW_WD_CFG_PERIOD : Fld := ⟨0x70800, 0x0, 0x0, 1, 10⟩
/-- LSW_WD_TOKEN.TOKEN, bits [15:0]. -/
def F.LSW_WD_TOKEN_TOKEN : Fld := ⟨0x70804, 0x0, 0x0, 0, 16⟩
/-- LSW_WD_TOKEN.SEQ, bits [31:16]. -/
def F.LSW_WD_TOKEN_SEQ : Fld := ⟨0x70804, 0x0, 0x0, 16, 16⟩
/-- LSW_WD_CNT.COUNT, bits [31:0]. -/
def F.LSW_WD_CNT_COUNT : Fld := ⟨0x70808, 0x0, 0x0, 0, 32⟩
/-- LSW_CFG.ENABLE, bits [0:0]. -/
def F.LSW_CFG_ENABLE : Fld := ⟨0x71000, 0x10, 0x0, 0, 1⟩
/-- LSW_CFG.MODE, bits [1:1]. -/
def F.LSW_CFG_MODE : Fld := ⟨0x71000, 0x10, 0x0, 1, 1⟩
/-- LSW_CFG.OT_MODE, bits [2:2]. -/
def F.LSW_CFG_OT_MODE : Fld := ⟨0x71000, 0x10, 0x0, 2, 1⟩
/-- LSW_CFG.SHED, bits [4:3]. -/
def F.LSW_CFG_SHED : Fld := ⟨0x71000, 0x10, 0x0, 3, 2⟩
/-- LSW_CFG.OL_OFF, bits [5:5]. -/
def F.LSW_CFG_OL_OFF : Fld := ⟨0x71000, 0x10, 0x0, 5, 1⟩
/-- LSW_CFG.PULSE_INTOL, bits [6:6]. -/
def F.LSW_CFG_PULSE_INTOL : Fld := ⟨0x71000, 0x10, 0x0, 6, 1⟩
/-- LSW_CFG.LIMIT_T, bits [15:8]. -/
def F.LSW_CFG_LIMIT_T : Fld := ⟨0x71000, 0x10, 0x0, 8, 8⟩
/-- LSW_STATUS.ON, bits [0:0]. -/
def F.LSW_STATUS_ON : Fld := ⟨0x71004, 0x10, 0x0, 0, 1⟩
/-- LSW_STATUS.LIMITING, bits [1:1]. -/
def F.LSW_STATUS_LIMITING : Fld := ⟨0x71004, 0x10, 0x0, 1, 1⟩
/-- LSW_STATUS.FORCED, bits [2:2]. -/
def F.LSW_STATUS_FORCED : Fld := ⟨0x71004, 0x10, 0x0, 2, 1⟩
/-- LSW_STATUS.CH_FAULT, bits [3:3]. -/
def F.LSW_STATUS_CH_FAULT : Fld := ⟨0x71004, 0x10, 0x0, 3, 1⟩
/-- LSW_STATUS.ERR, bits [31:16]. -/
def F.LSW_STATUS_ERR : Fld := ⟨0x71004, 0x10, 0x0, 16, 16⟩
/-- LSW_FAULT.SHORT, bits [0:0]. -/
def F.LSW_FAULT_SHORT : Fld := ⟨0x71008, 0x10, 0x0, 0, 1⟩
/-- LSW_FAULT.OPEN_ON, bits [1:1]. -/
def F.LSW_FAULT_OPEN_ON : Fld := ⟨0x71008, 0x10, 0x0, 1, 1⟩
/-- LSW_FAULT.OFF_HIGH, bits [2:2]. -/
def F.LSW_FAULT_OFF_HIGH : Fld := ⟨0x71008, 0x10, 0x0, 2, 1⟩
/-- LSW_FAULT.OVERTEMP, bits [3:3]. -/
def F.LSW_FAULT_OVERTEMP : Fld := ⟨0x71008, 0x10, 0x0, 3, 1⟩
/-- LSW_FAULT.SHED, bits [4:4]. -/
def F.LSW_FAULT_SHED : Fld := ⟨0x71008, 0x10, 0x0, 4, 1⟩
/-- LSW_CURRENT.MEAN, bits [15:0]. -/
def F.LSW_CURRENT_MEAN : Fld := ⟨0x7100c, 0x10, 0x0, 0, 16⟩
/-- DIO_IN.LEVEL, bits [31:0]. -/
def F.DIO_IN_LEVEL : Fld := ⟨0x80000, 0x4, 0x0, 0, 32⟩
/-- DIO_DROP.COUNT, bits [31:0]. -/
def F.DIO_DROP_COUNT : Fld := ⟨0x80040, 0x4, 0x0, 0, 32⟩
/-- DIO_CFG.ENABLE, bits [0:0]. -/
def F.DIO_CFG_ENABLE : Fld := ⟨0x81000, 0x10, 0x0, 0, 1⟩
/-- DIO_CFG.DIR, bits [1:1]. -/
def F.DIO_CFG_DIR : Fld := ⟨0x81000, 0x10, 0x0, 1, 1⟩
/-- DIO_CFG.MODE, bits [3:2]. -/
def F.DIO_CFG_MODE : Fld := ⟨0x81000, 0x10, 0x0, 2, 2⟩
/-- DIO_CFG.REC, bits [4:4]. -/
def F.DIO_CFG_REC : Fld := ⟨0x81000, 0x10, 0x0, 4, 1⟩
/-- DIO_CFG.OW_EN, bits [5:5]. -/
def F.DIO_CFG_OW_EN : Fld := ⟨0x81000, 0x10, 0x0, 5, 1⟩
/-- DIO_CFG.PULSE_INTOL, bits [6:6]. -/
def F.DIO_CFG_PULSE_INTOL : Fld := ⟨0x81000, 0x10, 0x0, 6, 1⟩
/-- DIO_CFG.FORCE_DEB, bits [7:7]. -/
def F.DIO_CFG_FORCE_DEB : Fld := ⟨0x81000, 0x10, 0x0, 7, 1⟩
/-- DIO_CFG.SHED, bits [9:8]. -/
def F.DIO_CFG_SHED : Fld := ⟨0x81000, 0x10, 0x0, 8, 2⟩
/-- DIO_CFG.BIND, bits [15:10]. -/
def F.DIO_CFG_BIND : Fld := ⟨0x81000, 0x10, 0x0, 10, 6⟩
/-- DIO_FILT.LIMIT, bits [7:0]. -/
def F.DIO_FILT_LIMIT : Fld := ⟨0x81004, 0x10, 0x0, 0, 8⟩
/-- DIO_FILT.PRE, bits [11:8]. -/
def F.DIO_FILT_PRE : Fld := ⟨0x81004, 0x10, 0x0, 8, 4⟩
/-- DIO_FILT.DEB, bits [31:16]. -/
def F.DIO_FILT_DEB : Fld := ⟨0x81004, 0x10, 0x0, 16, 16⟩
/-- DIO_STATUS.LEVEL, bits [0:0]. -/
def F.DIO_STATUS_LEVEL : Fld := ⟨0x81008, 0x10, 0x0, 0, 1⟩
/-- DIO_STATUS.RAW, bits [1:1]. -/
def F.DIO_STATUS_RAW : Fld := ⟨0x81008, 0x10, 0x0, 1, 1⟩
/-- DIO_STATUS.DEB_ACTIVE, bits [2:2]. -/
def F.DIO_STATUS_DEB_ACTIVE : Fld := ⟨0x81008, 0x10, 0x0, 2, 1⟩
/-- DIO_STATUS.ON, bits [3:3]. -/
def F.DIO_STATUS_ON : Fld := ⟨0x81008, 0x10, 0x0, 3, 1⟩
/-- DIO_STATUS.FORCED, bits [4:4]. -/
def F.DIO_STATUS_FORCED : Fld := ⟨0x81008, 0x10, 0x0, 4, 1⟩
/-- DIO_STATUS.CH_FAULT, bits [5:5]. -/
def F.DIO_STATUS_CH_FAULT : Fld := ⟨0x81008, 0x10, 0x0, 5, 1⟩
/-- DIO_STATUS.ERR, bits [31:16]. -/
def F.DIO_STATUS_ERR : Fld := ⟨0x81008, 0x10, 0x0, 16, 16⟩
/-- DIO_FAULT.OVERLOAD, bits [0:0]. -/
def F.DIO_FAULT_OVERLOAD : Fld := ⟨0x8100c, 0x10, 0x0, 0, 1⟩
/-- DIO_FAULT.OPEN, bits [1:1]. -/
def F.DIO_FAULT_OPEN : Fld := ⟨0x8100c, 0x10, 0x0, 1, 1⟩
/-- DIO_FAULT.OVERTEMP, bits [2:2]. -/
def F.DIO_FAULT_OVERTEMP : Fld := ⟨0x8100c, 0x10, 0x0, 2, 1⟩
/-- DIO_FAULT.SILENT, bits [3:3]. -/
def F.DIO_FAULT_SILENT : Fld := ⟨0x8100c, 0x10, 0x0, 3, 1⟩
/-- DIO_FAULT.SHED, bits [4:4]. -/
def F.DIO_FAULT_SHED : Fld := ⟨0x8100c, 0x10, 0x0, 4, 1⟩
/-- FAN_CFG.ENABLE, bits [0:0]. -/
def F.FAN_CFG_ENABLE : Fld := ⟨0x91000, 0x40, 0x0, 0, 1⟩
/-- FAN_CFG.TYPE, bits [2:1]. -/
def F.FAN_CFG_TYPE : Fld := ⟨0x91000, 0x40, 0x0, 1, 2⟩
/-- FAN_CFG.MODE, bits [3:3]. -/
def F.FAN_CFG_MODE : Fld := ⟨0x91000, 0x40, 0x0, 3, 1⟩
/-- FAN_CFG.REV_EN, bits [4:4]. -/
def F.FAN_CFG_REV_EN : Fld := ⟨0x91000, 0x40, 0x0, 4, 1⟩
/-- FAN_CFG.SHED, bits [6:5]. -/
def F.FAN_CFG_SHED : Fld := ⟨0x91000, 0x40, 0x0, 5, 2⟩
/-- FAN_LIMIT.ACCEL, bits [15:0]. -/
def F.FAN_LIMIT_ACCEL : Fld := ⟨0x91004, 0x40, 0x0, 0, 16⟩
/-- FAN_LIMIT.BAND_ACCEL, bits [31:16]. -/
def F.FAN_LIMIT_BAND_ACCEL : Fld := ⟨0x91004, 0x40, 0x0, 16, 16⟩
/-- FAN_BAND.LO, bits [15:0]. -/
def F.FAN_BAND_LO : Fld := ⟨0x91008, 0x40, 0x4, 0, 16⟩
/-- FAN_BAND.HI, bits [31:16]. -/
def F.FAN_BAND_HI : Fld := ⟨0x91008, 0x40, 0x4, 16, 16⟩
/-- FAN_NTC.R30, bits [15:0]. -/
def F.FAN_NTC_R30 : Fld := ⟨0x91018, 0x40, 0x0, 0, 16⟩
/-- FAN_NTC.BETA, bits [31:16]. -/
def F.FAN_NTC_BETA : Fld := ⟨0x91018, 0x40, 0x0, 16, 16⟩
/-- FAN_COMPAT.PULSES, bits [3:0]. -/
def F.FAN_COMPAT_PULSES : Fld := ⟨0x9101c, 0x40, 0x0, 0, 4⟩
/-- FAN_COMPAT.STRETCH, bits [11:4]. -/
def F.FAN_COMPAT_STRETCH : Fld := ⟨0x9101c, 0x40, 0x0, 4, 8⟩
/-- FAN_COMPAT.FULL_RPM, bits [31:12]. -/
def F.FAN_COMPAT_FULL_RPM : Fld := ⟨0x9101c, 0x40, 0x0, 12, 20⟩
/-- FAN_STATUS.TABLE, bits [0:0]. -/
def F.FAN_STATUS_TABLE : Fld := ⟨0x91020, 0x40, 0x0, 0, 1⟩
/-- FAN_STATUS.TAB_VALID, bits [1:1]. -/
def F.FAN_STATUS_TAB_VALID : Fld := ⟨0x91020, 0x40, 0x0, 1, 1⟩
/-- FAN_STATUS.FORCED, bits [2:2]. -/
def F.FAN_STATUS_FORCED : Fld := ⟨0x91020, 0x40, 0x0, 2, 1⟩
/-- FAN_STATUS.CH_FAULT, bits [3:3]. -/
def F.FAN_STATUS_CH_FAULT : Fld := ⟨0x91020, 0x40, 0x0, 3, 1⟩
/-- FAN_STATUS.IN_BAND, bits [4:4]. -/
def F.FAN_STATUS_IN_BAND : Fld := ⟨0x91020, 0x40, 0x0, 4, 1⟩
/-- FAN_STATUS.ERR, bits [31:16]. -/
def F.FAN_STATUS_ERR : Fld := ⟨0x91020, 0x40, 0x0, 16, 16⟩
/-- FAN_SPEED.SPEED, bits [15:0]. -/
def F.FAN_SPEED_SPEED : Fld := ⟨0x91024, 0x40, 0x0, 0, 16⟩
/-- FAN_SPEED.TEMP, bits [31:16]. -/
def F.FAN_SPEED_TEMP : Fld := ⟨0x91024, 0x40, 0x0, 16, 16⟩
/-- FAN_FAULT.OVERCURRENT, bits [0:0]. -/
def F.FAN_FAULT_OVERCURRENT : Fld := ⟨0x91028, 0x40, 0x0, 0, 1⟩
/-- FAN_FAULT.STALL, bits [1:1]. -/
def F.FAN_FAULT_STALL : Fld := ⟨0x91028, 0x40, 0x0, 1, 1⟩
/-- FAN_FAULT.HALL, bits [2:2]. -/
def F.FAN_FAULT_HALL : Fld := ⟨0x91028, 0x40, 0x0, 2, 1⟩
/-- FAN_FAULT.SENSOR, bits [3:3]. -/
def F.FAN_FAULT_SENSOR : Fld := ⟨0x91028, 0x40, 0x0, 3, 1⟩
/-- FAN_FAULT.DRV_HOT, bits [4:4]. -/
def F.FAN_FAULT_DRV_HOT : Fld := ⟨0x91028, 0x40, 0x0, 4, 1⟩
/-- FAN_FAULT.SHED, bits [5:5]. -/
def F.FAN_FAULT_SHED : Fld := ⟨0x91028, 0x40, 0x0, 5, 1⟩
/-- FUS_OWNER.OWNER, bits [2:0]. -/
def F.FUS_OWNER_OWNER : Fld := ⟨0xa0000, 0x0, 0x0, 0, 3⟩
/-- FUS_OWNER.READERS, bits [15:8]. -/
def F.FUS_OWNER_READERS : Fld := ⟨0xa0000, 0x0, 0x0, 8, 8⟩
/-- FUS_CTRL.EN, bits [0:0]. -/
def F.FUS_CTRL_EN : Fld := ⟨0xa0004, 0x0, 0x0, 0, 1⟩
/-- FUS_STATUS.STEP, bits [2:0]. -/
def F.FUS_STATUS_STEP : Fld := ⟨0xa0008, 0x0, 0x0, 0, 3⟩
/-- FUS_STATUS.EGO, bits [4:3]. -/
def F.FUS_STATUS_EGO : Fld := ⟨0xa0008, 0x0, 0x0, 3, 2⟩
/-- FUS_STATUS.GNSS, bits [6:5]. -/
def F.FUS_STATUS_GNSS : Fld := ⟨0xa0008, 0x0, 0x0, 5, 2⟩
/-- FUS_STATUS.WHEEL0, bits [8:7]. -/
def F.FUS_STATUS_WHEEL0 : Fld := ⟨0xa0008, 0x0, 0x0, 7, 2⟩
/-- FUS_STATUS.WHEEL1, bits [10:9]. -/
def F.FUS_STATUS_WHEEL1 : Fld := ⟨0xa0008, 0x0, 0x0, 9, 2⟩
/-- FUS_STATUS.CLS_AVAIL, bits [13:11]. -/
def F.FUS_STATUS_CLS_AVAIL : Fld := ⟨0xa0008, 0x0, 0x0, 11, 3⟩
/-- FUS_STATUS.ERR, bits [31:16]. -/
def F.FUS_STATUS_ERR : Fld := ⟨0xa0008, 0x0, 0x0, 16, 16⟩
/-- FUS_TIMING.CYCLE, bits [10:0]. -/
def F.FUS_TIMING_CYCLE : Fld := ⟨0xa0010, 0x0, 0x0, 0, 11⟩
/-- FUS_TIMING.LAG, bits [26:16]. -/
def F.FUS_TIMING_LAG : Fld := ⟨0xa0010, 0x0, 0x0, 16, 11⟩
/-- FUS_EGO_CFG.IMU_ROT, bits [4:0]. -/
def F.FUS_EGO_CFG_IMU_ROT : Fld := ⟨0xa0014, 0x0, 0x0, 0, 5⟩
/-- FUS_EGO_CFG.OUT_DIV, bits [15:5]. -/
def F.FUS_EGO_CFG_OUT_DIV : Fld := ⟨0xa0014, 0x0, 0x0, 5, 11⟩
/-- FUS_EGO_CFG.REJ_N, bits [19:16]. -/
def F.FUS_EGO_CFG_REJ_N : Fld := ⟨0xa0014, 0x0, 0x0, 16, 4⟩
/-- FUS_EGO_CFG.READMIT_N, bits [27:20]. -/
def F.FUS_EGO_CFG_READMIT_N : Fld := ⟨0xa0014, 0x0, 0x0, 20, 8⟩
/-- FUS_GNSS_ARM.X, bits [15:0]. -/
def F.FUS_GNSS_ARM_X : Fld := ⟨0xa0018, 0x0, 0x0, 0, 16⟩
/-- FUS_GNSS_ARM.Y, bits [31:16]. -/
def F.FUS_GNSS_ARM_Y : Fld := ⟨0xa0018, 0x0, 0x0, 16, 16⟩
/-- FUS_GNSS_ARM_Z.Z, bits [15:0]. -/
def F.FUS_GNSS_ARM_Z_Z : Fld := ⟨0xa001c, 0x0, 0x0, 0, 16⟩
/-- FUS_EGO_NOISE.NHC_SD, bits [15:0]. -/
def F.FUS_EGO_NOISE_NHC_SD : Fld := ⟨0xa0020, 0x0, 0x0, 0, 16⟩
/-- FUS_EGO_NOISE.WHEEL_SD, bits [31:16]. -/
def F.FUS_EGO_NOISE_WHEEL_SD : Fld := ⟨0xa0020, 0x0, 0x0, 16, 16⟩
/-- FUS_DEG.RECOVER, bits [7:0]. -/
def F.FUS_DEG_RECOVER : Fld := ⟨0xa0024, 0x0, 0x0, 0, 8⟩
/-- FUS_DEG.HOLDOFF, bits [15:8]. -/
def F.FUS_DEG_HOLDOFF : Fld := ⟨0xa0024, 0x0, 0x0, 8, 8⟩
/-- FUS_DEG.HOLD_SD, bits [31:16]. -/
def F.FUS_DEG_HOLD_SD : Fld := ⟨0xa0024, 0x0, 0x0, 16, 16⟩
/-- FUS_FIX.STALE, bits [15:0]. -/
def F.FUS_FIX_STALE : Fld := ⟨0xa0028, 0x0, 0x0, 0, 16⟩
/-- FUS_FIX.GATE, bits [31:16]. -/
def F.FUS_FIX_GATE : Fld := ⟨0xa0028, 0x0, 0x0, 16, 16⟩
/-- FUS_CNT.COUNT, bits [31:0]. -/
def F.FUS_CNT_COUNT : Fld := ⟨0xa0080, 0x4, 0x0, 0, 32⟩
/-- FUS_WHEEL.EN, bits [0:0]. -/
def F.FUS_WHEEL_EN : Fld := ⟨0xa0040, 0x8, 0x0, 0, 1⟩
/-- FUS_WHEEL.CH, bits [6:1]. -/
def F.FUS_WHEEL_CH : Fld := ⟨0xa0040, 0x8, 0x0, 1, 6⟩
/-- FUS_WHEEL.DIR, bits [8:7]. -/
def F.FUS_WHEEL_DIR : Fld := ⟨0xa0040, 0x8, 0x0, 7, 2⟩
/-- FUS_WHEEL.DIR_CH, bits [15:9]. -/
def F.FUS_WHEEL_DIR_CH : Fld := ⟨0xa0040, 0x8, 0x0, 9, 7⟩
/-- FUS_WHEEL.Y, bits [31:16]. -/
def F.FUS_WHEEL_Y : Fld := ⟨0xa0040, 0x8, 0x0, 16, 16⟩
/-- FUS_WHEEL_DIV.DIV, bits [31:0]. -/
def F.FUS_WHEEL_DIV_DIV : Fld := ⟨0xa0044, 0x8, 0x0, 0, 32⟩
/-- FUS_SRC.EN, bits [0:0]. -/
def F.FUS_SRC_EN : Fld := ⟨0xa1000, 0x20, 0x0, 0, 1⟩
/-- FUS_SRC.PCLASS, bits [2:1]. -/
def F.FUS_SRC_PCLASS : Fld := ⟨0xa1000, 0x20, 0x0, 1, 2⟩
/-- FUS_SRC.TMASK, bits [6:3]. -/
def F.FUS_SRC_TMASK : Fld := ⟨0xa1000, 0x20, 0x0, 3, 4⟩
/-- FUS_SRC.PART, bits [9:7]. -/
def F.FUS_SRC_PART : Fld := ⟨0xa1000, 0x20, 0x0, 7, 3⟩
/-- FUS_SRC.STALE, bits [25:10]. -/
def F.FUS_SRC_STALE : Fld := ⟨0xa1000, 0x20, 0x0, 10, 16⟩
/-- FUS_SRC_POSE.X, bits [15:0]. -/
def F.FUS_SRC_POSE_X : Fld := ⟨0xa1004, 0x20, 0x0, 0, 16⟩
/-- FUS_SRC_POSE.Y, bits [31:16]. -/
def F.FUS_SRC_POSE_Y : Fld := ⟨0xa1004, 0x20, 0x0, 16, 16⟩
/-- FUS_SRC_YAW.YAW, bits [31:0]. -/
def F.FUS_SRC_YAW_YAW : Fld := ⟨0xa1008, 0x20, 0x0, 0, 32⟩
/-- FUS_SRC_TEST.WINDOW, bits [7:0]. -/
def F.FUS_SRC_TEST_WINDOW : Fld := ⟨0xa100c, 0x20, 0x0, 0, 8⟩
/-- FUS_SRC_TEST.NIS_MAX, bits [15:8]. -/
def F.FUS_SRC_TEST_NIS_MAX : Fld := ⟨0xa100c, 0x20, 0x0, 8, 8⟩
/-- FUS_SRC_STATUS.STATE, bits [1:0]. -/
def F.FUS_SRC_STATUS_STATE : Fld := ⟨0xa1010, 0x20, 0x0, 0, 2⟩
/-- FUS_SRC_STATUS.MNIS, bits [31:16]. -/
def F.FUS_SRC_STATUS_MNIS : Fld := ⟨0xa1010, 0x20, 0x0, 16, 16⟩
/-- FUS_CLS.GATE, bits [15:0]. -/
def F.FUS_CLS_GATE : Fld := ⟨0xa2000, 0x10, 0x0, 0, 16⟩
/-- FUS_CLS.BIRTH_M, bits [19:16]. -/
def F.FUS_CLS_BIRTH_M : Fld := ⟨0xa2000, 0x10, 0x0, 16, 4⟩
/-- FUS_CLS.BIRTH_N, bits [23:20]. -/
def F.FUS_CLS_BIRTH_N : Fld := ⟨0xa2000, 0x10, 0x0, 20, 4⟩
/-- FUS_CLS.CONF_M, bits [27:24]. -/
def F.FUS_CLS_CONF_M : Fld := ⟨0xa2000, 0x10, 0x0, 24, 4⟩
/-- FUS_CLS.CONF_N, bits [31:28]. -/
def F.FUS_CLS_CONF_N : Fld := ⟨0xa2000, 0x10, 0x0, 28, 4⟩
/-- FUS_CLS_DEL.DEL_MISS, bits [7:0]. -/
def F.FUS_CLS_DEL_DEL_MISS : Fld := ⟨0xa2004, 0x10, 0x0, 0, 8⟩
/-- FUS_CLS_DEL.COAST, bits [23:8]. -/
def F.FUS_CLS_DEL_COAST : Fld := ⟨0xa2004, 0x10, 0x0, 8, 16⟩
/-- FUS_CLS_Q.QLIN, bits [15:0]. -/
def F.FUS_CLS_Q_QLIN : Fld := ⟨0xa2008, 0x10, 0x0, 0, 16⟩
/-- FUS_CLS_Q.QANG, bits [31:16]. -/
def F.FUS_CLS_Q_QANG : Fld := ⟨0xa2008, 0x10, 0x0, 16, 16⟩
/-- GNS_ANT_CFG.EN, bits [0:0]. -/
def F.GNS_ANT_CFG_EN : Fld := ⟨0xb0000, 0x10, 0x0, 0, 1⟩
/-- GNS_ANT_CFG.BIAS_EN, bits [1:1]. -/
def F.GNS_ANT_CFG_BIAS_EN : Fld := ⟨0xb0000, 0x10, 0x0, 1, 1⟩
/-- GNS_ANT_STATUS.BIAS, bits [1:0]. -/
def F.GNS_ANT_STATUS_BIAS : Fld := ⟨0xb0004, 0x10, 0x0, 0, 2⟩
/-- GNS_ANT_STATUS.AGC, bits [9:2]. -/
def F.GNS_ANT_STATUS_AGC : Fld := ⟨0xb0004, 0x10, 0x0, 2, 8⟩
/-- GNS_ANT_STATUS.ERR, bits [31:16]. -/
def F.GNS_ANT_STATUS_ERR : Fld := ⟨0xb0004, 0x10, 0x0, 16, 16⟩
/-- GNS_OBS_CFG.RATE, bits [5:0]. -/
def F.GNS_OBS_CFG_RATE : Fld := ⟨0xb0020, 0x0, 0x0, 0, 6⟩
/-- GNS_CABLE.DELAY, bits [12:0]. -/
def F.GNS_CABLE_DELAY : Fld := ⟨0xb0024, 0x0, 0x0, 0, 13⟩
/-- GNS_CLK_CFG.STALE, bits [15:0]. -/
def F.GNS_CLK_CFG_STALE : Fld := ⟨0xb0028, 0x0, 0x0, 0, 16⟩
/-- GNS_CLK_CFG.SD_MAX, bits [31:16]. -/
def F.GNS_CLK_CFG_SD_MAX : Fld := ⟨0xb0028, 0x0, 0x0, 16, 16⟩
/-- GNS_CLK_STATUS.PPS_VALID, bits [0:0]. -/
def F.GNS_CLK_STATUS_PPS_VALID : Fld := ⟨0xb002c, 0x0, 0x0, 0, 1⟩
/-- GNS_CLK_STATUS.IN_FORCE, bits [1:1]. -/
def F.GNS_CLK_STATUS_IN_FORCE : Fld := ⟨0xb002c, 0x0, 0x0, 1, 1⟩
/-- GNS_CLK_STATUS.AGE, bits [31:16]. -/
def F.GNS_CLK_STATUS_AGE : Fld := ⟨0xb002c, 0x0, 0x0, 16, 16⟩
/-- GNS_PPS_OUT.EN, bits [0:0]. -/
def F.GNS_PPS_OUT_EN : Fld := ⟨0xb0030, 0x0, 0x0, 0, 1⟩
/-- GNS_PPS_OUT.LOCKED_ONLY, bits [1:1]. -/
def F.GNS_PPS_OUT_LOCKED_ONLY : Fld := ⟨0xb0030, 0x0, 0x0, 1, 1⟩
/-- GNS_PPS_OUT.WIDTH, bits [9:2]. -/
def F.GNS_PPS_OUT_WIDTH : Fld := ⟨0xb0030, 0x0, 0x0, 2, 8⟩
/-- GNS_PPS_OUT.OFFSET, bits [31:10]. -/
def F.GNS_PPS_OUT_OFFSET : Fld := ⟨0xb0030, 0x0, 0x0, 10, 22⟩
/-- GNS_HOLD_EST.EST, bits [31:0]. -/
def F.GNS_HOLD_EST_EST : Fld := ⟨0xb0034, 0x0, 0x0, 0, 32⟩
/-- GNS_CNT.COUNT, bits [31:0]. -/
def F.GNS_CNT_COUNT : Fld := ⟨0xb0040, 0x4, 0x0, 0, 32⟩
/-- GNS_FOR_STATUS.B1, bits [2:0]. -/
def F.GNS_FOR_STATUS_B1 : Fld := ⟨0xb1000, 0x4, 0x0, 0, 3⟩
/-- GNS_FOR_STATUS.B5, bits [5:3]. -/
def F.GNS_FOR_STATUS_B5 : Fld := ⟨0xb1000, 0x4, 0x0, 3, 3⟩
/-- GNS_FOR_STATUS.SYS, bits [7:6]. -/
def F.GNS_FOR_STATUS_SYS : Fld := ⟨0xb1000, 0x4, 0x0, 6, 2⟩
/-- GNS_FOR_STATUS.PRN, bits [13:8]. -/
def F.GNS_FOR_STATUS_PRN : Fld := ⟨0xb1000, 0x4, 0x0, 8, 6⟩
/-- GNS_FOR_STATUS.TINT, bits [18:14]. -/
def F.GNS_FOR_STATUS_TINT : Fld := ⟨0xb1000, 0x4, 0x0, 14, 5⟩
/-- GNS_FOR_STATUS.CN0, bits [31:19]. -/
def F.GNS_FOR_STATUS_CN0 : Fld := ⟨0xb1000, 0x4, 0x0, 19, 13⟩
/-- CAN_WAKE.EN, bits [15:0]. -/
def F.CAN_WAKE_EN : Fld := ⟨0xc0000, 0x0, 0x0, 0, 16⟩
/-- CAN_CTRL.EN, bits [0:0]. -/
def F.CAN_CTRL_EN : Fld := ⟨0xc1000, 0x100, 0x0, 0, 1⟩
/-- CAN_CTRL.RESTART, bits [1:1]. -/
def F.CAN_CTRL_RESTART : Fld := ⟨0xc1000, 0x100, 0x0, 1, 1⟩
/-- CAN_CTRL.MODE, bits [3:2]. -/
def F.CAN_CTRL_MODE : Fld := ⟨0xc1000, 0x100, 0x0, 2, 2⟩
/-- CAN_CTRL.FD_EN, bits [4:4]. -/
def F.CAN_CTRL_FD_EN : Fld := ⟨0xc1000, 0x100, 0x0, 4, 1⟩
/-- CAN_CTRL.TDC_EN, bits [5:5]. -/
def F.CAN_CTRL_TDC_EN : Fld := ⟨0xc1000, 0x100, 0x0, 5, 1⟩
/-- CAN_CTRL.AUTO_REC, bits [6:6]. -/
def F.CAN_CTRL_AUTO_REC : Fld := ⟨0xc1000, 0x100, 0x0, 6, 1⟩
/-- CAN_CTRL.BO_FLUSH, bits [7:7]. -/
def F.CAN_CTRL_BO_FLUSH : Fld := ⟨0xc1000, 0x100, 0x0, 7, 1⟩
/-- CAN_CTRL.SELF_RX, bits [8:8]. -/
def F.CAN_CTRL_SELF_RX : Fld := ⟨0xc1000, 0x100, 0x0, 8, 1⟩
/-- CAN_CTRL.AGENT, bits [9:9]. -/
def F.CAN_CTRL_AGENT : Fld := ⟨0xc1000, 0x100, 0x0, 9, 1⟩
/-- CAN_CTRL.CLASS, bits [11:10]. -/
def F.CAN_CTRL_CLASS : Fld := ⟨0xc1000, 0x100, 0x0, 10, 2⟩
/-- CAN_CTRL.BIND, bits [17:12]. -/
def F.CAN_CTRL_BIND : Fld := ⟨0xc1000, 0x100, 0x0, 12, 6⟩
/-- CAN_NBT.NBRP, bits [4:0]. -/
def F.CAN_NBT_NBRP : Fld := ⟨0xc1004, 0x100, 0x0, 0, 5⟩
/-- CAN_NBT.NTSEG1, bits [12:5]. -/
def F.CAN_NBT_NTSEG1 : Fld := ⟨0xc1004, 0x100, 0x0, 5, 8⟩
/-- CAN_NBT.NTSEG2, bits [19:13]. -/
def F.CAN_NBT_NTSEG2 : Fld := ⟨0xc1004, 0x100, 0x0, 13, 7⟩
/-- CAN_NBT.NSJW, bits [26:20]. -/
def F.CAN_NBT_NSJW : Fld := ⟨0xc1004, 0x100, 0x0, 20, 7⟩
/-- CAN_DBT.DBRP, bits [4:0]. -/
def F.CAN_DBT_DBRP : Fld := ⟨0xc1008, 0x100, 0x0, 0, 5⟩
/-- CAN_DBT.DTSEG1, bits [9:5]. -/
def F.CAN_DBT_DTSEG1 : Fld := ⟨0xc1008, 0x100, 0x0, 5, 5⟩
/-- CAN_DBT.DTSEG2, bits [13:10]. -/
def F.CAN_DBT_DTSEG2 : Fld := ⟨0xc1008, 0x100, 0x0, 10, 4⟩
/-- CAN_DBT.DSJW, bits [17:14]. -/
def F.CAN_DBT_DSJW : Fld := ⟨0xc1008, 0x100, 0x0, 14, 4⟩
/-- CAN_DBT.TDCO, bits [24:18]. -/
def F.CAN_DBT_TDCO : Fld := ⟨0xc1008, 0x100, 0x0, 18, 7⟩
/-- CAN_ECR.TEC, bits [8:0]. -/
def F.CAN_ECR_TEC : Fld := ⟨0xc100c, 0x100, 0x0, 0, 9⟩
/-- CAN_ECR.REC, bits [23:16]. -/
def F.CAN_ECR_REC : Fld := ⟨0xc100c, 0x100, 0x0, 16, 8⟩
/-- CAN_STATUS.STATE, bits [1:0]. -/
def F.CAN_STATUS_STATE : Fld := ⟨0xc1010, 0x100, 0x0, 0, 2⟩
/-- CAN_STATUS.TX_ACTIVE, bits [2:2]. -/
def F.CAN_STATUS_TX_ACTIVE : Fld := ⟨0xc1010, 0x100, 0x0, 2, 1⟩
/-- CAN_STATUS.RX_ACTIVE, bits [3:3]. -/
def F.CAN_STATUS_RX_ACTIVE : Fld := ⟨0xc1010, 0x100, 0x0, 3, 1⟩
/-- CAN_STATUS.TDCV, bits [10:4]. -/
def F.CAN_STATUS_TDCV : Fld := ⟨0xc1010, 0x100, 0x0, 4, 7⟩
/-- CAN_STATUS.ERR, bits [31:16]. -/
def F.CAN_STATUS_ERR : Fld := ⟨0xc1010, 0x100, 0x0, 16, 16⟩
/-- CAN_BUSOFF_CNT.COUNT, bits [31:0]. -/
def F.CAN_BUSOFF_CNT_COUNT : Fld := ⟨0xc1014, 0x100, 0x0, 0, 32⟩
/-- CAN_CNT.COUNT, bits [31:0]. -/
def F.CAN_CNT_COUNT : Fld := ⟨0xc1020, 0x100, 0x4, 0, 32⟩
/-- CAN_MB_BASE_LO.ADDR, bits [31:0]. -/
def F.CAN_MB_BASE_LO_ADDR : Fld := ⟨0xc1030, 0x100, 0x0, 0, 32⟩
/-- CAN_MB_BASE_HI.ADDR, bits [31:0]. -/
def F.CAN_MB_BASE_HI_ADDR : Fld := ⟨0xc1034, 0x100, 0x0, 0, 32⟩
/-- CAN_FIFO_ID.ID, bits [28:0]. -/
def F.CAN_FIFO_ID_ID : Fld := ⟨0xc1040, 0x100, 0x0, 0, 29⟩
/-- CAN_FIFO_ID.IDE, bits [29:29]. -/
def F.CAN_FIFO_ID_IDE : Fld := ⟨0xc1040, 0x100, 0x0, 29, 1⟩
/-- CAN_FIFO_ID.EN, bits [30:30]. -/
def F.CAN_FIFO_ID_EN : Fld := ⟨0xc1040, 0x100, 0x0, 30, 1⟩
/-- CAN_FIFO_ID.ALL, bits [31:31]. -/
def F.CAN_FIFO_ID_ALL : Fld := ⟨0xc1040, 0x100, 0x0, 31, 1⟩
/-- CAN_FIFO_MASK.ID, bits [28:0]. -/
def F.CAN_FIFO_MASK_ID : Fld := ⟨0xc1044, 0x100, 0x0, 0, 29⟩
/-- CAN_FIFO_MASK.IDE, bits [29:29]. -/
def F.CAN_FIFO_MASK_IDE : Fld := ⟨0xc1044, 0x100, 0x0, 29, 1⟩
/-- CAN_FIFO_MASK.EN, bits [30:30]. -/
def F.CAN_FIFO_MASK_EN : Fld := ⟨0xc1044, 0x100, 0x0, 30, 1⟩
/-- CAN_FIFO_MASK.ALL, bits [31:31]. -/
def F.CAN_FIFO_MASK_ALL : Fld := ⟨0xc1044, 0x100, 0x0, 31, 1⟩
/-- CAN_NAME_LO.NAME, bits [31:0]. -/
def F.CAN_NAME_LO_NAME : Fld := ⟨0xc1050, 0x100, 0x0, 0, 32⟩
/-- CAN_NAME_HI.NAME, bits [31:0]. -/
def F.CAN_NAME_HI_NAME : Fld := ⟨0xc1054, 0x100, 0x0, 0, 32⟩
/-- CAN_ADDR.PREF, bits [7:0]. -/
def F.CAN_ADDR_PREF : Fld := ⟨0xc1058, 0x100, 0x0, 0, 8⟩
/-- CAN_ADDR.AMIN, bits [15:8]. -/
def F.CAN_ADDR_AMIN : Fld := ⟨0xc1058, 0x100, 0x0, 8, 8⟩
/-- CAN_ADDR.AMAX, bits [23:16]. -/
def F.CAN_ADDR_AMAX : Fld := ⟨0xc1058, 0x100, 0x0, 16, 8⟩
/-- CAN_ADDR.ADDR, bits [31:24]. -/
def F.CAN_ADDR_ADDR : Fld := ⟨0xc1058, 0x100, 0x0, 24, 8⟩
/-- CAN_HB.TX_EN, bits [0:0]. -/
def F.CAN_HB_TX_EN : Fld := ⟨0xc105c, 0x100, 0x0, 0, 1⟩
/-- CAN_HB.WATCH_EN, bits [1:1]. -/
def F.CAN_HB_WATCH_EN : Fld := ⟨0xc105c, 0x100, 0x0, 1, 1⟩
/-- CAN_HB.LOST, bits [2:2]. -/
def F.CAN_HB_LOST : Fld := ⟨0xc105c, 0x100, 0x0, 2, 1⟩
/-- CAN_HB.WATCH_SA, bits [15:8]. -/
def F.CAN_HB_WATCH_SA : Fld := ⟨0xc105c, 0x100, 0x0, 8, 8⟩
/-- CAN_LIN_CFG.EN, bits [0:0]. -/
def F.CAN_LIN_CFG_EN : Fld := ⟨0xc3000, 0x100, 0x0, 0, 1⟩
/-- CAN_LIN_CFG.RATE, bits [15:1]. -/
def F.CAN_LIN_CFG_RATE : Fld := ⟨0xc3000, 0x100, 0x0, 1, 15⟩
/-- CAN_LIN_CFG.BIND, bits [21:16]. -/
def F.CAN_LIN_CFG_BIND : Fld := ⟨0xc3000, 0x100, 0x0, 16, 6⟩
/-- CAN_LIN_STATUS.RUN, bits [0:0]. -/
def F.CAN_LIN_STATUS_RUN : Fld := ⟨0xc3004, 0x100, 0x0, 0, 1⟩
/-- CAN_LIN_STATUS.ENTRY, bits [6:1]. -/
def F.CAN_LIN_STATUS_ENTRY : Fld := ⟨0xc3004, 0x100, 0x0, 1, 6⟩
/-- CAN_LIN_STATUS.PEND, bits [7:7]. -/
def F.CAN_LIN_STATUS_PEND : Fld := ⟨0xc3004, 0x100, 0x0, 7, 1⟩
/-- CAN_LIN_STATUS.WAKE, bits [8:8]. -/
def F.CAN_LIN_STATUS_WAKE : Fld := ⟨0xc3004, 0x100, 0x0, 8, 1⟩
/-- CAN_LIN_STATUS.ERR, bits [31:16]. -/
def F.CAN_LIN_STATUS_ERR : Fld := ⟨0xc3004, 0x100, 0x0, 16, 16⟩
/-- CAN_LIN_CNT.COUNT, bits [31:0]. -/
def F.CAN_LIN_CNT_COUNT : Fld := ⟨0xc3010, 0x100, 0x4, 0, 32⟩
/-- CAN_MB_CFG.DIR, bits [1:0]. -/
def F.CAN_MB_CFG_DIR : Fld := ⟨0xc8000, 0x800, 0x10, 0, 2⟩
/-- CAN_MB_CFG.ONESHOT, bits [2:2]. -/
def F.CAN_MB_CFG_ONESHOT : Fld := ⟨0xc8000, 0x800, 0x10, 2, 1⟩
/-- CAN_MB_CFG.SA_INS, bits [3:3]. -/
def F.CAN_MB_CFG_SA_INS : Fld := ⟨0xc8000, 0x800, 0x10, 3, 1⟩
/-- CAN_MB_ID.ID, bits [28:0]. -/
def F.CAN_MB_ID_ID : Fld := ⟨0xc8004, 0x800, 0x10, 0, 29⟩
/-- CAN_MB_ID.IDE, bits [29:29]. -/
def F.CAN_MB_ID_IDE : Fld := ⟨0xc8004, 0x800, 0x10, 29, 1⟩
/-- CAN_MB_MASK.ID, bits [28:0]. -/
def F.CAN_MB_MASK_ID : Fld := ⟨0xc8008, 0x800, 0x10, 0, 29⟩
/-- CAN_MB_MASK.IDE, bits [29:29]. -/
def F.CAN_MB_MASK_IDE : Fld := ⟨0xc8008, 0x800, 0x10, 29, 1⟩
/-- ETH_GPTP_CFG.PRIO1, bits [7:0]. -/
def F.ETH_GPTP_CFG_PRIO1 : Fld := ⟨0xd0000, 0x0, 0x0, 0, 8⟩
/-- ETH_GPTP_CFG.PRIO2, bits [15:8]. -/
def F.ETH_GPTP_CFG_PRIO2 : Fld := ⟨0xd0000, 0x0, 0x0, 8, 8⟩
/-- ETH_GPTP_CFG.LOG_SYNC, bits [19:16]. -/
def F.ETH_GPTP_CFG_LOG_SYNC : Fld := ⟨0xd0000, 0x0, 0x0, 16, 4⟩
/-- ETH_SWARM_CFG.PORT, bits [3:0]. -/
def F.ETH_SWARM_CFG_PORT : Fld := ⟨0xd0100, 0x0, 0x0, 0, 4⟩
/-- ETH_SWARM_CFG.PERIOD, bits [17:4]. -/
def F.ETH_SWARM_CFG_PERIOD : Fld := ⟨0xd0100, 0x0, 0x0, 4, 14⟩
/-- ETH_SWARM_CTRL.EN, bits [0:0]. -/
def F.ETH_SWARM_CTRL_EN : Fld := ⟨0xd0104, 0x0, 0x0, 0, 1⟩
/-- ETH_SWARM_FIELD.FIELD, bits [31:0]. -/
def F.ETH_SWARM_FIELD_FIELD : Fld := ⟨0xd0108, 0x0, 0x0, 0, 32⟩
/-- ETH_SWARM_STATUS.STATE, bits [1:0]. -/
def F.ETH_SWARM_STATUS_STATE : Fld := ⟨0xd010c, 0x0, 0x0, 0, 2⟩
/-- ETH_SWARM_STATUS.MEMBERS, bits [6:2]. -/
def F.ETH_SWARM_STATUS_MEMBERS : Fld := ⟨0xd010c, 0x0, 0x0, 2, 5⟩
/-- ETH_SWARM_STATUS.FULL, bits [23:16]. -/
def F.ETH_SWARM_STATUS_FULL : Fld := ⟨0xd010c, 0x0, 0x0, 16, 8⟩
/-- ETH_SWARM_GOFS_LO.G, bits [31:0]. -/
def F.ETH_SWARM_GOFS_LO_G : Fld := ⟨0xd0110, 0x0, 0x0, 0, 32⟩
/-- ETH_SWARM_GOFS_HI.G, bits [31:0]. -/
def F.ETH_SWARM_GOFS_HI_G : Fld := ⟨0xd0114, 0x0, 0x0, 0, 32⟩
/-- ETH_PORT_CFG.EN, bits [0:0]. -/
def F.ETH_PORT_CFG_EN : Fld := ⟨0xd1000, 0x40, 0x0, 0, 1⟩
/-- ETH_PORT_CFG.SPEED, bits [2:1]. -/
def F.ETH_PORT_CFG_SPEED : Fld := ⟨0xd1000, 0x40, 0x0, 1, 2⟩
/-- ETH_PORT_CFG.ROLE, bits [3:3]. -/
def F.ETH_PORT_CFG_ROLE : Fld := ⟨0xd1000, 0x40, 0x0, 3, 1⟩
/-- ETH_PORT_CFG.PROMISC, bits [4:4]. -/
def F.ETH_PORT_CFG_PROMISC : Fld := ⟨0xd1000, 0x40, 0x0, 4, 1⟩
/-- ETH_PORT_CFG.GPTP_EN, bits [5:5]. -/
def F.ETH_PORT_CFG_GPTP_EN : Fld := ⟨0xd1000, 0x40, 0x0, 5, 1⟩
/-- ETH_PORT_CFG.BIND, bits [11:6]. -/
def F.ETH_PORT_CFG_BIND : Fld := ⟨0xd1000, 0x40, 0x0, 6, 6⟩
/-- ETH_PORT_STATUS.LINK, bits [1:0]. -/
def F.ETH_PORT_STATUS_LINK : Fld := ⟨0xd1004, 0x40, 0x0, 0, 2⟩
/-- ETH_PORT_STATUS.SQI, bits [4:2]. -/
def F.ETH_PORT_STATUS_SQI : Fld := ⟨0xd1004, 0x40, 0x0, 2, 3⟩
/-- ETH_PORT_STATUS.ERR, bits [31:16]. -/
def F.ETH_PORT_STATUS_ERR : Fld := ⟨0xd1004, 0x40, 0x0, 16, 16⟩
/-- ETH_PORT_MAC_LO.MAC, bits [31:0]. -/
def F.ETH_PORT_MAC_LO_MAC : Fld := ⟨0xd1008, 0x40, 0x0, 0, 32⟩
/-- ETH_PORT_MAC_HI.MAC, bits [31:0]. -/
def F.ETH_PORT_MAC_HI_MAC : Fld := ⟨0xd100c, 0x40, 0x0, 0, 32⟩
/-- ETH_PORT_PCP.MAP, bits [23:0]. -/
def F.ETH_PORT_PCP_MAP : Fld := ⟨0xd1010, 0x40, 0x0, 0, 24⟩
/-- ETH_PORT_CBS.IDLE, bits [15:0]. -/
def F.ETH_PORT_CBS_IDLE : Fld := ⟨0xd1020, 0x40, 0x4, 0, 16⟩
/-- ETH_CNT.COUNT, bits [31:0]. -/
def F.ETH_CNT_COUNT : Fld := ⟨0xd1030, 0x40, 0x4, 0, 32⟩
/-- MEM_STATUS.FILL_DONE, bits [0:0]. -/
def F.MEM_STATUS_FILL_DONE : Fld := ⟨0xe0000, 0x0, 0x0, 0, 1⟩
/-- MEM_STATUS.FILL_TIME, bits [31:16]. -/
def F.MEM_STATUS_FILL_TIME : Fld := ⟨0xe0000, 0x0, 0x0, 16, 16⟩
/-- MEM_SCRUB_CFG.PERIOD, bits [13:0]. -/
def F.MEM_SCRUB_CFG_PERIOD : Fld := ⟨0xe0010, 0x0, 0x0, 0, 14⟩
/-- MEM_SCRUB_STATUS.BEHIND, bits [13:0]. -/
def F.MEM_SCRUB_STATUS_BEHIND : Fld := ⟨0xe0014, 0x0, 0x0, 0, 14⟩
/-- MEM_ERR_CNT.CE, bits [15:0]. -/
def F.MEM_ERR_CNT_CE : Fld := ⟨0xe0040, 0x4, 0x0, 0, 16⟩
/-- MEM_ERR_CNT.UE, bits [31:16]. -/
def F.MEM_ERR_CNT_UE : Fld := ⟨0xe0040, 0x4, 0x0, 16, 16⟩
/-- MEM_COMB_CNT.COUNT, bits [31:0]. -/
def F.MEM_COMB_CNT_COUNT : Fld := ⟨0xe0080, 0x4, 0x0, 0, 32⟩
/-- MEM_ERR_ADDR_LO.ADDR, bits [31:0]. -/
def F.MEM_ERR_ADDR_LO_ADDR : Fld := ⟨0xe0100, 0x10, 0x0, 0, 32⟩
/-- MEM_ERR_ADDR_HI.ADDR, bits [31:0]. -/
def F.MEM_ERR_ADDR_HI_ADDR : Fld := ⟨0xe0104, 0x10, 0x0, 0, 32⟩
/-- MEM_ERR_INFO.BLOCK, bits [3:0]. -/
def F.MEM_ERR_INFO_BLOCK : Fld := ⟨0xe0108, 0x10, 0x0, 0, 4⟩
/-- MEM_ERR_INFO.BIT, bits [10:4]. -/
def F.MEM_ERR_INFO_BIT : Fld := ⟨0xe0108, 0x10, 0x0, 4, 7⟩
/-- MEM_ERR_INFO.TAG, bits [14:11]. -/
def F.MEM_ERR_INFO_TAG : Fld := ⟨0xe0108, 0x10, 0x0, 11, 4⟩
/-- MEM_ERR_INFO.STOP, bits [20:15]. -/
def F.MEM_ERR_INFO_STOP : Fld := ⟨0xe0108, 0x10, 0x0, 15, 6⟩
/-- MEM_ERR_INFO.SCRUB, bits [21:21]. -/
def F.MEM_ERR_INFO_SCRUB : Fld := ⟨0xe0108, 0x10, 0x0, 21, 1⟩
/-- MEM_ERR_INFO.REPEAT, bits [22:22]. -/
def F.MEM_ERR_INFO_REPEAT : Fld := ⟨0xe0108, 0x10, 0x0, 22, 1⟩
/-- MEM_ERR_INFO.VALID, bits [31:31]. -/
def F.MEM_ERR_INFO_VALID : Fld := ⟨0xe0108, 0x10, 0x0, 31, 1⟩
/-- MEM_INJ_ADDR_LO.ADDR, bits [31:0]. -/
def F.MEM_INJ_ADDR_LO_ADDR : Fld := ⟨0xe0200, 0x0, 0x0, 0, 32⟩
/-- MEM_INJ_ADDR_HI.ADDR, bits [31:0]. -/
def F.MEM_INJ_ADDR_HI_ADDR : Fld := ⟨0xe0204, 0x0, 0x0, 0, 32⟩
/-- MEM_INJ_DATA_LO.DATA, bits [31:0]. -/
def F.MEM_INJ_DATA_LO_DATA : Fld := ⟨0xe0208, 0x0, 0x0, 0, 32⟩
/-- MEM_INJ_DATA_HI.DATA, bits [31:0]. -/
def F.MEM_INJ_DATA_HI_DATA : Fld := ⟨0xe020c, 0x0, 0x0, 0, 32⟩
/-- MEM_INJ_DFLIP_LO.DFLIP, bits [31:0]. -/
def F.MEM_INJ_DFLIP_LO_DFLIP : Fld := ⟨0xe0210, 0x0, 0x0, 0, 32⟩
/-- MEM_INJ_DFLIP_HI.DFLIP, bits [31:0]. -/
def F.MEM_INJ_DFLIP_HI_DFLIP : Fld := ⟨0xe0214, 0x0, 0x0, 0, 32⟩
/-- MEM_INJ_CHK.CFLIP, bits [7:0]. -/
def F.MEM_INJ_CHK_CFLIP : Fld := ⟨0xe0218, 0x0, 0x0, 0, 8⟩
/-- MEM_INJ_CHK.RAW, bits [15:8]. -/
def F.MEM_INJ_CHK_RAW : Fld := ⟨0xe0218, 0x0, 0x0, 8, 8⟩
/-- MEM_INJ_RAW_LO.RAW, bits [31:0]. -/
def F.MEM_INJ_RAW_LO_RAW : Fld := ⟨0xe0220, 0x0, 0x0, 0, 32⟩
/-- MEM_INJ_RAW_HI.RAW, bits [31:0]. -/
def F.MEM_INJ_RAW_HI_RAW : Fld := ⟨0xe0224, 0x0, 0x0, 0, 32⟩
/-- MEM_INJ_CMD.OP, bits [1:0]. -/
def F.MEM_INJ_CMD_OP : Fld := ⟨0xe0228, 0x0, 0x0, 0, 2⟩
/-- MEM_INJ_ST.STATUS, bits [15:0]. -/
def F.MEM_INJ_ST_STATUS : Fld := ⟨0xe022c, 0x0, 0x0, 0, 16⟩
/-- MEM_INJ_ST.BUSY, bits [16:16]. -/
def F.MEM_INJ_ST_BUSY : Fld := ⟨0xe022c, 0x0, 0x0, 16, 1⟩
/-- STO_STATUS.READ_ONLY, bits [0:0]. -/
def F.STO_STATUS_READ_ONLY : Fld := ⟨0xf0000, 0x0, 0x0, 0, 1⟩
/-- STO_STATUS.AVAIL_HI, bits [7:1]. -/
def F.STO_STATUS_AVAIL_HI : Fld := ⟨0xf0000, 0x0, 0x0, 1, 7⟩
/-- STO_STATUS.AVAIL, bits [15:8]. -/
def F.STO_STATUS_AVAIL : Fld := ⟨0xf0000, 0x0, 0x0, 8, 8⟩
/-- STO_STATUS.RESERVE, bits [31:16]. -/
def F.STO_STATUS_RESERVE : Fld := ⟨0xf0000, 0x0, 0x0, 16, 16⟩
/-- STO_SPARE.GB, bits [31:0]. -/
def F.STO_SPARE_GB : Fld := ⟨0xf0004, 0x0, 0x0, 0, 32⟩
/-- STO_LOAD.LOAD, bits [15:0]. -/
def F.STO_LOAD_LOAD : Fld := ⟨0xf0008, 0x0, 0x0, 0, 16⟩
/-- STO_REG_CFG.EN, bits [0:0]. -/
def F.STO_REG_CFG_EN : Fld := ⟨0xf1000, 0x10, 0x0, 0, 1⟩
/-- STO_REG_CFG.DELETE, bits [1:1]. -/
def F.STO_REG_CFG_DELETE : Fld := ⟨0xf1000, 0x10, 0x0, 1, 1⟩
/-- STO_REG_CFG.CREATED, bits [2:2]. -/
def F.STO_REG_CFG_CREATED : Fld := ⟨0xf1000, 0x10, 0x0, 2, 1⟩
/-- STO_REG_CFG.OWNER, bits [5:3]. -/
def F.STO_REG_CFG_OWNER : Fld := ⟨0xf1000, 0x10, 0x0, 3, 3⟩
/-- STO_REG_CFG.YRES, bits [6:6]. -/
def F.STO_REG_CFG_YRES : Fld := ⟨0xf1000, 0x10, 0x0, 6, 1⟩
/-- STO_REG_CFG.ERR, bits [31:16]. -/
def F.STO_REG_CFG_ERR : Fld := ⟨0xf1000, 0x10, 0x0, 16, 16⟩
/-- STO_REG_SIZE.MIB, bits [31:0]. -/
def F.STO_REG_SIZE_MIB : Fld := ⟨0xf1004, 0x10, 0x0, 0, 32⟩
/-- STO_REG_USED.MIB, bits [31:0]. -/
def F.STO_REG_USED_MIB : Fld := ⟨0xf1008, 0x10, 0x0, 0, 32⟩
/-- STO_DIE.SLOW, bits [0:0]. -/
def F.STO_DIE_SLOW : Fld := ⟨0xf2000, 0x4, 0x0, 0, 1⟩
/-- STO_DIE.RETIRED, bits [1:1]. -/
def F.STO_DIE_RETIRED : Fld := ⟨0xf2000, 0x4, 0x0, 1, 1⟩
/-- STO_DIE.WEAR, bits [31:16]. -/
def F.STO_DIE_WEAR : Fld := ⟨0xf2000, 0x4, 0x0, 16, 16⟩
/-- EVR_STATUS.READY, bits [0:0]. -/
def F.EVR_STATUS_READY : Fld := ⟨0x100000, 0x0, 0x0, 0, 1⟩
/-- EVR_SEQ_LO.SEQ, bits [31:0]. -/
def F.EVR_SEQ_LO_SEQ : Fld := ⟨0x100008, 0x0, 0x0, 0, 32⟩
/-- EVR_SEQ_HI.SEQ, bits [31:0]. -/
def F.EVR_SEQ_HI_SEQ : Fld := ⟨0x10000c, 0x0, 0x0, 0, 32⟩
/-- EVR_RATE.KB, bits [15:0]. -/
def F.EVR_RATE_KB : Fld := ⟨0x100040, 0x4, 0x0, 0, 16⟩
/-- EVR_CNT.COUNT, bits [31:0]. -/
def F.EVR_CNT_COUNT : Fld := ⟨0x100080, 0x4, 0x0, 0, 32⟩
/-- GRD_HWTYPE.TYPE, bits [31:0]. -/
def F.GRD_HWTYPE_TYPE : Fld := ⟨0x110000, 0x0, 0x0, 0, 32⟩
/-- GRD_KEYHASH.HASH, bits [31:0]. -/
def F.GRD_KEYHASH_HASH : Fld := ⟨0x110010, 0x4, 0x0, 0, 32⟩
/-- GRD_SERIAL.SERIAL, bits [31:0]. -/
def F.GRD_SERIAL_SERIAL : Fld := ⟨0x110040, 0x4, 0x0, 0, 32⟩
/-- GRD_SET.BANK, bits [0:0]. -/
def F.GRD_SET_BANK : Fld := ⟨0x110080, 0x0, 0x0, 0, 1⟩
/-- GRD_SET.TRIAL, bits [1:1]. -/
def F.GRD_SET_TRIAL : Fld := ⟨0x110080, 0x0, 0x0, 1, 1⟩
/-- GRD_SET.EXPIRED, bits [2:2]. -/
def F.GRD_SET_EXPIRED : Fld := ⟨0x110080, 0x0, 0x0, 2, 1⟩
/-- GRD_SET.FELL_BACK, bits [3:3]. -/
def F.GRD_SET_FELL_BACK : Fld := ⟨0x110080, 0x0, 0x0, 3, 1⟩
/-- GRD_SET.RECOVERY, bits [4:4]. -/
def F.GRD_SET_RECOVERY : Fld := ⟨0x110080, 0x0, 0x0, 4, 1⟩
/-- GRD_SESSION.STATE, bits [2:0]. -/
def F.GRD_SESSION_STATE : Fld := ⟨0x110084, 0x0, 0x0, 0, 3⟩
/-- GRD_SESSION.SCOPE, bits [3:3]. -/
def F.GRD_SESSION_SCOPE : Fld := ⟨0x110084, 0x0, 0x0, 3, 1⟩
/-- GRD_SESSION.PART, bits [6:4]. -/
def F.GRD_SESSION_PART : Fld := ⟨0x110084, 0x0, 0x0, 4, 3⟩
/-- GRD_SESSION.NCOMP, bits [13:7]. -/
def F.GRD_SESSION_NCOMP : Fld := ⟨0x110084, 0x0, 0x0, 7, 7⟩
/-- GRD_SESSION.ERR, bits [31:16]. -/
def F.GRD_SESSION_ERR : Fld := ⟨0x110084, 0x0, 0x0, 16, 16⟩
/-- GRD_TRIAL_LEFT.LEFT, bits [11:0]. -/
def F.GRD_TRIAL_LEFT_LEFT : Fld := ⟨0x110088, 0x0, 0x0, 0, 12⟩
/-- GRD_CONFIRM.WINDOW, bits [11:0]. -/
def F.GRD_CONFIRM_WINDOW : Fld := ⟨0x11008c, 0x0, 0x0, 0, 12⟩
/-- GRD_PARK.DIO_EN, bits [0:0]. -/
def F.GRD_PARK_DIO_EN : Fld := ⟨0x110090, 0x0, 0x0, 0, 1⟩
/-- GRD_PARK.CH, bits [7:1]. -/
def F.GRD_PARK_CH : Fld := ⟨0x110090, 0x0, 0x0, 1, 7⟩
/-- GRD_PARK.DOM_EN, bits [8:8]. -/
def F.GRD_PARK_DOM_EN : Fld := ⟨0x110090, 0x0, 0x0, 8, 1⟩
/-- GRD_PARK.DOM, bits [12:9]. -/
def F.GRD_PARK_DOM : Fld := ⟨0x110090, 0x0, 0x0, 9, 4⟩
/-- GRD_PARK.PARKED, bits [31:31]. -/
def F.GRD_PARK_PARKED : Fld := ⟨0x110090, 0x0, 0x0, 31, 1⟩
/-- GRD_MAN_SEQ_LO.SEQ, bits [31:0]. -/
def F.GRD_MAN_SEQ_LO_SEQ : Fld := ⟨0x1100a0, 0x0, 0x0, 0, 32⟩
/-- GRD_MAN_SEQ_HI.SEQ, bits [31:0]. -/
def F.GRD_MAN_SEQ_HI_SEQ : Fld := ⟨0x1100a4, 0x0, 0x0, 0, 32⟩
/-- GRD_CTR.VALUE, bits [9:0]. -/
def F.GRD_CTR_VALUE : Fld := ⟨0x110100, 0x4, 0x0, 0, 10⟩
/-- GRD_KEY_PERM.VALID, bits [0:0]. -/
def F.GRD_KEY_PERM_VALID : Fld := ⟨0x110200, 0x4, 0x0, 0, 1⟩
/-- GRD_KEY_PERM.P_OXSEL, bits [1:1]. -/
def F.GRD_KEY_PERM_P_OXSEL : Fld := ⟨0x110200, 0x4, 0x0, 1, 1⟩
/-- GRD_KEY_PERM.P_MODULE, bits [2:2]. -/
def F.GRD_KEY_PERM_P_MODULE : Fld := ⟨0x110200, 0x4, 0x0, 2, 1⟩
/-- GRD_KEY_PERM.P_DEBUG, bits [3:3]. -/
def F.GRD_KEY_PERM_P_DEBUG : Fld := ⟨0x110200, 0x4, 0x0, 3, 1⟩
/-- GRD_KEY_PERM.PART, bits [15:8]. -/
def F.GRD_KEY_PERM_PART : Fld := ⟨0x110200, 0x4, 0x0, 8, 8⟩
/-- GRD_DBG_NONCE.NONCE, bits [31:0]. -/
def F.GRD_DBG_NONCE_NONCE : Fld := ⟨0x110300, 0x4, 0x0, 0, 32⟩
/-- GRD_DBG_CTRL.NEW_NONCE, bits [0:0]. -/
def F.GRD_DBG_CTRL_NEW_NONCE : Fld := ⟨0x110310, 0x0, 0x0, 0, 1⟩
/-- GRD_DBG_CTRL.LOCK, bits [1:1]. -/
def F.GRD_DBG_CTRL_LOCK : Fld := ⟨0x110310, 0x0, 0x0, 1, 1⟩
/-- GRD_DBG_STATUS.SCOPE, bits [3:0]. -/
def F.GRD_DBG_STATUS_SCOPE : Fld := ⟨0x110314, 0x0, 0x0, 0, 4⟩
/-- GRD_DBG_STATUS.LEFT, bits [31:16]. -/
def F.GRD_DBG_STATUS_LEFT : Fld := ⟨0x110314, 0x0, 0x0, 16, 16⟩
/-- GRD_CNT.COUNT, bits [31:0]. -/
def F.GRD_CNT_COUNT : Fld := ⟨0x110400, 0x4, 0x0, 0, 32⟩
/-- PWR_STATUS.IGN, bits [0:0]. -/
def F.PWR_STATUS_IGN : Fld := ⟨0x120000, 0x0, 0x0, 0, 1⟩
/-- PWR_STATUS.LOW_V, bits [1:1]. -/
def F.PWR_STATUS_LOW_V : Fld := ⟨0x120000, 0x0, 0x0, 1, 1⟩
/-- PWR_STATUS.ALIVE, bits [2:2]. -/
def F.PWR_STATUS_ALIVE : Fld := ⟨0x120000, 0x0, 0x0, 2, 1⟩
/-- PWR_STATUS.RTC_LOST, bits [3:3]. -/
def F.PWR_STATUS_RTC_LOST : Fld := ⟨0x120000, 0x0, 0x0, 3, 1⟩
/-- PWR_VOLT.LOGIC, bits [15:0]. -/
def F.PWR_VOLT_LOGIC : Fld := ⟨0x120004, 0x0, 0x0, 0, 16⟩
/-- PWR_VOLT.KA, bits [31:16]. -/
def F.PWR_VOLT_KA : Fld := ⟨0x120004, 0x0, 0x0, 16, 16⟩
/-- PWR_RST_CAUSE.CAUSE, bits [3:0]. -/
def F.PWR_RST_CAUSE_CAUSE : Fld := ⟨0x120008, 0x0, 0x0, 0, 4⟩
/-- PWR_RST_CAUSE.WAKE, bits [7:4]. -/
def F.PWR_RST_CAUSE_WAKE : Fld := ⟨0x120008, 0x0, 0x0, 4, 4⟩
/-- PWR_RST_CFG.WD_RESET, bits [7:0]. -/
def F.PWR_RST_CFG_WD_RESET : Fld := ⟨0x12000c, 0x0, 0x0, 0, 8⟩
/-- PWR_RESET.KEY, bits [15:0]. -/
def F.PWR_RESET_KEY : Fld := ⟨0x120010, 0x0, 0x0, 0, 16⟩
/-- PWR_SLEEP.GO, bits [0:0]. -/
def F.PWR_SLEEP_GO : Fld := ⟨0x120014, 0x0, 0x0, 0, 1⟩
/-- PWR_SLEEP.STATUS, bits [31:16]. -/
def F.PWR_SLEEP_STATUS : Fld := ⟨0x120014, 0x0, 0x0, 16, 16⟩
/-- PWR_SLEEP_CFG.AUTO, bits [15:0]. -/
def F.PWR_SLEEP_CFG_AUTO : Fld := ⟨0x120018, 0x0, 0x0, 0, 16⟩
/-- PWR_WAKE_CFG.IGN_EN, bits [0:0]. -/
def F.PWR_WAKE_CFG_IGN_EN : Fld := ⟨0x120020, 0x0, 0x0, 0, 1⟩
/-- PWR_WAKE_CFG.CAN_EN, bits [1:1]. -/
def F.PWR_WAKE_CFG_CAN_EN : Fld := ⟨0x120020, 0x0, 0x0, 1, 1⟩
/-- PWR_WAKE_CFG.A_EN, bits [2:2]. -/
def F.PWR_WAKE_CFG_A_EN : Fld := ⟨0x120020, 0x0, 0x0, 2, 1⟩
/-- PWR_WAKE_CFG.B_EN, bits [3:3]. -/
def F.PWR_WAKE_CFG_B_EN : Fld := ⟨0x120020, 0x0, 0x0, 3, 1⟩
/-- PWR_WAKE_CFG.A_POL, bits [4:4]. -/
def F.PWR_WAKE_CFG_A_POL : Fld := ⟨0x120020, 0x0, 0x0, 4, 1⟩
/-- PWR_WAKE_CFG.B_POL, bits [5:5]. -/
def F.PWR_WAKE_CFG_B_POL : Fld := ⟨0x120020, 0x0, 0x0, 5, 1⟩
/-- PWR_WAKE_THR.THR, bits [9:0]. -/
def F.PWR_WAKE_THR_THR : Fld := ⟨0x120024, 0x4, 0x0, 0, 10⟩
/-- PWR_RTC.VALUE, bits [31:0]. -/
def F.PWR_RTC_VALUE : Fld := ⟨0x120030, 0x0, 0x0, 0, 32⟩
/-- PWR_OPTIME.VALUE, bits [31:0]. -/
def F.PWR_OPTIME_VALUE : Fld := ⟨0x120034, 0x0, 0x0, 0, 32⟩
/-- PWR_PCYCLE.VALUE, bits [31:0]. -/
def F.PWR_PCYCLE_VALUE : Fld := ⟨0x120038, 0x0, 0x0, 0, 32⟩
/-- PWR_FEED_STATUS.FEED_UV, bits [0:0]. -/
def F.PWR_FEED_STATUS_FEED_UV : Fld := ⟨0x120040, 0x4, 0x0, 0, 1⟩
/-- PWR_FEED_STATUS.FEED_OV, bits [1:1]. -/
def F.PWR_FEED_STATUS_FEED_OV : Fld := ⟨0x120040, 0x4, 0x0, 1, 1⟩
/-- PWR_FEED_STATUS.SEEN_UV, bits [2:2]. -/
def F.PWR_FEED_STATUS_SEEN_UV : Fld := ⟨0x120040, 0x4, 0x0, 2, 1⟩
/-- PWR_FEED_STATUS.SEEN_OV, bits [3:3]. -/
def F.PWR_FEED_STATUS_SEEN_OV : Fld := ⟨0x120040, 0x4, 0x0, 3, 1⟩
/-- SMK_CFG.EN, bits [0:0]. -/
def F.SMK_CFG_EN : Fld := ⟨0x130000, 0x0, 0x0, 0, 1⟩
/-- SMK_CFG.TESTS, bits [7:1]. -/
def F.SMK_CFG_TESTS : Fld := ⟨0x130000, 0x0, 0x0, 1, 7⟩
/-- SMK_CFG.PERIOD, bits [19:8]. -/
def F.SMK_CFG_PERIOD : Fld := ⟨0x130000, 0x0, 0x0, 8, 12⟩
/-- SMK_STATUS.TEST, bits [2:0]. -/
def F.SMK_STATUS_TEST : Fld := ⟨0x130004, 0x0, 0x0, 0, 3⟩
/-- SMK_STATUS.BEHIND, bits [3:3]. -/
def F.SMK_STATUS_BEHIND : Fld := ⟨0x130004, 0x0, 0x0, 3, 1⟩
/-- SMK_STATUS.CYCLES, bits [31:16]. -/
def F.SMK_STATUS_CYCLES : Fld := ⟨0x130004, 0x0, 0x0, 16, 16⟩
/-- SMK_VIS_CAP.ACTIVE, bits [6:0]. -/
def F.SMK_VIS_CAP_ACTIVE : Fld := ⟨0x130008, 0x0, 0x0, 0, 7⟩
/-- SMK_VIS_CAP.SPARE, bits [9:7]. -/
def F.SMK_VIS_CAP_SPARE : Fld := ⟨0x130008, 0x0, 0x0, 7, 3⟩
/-- SMK_VIS_CAP.FAILED, bits [16:10]. -/
def F.SMK_VIS_CAP_FAILED : Fld := ⟨0x130008, 0x0, 0x0, 10, 7⟩
/-- SMK_VIS_CAP.CAP, bits [31:17]. -/
def F.SMK_VIS_CAP_CAP : Fld := ⟨0x130008, 0x0, 0x0, 17, 15⟩
/-- SMK_VIS_MAP.STATE, bits [31:0]. -/
def F.SMK_VIS_MAP_STATE : Fld := ⟨0x130010, 0x4, 0x0, 0, 32⟩
/-- SMK_PART_TILES.ACTIVE, bits [6:0]. -/
def F.SMK_PART_TILES_ACTIVE : Fld := ⟨0x130040, 0x4, 0x0, 0, 7⟩
/-- SMK_PART_TILES.LAYOUT, bits [14:8]. -/
def F.SMK_PART_TILES_LAYOUT : Fld := ⟨0x130040, 0x4, 0x0, 8, 7⟩
/-- SMK_FAIL_CNT.COUNT, bits [31:0]. -/
def F.SMK_FAIL_CNT_COUNT : Fld := ⟨0x130080, 0x4, 0x0, 0, 32⟩
/-- SMK_TESTMODE.ENTER, bits [0:0]. -/
def F.SMK_TESTMODE_ENTER : Fld := ⟨0x1300c0, 0x0, 0x0, 0, 1⟩
/-- SMK_TESTMODE.ACTIVE, bits [1:1]. -/
def F.SMK_TESTMODE_ACTIVE : Fld := ⟨0x1300c0, 0x0, 0x0, 1, 1⟩
/-- PWR_ENV.PLATE, bits [15:0]. -/
def F.PWR_ENV_PLATE : Fld := ⟨0x120060, 0x0, 0x0, 0, 16⟩
/-- PWR_ENV.THERM, bits [17:16]. -/
def F.PWR_ENV_THERM : Fld := ⟨0x120060, 0x0, 0x0, 16, 2⟩
/-- PWR_ENV.SENS_A_BAD, bits [18:18]. -/
def F.PWR_ENV_SENS_A_BAD : Fld := ⟨0x120060, 0x0, 0x0, 18, 1⟩
/-- PWR_ENV.SENS_B_BAD, bits [19:19]. -/
def F.PWR_ENV_SENS_B_BAD : Fld := ⟨0x120060, 0x0, 0x0, 19, 1⟩
/-- PWR_ENV.SUP_LIM, bits [23:20]. -/
def F.PWR_ENV_SUP_LIM : Fld := ⟨0x120060, 0x0, 0x0, 20, 4⟩
/-- PWR_ENV.SUP_SEEN, bits [27:24]. -/
def F.PWR_ENV_SUP_SEEN : Fld := ⟨0x120060, 0x0, 0x0, 24, 4⟩

/-- The register rows, part 0. -/
def regTable0 : List RegRow := [
  ⟨0x00000, 1, 0x0, 1, 0x0, 0x00000000, 0x00000003, 0x00000000, 0x00000000, 0x00000000, 0x00000000, .p0, 0⟩,
  ⟨0x00004, 1, 0x0, 1, 0x0, 0x00000000, 0x00000000, 0x00000000, 0x00000000, 0x00000000, 0x00000000, .p0, 0⟩,
  ⟨0x00010, 1, 0x0, 1, 0x0, 0x00000000, 0x00000000, 0x00000000, 0x00000000, 0x00000000, 0x00000000, .p0, 1⟩,
  ⟨0x00014, 1, 0x0, 1, 0x0, 0x00000000, 0x00000000, 0x00000000, 0x00000000, 0x00000000, 0x00000000, .p0, 2⟩,
  ⟨0x00020, 1, 0x0, 1, 0x0, 0x000003e8, 0x00000fff, 0x00000000, 0x00000000, 0x00000000, 0x00000000, .p0, 0⟩,
  ⟨0x00024, 1, 0x0, 1, 0x0, 0x00000000, 0x00000000, 0x00000000, 0x00000000, 0x00000000, 0x00000000, .p0, 0⟩,
  ⟨0x00040, 4, 0x4, 1, 0x0, 0x00000000, 0x00000000, 0x00000000, 0x00000000, 0x00000000, 0xffffffff, .p0, 0⟩,
  ⟨0x00080, 8, 0x4, 1, 0x0, 0x00000000, 0x1fff0fff, 0x00000000, 0x00000000, 0x00000000, 0x00000000, .p0, 0⟩,
  ⟨0x00100, 1, 0x0, 1, 0x0, 0x00000000, 0x00000fff, 0x00000000, 0x00000000, 0x00000000, 0x00000000, .p0, 0⟩,
  ⟨0x00120, 8, 0x4, 1, 0x0, 0x00000000, 0xffffffff, 0x00000000, 0x00000000, 0x00000000, 0x00000000, .p0, 0⟩,
  ⟨0x00140, 1, 0x0, 1, 0x0, 0x00000000, 0x00000000, 0x00000000, 0x00000000, 0x00000003, 0x00000000, .p0, 0⟩,
  ⟨0x00144, 1, 0x0, 1, 0x0, 0x00000000, 0x00000000, 0x00000000, 0x00000000, 0x00000000, 0x00000000, .p0, 0⟩,
  ⟨0x01000, 16, 0x40, 1, 0x0, 0x00000000, 0x7f3f7f7f, 0x00000000, 0x00000000, 0x00000000, 0x00000000, .p0, 0⟩,
  ⟨0x01004, 16, 0x40, 1, 0x0, 0x00000001, 0xffffffff, 0x00000000, 0x00000000, 0x00000000, 0x00000000, .p0, 0⟩,
  ⟨0x01008, 16, 0x40, 1, 0x0, 0x0007a120, 0x00ffffff, 0x00000000, 0x00000000, 0x00000000, 0x00000000, .p0, 0⟩,
  ⟨0x0100c, 16, 0x40, 1, 0x0, 0x00000a00, 0xffffffff, 0x00000000, 0x00000000, 0x00000000, 0x00000000, .p0, 0⟩,
  ⟨0x01010, 16, 0x40, 1, 0x0, 0x00000000, 0x00000000, 0x00000020, 0x00000000, 0x00000000, 0x00000000, .p0, 0⟩,
  ⟨0x01018, 16, 0x40, 1, 0x0, 0x00000000, 0x00000000, 0x00000000, 0x00000000, 0x00000000, 0x00000000, .p0, 1⟩,
  ⟨0x0101c, 16, 0x40, 1, 0x0, 0x00000000, 0x00000000, 0x00000000, 0x00000000, 0x00000000, 0x00000000, .p0, 2⟩,
  ⟨0x01020, 16, 0x40, 1, 0x0, 0x00000000, 0x00000000, 0x00000000, 0x00000000, 0x00000000, 0x00000000, .p0, 0⟩,
  ⟨0x01028, 16, 0x40, 1, 0x0, 0x00000000, 0x00000000, 0x00000000, 0x00000000, 0x00000000, 0x00000000, .p0, 1⟩,
  ⟨0x0102c, 16, 0x40, 1, 0x0, 0x00000000, 0x00000000, 0x00000000, 0x00000000, 0x00000000, 0x00000000, .p0, 2⟩,
  ⟨0x02000, 64, 0x4, 1, 0x0, 0x00000000, 0x000ffff7, 0x00000000, 0x00000000, 0x00000000, 0x00000000, .p0, 0⟩,
  ⟨0x10000, 8, 0x4, 1, 0x0, 0x00000000, 0x00000000, 0x00000000, 0x00000000, 0x00000000, 0x00000000, .none, 0⟩,
  ⟨0x14000, 1024, 0x4, 1, 0x0, 0x00000000, 0xffffffff, 0x00000000, 0x00000000, 0x00000000, 0x00000000, .p0, 0⟩,
  ⟨0x15000, 1024, 0x4, 1, 0x0, 0x00000000, 0x00000000, 0x00000000, 0x00000000, 0x00000000, 0xffffffff, .ring, 0⟩,
  ⟨0x18000, 1024, 0x20, 1, 0x0, 0x00000000, 0xfffff000, 0x00000000, 0x00000000, 0x00000000, 0x00000000, .ring, 1⟩,
  ⟨0x18004, 1024, 0x20, 1, 0x0, 0x00000000, 0xffffffff, 0x00000000, 0x00000000, 0x00000000, 0x00000000, .ring, 2⟩,
  ⟨0x18008, 1024, 0x20, 1, 0x0, 0x00000000, 0x03ff037f, 0x00000000, 0x00000000, 0x00000000, 0x00000000, .ring, 0⟩,
  ⟨0x1800c, 1024, 0x20, 1, 0x0, 0x00000000, 0x0000017f, 0x00000000, 0x00000000, 0x00000000, 0x00000000, .p0, 0⟩,
  ⟨0x18010, 1024, 0x20, 1, 0x0, 0x00000000, 0xfffffffc, 0x00000000, 0x00000000, 0x00000000, 0x00000000, .ring, 1⟩,
  ⟨0x18014, 1024, 0x20, 1, 0x0, 0x00000000, 0xffffffff, 0x00000000, 0x00000000, 0x00000000, 0x00000000, .ring, 2⟩,
  ⟨0x18018, 1024, 0x20, 1, 0x0, 0x00000000, 0x07ffffff, 0x00000000, 0x00000000, 0x00000000, 0x00000000, .ring, 0⟩,
  ⟨0x1801c, 1024, 0x20, 1, 0x0, 0x00000000, 0x00000001, 0x00000000, 0x00000000, 0x00000002, 0x00000000, .ring, 0⟩,
  ⟨0x20000, 1, 0x0, 1, 0x0, 0x00000000, 0xfffffff0, 0x00000000, 0x00000000, 0x00000000, 0x00000000, .p0, 1⟩,
  ⟨0x20004, 1, 0x0, 1, 0x0, 0x00000000, 0xffffffff, 0x00000000, 0x00000000, 0x00000000, 0x00000000, .p0, 2⟩,
  ⟨0x20008, 1, 0x0, 1, 0x0, 0x00000000, 0x00000000, 0x00000000, 0x00000000, 0x00000001, 0x00000000, .p0, 0⟩,
  ⟨0x20010, 1, 0x0, 1, 0x0, 0x00000000, 0x00000000, 0x00000000, 0x00000000, 0x00000077, 0x00000000, .p0, 0⟩,
  ⟨0x20014, 1, 0x0, 1, 0x0, 0x00000000, 0x00000000, 0x00000000, 0x00000000, 0x00000000, 0x00000000, .p0, 0⟩,
  ⟨0x20100, 8, 0x4, 1, 0x0, 0x00000000, 0x00000000, 0x00000000, 0x00000000, 0x00000000, 0x00000000, .p0, 0⟩]

/-- The register rows, part 1. -/
def regTable1 : List RegRow := [
  ⟨0x20200, 1, 0x0, 1, 0x0, 0x00000000, 0x00000000, 0x00000000, 0x00000000, 0x00000000, 0x00000000, .p0, 1⟩,
  ⟨0x20204, 1, 0x0, 1, 0x0, 0x00000000, 0x00000000, 0x00000000, 0x00000000, 0x00000000, 0x00000000, .p0, 2⟩,
  ⟨0x20208, 1, 0x0, 1, 0x0, 0x00000000, 0x00000000, 0x80000000, 0x00000000, 0x00000000, 0x00000000, .p0, 0⟩,
  ⟨0x2020c, 1, 0x0, 1, 0x0, 0x00000000, 0x00000000, 0x00000000, 0x00000000, 0x00000000, 0xffffffff, .p0, 0⟩,
  ⟨0x21000, 512, 0x4, 1, 0x0, 0x00000000, 0x00000000, 0x00000000, 0x00000000, 0x00000000, 0x00000000, .p0, 0⟩,
  ⟨0x23000, 1, 0x0, 1, 0x0, 0x00050000, 0x003f7f00, 0x00000000, 0x00000000, 0x00000000, 0x00000000, .p0, 0⟩,
  ⟨0x23004, 1, 0x0, 1, 0x0, 0x00000000, 0x00000000, 0x00000000, 0x00000000, 0x00000000, 0xffff0000, .p0, 0⟩,
  ⟨0x23040, 16, 0x4, 1, 0x0, 0x00000000, 0x00000000, 0x00000000, 0x00000000, 0x00000000, 0x00000000, .p0, 0⟩,
  ⟨0x24000, 24, 0x4, 1, 0x0, 0x00000000, 0x000000ff, 0x00000000, 0x00000000, 0x00000000, 0x00000000, .spWin, 0⟩,
  ⟨0x24100, 3, 0x10, 1, 0x0, 0x00000000, 0xffffffff, 0x00000000, 0x00000000, 0x00000000, 0x00000000, .spAmo, 0⟩,
  ⟨0x24104, 3, 0x10, 1, 0x0, 0x00000002, 0x00000003, 0x00000000, 0x00000000, 0x00000000, 0x00000000, .spAmo, 0⟩,
  ⟨0x30000, 2, 0x4, 1, 0x0, 0x00000000, 0x00000000, 0x00000000, 0x00000000, 0x00000000, 0x00000000, .none, 0⟩,
  ⟨0x31000, 16, 0x40, 1, 0x0, 0x00000082, 0x0007ffff, 0x00000000, 0x00000000, 0x00000000, 0x00000000, (.port 296), 0⟩,
  ⟨0x31004, 16, 0x40, 1, 0x0, 0x04380780, 0xffffffff, 0x00000000, 0x00000000, 0x00000000, 0x00000000, (.port 296), 0⟩,
  ⟨0x31008, 16, 0x40, 1, 0x0, 0x00000014, 0x00ffffff, 0x00000000, 0x00000000, 0x00000000, 0x00000000, (.port 296), 0⟩,
  ⟨0x3100c, 16, 0x40, 1, 0x0, 0x4e202710, 0xffffffff, 0x00000000, 0x00000000, 0x00000000, 0x00000000, (.port 296), 0⟩,
  ⟨0x31010, 16, 0x40, 1, 0x0, 0x00000000, 0x00000fff, 0x00000000, 0x00000000, 0x00000000, 0x00000000, (.port 296), 0⟩,
  ⟨0x31014, 16, 0x40, 1, 0x0, 0x00000000, 0x00000000, 0x00000000, 0x00000000, 0x00000000, 0x00000000, (.port 296), 0⟩,
  ⟨0x31020, 16, 0x40, 4, 0x4, 0x00000000, 0x00000000, 0x00000000, 0x00000000, 0x00000000, 0xffffffff, (.port 296), 0⟩,
  ⟨0x41000, 48, 0x8, 1, 0x0, 0x03e80000, 0xffff07ff, 0x00000000, 0x00000000, 0x00000000, 0x00000000, (.port 430), 0⟩,
  ⟨0x41004, 48, 0x8, 1, 0x0, 0x00001432, 0x0000ffff, 0x00000000, 0x00000000, 0x00000000, 0x00000000, (.port 430), 0⟩,
  ⟨0x41200, 8, 0x10, 4, 0x4, 0x00000000, 0xffffffff, 0x00000000, 0x00000000, 0x00000000, 0x00000000, .p0, 0⟩,
  ⟨0x41400, 16, 0x4, 1, 0x0, 0x00000000, 0x00001fff, 0x00000000, 0x00000000, 0x00000000, 0x00000000, (.port 478), 0⟩,
  ⟨0x41500, 64, 0x4, 1, 0x0, 0x00000000, 0x0001ffff, 0x00000000, 0x00000000, 0x00000000, 0x00000000, (.port 326), 0⟩,
  ⟨0x41600, 40, 0x4, 1, 0x0, 0x00000500, 0x00007fff, 0x00000000, 0x00000000, 0x00000000, 0x00000000, (.port 390), 0⟩,
  ⟨0x41700, 16, 0x4, 1, 0x0, 0x00000c0c, 0x003fffff, 0x00000000, 0x00000000, 0x00000000, 0x00000000, (.port 494), 0⟩,
  ⟨0x41740, 16, 0x4, 1, 0x0, 0x00000000, 0x00000000, 0x00000000, 0x00000000, 0x00000000, 0xffffffff, (.port 494), 0⟩,
  ⟨0x41800, 184, 0x4, 1, 0x0, 0x00000000, 0x00000000, 0x00000007, 0x00000000, 0x00000000, 0x00000000, (.port 326), 0⟩,
  ⟨0x42000, 16, 0x10, 1, 0x0, 0x00000000, 0xffffffff, 0x00000000, 0x00000000, 0x00000000, 0x00000000, .p0, 1⟩,
  ⟨0x42004, 16, 0x10, 1, 0x0, 0x00000000, 0xffffffff, 0x00000000, 0x00000000, 0x00000000, 0x00000000, .p0, 2⟩,
  ⟨0x42008, 16, 0x10, 1, 0x0, 0x00000000, 0x000003ff, 0x00000000, 0x00000000, 0x00000000, 0x00000000, .p0, 0⟩,
  ⟨0x4200c, 16, 0x10, 1, 0x0, 0x00000000, 0xffffffff, 0x00000000, 0x00000000, 0x00000000, 0x00000000, .p0, 0⟩,
  ⟨0x42400, 64, 0x10, 4, 0x4, 0x00000000, 0xffff03ff, 0x00000000, 0x00000000, 0x00000000, 0x00000000, .p0, 0⟩,
  ⟨0x43000, 1, 0x0, 1, 0x0, 0x00100000, 0x0fffffff, 0x00000000, 0x00000000, 0x00000000, 0x00000000, .p0, 0⟩,
  ⟨0x43004, 1, 0x0, 1, 0x0, 0x00000000, 0xffffffff, 0x00000000, 0x00000000, 0x00000000, 0x00000000, .p0, 0⟩,
  ⟨0x43008, 3, 0x8, 1, 0x0, 0x00000000, 0x0000000f, 0x00000000, 0x00000000, 0x00000000, 0x00000000, .p0, 0⟩,
  ⟨0x4300c, 3, 0x8, 1, 0x0, 0x00000000, 0xffffffff, 0x00000000, 0x00000000, 0x00000000, 0x00000000, .p0, 0⟩,
  ⟨0x43020, 1, 0x0, 1, 0x0, 0x00000000, 0xffffffff, 0x00000000, 0x00000000, 0x00000000, 0x00000000, .p0, 1⟩,
  ⟨0x43024, 1, 0x0, 1, 0x0, 0x00000000, 0xffffffff, 0x00000000, 0x00000000, 0x00000000, 0x00000000, .p0, 2⟩,
  ⟨0x43028, 1, 0x0, 1, 0x0, 0x00641000, 0xffffffff, 0x00000000, 0x00000000, 0x00000000, 0x00000000, .p0, 0⟩]

/-- The register rows, part 2. -/
def regTable2 : List RegRow := [
  ⟨0x4302c, 1, 0x0, 1, 0x0, 0x000f4240, 0xffffffff, 0x00000000, 0x00000000, 0x00000000, 0x00000000, .p0, 0⟩,
  ⟨0x43030, 1, 0x0, 1, 0x0, 0x00000008, 0x0000007f, 0x00000000, 0x00000000, 0x00000000, 0x00000000, .p0, 0⟩,
  ⟨0x43034, 1, 0x0, 1, 0x0, 0x00000000, 0xffffffff, 0x00000000, 0x00000000, 0x00000000, 0x00000000, .p0, 0⟩,
  ⟨0x4303c, 1, 0x0, 1, 0x0, 0x00000000, 0xffffffff, 0x00000000, 0x00000000, 0x00000000, 0x00000000, .p0, 0⟩,
  ⟨0x43038, 1, 0x0, 1, 0x0, 0x00001000, 0xffffffff, 0x00000000, 0x00000000, 0x00000000, 0x00000000, .p0, 0⟩,
  ⟨0x43040, 1, 0x0, 1, 0x0, 0x00000000, 0x00000000, 0x00000000, 0x00000000, 0x00000000, 0x00000000, .p0, 0⟩,
  ⟨0x43100, 6, 0x4, 1, 0x0, 0x00000000, 0x00000000, 0x00000000, 0x00000000, 0x00000000, 0xffffffff, .p0, 0⟩,
  ⟨0x50010, 1, 0x0, 1, 0x0, 0x00000000, 0x00000000, 0x00000000, 0x00000000, 0x00000000, 0x00000000, .p1, 1⟩,
  ⟨0x50014, 1, 0x0, 1, 0x0, 0x00000000, 0x00000000, 0x00000000, 0x00000000, 0x00000000, 0x00000000, .p1, 2⟩,
  ⟨0x50040, 4, 0x4, 1, 0x0, 0x00000000, 0x00000000, 0x00000000, 0x00000000, 0x00000000, 0xffffffff, .p1, 0⟩,
  ⟨0x50080, 4, 0x4, 1, 0x0, 0x00000000, 0x00000000, 0x00000000, 0x00000000, 0x00000000, 0x00000000, .p1, 0⟩,
  ⟨0x500c0, 1, 0x0, 1, 0x0, 0x00000000, 0x00000000, 0x00000000, 0x00000000, 0x00000000, 0x00000000, .p1, 0⟩,
  ⟨0x50200, 1, 0x0, 1, 0x0, 0x00000000, 0x000000ff, 0x00000000, 0x00000000, 0x00000000, 0x00000000, .p1, 0⟩,
  ⟨0x50204, 1, 0x0, 1, 0x0, 0x00000000, 0x00000000, 0x00000000, 0x00000000, 0x00000000, 0x00000000, .p1, 0⟩,
  ⟨0x50208, 1, 0x0, 1, 0x0, 0x00000000, 0x00000000, 0x00000000, 0x00000000, 0x00000000, 0x00000000, .p1, 0⟩,
  ⟨0x5020c, 1, 0x0, 1, 0x0, 0x00000000, 0x00000000, 0x00000000, 0x00000000, 0x00000000, 0x00000000, .p1, 0⟩,
  ⟨0x50210, 1, 0x0, 1, 0x0, 0x00000000, 0x00000000, 0x00000000, 0x00000000, 0x00000000, 0x00000000, .p1, 0⟩,
  ⟨0x50214, 1, 0x0, 1, 0x0, 0x00000000, 0x00000000, 0x00000000, 0x00000000, 0x00000000, 0x00000000, .p1, 0⟩,
  ⟨0x50218, 1, 0x0, 1, 0x0, 0x00000000, 0x00000000, 0x00000000, 0x00000000, 0x00000000, 0x00000000, .p1, 0⟩,
  ⟨0x50400, 32, 0x4, 1, 0x0, 0x00000000, 0xffffffff, 0x00000000, 0x00000000, 0x00000000, 0x00000000, .p1, 0⟩,
  ⟨0x50480, 1, 0x0, 1, 0x0, 0x00000000, 0x00000000, 0x00000000, 0x00000000, 0x00000003, 0x00000000, .p1, 0⟩,
  ⟨0x50484, 1, 0x0, 1, 0x0, 0x00000000, 0x00000000, 0x00000000, 0x00000000, 0x00000000, 0x00000000, .p1, 0⟩,
  ⟨0x60000, 1, 0x0, 1, 0x0, 0x01900000, 0xffff3f03, 0x00000000, 0x00000000, 0x00000000, 0x00000000, .p0, 0⟩,
  ⟨0x60004, 1, 0x0, 1, 0x0, 0x00001000, 0xffffffff, 0x00000000, 0x00000000, 0x00000000, 0x00000000, .p0, 0⟩,
  ⟨0x60008, 1, 0x0, 1, 0x0, 0x00000000, 0x00000000, 0x00000000, 0x00000000, 0x00000000, 0x00000000, .p0, 0⟩,
  ⟨0x60040, 4, 0x4, 1, 0x0, 0x00000000, 0x00000000, 0x00000000, 0x00000000, 0x00000000, 0xffffffff, .none, 0⟩,
  ⟨0x60100, 64, 0x4, 1, 0x0, 0x00000000, 0x00000000, 0x00000000, 0x00000000, 0x00000000, 0x00000000, .none, 0⟩,
  ⟨0x61000, 48, 0x40, 1, 0x0, 0x00000028, 0xffff0fff, 0x00000000, 0x00000000, 0x00000000, 0x00000000, (.port 0), 0⟩,
  ⟨0x61004, 48, 0x40, 1, 0x0, 0x000003e8, 0x0001ffff, 0x00000000, 0x00000000, 0x00000000, 0x00000000, (.port 0), 0⟩,
  ⟨0x61008, 48, 0x40, 1, 0x0, 0x00000000, 0xffffffff, 0x00000000, 0x00000000, 0x00000000, 0x00000000, (.port 0), 0⟩,
  ⟨0x6100c, 48, 0x40, 1, 0x0, 0x00002710, 0x0000ffff, 0x00000000, 0x00000000, 0x00000000, 0x00000000, (.port 0), 0⟩,
  ⟨0x61010, 48, 0x40, 1, 0x0, 0x025801f4, 0xffffffff, 0x00000000, 0x00000000, 0x00000000, 0x00000000, (.port 0), 0⟩,
  ⟨0x61014, 48, 0x40, 1, 0x0, 0x070805dc, 0xffffffff, 0x00000000, 0x00000000, 0x00000000, 0x00000000, (.port 0), 0⟩,
  ⟨0x61018, 48, 0x40, 1, 0x0, 0x00c80000, 0xffffffff, 0x00000000, 0x00000000, 0x00000000, 0x00000000, (.port 0), 0⟩,
  ⟨0x61020, 48, 0x40, 1, 0x0, 0x00000000, 0x00000000, 0x00000000, 0x00000000, 0x00000000, 0x00000000, (.port 0), 0⟩,
  ⟨0x61024, 48, 0x40, 1, 0x0, 0x00000000, 0x00000000, 0x000003ff, 0x00000000, 0x00000000, 0x00000000, (.port 0), 0⟩,
  ⟨0x61028, 48, 0x40, 1, 0x0, 0x00000000, 0x00000000, 0x00000000, 0x00000000, 0x00000000, 0x00000000, (.port 0), 0⟩,
  ⟨0x6102c, 48, 0x40, 1, 0x0, 0x80000000, 0x00000000, 0x00000000, 0x00000000, 0x00000000, 0x00000000, (.port 0), 0⟩,
  ⟨0x61030, 48, 0x40, 1, 0x0, 0x00000000, 0x00000000, 0x00000000, 0x00000000, 0x00000000, 0x00000000, (.port 0), 0⟩,
  ⟨0x61034, 48, 0x40, 1, 0x0, 0x00000000, 0x00000000, 0x00000000, 0x00000000, 0x00000000, 0x00000000, (.port 0), 0⟩]

/-- The register rows, part 3. -/
def regTable3 : List RegRow := [
  ⟨0x70000, 8, 0x40, 1, 0x0, 0x00000000, 0x00000000, 0x00000000, 0x00000002, 0x00000001, 0x00000000, .p0, 0⟩,
  ⟨0x70004, 8, 0x40, 1, 0x0, 0x00000000, 0x00000000, 0x00000000, 0x00000000, 0x00000000, 0xffff0000, .p0, 0⟩,
  ⟨0x70008, 8, 0x40, 1, 0x0, 0x00000000, 0x00000000, 0x00000000, 0x00000000, 0x00000000, 0x00000000, .p0, 0⟩,
  ⟨0x7000c, 8, 0x40, 1, 0x0, 0x00000000, 0x00000000, 0x00000000, 0x00000000, 0x00000000, 0xffffffff, .p0, 0⟩,
  ⟨0x70010, 8, 0x40, 5, 0x4, 0x00000000, 0xffffffff, 0x00000000, 0x00000000, 0x00000000, 0x00000000, .p0, 0⟩,
  ⟨0x70400, 48, 0x4, 1, 0x0, 0x00000000, 0x00000fff, 0x00000000, 0x00000000, 0x00000000, 0x00000000, .p0, 0⟩,
  ⟨0x70800, 1, 0x0, 1, 0x0, 0x00000064, 0x000007ff, 0x00000000, 0x00000000, 0x00000000, 0x00000000, .p0, 0⟩,
  ⟨0x70804, 1, 0x0, 1, 0x0, 0x00000000, 0x00000000, 0x00000000, 0x00000000, 0x00000000, 0x00000000, .p0, 0⟩,
  ⟨0x70808, 1, 0x0, 1, 0x0, 0x00000000, 0x00000000, 0x00000000, 0x00000000, 0x00000000, 0xffffffff, .p0, 0⟩,
  ⟨0x71000, 96, 0x10, 1, 0x0, 0x00003200, 0x0000ff7f, 0x00000000, 0x00000000, 0x00000000, 0x00000000, (.port 48), 0⟩,
  ⟨0x71004, 96, 0x10, 1, 0x0, 0x00000000, 0x00000000, 0x00000000, 0x00000000, 0x00000000, 0x00000000, (.port 48), 0⟩,
  ⟨0x71008, 96, 0x10, 1, 0x0, 0x00000000, 0x00000000, 0x0000001f, 0x00000000, 0x00000000, 0x00000000, (.port 48), 0⟩,
  ⟨0x7100c, 96, 0x10, 1, 0x0, 0x00000000, 0x00000000, 0x00000000, 0x00000000, 0x00000000, 0x00000000, (.port 48), 0⟩,
  ⟨0x80000, 4, 0x4, 1, 0x0, 0x00000000, 0x00000000, 0x00000000, 0x00000000, 0x00000000, 0x00000000, .none, 0⟩,
  ⟨0x80040, 8, 0x4, 1, 0x0, 0x00000000, 0x00000000, 0x00000000, 0x00000000, 0x00000000, 0xffffffff, .none, 0⟩,
  ⟨0x81000, 128, 0x10, 1, 0x0, 0x00000000, 0x0000ffff, 0x00000000, 0x00000000, 0x00000000, 0x00000000, (.port 144), 0⟩,
  ⟨0x81004, 128, 0x10, 1, 0x0, 0x1388040a, 0xffff0fff, 0x00000000, 0x00000000, 0x00000000, 0x00000000, (.port 144), 0⟩,
  ⟨0x81008, 128, 0x10, 1, 0x0, 0x00000000, 0x00000000, 0x00000000, 0x00000000, 0x00000000, 0x00000000, (.port 144), 0⟩,
  ⟨0x8100c, 128, 0x10, 1, 0x0, 0x00000000, 0x00000000, 0x0000001f, 0x00000000, 0x00000000, 0x00000000, (.port 144), 0⟩,
  ⟨0x91000, 8, 0x40, 1, 0x0, 0x00000000, 0x0000007f, 0x00000000, 0x00000000, 0x00000000, 0x00000000, (.port 272), 0⟩,
  ⟨0x91004, 8, 0x40, 1, 0x0, 0x07d001f4, 0xffffffff, 0x00000000, 0x00000000, 0x00000000, 0x00000000, (.port 272), 0⟩,
  ⟨0x91008, 8, 0x40, 4, 0x4, 0x00000000, 0xffffffff, 0x00000000, 0x00000000, 0x00000000, 0x00000000, (.port 272), 0⟩,
  ⟨0x91018, 8, 0x40, 1, 0x0, 0x0d6b2710, 0xffffffff, 0x00000000, 0x00000000, 0x00000000, 0x00000000, (.port 272), 0⟩,
  ⟨0x9101c, 8, 0x40, 1, 0x0, 0x00bb83c2, 0xffffffff, 0x00000000, 0x00000000, 0x00000000, 0x00000000, (.port 272), 0⟩,
  ⟨0x91020, 8, 0x40, 1, 0x0, 0x00000000, 0x00000000, 0x00000000, 0x00000000, 0x00000000, 0x00000000, (.port 272), 0⟩,
  ⟨0x91024, 8, 0x40, 1, 0x0, 0x00000000, 0x00000000, 0x00000000, 0x00000000, 0x00000000, 0x00000000, (.port 272), 0⟩,
  ⟨0x91028, 8, 0x40, 1, 0x0, 0x00000000, 0x00000000, 0x0000003f, 0x00000000, 0x00000000, 0x00000000, (.port 272), 0⟩,
  ⟨0xa0000, 1, 0x0, 1, 0x0, 0x00000402, 0x0000ff07, 0x00000000, 0x00000000, 0x00000000, 0x00000000, .p0, 0⟩,
  ⟨0xa0004, 1, 0x0, 1, 0x0, 0x00000000, 0x00000001, 0x00000000, 0x00000000, 0x00000000, 0x00000000, .fusOwner, 0⟩,
  ⟨0xa0008, 1, 0x0, 1, 0x0, 0x00000004, 0x00000000, 0x00000000, 0x00000000, 0x00000000, 0x00000000, .fusOwner, 0⟩,
  ⟨0xa0010, 1, 0x0, 1, 0x0, 0x00640032, 0x07ff07ff, 0x00000000, 0x00000000, 0x00000000, 0x00000000, .fusOwner, 0⟩,
  ⟨0xa0014, 1, 0x0, 1, 0x0, 0x00a30280, 0x0fffffff, 0x00000000, 0x00000000, 0x00000000, 0x00000000, .fusOwner, 0⟩,
  ⟨0xa0018, 1, 0x0, 1, 0x0, 0x00000000, 0xffffffff, 0x00000000, 0x00000000, 0x00000000, 0x00000000, .fusOwner, 0⟩,
  ⟨0xa001c, 1, 0x0, 1, 0x0, 0x00000000, 0x0000ffff, 0x00000000, 0x00000000, 0x00000000, 0x00000000, .fusOwner, 0⟩,
  ⟨0xa0020, 1, 0x0, 1, 0x0, 0x00140032, 0xffffffff, 0x00000000, 0x00000000, 0x00000000, 0x00000000, .fusOwner, 0⟩,
  ⟨0xa0024, 1, 0x0, 1, 0x0, 0x01f40a14, 0xffffffff, 0x00000000, 0x00000000, 0x00000000, 0x00000000, .fusOwner, 0⟩,
  ⟨0xa0028, 1, 0x0, 1, 0x0, 0x050003e8, 0xffffffff, 0x00000000, 0x00000000, 0x00000000, 0x00000000, .fusOwner, 0⟩,
  ⟨0xa0080, 8, 0x4, 1, 0x0, 0x00000000, 0x00000000, 0x00000000, 0x00000000, 0x00000000, 0xffffffff, .fusOwner, 0⟩,
  ⟨0xa0040, 2, 0x8, 1, 0x0, 0x00000000, 0xffffffff, 0x00000000, 0x00000000, 0x00000000, 0x00000000, .fusOwner, 0⟩,
  ⟨0xa0044, 2, 0x8, 1, 0x0, 0x00000001, 0xffffffff, 0x00000000, 0x00000000, 0x00000000, 0x00000000, .fusOwner, 0⟩]

/-- The register rows, part 4. -/
def regTable4 : List RegRow := [
  ⟨0xa1000, 16, 0x20, 1, 0x0, 0x0007d000, 0x03ffffff, 0x00000000, 0x00000000, 0x00000000, 0x00000000, .fusOwner, 0⟩,
  ⟨0xa1004, 16, 0x20, 1, 0x0, 0x00000000, 0xffffffff, 0x00000000, 0x00000000, 0x00000000, 0x00000000, .fusOwner, 0⟩,
  ⟨0xa1008, 16, 0x20, 1, 0x0, 0x00000000, 0xffffffff, 0x00000000, 0x00000000, 0x00000000, 0x00000000, .fusOwner, 0⟩,
  ⟨0xa100c, 16, 0x20, 1, 0x0, 0x00004014, 0x0000ffff, 0x00000000, 0x00000000, 0x00000000, 0x00000000, .fusOwner, 0⟩,
  ⟨0xa1010, 16, 0x20, 1, 0x0, 0x00000000, 0x00000000, 0x00000000, 0x00000000, 0x00000000, 0x00000000, .fusOwner, 0⟩,
  ⟨0xa2000, 4, 0x10, 1, 0x0, 0x86530480, 0xffffffff, 0x00000000, 0x00000000, 0x00000000, 0x00000000, .fusOwner, 0⟩,
  ⟨0xa2004, 4, 0x10, 1, 0x0, 0x00001405, 0x00ffffff, 0x00000000, 0x00000000, 0x00000000, 0x00000000, .fusOwner, 0⟩,
  ⟨0xa2008, 4, 0x10, 1, 0x0, 0x00640064, 0xffffffff, 0x00000000, 0x00000000, 0x00000000, 0x00000000, .fusOwner, 0⟩,
  ⟨0xb0000, 2, 0x10, 1, 0x0, 0x00000000, 0x00000003, 0x00000000, 0x00000000, 0x00000000, 0x00000000, (.port 324), 0⟩,
  ⟨0xb0004, 2, 0x10, 1, 0x0, 0x00000000, 0x00000000, 0x00000000, 0x00000000, 0x00000000, 0x00000000, (.port 324), 0⟩,
  ⟨0xb0020, 1, 0x0, 1, 0x0, 0x0000000a, 0x0000003f, 0x00000000, 0x00000000, 0x00000000, 0x00000000, .p0, 0⟩,
  ⟨0xb0024, 1, 0x0, 1, 0x0, 0x00000000, 0x00001fff, 0x00000000, 0x00000000, 0x00000000, 0x00000000, .p0, 0⟩,
  ⟨0xb0028, 1, 0x0, 1, 0x0, 0x006407d0, 0xffffffff, 0x00000000, 0x00000000, 0x00000000, 0x00000000, .p0, 0⟩,
  ⟨0xb002c, 1, 0x0, 1, 0x0, 0xffff0000, 0x00000000, 0x00000000, 0x00000000, 0x00000000, 0x00000000, .p0, 0⟩,
  ⟨0xb0030, 1, 0x0, 1, 0x0, 0x00000190, 0xffffffff, 0x00000000, 0x00000000, 0x00000000, 0x00000000, .p0, 0⟩,
  ⟨0xb0034, 1, 0x0, 1, 0x0, 0x00000000, 0x00000000, 0x00000000, 0x00000000, 0x00000000, 0x00000000, .p0, 0⟩,
  ⟨0xb0040, 4, 0x4, 1, 0x0, 0x00000000, 0x00000000, 0x00000000, 0x00000000, 0x00000000, 0xffffffff, .p0, 0⟩,
  ⟨0xb1000, 128, 0x4, 1, 0x0, 0x00000000, 0x00000000, 0x00000000, 0x00000000, 0x00000000, 0x00000000, .p0, 0⟩,
  ⟨0xc0000, 1, 0x0, 1, 0x0, 0x00000000, 0x0000ffff, 0x00000000, 0x00000000, 0x00000000, 0x00000000, .p0, 0⟩,
  ⟨0xc1000, 16, 0x100, 1, 0x0, 0x00000840, 0x0003fffd, 0x00000000, 0x00000000, 0x00000002, 0x00000000, (.port 280), 0⟩,
  ⟨0xc1004, 16, 0x100, 1, 0x0, 0x01327141, 0x07ffffff, 0x00000000, 0x00000000, 0x00000000, 0x00000000, (.port 280), 0⟩,
  ⟨0xc1008, 16, 0x100, 1, 0x0, 0x007a6780, 0x01ffffff, 0x00000000, 0x00000000, 0x00000000, 0x00000000, (.port 280), 0⟩,
  ⟨0xc100c, 16, 0x100, 1, 0x0, 0x00000000, 0x00000000, 0x00000000, 0x00000000, 0x00000000, 0x00000000, (.port 280), 0⟩,
  ⟨0xc1010, 16, 0x100, 1, 0x0, 0x00000000, 0x00000000, 0x00000000, 0x00000000, 0x00000000, 0x00000000, (.port 280), 0⟩,
  ⟨0xc1014, 16, 0x100, 1, 0x0, 0x00000000, 0x00000000, 0x00000000, 0x00000000, 0x00000000, 0xffffffff, (.port 280), 0⟩,
  ⟨0xc1020, 16, 0x100, 4, 0x4, 0x00000000, 0x00000000, 0x00000000, 0x00000000, 0x00000000, 0xffffffff, (.port 280), 0⟩,
  ⟨0xc1030, 16, 0x100, 1, 0x0, 0x00000000, 0xffffffff, 0x00000000, 0x00000000, 0x00000000, 0x00000000, (.port 280), 1⟩,
  ⟨0xc1034, 16, 0x100, 1, 0x0, 0x00000000, 0xffffffff, 0x00000000, 0x00000000, 0x00000000, 0x00000000, (.port 280), 2⟩,
  ⟨0xc1040, 16, 0x100, 1, 0x0, 0x00000000, 0xffffffff, 0x00000000, 0x00000000, 0x00000000, 0x00000000, (.port 280), 0⟩,
  ⟨0xc1044, 16, 0x100, 1, 0x0, 0x00000000, 0xffffffff, 0x00000000, 0x00000000, 0x00000000, 0x00000000, (.port 280), 0⟩,
  ⟨0xc1050, 16, 0x100, 1, 0x0, 0x00000000, 0xffffffff, 0x00000000, 0x00000000, 0x00000000, 0x00000000, (.port 280), 1⟩,
  ⟨0xc1054, 16, 0x100, 1, 0x0, 0x00000000, 0xffffffff, 0x00000000, 0x00000000, 0x00000000, 0x00000000, (.port 280), 2⟩,
  ⟨0xc1058, 16, 0x100, 1, 0x0, 0xfef78080, 0x00ffffff, 0x00000000, 0x00000000, 0x00000000, 0x00000000, (.port 280), 0⟩,
  ⟨0xc105c, 16, 0x100, 1, 0x0, 0x00000000, 0x0000ff03, 0x00000000, 0x00000000, 0x00000000, 0x00000000, (.port 280), 0⟩,
  ⟨0xc3000, 2, 0x100, 1, 0x0, 0x00009600, 0x003fffff, 0x00000000, 0x00000000, 0x00000000, 0x00000000, (.port 510), 0⟩,
  ⟨0xc3004, 2, 0x100, 1, 0x0, 0x00000000, 0x00000000, 0x00000100, 0x00000000, 0x00000000, 0x00000000, (.port 510), 0⟩,
  ⟨0xc3010, 2, 0x100, 3, 0x4, 0x00000000, 0x00000000, 0x00000000, 0x00000000, 0x00000000, 0xffffffff, (.port 510), 0⟩,
  ⟨0xc8000, 16, 0x800, 128, 0x10, 0x00000000, 0x0000000f, 0x00000000, 0x00000000, 0x00000000, 0x00000000, (.port 280), 0⟩,
  ⟨0xc8004, 16, 0x800, 128, 0x10, 0x00000000, 0x3fffffff, 0x00000000, 0x00000000, 0x00000000, 0x00000000, (.port 280), 0⟩,
  ⟨0xc8008, 16, 0x800, 128, 0x10, 0x00000000, 0x3fffffff, 0x00000000, 0x00000000, 0x00000000, 0x00000000, (.port 280), 0⟩]

/-- The register rows, part 5. -/
def regTable5 : List RegRow := [
  ⟨0xd0000, 1, 0x0, 1, 0x0, 0x000df8f6, 0x000fffff, 0x00000000, 0x00000000, 0x00000000, 0x00000000, .p0, 0⟩,
  ⟨0xd0100, 1, 0x0, 1, 0x0, 0x00003e8b, 0x0003ffff, 0x00000000, 0x00000000, 0x00000000, 0x00000000, .p0, 0⟩,
  ⟨0xd0104, 1, 0x0, 1, 0x0, 0x00000000, 0x00000001, 0x00000000, 0x00000000, 0x00000000, 0x00000000, .swarmOwner, 0⟩,
  ⟨0xd0108, 1, 0x0, 1, 0x0, 0x00000000, 0xffffffff, 0x00000000, 0x00000000, 0x00000000, 0x00000000, .swarmOwner, 0⟩,
  ⟨0xd010c, 1, 0x0, 1, 0x0, 0x00000000, 0x00000000, 0x00000000, 0x00000000, 0x00000000, 0x00ff0000, (.port 312), 0⟩,
  ⟨0xd0110, 1, 0x0, 1, 0x0, 0x00000000, 0x00000000, 0x00000000, 0x00000000, 0x00000000, 0x00000000, (.port 312), 1⟩,
  ⟨0xd0114, 1, 0x0, 1, 0x0, 0x00000000, 0x00000000, 0x00000000, 0x00000000, 0x00000000, 0x00000000, (.port 312), 2⟩,
  ⟨0xd1000, 12, 0x40, 1, 0x0, 0x00000000, 0x00000fff, 0x00000000, 0x00000000, 0x00000000, 0x00000000, (.port 312), 0⟩,
  ⟨0xd1004, 12, 0x40, 1, 0x0, 0x00000000, 0x00000000, 0x00000000, 0x00000000, 0x00000000, 0x00000000, (.port 312), 0⟩,
  ⟨0xd1008, 12, 0x40, 1, 0x0, 0x00000000, 0xffffffff, 0x00000000, 0x00000000, 0x00000000, 0x00000000, (.port 312), 1⟩,
  ⟨0xd100c, 12, 0x40, 1, 0x0, 0x00000000, 0xffffffff, 0x00000000, 0x00000000, 0x00000000, 0x00000000, (.port 312), 2⟩,
  ⟨0xd1010, 12, 0x40, 1, 0x0, 0x00fac688, 0x00ffffff, 0x00000000, 0x00000000, 0x00000000, 0x00000000, (.port 312), 0⟩,
  ⟨0xd1020, 12, 0x40, 8, 0x4, 0x00000000, 0x0000ffff, 0x00000000, 0x00000000, 0x00000000, 0x00000000, (.port 312), 0⟩,
  ⟨0xd1030, 12, 0x40, 4, 0x4, 0x00000000, 0x00000000, 0x00000000, 0x00000000, 0x00000000, 0xffffffff, (.port 312), 0⟩,
  ⟨0xe0000, 1, 0x0, 1, 0x0, 0x00000001, 0x00000000, 0x00000000, 0x00000000, 0x00000000, 0x00000000, .p0, 0⟩,
  ⟨0xe0010, 1, 0x0, 1, 0x0, 0x0000003c, 0x00003fff, 0x00000000, 0x00000000, 0x00000000, 0x00000000, .p0, 0⟩,
  ⟨0xe0014, 1, 0x0, 1, 0x0, 0x00000000, 0x00000000, 0x00000000, 0x00000000, 0x00000000, 0x00000000, .p0, 0⟩,
  ⟨0xe0040, 16, 0x4, 1, 0x0, 0x00000000, 0x00000000, 0x00000000, 0x00000000, 0x00000000, 0xffffffff, .p0, 0⟩,
  ⟨0xe0080, 3, 0x4, 1, 0x0, 0x00000000, 0x00000000, 0x00000000, 0x00000000, 0x00000000, 0xffffffff, .p0, 0⟩,
  ⟨0xe0100, 2, 0x10, 1, 0x0, 0x00000000, 0x00000000, 0x00000000, 0x00000000, 0x00000000, 0x00000000, .p0, 1⟩,
  ⟨0xe0104, 2, 0x10, 1, 0x0, 0x00000000, 0x00000000, 0x00000000, 0x00000000, 0x00000000, 0x00000000, .p0, 2⟩,
  ⟨0xe0108, 2, 0x10, 1, 0x0, 0x00000000, 0x00000000, 0x80000000, 0x00000000, 0x00000000, 0x00000000, .p0, 0⟩,
  ⟨0xe0200, 1, 0x0, 1, 0x0, 0x00000000, 0xffffffff, 0x00000000, 0x00000000, 0x00000000, 0x00000000, .p0, 1⟩,
  ⟨0xe0204, 1, 0x0, 1, 0x0, 0x00000000, 0xffffffff, 0x00000000, 0x00000000, 0x00000000, 0x00000000, .p0, 2⟩,
  ⟨0xe0208, 1, 0x0, 1, 0x0, 0x00000000, 0xffffffff, 0x00000000, 0x00000000, 0x00000000, 0x00000000, .p0, 1⟩,
  ⟨0xe020c, 1, 0x0, 1, 0x0, 0x00000000, 0xffffffff, 0x00000000, 0x00000000, 0x00000000, 0x00000000, .p0, 2⟩,
  ⟨0xe0210, 1, 0x0, 1, 0x0, 0x00000000, 0xffffffff, 0x00000000, 0x00000000, 0x00000000, 0x00000000, .p0, 1⟩,
  ⟨0xe0214, 1, 0x0, 1, 0x0, 0x00000000, 0xffffffff, 0x00000000, 0x00000000, 0x00000000, 0x00000000, .p0, 2⟩,
  ⟨0xe0218, 1, 0x0, 1, 0x0, 0x00000000, 0x000000ff, 0x00000000, 0x00000000, 0x00000000, 0x00000000, .p0, 0⟩,
  ⟨0xe0220, 1, 0x0, 1, 0x0, 0x00000000, 0x00000000, 0x00000000, 0x00000000, 0x00000000, 0x00000000, .p0, 1⟩,
  ⟨0xe0224, 1, 0x0, 1, 0x0, 0x00000000, 0x00000000, 0x00000000, 0x00000000, 0x00000000, 0x00000000, .p0, 2⟩,
  ⟨0xe0228, 1, 0x0, 1, 0x0, 0x00000000, 0x00000000, 0x00000000, 0x00000000, 0x00000003, 0x00000000, .p0, 0⟩,
  ⟨0xe022c, 1, 0x0, 1, 0x0, 0x00000000, 0x00000000, 0x00000000, 0x00000000, 0x00000000, 0x00000000, .p0, 0⟩,
  ⟨0xf0000, 1, 0x0, 1, 0x0, 0x00408000, 0x00000000, 0x00000000, 0x00000000, 0x00000000, 0x00000000, .p0, 0⟩,
  ⟨0xf0004, 1, 0x0, 1, 0x0, 0x00000f60, 0x00000000, 0x00000000, 0x00000000, 0x00000000, 0x00000000, .p0, 0⟩,
  ⟨0xf0008, 1, 0x0, 1, 0x0, 0x00000000, 0x00000000, 0x00000000, 0x00000000, 0x00000000, 0x00000000, .p0, 0⟩,
  ⟨0xf1000, 16, 0x10, 1, 0x0, 0x00000000, 0x00000079, 0x00000000, 0x00000000, 0x00000002, 0x00000000, .p0, 0⟩,
  ⟨0xf1004, 16, 0x10, 1, 0x0, 0x00000000, 0xffffffff, 0x00000000, 0x00000000, 0x00000000, 0x00000000, .p0, 0⟩,
  ⟨0xf1008, 16, 0x10, 1, 0x0, 0x00000000, 0x00000000, 0x00000000, 0x00000000, 0x00000000, 0x00000000, .p0, 0⟩,
  ⟨0xf2000, 128, 0x4, 1, 0x0, 0x00000000, 0x00000000, 0x00000000, 0x00000000, 0x00000000, 0x00000000, .p0, 0⟩]

/-- The register rows, part 6. -/
def regTable6 : List RegRow := [
  ⟨0x100000, 1, 0x0, 1, 0x0, 0x00000000, 0x00000000, 0x00000000, 0x00000000, 0x00000000, 0x00000000, .p0, 0⟩,
  ⟨0x100008, 1, 0x0, 1, 0x0, 0x00000000, 0x00000000, 0x00000000, 0x00000000, 0x00000000, 0x00000000, .p0, 1⟩,
  ⟨0x10000c, 1, 0x0, 1, 0x0, 0x00000000, 0x00000000, 0x00000000, 0x00000000, 0x00000000, 0x00000000, .p0, 2⟩,
  ⟨0x100040, 8, 0x4, 1, 0x0, 0x00000040, 0x0000ffff, 0x00000000, 0x00000000, 0x00000000, 0x00000000, .p0, 0⟩,
  ⟨0x100080, 4, 0x4, 1, 0x0, 0x00000000, 0x00000000, 0x00000000, 0x00000000, 0x00000000, 0xffffffff, .p0, 0⟩,
  ⟨0x110000, 1, 0x0, 1, 0x0, 0x96000a03, 0x00000000, 0x00000000, 0x00000000, 0x00000000, 0x00000000, .p0, 0⟩,
  ⟨0x110010, 8, 0x4, 1, 0x0, 0x00000000, 0x00000000, 0x00000000, 0x00000000, 0x00000000, 0x00000000, .p0, 0⟩,
  ⟨0x110040, 5, 0x4, 1, 0x0, 0x00000000, 0x00000000, 0x00000000, 0x00000000, 0x00000000, 0x00000000, .p0, 0⟩,
  ⟨0x110080, 1, 0x0, 1, 0x0, 0x00000000, 0x00000000, 0x00000000, 0x00000000, 0x00000000, 0x00000000, .p0, 0⟩,
  ⟨0x110084, 1, 0x0, 1, 0x0, 0x00000000, 0x00000000, 0x00000000, 0x00000000, 0x00000000, 0x00000000, .p0, 0⟩,
  ⟨0x110088, 1, 0x0, 1, 0x0, 0x00000000, 0x00000000, 0x00000000, 0x00000000, 0x00000000, 0x00000000, .p0, 0⟩,
  ⟨0x11008c, 1, 0x0, 1, 0x0, 0x0000012c, 0x00000fff, 0x00000000, 0x00000000, 0x00000000, 0x00000000, .p0, 0⟩,
  ⟨0x110090, 1, 0x0, 1, 0x0, 0x00000000, 0x00001fff, 0x00000000, 0x00000000, 0x00000000, 0x00000000, .p0, 0⟩,
  ⟨0x1100a0, 1, 0x0, 1, 0x0, 0x00000000, 0x00000000, 0x00000000, 0x00000000, 0x00000000, 0x00000000, .p0, 1⟩,
  ⟨0x1100a4, 1, 0x0, 1, 0x0, 0x00000000, 0x00000000, 0x00000000, 0x00000000, 0x00000000, 0x00000000, .p0, 2⟩,
  ⟨0x110100, 32, 0x4, 1, 0x0, 0x00000000, 0x00000000, 0x00000000, 0x00000000, 0x00000000, 0x00000000, .p0, 0⟩,
  ⟨0x110200, 8, 0x4, 1, 0x0, 0x00000000, 0x00000000, 0x00000000, 0x00000000, 0x00000000, 0x00000000, .p0, 0⟩,
  ⟨0x110300, 4, 0x4, 1, 0x0, 0x00000000, 0x00000000, 0x00000000, 0x00000000, 0x00000000, 0x00000000, .p0, 0⟩,
  ⟨0x110310, 1, 0x0, 1, 0x0, 0x00000000, 0x00000000, 0x00000000, 0x00000000, 0x00000003, 0x00000000, .p0, 0⟩,
  ⟨0x110314, 1, 0x0, 1, 0x0, 0x00000000, 0x00000000, 0x00000000, 0x00000000, 0x00000000, 0x00000000, .p0, 0⟩,
  ⟨0x110400, 4, 0x4, 1, 0x0, 0x00000000, 0x00000000, 0x00000000, 0x00000000, 0x00000000, 0xffffffff, .p0, 0⟩,
  ⟨0x120000, 1, 0x0, 1, 0x0, 0x00000000, 0x00000000, 0x00000008, 0x00000000, 0x00000000, 0x00000000, .p0, 0⟩,
  ⟨0x120004, 1, 0x0, 1, 0x0, 0x00000000, 0x00000000, 0x00000000, 0x00000000, 0x00000000, 0x00000000, .p0, 0⟩,
  ⟨0x120008, 1, 0x0, 1, 0x0, 0x00000000, 0x00000000, 0x00000000, 0x00000000, 0x00000000, 0x00000000, .p0, 0⟩,
  ⟨0x12000c, 1, 0x0, 1, 0x0, 0x00000014, 0x000000ff, 0x00000000, 0x00000000, 0x00000000, 0x00000000, .p0, 0⟩,
  ⟨0x120010, 1, 0x0, 1, 0x0, 0x00000000, 0x00000000, 0x00000000, 0x00000000, 0x0000ffff, 0x00000000, .p0, 0⟩,
  ⟨0x120014, 1, 0x0, 1, 0x0, 0x00000000, 0x00000000, 0x00000000, 0x00000000, 0x00000001, 0x00000000, .p0, 0⟩,
  ⟨0x120018, 1, 0x0, 1, 0x0, 0x00000708, 0x0000ffff, 0x00000000, 0x00000000, 0x00000000, 0x00000000, .p0, 0⟩,
  ⟨0x120020, 1, 0x0, 1, 0x0, 0x00000001, 0x0000003f, 0x00000000, 0x00000000, 0x00000000, 0x00000000, .p0, 0⟩,
  ⟨0x120024, 2, 0x4, 1, 0x0, 0x000000f0, 0x000003ff, 0x00000000, 0x00000000, 0x00000000, 0x00000000, .p0, 0⟩,
  ⟨0x120030, 1, 0x0, 1, 0x0, 0x00000000, 0xffffffff, 0x00000000, 0x00000000, 0x00000000, 0x00000000, .p0, 0⟩,
  ⟨0x120034, 1, 0x0, 1, 0x0, 0x00000000, 0x00000000, 0x00000000, 0x00000000, 0x00000000, 0x00000000, .p0, 0⟩,
  ⟨0x120038, 1, 0x0, 1, 0x0, 0x00000000, 0x00000000, 0x00000000, 0x00000000, 0x00000000, 0x00000000, .p0, 0⟩,
  ⟨0x120040, 8, 0x4, 1, 0x0, 0x00000000, 0x00000000, 0x0000000c, 0x00000000, 0x00000000, 0x00000000, .p0, 0⟩,
  ⟨0x130000, 1, 0x0, 1, 0x0, 0x000258fe, 0x000fffff, 0x00000000, 0x00000000, 0x00000000, 0x00000000, .p0, 0⟩,
  ⟨0x130004, 1, 0x0, 1, 0x0, 0x00000000, 0x00000000, 0x00000008, 0x00000000, 0x00000000, 0x00000000, .p0, 0⟩,
  ⟨0x130008, 1, 0x0, 1, 0x0, 0x00000000, 0x00000000, 0x00000000, 0x00000000, 0x00000000, 0x00000000, .p0, 0⟩,
  ⟨0x130010, 7, 0x4, 1, 0x0, 0x00000000, 0x00000000, 0x00000000, 0x00000000, 0x00000000, 0x00000000, .p0, 0⟩,
  ⟨0x130040, 8, 0x4, 1, 0x0, 0x00000000, 0x00000000, 0x00000000, 0x00000000, 0x00000000, 0x00000000, .p0, 0⟩,
  ⟨0x130080, 7, 0x4, 1, 0x0, 0x00000000, 0x00000000, 0x00000000, 0x00000000, 0x00000000, 0xffffffff, .p0, 0⟩]

/-- The register rows, part 7. -/
def regTable7 : List RegRow := [
  ⟨0x1300c0, 1, 0x0, 1, 0x0, 0x00000000, 0x00000000, 0x00000000, 0x00000000, 0x00000001, 0x00000000, .p0, 0⟩,
  ⟨0x120060, 1, 0x0, 1, 0x0, 0x00000000, 0x00000000, 0x0f000000, 0x00000000, 0x00000000, 0x00000000, .p0, 0⟩]

/-- Every register row of the map (R902). -/
def regTable : List RegRow := regTable0 ++ regTable1 ++ regTable2 ++ regTable3 ++ regTable4 ++ regTable5 ++ regTable6 ++ regTable7

/-- The registers whose field tables give a reset value other than 0: address, counts and strides, value. -/
def resetRows : List (Nat × Nat × Nat × Nat × Nat × Nat) := [
  (0x00020, 1, 0x0, 1, 0x0, 0x000003e8),
  (0x01004, 16, 0x40, 1, 0x0, 0x00000001),
  (0x01008, 16, 0x40, 1, 0x0, 0x0007a120),
  (0x0100c, 16, 0x40, 1, 0x0, 0x00000a00),
  (0x23000, 1, 0x0, 1, 0x0, 0x00050000),
  (0x24104, 3, 0x10, 1, 0x0, 0x00000002),
  (0x31000, 16, 0x40, 1, 0x0, 0x00000082),
  (0x31004, 16, 0x40, 1, 0x0, 0x04380780),
  (0x31008, 16, 0x40, 1, 0x0, 0x00000014),
  (0x3100c, 16, 0x40, 1, 0x0, 0x4e202710),
  (0x41000, 48, 0x8, 1, 0x0, 0x03e80000),
  (0x41004, 48, 0x8, 1, 0x0, 0x00001432),
  (0x41600, 40, 0x4, 1, 0x0, 0x00000500),
  (0x41700, 16, 0x4, 1, 0x0, 0x00000c0c),
  (0x43000, 1, 0x0, 1, 0x0, 0x00100000),
  (0x43028, 1, 0x0, 1, 0x0, 0x00641000),
  (0x4302c, 1, 0x0, 1, 0x0, 0x000f4240),
  (0x43030, 1, 0x0, 1, 0x0, 0x00000008),
  (0x43038, 1, 0x0, 1, 0x0, 0x00001000),
  (0x60000, 1, 0x0, 1, 0x0, 0x01900000),
  (0x60004, 1, 0x0, 1, 0x0, 0x00001000),
  (0x61000, 48, 0x40, 1, 0x0, 0x00000028),
  (0x61004, 48, 0x40, 1, 0x0, 0x000003e8),
  (0x6100c, 48, 0x40, 1, 0x0, 0x00002710),
  (0x61010, 48, 0x40, 1, 0x0, 0x025801f4),
  (0x61014, 48, 0x40, 1, 0x0, 0x070805dc),
  (0x61018, 48, 0x40, 1, 0x0, 0x00c80000),
  (0x6102c, 48, 0x40, 1, 0x0, 0x80000000),
  (0x70800, 1, 0x0, 1, 0x0, 0x00000064),
  (0x71000, 96, 0x10, 1, 0x0, 0x00003200),
  (0x81004, 128, 0x10, 1, 0x0, 0x1388040a),
  (0x91004, 8, 0x40, 1, 0x0, 0x07d001f4),
  (0x91018, 8, 0x40, 1, 0x0, 0x0d6b2710),
  (0x9101c, 8, 0x40, 1, 0x0, 0x00bb83c2),
  (0xa0000, 1, 0x0, 1, 0x0, 0x00000402),
  (0xa0008, 1, 0x0, 1, 0x0, 0x00000004),
  (0xa0010, 1, 0x0, 1, 0x0, 0x00640032),
  (0xa0014, 1, 0x0, 1, 0x0, 0x00a30280),
  (0xa0020, 1, 0x0, 1, 0x0, 0x00140032),
  (0xa0024, 1, 0x0, 1, 0x0, 0x01f40a14),
  (0xa0028, 1, 0x0, 1, 0x0, 0x050003e8),
  (0xa0044, 2, 0x8, 1, 0x0, 0x00000001),
  (0xa1000, 16, 0x20, 1, 0x0, 0x0007d000),
  (0xa100c, 16, 0x20, 1, 0x0, 0x00004014),
  (0xa2000, 4, 0x10, 1, 0x0, 0x86530480),
  (0xa2004, 4, 0x10, 1, 0x0, 0x00001405),
  (0xa2008, 4, 0x10, 1, 0x0, 0x00640064),
  (0xb0020, 1, 0x0, 1, 0x0, 0x0000000a),
  (0xb0028, 1, 0x0, 1, 0x0, 0x006407d0),
  (0xb002c, 1, 0x0, 1, 0x0, 0xffff0000),
  (0xb0030, 1, 0x0, 1, 0x0, 0x00000190),
  (0xc1000, 16, 0x100, 1, 0x0, 0x00000840),
  (0xc1004, 16, 0x100, 1, 0x0, 0x01327141),
  (0xc1008, 16, 0x100, 1, 0x0, 0x007a6780),
  (0xc1058, 16, 0x100, 1, 0x0, 0xfef78080),
  (0xc3000, 2, 0x100, 1, 0x0, 0x00009600),
  (0xd0000, 1, 0x0, 1, 0x0, 0x000df8f6),
  (0xd0100, 1, 0x0, 1, 0x0, 0x00003e8b),
  (0xd1010, 12, 0x40, 1, 0x0, 0x00fac688),
  (0xe0000, 1, 0x0, 1, 0x0, 0x00000001),
  (0xe0010, 1, 0x0, 1, 0x0, 0x0000003c),
  (0xf0000, 1, 0x0, 1, 0x0, 0x00408000),
  (0xf0004, 1, 0x0, 1, 0x0, 0x00000f60),
  (0x100040, 8, 0x4, 1, 0x0, 0x00000040),
  (0x110000, 1, 0x0, 1, 0x0, 0x96000a03),
  (0x11008c, 1, 0x0, 1, 0x0, 0x0000012c),
  (0x12000c, 1, 0x0, 1, 0x0, 0x00000014),
  (0x120018, 1, 0x0, 1, 0x0, 0x00000708),
  (0x120020, 1, 0x0, 1, 0x0, 0x00000001),
  (0x120024, 2, 0x4, 1, 0x0, 0x000000f0),
  (0x130000, 1, 0x0, 1, 0x0, 0x000258fe)]

/-- Whether an address is one of the registers of a row. -/
def inRow (a addr n1 st1 n2 st2 : Nat) : Bool :=
  decide (addr ≤ a) && (let d := a - addr
    if st1 = 0 then d == 0
    else decide (d / st1 < n1) && (if st2 = 0 then d % st1 == 0
      else decide (d % st1 % st2 = 0) && decide (d % st1 / st2 < n2)))

/-- The reset value of the register at an address, as its field table gives it (R903). Two registers differ from
instance to instance: PRP_SP_WIN holds its window number and CAN_CTRL.AGENT is 1 for CAN00 and CAN01. -/
def regReset (a : Nat) : BitVec 32 :=
  if 0x24000 ≤ a ∧ a < 0x24060 then BitVec.ofNat 32 ((a - 0x24000) / 4 % 8)
  else
    let v := match resetRows.find? (fun (b, n1, s1, n2, s2, _) => inRow a b n1 s1 n2 s2) with
      | some (_, _, _, _, _, r) => r
      | none => 0
    BitVec.ofNat 32 (if a = 0xc1000 ∨ a = 0xc1100 then v + 2 ^ 9 else v)

/-- The row of the register at an address, if a register lies there. -/
def regRow? (a : Nat) : Option RegRow := regTable.find? (fun r => inRow a r.addr r.n1 r.st1 r.n2 r.st2)

/-- The row number of an address within its register: i for a register with one stride. -/
def RegRow.row (r : RegRow) (a : Nat) : Nat := if r.st1 = 0 then 0 else (a - r.addr) / r.st1

end Sys2Proof.Machine
end

