-- ==== Sys2Proof/Machine/Hw.lean ====
section
/-!
DEFINITION. The whole state of the module apart from the queue of waiting commands: the register file, memory, and
the blocks.
-/
namespace Sys2Proof.Machine

/-- An occurrence of a diagnostic event not yet recorded: type, the thing it concerns (0xFFFF for the module as a
whole, R905), and whether its logging is limited to once per second for that thing (R904). -/
structure DiagOcc where
  ty : Nat
  inst : Nat
  limited : Bool
  deriving DecidableEq, Repr

/-- How a stored 64-bit word departs from the code word of its data: flipped data bits, flipped check bits, and whether
it is poisoned (R700). -/
structure EccDev where
  dflip : Nat
  cflip : Nat
  poison : Bool
  deriving DecidableEq, Repr

/-- A directory entry of a line of main memory: the clusters that hold it, the one that owns it, whether that has modified it, and
the order of its last grant (R717). -/
structure DLine where
  sh : List Nat
  own : Option Nat
  dirty : Bool
  seq : Nat
  deriving DecidableEq, Repr

/-- A scrubber's pass: the next word and when the pass began (R708, R712). -/
structure Scrub where
  next : Nat := 0
  since : Nat := 0
  deriving DecidableEq, Repr

/-- The module. `rf` holds every register written since reset under its address (page × 0x1_0000 + offset), an absent
address holding its reset value (R903); `shadow` and `pendLo` hold the per-hart halves of R900 and R901 under
hart × 2^24 + address; `rdata` and `rfault` hold, for each hart, the value its last access returned and whether that access
raised an access fault (R192, R693); `ecc` and `eccAt` hold, by 64-bit word number, stored errors and the time a
corrected word was last written back (R704); `dir` holds the
lines of main memory that L2 caches hold, by line number, and `scrubs` the scrubbers' passes by block × 64 + instance; `irqs` counts the interrupts raised on each hart (R167). -/
structure Hw where
  rf : Map (BitVec 32) := []
  shadow : Map (BitVec 32 × Nat) := []
  pendLo : Map (BitVec 32) := []
  mem : List Host.Cell := []
  ecc : Map EccDev := []
  eccAt : Map Nat := []
  dir : Map DLine := []
  dirSeq : Nat := 0
  scrubs : Map Scrub := []
  rdata : Map Nat := []
  rfault : Map Bool := []
  irqs : Map Nat := []
  diag : List DiagOcc := []
  freeCtr : Nat := 0
  rng : Rng := {}
  wgl : Wgl := {}
  prp : Prp := {}
  img : Img := {}
  bufs : Map BufQ := []
  sfe : Sfe := {}
  yld : Yld := {}
  ctl : Ctl := {}
  til : Til := {}
  vlv : Vlv := {}
  dios : Map Dio := []
  fans : Map Fan := []
  fus : Fus := {}
  gns : Gns := {}
  can : Can := {}
  eth : Eth := {}
  sto : Sto := {}
  evr : Evr := {}
  grd : Grd := {}
  smk : Smk := {}
  pwr : Pwr := {}
  deriving DecidableEq, Repr

end Sys2Proof.Machine
end

