-- ==== Sys2Proof/Machine/Ops.lean ====
section
/-!
DEFINITION. The named operations every chapter uses: register fields, memory, ownership, the passing of time, fresh open values,
diagnostic occurrences, completions and interrupts. Readings: log entries 1 and 35.
-/
namespace Sys2Proof.Machine

/-! ## Register fields -/

/-- The address of a field's register for row i and column j. -/
def Fld.at (f : Fld) (i j : Nat) : Nat := f.addr + i * f.st1 + j * f.st2

/-- The register at an address: what was last stored there, or its reset value (R903). -/
def Hw.reg (h : Hw) (a : Nat) : BitVec 32 := (mget h.rf a).getD (regReset a)

/-- Stores a whole register. -/
def Hw.setReg (h : Hw) (a : Nat) (v : BitVec 32) : Hw := { h with rf := mset h.rf a v }

/-- The bits a field occupies. -/
def Fld.mask (f : Fld) : BitVec 32 := (BitVec.allOnes f.w).setWidth 32 <<< f.lo

/-- The value of a register field. -/
def Hw.get (h : Hw) (f : Fld) (i : Nat := 0) (j : Nat := 0) : Nat :=
  ((h.reg (f.at i j)).extractLsb' f.lo f.w).toNat

/-- Sets a register field, keeping the register's other bits (R897). -/
def Hw.put (h : Hw) (f : Fld) (v : Nat) (i : Nat := 0) (j : Nat := 0) : Hw :=
  h.setReg (f.at i j)
    ((h.reg (f.at i j) &&& ~~~ f.mask) ||| ((BitVec.ofNat f.w v).setWidth 32 <<< f.lo))

/-- Whether a one-bit field is set. -/
def Hw.flag (h : Hw) (f : Fld) (i : Nat := 0) (j : Nat := 0) : Bool := h.get f i j != 0

/-- A field read as a signed number. -/
def Hw.getS (h : Hw) (f : Fld) (i : Nat := 0) (j : Nat := 0) : Int := sx f.w (h.get f i j)

/-- Sets a field to a signed number. -/
def Hw.putS (h : Hw) (f : Fld) (v : Int) (i : Nat := 0) (j : Nat := 0) : Hw := h.put f (ux f.w v) i j

/-- Adds to a counter that saturates at its field's width. -/
def Hw.bump (h : Hw) (f : Fld) (i : Nat := 0) (j : Nat := 0) (by_ : Nat := 1) : Hw :=
  h.put f (satN f.w (h.get f i j + by_)) i j

/-- The 64-bit value of a register pair, named by its low field. -/
def Hw.get64 (h : Hw) (lo : Fld) (i : Nat := 0) : Nat :=
  (h.reg (lo.at i 0)).toNat + 2 ^ 32 * (h.reg (lo.at i 0 + 4)).toNat

/-- Sets the 64-bit value of a register pair, named by its low field. -/
def Hw.put64 (h : Hw) (lo : Fld) (v : Nat) (i : Nat := 0) : Hw :=
  (h.setReg (lo.at i 0) (BitVec.ofNat 32 v)).setReg (lo.at i 0 + 4) (BitVec.ofNat 32 (v / 2 ^ 32))

/-! ## Memory (R3, R706) -/

/-- The byte at an address; a byte nothing has written since the fill reads 0 (R706). -/
def memGet : List Host.Cell → Nat → Byte
  | [], _ => 0
  | (k, v) :: m, a => if k = a then v else memGet m a

/-- Stores a byte, keeping the addresses rising and listing no byte that is 0. -/
def memSet : List Host.Cell → Nat → Byte → List Host.Cell
  | [], a, x => if x = 0 then [] else [(a, x)]
  | (k, v) :: m, a, x =>
    if a < k then (if x = 0 then (k, v) :: m else (a, x) :: (k, v) :: m)
    else if a = k then (if x = 0 then m else (a, x) :: m)
    else (k, v) :: memSet m a x

/-- The addresses listed rise strictly. -/
def memSorted : List Host.Cell → Bool
  | [] => true
  | [_] => true
  | (k, _) :: (k', v') :: m => decide (k < k') && memSorted ((k', v') :: m)

/-- The canonical form of memory: addresses strictly rising, and no listed byte 0. -/
def Memory.wf (m : List Host.Cell) : Bool := memSorted m && m.all (fun c => c.2 != 0)

/-- n bytes from an address. -/
def memRead (m : List Host.Cell) (a n : Nat) : List Byte := (List.range n).map (fun i => memGet m (a + i))

/-- Stores bytes from an address on. -/
def memWrite (m : List Host.Cell) (a : Nat) : List Byte → List Host.Cell
  | [] => m
  | b :: bs => memWrite (memSet m a b) (a + 1) bs

/-- Sets a range of memory to 0. -/
def memZero (m : List Host.Cell) (a n : Nat) : List Host.Cell :=
  m.filter (fun c => decide (c.1 < a) || decide (a + n ≤ c.1))

/-- n bytes of memory from an address. -/
def Hw.rd (h : Hw) (a n : Nat) : List Byte := memRead h.mem a n

/-- A little-endian number of n bytes in memory. -/
def Hw.rdN (h : Hw) (a n : Nat) : Nat := leNat (memRead h.mem a n)

/-- The number of bits set in the low n bits of a number. -/
def popBits : Nat → Nat → Nat
  | 0, _ => 0
  | n + 1, x => x % 2 + popBits n (x / 2)

/-! ## Time, open values, diagnostics -/

/-- Lets dt ns pass: elapsed time, and the timebase at its corrected rate in 0.1 ppm (R60, R63). -/
def Wgl.elapse (w : Wgl) (dt : Nat) : Wgl :=
  let x := (dt : Int) * (10000000 + w.corr) + w.tbFrac
  { w with now := w.now + dt, tb := w.tb + (x / 10000000).toNat, tbFrac := (x % 10000000).toNat }

/-- Elapsed time in ns. -/
def Hw.now (h : Hw) : Nat := h.wgl.now

/-- The timebase in ns, a 64-bit count (R60). -/
def Hw.tb (h : Hw) : Nat := h.wgl.tb % 2 ^ 64

/-- Draws an open number and advances the model's own counter of open values. -/
def Hw.fresh (h : Hw) : Nat × Hw := (Config.freeNat h.freeCtr, { h with freeCtr := h.freeCtr + 1 })

/-- Draws n open bytes. -/
def Hw.freshBytes (h : Hw) (n : Nat) : List Byte × Hw :=
  ((List.range n).map (fun i => BitVec.ofNat 8 (Config.freeNat (h.freeCtr + i))), { h with freeCtr := h.freeCtr + n })

/-- A number as a w-bit field holds it: itself where it fits, and open where it does not and the spec does not say what the
field then holds. -/
def Hw.fitOpen (h : Hw) (w : Nat) (x : Int) : Nat × Hw :=
  if 0 ≤ x ∧ x < 2 ^ w then (x.toNat, h) else
    let (v, h1) := h.fresh
    (v % 2 ^ w, h1)

/-- An occurrence of a diagnostic event, to be recorded under R759 and R904. -/
def Hw.log (h : Hw) (ty : Nat) (inst : Nat := 0xFFFF) (limited : Bool := false) : Hw :=
  { h with diag := h.diag ++ [⟨ty, inst, limited⟩] }

/-- Raises an interrupt on a hart. -/
def Hw.raiseIrq (h : Hw) (hart : Nat) : Hw := { h with irqs := mmod h.irqs hart 0 (· + 1) }

/-! ## Stored words with errors (R697 to R705) -/

/-- What a check of a stored word finds. -/
inductive EccView where
  /-- No error, or one the code cannot see; the data bits flipped stay flipped. -/
  | clean
  /-- One bit is corrected: 0 to 63 a data bit, 64 to 71 a check bit. -/
  | fixed (bit : Nat)
  /-- An uncorrectable error. -/
  | bad
  deriving DecidableEq, Repr

/-- The position of the lowest set bit among the low n bits. -/
def lowBit : Nat → Nat → Nat
  | 0, _ => 0
  | n + 1, x => if x % 2 = 1 then 0 else 1 + lowBit n (x / 2)

/-- What the (72,64) SECDED code finds in a stored word: none, one or two flipped bits by the kind of code, and for more what
its matrix gives, which the spec leaves open (log entry 12). -/
def EccDev.view (e : EccDev) : EccView :=
  let n := popBits 64 e.dflip + popBits 8 e.cflip
  if e.poison then .bad
  else if n = 0 then .clean
  else if n = 1 then .fixed (if e.dflip ≠ 0 then lowBit 64 e.dflip else 64 + lowBit 8 e.cflip)
  else if n = 2 then .bad
  else
    let x := Config.eccWide e.dflip e.cflip
    if x % 74 = 0 then .clean else if x % 74 = 73 then .bad else .fixed (x % 74 - 1)

/-- A word cannot be corrected (R700). -/
def EccDev.bad (e : EccDev) : Bool := e.view == .bad

/-- Some word of a range cannot be corrected. -/
def Hw.memBad (h : Hw) (a n : Nat) : Bool :=
  n != 0 && h.ecc.any (fun (k, e) => e.bad && decide (a / 8 ≤ k) && decide (k ≤ (a + n - 1) / 8))

/-- Some word of a range shows an error, correctable or not. -/
def Hw.memErr (h : Hw) (a n : Nat) : Bool :=
  n != 0 && h.ecc.any (fun (k, e) => e.view != .clean && decide (a / 8 ≤ k) && decide (k ≤ (a + n - 1) / 8))

/-- Who reads or writes: Propolis tag and Comb stop, and whether it is a scrubber (MEM_ERR_INFO). -/
structure Who where
  tag : Nat := 8
  stop : Nat := 55
  scrub : Bool := false
  deriving DecidableEq, Repr

/-- The error block of a physical address (Tables 16.1 and 16.2). -/
def eccBlock (a : Nat) : Nat :=
  if a < 0xE00000000 then a / 0x380000000 else if a < 0xE10000000 then 8 else 6

/-- The address that an error latches: physical for main memory and the frame store, otherwise the offset in the block
instance (R698). -/
def eccAddr (a : Nat) : Nat :=
  if a < 0xE10000000 then a else (a - 0xE10000000) % 0x100000 + (a - 0xE10000000) / 0x100000 * 2 ^ 40

/-- Counts an error, correctable (i = 0) or not (i = 1), and latches it where its latch is empty (R699, R700, R703, R716). -/
def Hw.eccNote (h : Hw) (i block addr bit : Nat) (w : Who) (again : Bool) : Hw :=
  let h1 := if i = 0 then h.bump F.MEM_ERR_CNT_CE block else h.bump F.MEM_ERR_CNT_UE block
  if h1.flag F.MEM_ERR_INFO_VALID i then h1 else
    let h2 := (h1.setReg (F.MEM_ERR_ADDR_LO_ADDR.at i 0) (BitVec.ofNat 32 addr)).setReg
      (F.MEM_ERR_ADDR_HI_ADDR.at i 0) (BitVec.ofNat 32 (addr / 2 ^ 32))
    h2.setReg (F.MEM_ERR_INFO_BLOCK.at i 0) (BitVec.ofNat 32 (block + bit * 2 ^ 4 + w.tag * 2 ^ 11 + w.stop * 2 ^ 15
      + b2n w.scrub * 2 ^ 21 + b2n again * 2 ^ 22 + 2 ^ 31))

/-- A correctable error (R699, R704). -/
def Hw.eccFixed (h : Hw) (block addr bit : Nat) (w : Who) (again : Bool) : Hw :=
  let h1 := (h.eccNote 0 block addr bit w again).log 0x1001 block true
  if again then h1.log 0x1004 block else h1

/-- An uncorrectable error (R700, R705). -/
def Hw.eccLost (h : Hw) (block addr : Nat) (w : Who) : Hw :=
  ((h.eccNote 1 block addr 127 w false).log 0x1002 block).raiseIrq 16

/-- Flips bits of the stored data of a 64-bit word. -/
def flipWord (m : List Host.Cell) (k x : Nat) : List Host.Cell :=
  memWrite m (8 * k) (leBytes 8 (Nat.xor (leNat (memRead m (8 * k) 8)) x))

/-- A read of one stored word that departs from its code word: the corrected word is written back, or the word is
poisoned (R699, R700, R704). -/
def Hw.eccRead (h : Hw) (w : Who) (k : Nat) (e : EccDev) : Hw :=
  match e.view with
  | .clean => h
  | .fixed b =>
    let x := if b < 64 then Nat.xor e.dflip (2 ^ b) else e.dflip
    let again := match mget h.eccAt k with | some t => decide (h.wgl.now < t + 1000000000) | none => false
    { h with mem := if x = 0 then h.mem else flipWord h.mem k x, ecc := mdel h.ecc k,
             eccAt := mset h.eccAt k h.wgl.now }.eccFixed (eccBlock (8 * k)) (eccAddr (8 * k)) b w again
  | .bad =>
    let h1 := if e.poison then h else { h with ecc := mset h.ecc k { e with cflip := Nat.xor e.cflip 255, poison := true } }
    h1.eccLost (eccBlock (8 * k)) (eccAddr (8 * k)) w

/-- Reads every stored word of a range that departs from its code word; whether all could be read. -/
def Hw.scan (h : Hw) (w : Who) (a n : Nat) : Hw × Bool :=
  if n = 0 then (h, true) else
    let hit := h.ecc.filter (fun (k, _) => decide (a / 8 ≤ k) && decide (k ≤ (a + n - 1) / 8))
    (hit.foldl (fun g (k, e) => g.eccRead w k e) h, !h.memBad a n)

/-- A doorbell watch sees a store: every enabled ring whose doorbell lies in a stored 64-byte line is woken (R130). -/
def wakeLines (rings : Map Ring) (db : Nat → Nat) (a n : Nat) : Map Ring :=
  rings.map (fun (r, g) =>
    if g.watched && decide (a / 64 ≤ db r / 64) && decide (db r / 64 ≤ (a + n - 1) / 64) then (r, { g with woken := true })
    else (r, g))

/-- The doorbell word's address of a ring (R129). -/
def Hw.dbAddr (h : Hw) (r : Nat) : Nat := h.get64 F.RNG_DB_LO_DB r

/-- The bytes of a store without those that would be merged into a word that cannot be read (R697, R701). -/
def Hw.mergeable (h : Hw) (a : Nat) (bs : List Byte) : List (Nat × Byte) :=
  (bs.zipIdx.map (fun (b, i) => (a + i, b))).filter (fun (x, _) =>
    !((mget h.ecc (x / 8)).isSome && (decide (x / 8 * 8 < a) || decide (a + bs.length < x / 8 * 8 + 8))))

/-- What a store does to stored errors: a word stored whole ends its error or poison (R702), and a word at either end stored in part is
first read (R697). -/
def Hw.wrEcc (h : Hw) (a n : Nat) (w : Who) : Hw :=
  if h.ecc.isEmpty then h else
    let h1 := if a % 8 = 0 then h else (h.scan w a 1).1
    let h2 := if (a + n) % 8 = 0 then h1 else (h1.scan w (a + n - 1) 1).1
    { h2 with ecc := h2.ecc.filter (fun (k, _) => !(decide (a ≤ 8 * k) && decide (8 * k + 8 ≤ a + n))) }

/-- Memory after a store of bytes. -/
def Hw.wrMem (h : Hw) (a : Nat) (bs : List Byte) : List Host.Cell :=
  if h.ecc.isEmpty then memWrite h.mem a bs else (h.mergeable a bs).foldl (fun m (x, b) => memSet m x b) h.mem

/-- The directory after a store: cached copies are invalidated (R719). -/
def Hw.wrDir (h : Hw) (a n : Nat) : Map DLine :=
  if h.dir.isEmpty then h.dir else h.dir.filter (fun (k, _) => !(decide (a / 64 ≤ k) && decide (k ≤ (a + n - 1) / 64)))

/-- Stores bytes to memory (R697, R702, R719); watched doorbell lines wake their engines (R130). -/
def Hw.wr (h : Hw) (a : Nat) (bs : List Byte) (w : Who := {}) : Hw :=
  if bs.isEmpty then h else
    let h1 := h.wrEcc a bs.length w
    { h1 with mem := h1.wrMem a bs, dir := h1.wrDir a bs.length, rng := { h1.rng with rings := wakeLines h1.rng.rings h1.dbAddr a bs.length } }

/-! ## Ownership (chapter 04) -/

/-- The 2 MiB granule of an address (Table 04.2). -/
def granule (a : Nat) : Nat := a / 2097152

/-- The layout entry that claims a granule (type 2 of Table 04.4). -/
def granuleEnt (l : List LEnt) (g : Nat) : Option LEnt :=
  l.find? (fun e => e.ty == 2 && decide (e.a ≤ g) && decide (g < e.a + e.b % 2 ^ 32))

/-- The partition that owns a granule (R183). -/
def Hw.granuleOwner (h : Hw) (g : Nat) : Option Nat := (granuleEnt h.prp.layout g).map (·.part)

/-- Whether a partition may read a granule: its owner, or named in its reader mask (R183). -/
def Hw.granuleReader (h : Hw) (p g : Nat) : Bool :=
  match granuleEnt h.prp.layout g with
  | some e => e.part == p || bit (e.b / 2 ^ 32) p
  | none => false

/-- Whether every granule of a range satisfies a test; the granules are counted off one by one. -/
def granulesAll (t : Nat → Bool) (a n : Nat) : Bool :=
  n == 0 || (List.range (granule (a + n - 1) - granule a + 1)).all (fun i => t (granule a + i))

/-- The partition owns every granule of a range. -/
def Hw.owns (h : Hw) (p a n : Nat) : Bool := granulesAll (fun g => h.granuleOwner g == some p) a n

/-- The partition may read every granule of a range. -/
def Hw.mayRead (h : Hw) (p a n : Nat) : Bool := granulesAll (h.granuleReader p) a n

/-- A range lies in main memory (granules 0 to 28,671, Table 16.1). -/
def inMain (a n : Nat) : Bool := decide (a + n ≤ 28672 * 2097152)

/-- The partition that owns a port, if one does (type 7 of Table 04.4, R184). -/
def Hw.portOwner (h : Hw) (i : Nat) : Option Nat :=
  (h.prp.layout.find? (fun e => e.ty == 7 && decide (e.a ≤ i) && decide (i < e.a + e.b % 2 ^ 32))).map (·.part)

/-- The partition owns a port. -/
def Hw.ownsPort (h : Hw) (p i : Nat) : Bool := h.portOwner i == some p

/-- The partition of a hart: 16 is safety pair 0 on partition 0, 17 and 18 are pairs 1 and 2 on partition 1 (R180); an
application hart belongs to the partition whose type 1 entry names it. -/
def Hw.hartPart (h : Hw) (t : Nat) : Option Nat :=
  if t = 16 then some 0 else if t = 17 ∨ t = 18 then some 1
  else (h.prp.layout.find? (fun e => e.ty == 1 && bit e.a t)).map (·.part)

/-- The state of a partition (Table 04.5). -/
def Hw.partState (h : Hw) (p : Nat) : Nat := h.get F.PRP_PART_STATUS_STATE p

/-- A hart runs: its partition is RUNNING. -/
def Hw.hartRuns (h : Hw) (t : Nat) : Bool :=
  match h.hartPart t with
  | some p => h.partState p == 3
  | none => false

/-- A hart of partition 0 that runs: what may write the registers of partition 0's view alone (R9). -/
def Hw.byP0 (h : Hw) (hart : Nat) : Bool := h.hartRuns hart && h.hartPart hart == some 0

/-- A hart writes registers of a port: through the view of the partition that owns it (R277, R343, R445 and others). -/
def Hw.byOwner (h : Hw) (hart port : Nat) : Bool :=
  h.hartRuns hart && (match h.hartPart hart with | some p => h.ownsPort p port | none => false)

/-! ## Completions -/

/-- The fetched descriptor with a number. -/
def Hw.flight (h : Hw) (id : Nat) : Option Flight := h.rng.flights.find? (fun f => f.id == id)

/-- Replaces the fetched descriptor with the same number. -/
def Hw.setFlight (h : Hw) (f : Flight) : Hw :=
  { h with rng := { h.rng with flights := h.rng.flights.map (fun g => if g.id = f.id then f else g) } }

/-- Ends an operation with what its completion will say (R138); USER and INDEX are the descriptor's own (Table 03.6). -/
def Hw.finish (h : Hw) (f : Flight) (status : Nat) (tov : Nat) (d8 : Nat := 0) (d20 : Nat := 0) (d28 : Nat := 0)
    (d31 : Nat := 0) : Hw :=
  h.setFlight { f with stage := 2,
                       cpl := ⟨tov, d8, fld f.desc 48 4, d20, f.idx, status, d28, d31⟩ }

/-- Ends the operation with a number, if it is still running. -/
def Hw.finishId (h : Hw) (id : Nat) (status : Nat) (tov : Nat) (d8 : Nat := 0) (d20 : Nat := 0) (d28 : Nat := 0)
    (d31 : Nat := 0) : Hw :=
  match h.flight id with
  | some f => if f.stage = 2 then h else h.finish f status tov d8 d20 d28 d31
  | none => h

/-- A completion no descriptor reserved is ready to be written to a ring for a partition (R155). -/
def Hw.unreserved (h : Hw) (ring part : Nat) (c : Cpl) : Hw :=
  { h with rng := { h.rng with ucpl := h.rng.ucpl ++ [⟨ring, part, c, none⟩] } }

/-- Runs an operation of an engine on its fetched descriptor, provided that it has started and not ended; one that waits at
the head of its ring (stage 3) is tried again. -/
def Hw.onOp (h : Hw) (id eng op : Nat) (act : Flight → Hw) : Hw :=
  match h.flight id with
  | some f => if (f.stage = 1 ∨ f.stage = 3) ∧ f.eng = eng ∧ fld f.desc 0 1 % 16 = op then act f else h
  | none => h

/-- A descriptor waits at the head of its ring, without error, and its ring fetches nothing behind it (R292 and others). -/
def Hw.waitHead (h : Hw) (f : Flight) : Hw := h.setFlight { f with stage := 3 }

/-- A descriptor that waited at the head of its ring, or did not have to, runs. -/
def Hw.goesOn (h : Hw) (f : Flight) : Hw := h.setFlight { f with stage := 1 }

/-- A whole number near an exact value whose rounding the spec does not give: the value itself where it is whole, and
otherwise one of its two neighbours, left open. -/
def Hw.openRound (h : Hw) (q : Q) : Int × Hw :=
  if q.den = 1 then (q.num, h) else
    let (x, h1) := h.fresh
    (qfloor q + (x % 2 : Nat), h1)

end Sys2Proof.Machine
end

