-- ==== Sys2Proof/Machine/Status.lean ====
section
/-!
DEFINITION. The status codes of every chapter (R156 and the chapters' tables of status codes).
-/
namespace Sys2Proof.Machine

/-- ST_OK, chapter 03. -/
abbrev ST_OK : Nat := 0x0000
/-- ST_COMB_OVERBOOKED, chapter 03. -/
abbrev ST_COMB_OVERBOOKED : Nat := 0x0101
/-- ST_COMB_UNCORRECTABLE, chapter 03. -/
abbrev ST_COMB_UNCORRECTABLE : Nat := 0x0102
/-- ST_COMB_TIMEOUT, chapter 03. -/
abbrev ST_COMB_TIMEOUT : Nat := 0x0103
/-- ST_EVENT_PASSED, chapter 03. -/
abbrev ST_EVENT_PASSED : Nat := 0x0201
/-- ST_SLOT_NOT_OWNED, chapter 03. -/
abbrev ST_SLOT_NOT_OWNED : Nat := 0x0202
/-- ST_TARGET_NOT_OWNED, chapter 03. -/
abbrev ST_TARGET_NOT_OWNED : Nat := 0x0203
/-- ST_EVENT_DISARMED, chapter 03. -/
abbrev ST_EVENT_DISARMED : Nat := 0x0204
/-- ST_EVENT_DOMAIN_OFF, chapter 03. -/
abbrev ST_EVENT_DOMAIN_OFF : Nat := 0x0205
/-- ST_EVENT_NOT_RUNNING, chapter 03. -/
abbrev ST_EVENT_NOT_RUNNING : Nat := 0x0206
/-- ST_EVENT_REPLACED, chapter 03. -/
abbrev ST_EVENT_REPLACED : Nat := 0x0207
/-- ST_BAD_DESCRIPTOR, chapter 03. -/
abbrev ST_BAD_DESCRIPTOR : Nat := 0x0301
/-- ST_RING_OVERRUN, chapter 03. -/
abbrev ST_RING_OVERRUN : Nat := 0x0302
/-- ST_TOO_LARGE, chapter 03. -/
abbrev ST_TOO_LARGE : Nat := 0x0303
/-- ST_SG_INVALID, chapter 03. -/
abbrev ST_SG_INVALID : Nat := 0x0304
/-- ST_BUFFER_NOT_OWNED, chapter 03. -/
abbrev ST_BUFFER_NOT_OWNED : Nat := 0x0305
/-- ST_RING_NOT_OWNED, chapter 03. -/
abbrev ST_RING_NOT_OWNED : Nat := 0x0306
/-- ST_RING_CONFIG, chapter 03. -/
abbrev ST_RING_CONFIG : Nat := 0x0307
/-- ST_LAYOUT_INVALID, chapter 03. -/
abbrev ST_LAYOUT_INVALID : Nat := 0x0401
/-- ST_PRP_DENIED, chapter 04. -/
abbrev ST_PRP_DENIED : Nat := 0x0402
/-- ST_PARTITION_STATE, chapter 04. -/
abbrev ST_PARTITION_STATE : Nat := 0x0403
/-- ST_HDR_BLOCKED, chapter 04. -/
abbrev ST_HDR_BLOCKED : Nat := 0x0404
/-- ST_HOLE, chapter 05. -/
abbrev ST_HOLE : Nat := 0x0501
/-- ST_CCI_NACK, chapter 05. -/
abbrev ST_CCI_NACK : Nat := 0x0502
/-- ST_CCI_TIMEOUT, chapter 05. -/
abbrev ST_CCI_TIMEOUT : Nat := 0x0503
/-- ST_IMG_CONFIG, chapter 05. -/
abbrev ST_IMG_CONFIG : Nat := 0x0504
/-- ST_IMG_SHARE, chapter 05. -/
abbrev ST_IMG_SHARE : Nat := 0x0505
/-- ST_PROFILE_INVALID, chapter 05. -/
abbrev ST_PROFILE_INVALID : Nat := 0x0506
/-- ST_LINK_DOWN, chapter 05. -/
abbrev ST_LINK_DOWN : Nat := 0x0507
/-- ST_CAL_INVALID, chapter 06. -/
abbrev ST_CAL_INVALID : Nat := 0x0601
/-- ST_FILL_LATE, chapter 06. -/
abbrev ST_FILL_LATE : Nat := 0x0602
/-- ST_FILL_RANGE, chapter 06. -/
abbrev ST_FILL_RANGE : Nat := 0x0603
/-- ST_SFE_CONFIG, chapter 06. -/
abbrev ST_SFE_CONFIG : Nat := 0x0604
/-- ST_STREAM_OFF, chapter 06. -/
abbrev ST_STREAM_OFF : Nat := 0x0605
/-- ST_XN7200_ORDER, chapter 06. -/
abbrev ST_XN7200_ORDER : Nat := 0x0606
/-- ST_CTL_TABLE_INVALID, chapter 07. -/
abbrev ST_CTL_TABLE_INVALID : Nat := 0x0701
/-- ST_CTL_DEST_CONFLICT, chapter 07. -/
abbrev ST_CTL_DEST_CONFLICT : Nat := 0x0702
/-- ST_CTL_SLOT_STATE, chapter 07. -/
abbrev ST_CTL_SLOT_STATE : Nat := 0x0703
/-- ST_CTL_SP_OWNED, chapter 07. -/
abbrev ST_CTL_SP_OWNED : Nat := 0x0704
/-- ST_CTL_SOURCE_FAULT, chapter 07. -/
abbrev ST_CTL_SOURCE_FAULT : Nat := 0x0705
/-- ST_CTL_BUSY, chapter 07. -/
abbrev ST_CTL_BUSY : Nat := 0x0706
/-- ST_CTL_INJ_ABORTED, chapter 07. -/
abbrev ST_CTL_INJ_ABORTED : Nat := 0x0707
/-- ST_SOL_MODE, chapter 08. -/
abbrev ST_SOL_MODE : Nat := 0x0801
/-- ST_SOL_PROFILE, chapter 08. -/
abbrev ST_SOL_PROFILE : Nat := 0x0802
/-- ST_SOL_PROF_INVALID, chapter 08. -/
abbrev ST_SOL_PROF_INVALID : Nat := 0x0803
/-- ST_SOL_COIL_HOT, chapter 08. -/
abbrev ST_SOL_COIL_HOT : Nat := 0x0804
/-- ST_SOL_FAULT, chapter 08. -/
abbrev ST_SOL_FAULT : Nat := 0x0805
/-- ST_SOL_CONFIG, chapter 08. -/
abbrev ST_SOL_CONFIG : Nat := 0x0806
/-- ST_LSW_MODE, chapter 09. -/
abbrev ST_LSW_MODE : Nat := 0x0901
/-- ST_LSW_CONFIG, chapter 09. -/
abbrev ST_LSW_CONFIG : Nat := 0x0902
/-- ST_WD_WRONG, chapter 09. -/
abbrev ST_WD_WRONG : Nat := 0x0903
/-- ST_WD_WINDOW, chapter 09. -/
abbrev ST_WD_WINDOW : Nat := 0x0904
/-- ST_FUS_LATE, chapter 12. -/
abbrev ST_FUS_LATE : Nat := 0x0C01
/-- ST_FUS_TOV, chapter 12. -/
abbrev ST_FUS_TOV : Nat := 0x0C02
/-- ST_FUS_OVERLOAD, chapter 12. -/
abbrev ST_FUS_OVERLOAD : Nat := 0x0C03
/-- ST_FUS_NOT_ALIGNED, chapter 12. -/
abbrev ST_FUS_NOT_ALIGNED : Nat := 0x0C04
/-- ST_FUS_REJECTED, chapter 12. -/
abbrev ST_FUS_REJECTED : Nat := 0x0C05
/-- ST_FUS_CONFIG, chapter 12. -/
abbrev ST_FUS_CONFIG : Nat := 0x0C06
/-- ST_CAN_ABORTED, chapter 14. -/
abbrev ST_CAN_ABORTED : Nat := 0x0E01
/-- ST_CAN_ARB_LOST, chapter 14. -/
abbrev ST_CAN_ARB_LOST : Nat := 0x0E02
/-- ST_CAN_TX_ERROR, chapter 14. -/
abbrev ST_CAN_TX_ERROR : Nat := 0x0E03
/-- ST_CAN_BUS_OFF, chapter 14. -/
abbrev ST_CAN_BUS_OFF : Nat := 0x0E04
/-- ST_CAN_NO_ADDRESS, chapter 14. -/
abbrev ST_CAN_NO_ADDRESS : Nat := 0x0E05
/-- ST_CAN_MERGED, chapter 14. -/
abbrev ST_CAN_MERGED : Nat := 0x0E06
/-- ST_CAN_NOT_TX, chapter 14. -/
abbrev ST_CAN_NOT_TX : Nat := 0x0E07
/-- ST_CAN_CONFIG, chapter 14. -/
abbrev ST_CAN_CONFIG : Nat := 0x0E08
/-- ST_LIN_SCHED_INVALID, chapter 14. -/
abbrev ST_LIN_SCHED_INVALID : Nat := 0x0E09
/-- ST_STO_REGION, chapter 17. -/
abbrev ST_STO_REGION : Nat := 0x1101
/-- ST_STO_RANGE, chapter 17. -/
abbrev ST_STO_RANGE : Nat := 0x1102
/-- ST_STO_READ_ONLY, chapter 17. -/
abbrev ST_STO_READ_ONLY : Nat := 0x1103
/-- ST_STO_FULL, chapter 17. -/
abbrev ST_STO_FULL : Nat := 0x1104
/-- ST_STO_READ_ERROR, chapter 17. -/
abbrev ST_STO_READ_ERROR : Nat := 0x1105
/-- ST_STO_CONFIG, chapter 17. -/
abbrev ST_STO_CONFIG : Nat := 0x1106
/-- ST_EVR_TOO_LARGE, chapter 17. -/
abbrev ST_EVR_TOO_LARGE : Nat := 0x1107
/-- ST_EVR_RATE, chapter 17. -/
abbrev ST_EVR_RATE : Nat := 0x1108
/-- ST_GRD_SIGNATURE, chapter 18. -/
abbrev ST_GRD_SIGNATURE : Nat := 0x1201
/-- ST_GRD_BINDING, chapter 18. -/
abbrev ST_GRD_BINDING : Nat := 0x1202
/-- ST_GRD_ROLLBACK, chapter 18. -/
abbrev ST_GRD_ROLLBACK : Nat := 0x1203
/-- ST_GRD_MANIFEST, chapter 18. -/
abbrev ST_GRD_MANIFEST : Nat := 0x1204
/-- ST_GRD_BUSY, chapter 18. -/
abbrev ST_GRD_BUSY : Nat := 0x1205
/-- ST_GRD_HASH, chapter 18. -/
abbrev ST_GRD_HASH : Nat := 0x1206
/-- ST_GRD_DELTA, chapter 18. -/
abbrev ST_GRD_DELTA : Nat := 0x1207
/-- ST_GRD_NOT_READY, chapter 18. -/
abbrev ST_GRD_NOT_READY : Nat := 0x1208
/-- ST_GRD_NOT_PARKED, chapter 18. -/
abbrev ST_GRD_NOT_PARKED : Nat := 0x1209
/-- ST_GRD_EXPIRED, chapter 18. -/
abbrev ST_GRD_EXPIRED : Nat := 0x120A
/-- ST_GRD_NO_SESSION, chapter 18. -/
abbrev ST_GRD_NO_SESSION : Nat := 0x120B
/-- ST_GRD_PERMISSION, chapter 18. -/
abbrev ST_GRD_PERMISSION : Nat := 0x120C
/-- ST_GRD_TOO_LARGE, chapter 18. -/
abbrev ST_GRD_TOO_LARGE : Nat := 0x120D
/-- ST_GRD_TOKEN, chapter 18. -/
abbrev ST_GRD_TOKEN : Nat := 0x120E
/-- ST_DIO_MODE, chapter 10. -/
abbrev ST_DIO_MODE : Nat := 0x0A01
/-- ST_DIO_CONFIG, chapter 10. -/
abbrev ST_DIO_CONFIG : Nat := 0x0A02
/-- ST_FAN_MODE, chapter 11. -/
abbrev ST_FAN_MODE : Nat := 0x0B01
/-- ST_FAN_CONFIG, chapter 11. -/
abbrev ST_FAN_CONFIG : Nat := 0x0B02
/-- ST_FAN_TABLE_INVALID, chapter 11. -/
abbrev ST_FAN_TABLE_INVALID : Nat := 0x0B03
/-- ST_GNS_NOT_FOUND, chapter 13. -/
abbrev ST_GNS_NOT_FOUND : Nat := 0x0D01
/-- ST_GNS_BUSY, chapter 13. -/
abbrev ST_GNS_BUSY : Nat := 0x0D02
/-- ST_GNS_STOPPED, chapter 13. -/
abbrev ST_GNS_STOPPED : Nat := 0x0D03
/-- ST_GNS_STALE, chapter 13. -/
abbrev ST_GNS_STALE : Nat := 0x0D04
/-- ST_GNS_CONFIG, chapter 13. -/
abbrev ST_GNS_CONFIG : Nat := 0x0D05
/-- ST_ETH_DISABLED, chapter 15. -/
abbrev ST_ETH_DISABLED : Nat := 0x0F01
/-- ST_ETH_GATE, chapter 15. -/
abbrev ST_ETH_GATE : Nat := 0x0F02
/-- ST_ETH_GCL_INVALID, chapter 15. -/
abbrev ST_ETH_GCL_INVALID : Nat := 0x0F03
/-- ST_ETH_CONFIG, chapter 15. -/
abbrev ST_ETH_CONFIG : Nat := 0x0F04
/-- ST_MEM_UNCORRECTABLE, chapter 16. -/
abbrev ST_MEM_UNCORRECTABLE : Nat := 0x1001
/-- ST_MEM_INJ, chapter 16. -/
abbrev ST_MEM_INJ : Nat := 0x1002
/-- ST_PWR_WAKE_ACTIVE, chapter 19. -/
abbrev ST_PWR_WAKE_ACTIVE : Nat := 0x1301
/-- ST_PWR_BUSY, chapter 19. -/
abbrev ST_PWR_BUSY : Nat := 0x1302
/-- ST_SMK_CONFIG, chapter 20. -/
abbrev ST_SMK_CONFIG : Nat := 0x1401

end Sys2Proof.Machine
end

