-- ==== Sys2Proof/Machine/Operands.lean ====
section
/-!
DEFINITION. The operand forms of descriptors: the common fields (Table 03.2), scatter lists (R144, R145) and the checks at fetch
that all engines share (Table 03.3). A check answers 0 (ST_OK) or the status of the rejection. Readings: log entry 17.
-/
namespace Sys2Proof.Machine

/-- USER of a descriptor. -/
def dUser (d : List Byte) : Nat := fld d 48 4
/-- FENCE of a descriptor. -/
def dFence (d : List Byte) : Bool := bit (fld d 52 2) 0
/-- IRQ_NOW of a descriptor. -/
def dIrqNow (d : List Byte) : Bool := bit (fld d 52 2) 1

/-- The reserved common fields of a descriptor are 0 (Table 03.2). -/
def commonOk (d : List Byte) : Bool := decide (fld d 52 2 < 4) && allZero (slice d 54 10)

/-- The first status of a list of checks that is not ST_OK; the checks stand in the order in which they are judged. -/
def firstBad : List (Bool × Nat) → Nat
  | [] => ST_OK
  | (ok, st) :: cs => if ok then firstBad cs else st

/-- The largest transfer, in bytes (Table 03.3). -/
abbrev maxTransfer : Nat := 16777216

/-- The pieces a scatter list names: address, length, and the entry's reserved bits (Table 03.4). -/
def sgList (h : Hw) (a n : Nat) : List (Nat × Nat × Nat) :=
  (List.range n).map (fun i =>
    (h.rdN (a + 16 * i) 8, h.rdN (a + 16 * i + 8) 4 % 2 ^ 25,
     h.rdN (a + 16 * i + 8) 4 / 2 ^ 25 + h.rdN (a + 16 * i + 12) 4))

/-- The pieces without their reserved bits. -/
def sgPieces (h : Hw) (a n : Nat) : List (Nat × Nat) := (sgList h a n).map (fun (x, l, _) => (x, l))

/-- Every entry but the last is a multiple of 64 of at least 4,096 bytes (R145). -/
def sgShape : List (Nat × Nat) → Bool
  | [] => true
  | [_] => true
  | (_, l) :: p :: ps => l % 64 == 0 && decide (4096 ≤ l) && sgShape (p :: ps)

/-- The sum of the lengths of a list's pieces. -/
def sgTotal (ps : List (Nat × Nat)) : Nat := (ps.map (·.2)).sum

/-- The checks on a scatter list that names `total` bytes for a partition (R144, R145, Table 03.3). -/
def sgCheck (h : Hw) (p a n total : Nat) : Nat :=
  let l := sgList h a n
  firstBad [
    (decide (n ≤ 4096), ST_TOO_LARGE),
    (decide (1 ≤ n) && a % 16 == 0, ST_SG_INVALID),
    (h.owns p a (16 * n), ST_BUFFER_NOT_OWNED),
    (!h.memBad a (16 * n), ST_MEM_UNCORRECTABLE),
    (l.all (fun (x, k, r) => x % 64 == 0 && decide (1 ≤ k) && decide (k ≤ maxTransfer) && r == 0)
      && sgShape (sgPieces h a n) && sgTotal (sgPieces h a n) == total, ST_SG_INVALID),
    ((sgPieces h a n).all (fun (x, k) => h.owns p x k), ST_BUFFER_NOT_OWNED)]

/-- The bytes read from pieces in order. -/
def gather (h : Hw) (ps : List (Nat × Nat)) : List Byte := ps.flatMap (fun (a, n) => h.rd a n)

/-- Stores bytes to pieces in order. -/
def scatter (h : Hw) : List (Nat × Nat) → List Byte → Hw
  | [], _ => h
  | (a, n) :: ps, bs => scatter (h.wr a (bs.take n)) ps (bs.drop n)

/-- The Comb stops of an engine (Tables 01.2 and 03.1). -/
def engStops (eng : Nat) : List Nat :=
  match eng with
  | 0 => [47] | 1 => [46] | 2 => [48, 49, 50, 51] | 3 => [53, 54] | 4 => [8, 16, 24] | 5 => [39] | 6 => [23]
  | 7 => [62] | 8 => [52] | 9 => [30] | 10 => [38] | 11 => [15] | _ => [31]

/-- Who an engine is for a partition; where it has several stops, which of them reads is open. -/
def engWho (h : Hw) (eng part : Nat) : Who × Hw :=
  match engStops eng with
  | [s] => (⟨part, s, false⟩, h)
  | ss => (let (x, g) := h.fresh
           (⟨part, ss.getD (x % ss.length) 0, false⟩, g))

/-- Reads pieces of memory for an engine: whether every word could be read (R701). -/
def scanPieces (w : Who) : List (Nat × Nat) → Hw → Hw × Bool
  | [], h => (h, true)
  | (a, n) :: ps, h =>
    let (h1, ok) := h.scan w a n
    let (h2, ok2) := scanPieces w ps h1
    (h2, ok && ok2)

/-- An operation reads pieces of memory and goes on, or ends with ST_MEM_UNCORRECTABLE (R701). -/
def Hw.engRead (h : Hw) (f : Flight) (ps : List (Nat × Nat)) (act : Hw → Hw) : Hw :=
  let (w, h1) := engWho h f.eng f.part
  let (h2, ok) := scanPieces w ps h1
  if ok then act h2 else h2.finish f ST_MEM_UNCORRECTABLE h2.tb

/-- A byte address lies in one of the pieces. -/
def inPieces (ps : List (Nat × Nat)) (a : Nat) : Bool := ps.any (fun (x, n) => decide (x ≤ a) && decide (a < x + n))

/-- Two lists of pieces share a byte. -/
def overlap (ps qs : List (Nat × Nat)) : Bool :=
  ps.any (fun (x, n) => qs.any (fun (y, m) => decide (x < y + m) && decide (y < x + n) && decide (0 < n) && decide (0 < m)))

end Sys2Proof.Machine
end

