-- ==== Sys2Proof/Machine/RingCore.lean ====
section
/-!
DEFINITION. The ring machinery every engine shares (chapter 03): sizes, free completion entries, in-flight pools, writing a
completion, and ending a partition's rings. Readings: log entry 17.
-/
namespace Sys2Proof.Machine

/-- A ring's own state. -/
def Hw.ring (h : Hw) (r : Nat) : Ring := mgetD h.rng.rings r {}

/-- Replaces a ring's own state. -/
def Hw.setRing (h : Hw) (r : Nat) (g : Ring) : Hw := { h with rng := { h.rng with rings := mset h.rng.rings r g } }

/-- Entries of a ring (R124). -/
def Hw.ringSize (h : Hw) (r : Nat) : Nat := 2 ^ h.get F.RNG_CFG_LOG2SIZE r

/-- The ring is a completion ring. -/
def Hw.isCpl (h : Hw) (r : Nat) : Bool := h.flag F.RNG_CFG_KIND r

/-- RNG_CTRL.STATE: 0 IDLE, 1 RUN, 2 DRAINING, 3 HALTED. -/
def Hw.ringState (h : Hw) (r : Nat) : Nat := h.get F.RNG_CTRL_STATE r

/-- The partition a ring is bound to, if its binding is in force. -/
def Hw.ringPart (h : Hw) (r : Nat) : Option Nat :=
  if h.flag F.RNG_BIND_VALID r then some (h.get F.RNG_BIND_PARTITION r) else none

/-- Free entries of a completion ring (R140). -/
def Hw.freeEntries (h : Hw) (r : Nat) : Nat :=
  h.ringSize r - ((h.ring r).n + (h.ring r).reserved + (2 ^ 32 - (h.ring r).p % 2 ^ 32)) % 2 ^ 32

/-- The in-flight pool an engine draws from, in the order of Table 01.8 (Table 03.1). -/
def poolOf (eng : Nat) : Nat := if 2 ≤ eng ∧ eng ≤ 8 then eng - 1 else 0

/-- The limits of Table 01.8. -/
def poolLimit (pool : Nat) : Nat := [32768, 16384, 8192, 4096, 2048, 1024, 768, 256].getD pool 0

/-- The rings whose binding is in force, by number (R126). -/
def Hw.boundRings (h : Hw) : List Nat :=
  (h.rf.filter (fun (a, v) => decide (0x1800C ≤ a) && decide (a < 0x20000) && (a - 0x1800C) % 0x20 == 0
    && bit v.toNat 8)).map (fun (a, _) => (a - 0x1800C) / 0x20)

/-- The submission rings bound to a pool (R162). -/
def Hw.poolRings (h : Hw) (pool : Nat) : List Nat :=
  h.boundRings.filter (fun r => !h.isCpl r && poolOf (h.get F.RNG_BIND_ENGINE r) == pool)

/-- The sum of the reserves drawn from a pool (R162, R163). -/
def Hw.poolResv (h : Hw) (pool : Nat) : Nat := ((h.poolRings pool).map (fun r => h.get F.RNG_QUOTA_RESV r)).sum

/-- Operations of a ring in flight (R51). -/
def Hw.ringInflight (h : Hw) (r : Nat) : Nat := (h.rng.flights.filter (fun f => f.ring == r && f.counted)).length

/-- Operations in flight in a pool (RNG_ENG_INFLIGHT). -/
def Hw.poolInflight (h : Hw) (pool : Nat) : Nat :=
  (h.rng.flights.filter (fun f => poolOf f.eng == pool && f.counted)).length

/-- A ring has in-flight room: below its cap, and below its reserve or with room in the shared part (R160 to R162). -/
def Hw.quotaRoom (h : Hw) (r : Nat) : Bool :=
  let pool := poolOf (h.get F.RNG_BIND_ENGINE r)
  let cap := if h.get F.RNG_QUOTA_CAP r = 0 then poolLimit pool else h.get F.RNG_QUOTA_CAP r
  let shared := poolLimit pool - h.poolResv pool
  let used := ((h.poolRings pool).map (fun q => h.ringInflight q - h.get F.RNG_QUOTA_RESV q)).sum
  decide (h.ringInflight r < cap) && decide (h.poolInflight pool < poolLimit pool)
    && (decide (h.ringInflight r < h.get F.RNG_QUOTA_RESV r) || decide (used < shared))

/-- Refreshes RNG_ENG_INFLIGHT of a pool. -/
def Hw.showInflight (h : Hw) (pool : Nat) : Hw := h.put F.RNG_ENG_INFLIGHT_COUNT (h.poolInflight pool) pool

/-- The 32 bytes of a completion with its phase bit (Table 03.6). -/
def cplBytes (c : Cpl) (phase : Nat) : List Byte :=
  leBytes 8 c.tov ++ leBytes 8 c.d8 ++ leBytes 4 c.user ++ leBytes 4 c.d20 ++ leBytes 2 c.index
    ++ leBytes 2 c.status ++ leBytes 3 c.d28 ++ [BitVec.ofNat 8 (c.d31 % 128 + 128 * phase)]

/-- PHASE of the completion written as count n in a ring of a size (R150). -/
def phaseOf (n size : Nat) : Nat := 1 - n / size % 2

/-- Raises a completion ring's interrupt and restarts both triggers (R167, R168). -/
def Hw.ringIrq (h : Hw) (r : Nat) : Hw :=
  (h.setRing r { h.ring r with sinceIrq := 0, unsignalled := none }).raiseIrq (h.get F.RNG_IRQ_TARGET r)

/-- Writes a completion into the next entry of a completion ring and judges the COUNT trigger and IRQ_NOW
(R135, R150, R151, R167). -/
def Hw.putCpl (h : Hw) (r : Nat) (c : Cpl) (irqNow : Bool) : Hw :=
  let g := h.ring r
  let size := h.ringSize r
  let h1 := h.wr (h.get64 F.RNG_BASE_LO_BASE r + 32 * (g.n % size)) (cplBytes c (phaseOf g.n size))
  let g1 := h1.ring r
  let u := match g1.unsignalled with | some t => t | none => h.now
  let h2 := h1.setRing r { g1 with n := (g1.n + 1) % 2 ^ 32, sinceIrq := g1.sinceIrq + 1, unsignalled := some u }
  let cnt := h.get F.RNG_IRQ_COUNT r
  if irqNow || (cnt != 0 && decide (cnt ≤ g1.sinceIrq + 1)) then h2.ringIrq r else h2

/-- A buffer queue without the buffers whose operations have ended. -/
def BufQ.purge (live : Nat → Bool) (q : BufQ) : BufQ :=
  let bs := q.bufs.filter live
  if bs.head? = q.bufs.head? then { q with bufs := bs }
  else { q with bufs := bs, written := 0, first := none, tov := 0, chunk := none }

/-- Ends the rings of a partition at once: operations in flight end without completions and release their counts,
the rings are disabled and reset, and bindings and quotas are kept (R176, R138). -/
def Hw.endRings (h : Hw) (p : Nat) : Hw :=
  let rs := h.boundRings.filter (fun r => h.get F.RNG_BIND_PARTITION r == p)
  let h1 := { h with rng := { h.rng with
    flights := h.rng.flights.filter (fun f => !rs.contains f.ring),
    ucpl := h.rng.ucpl.filter (fun u => !(rs.contains u.ring)),
    rings := rs.foldl (fun m r => mset m r ({} : Ring)) h.rng.rings } }
  let h1 := { h1 with bufs := h1.bufs.map (fun (k, q) => (k, q.purge (fun id => h1.rng.flights.any (fun f => f.id == id)))) }
  let h2 := rs.foldl (fun x r => ((((x.put F.RNG_CTRL_ENABLE 0 r).put F.RNG_CTRL_STATE 0 r).put
    F.RNG_CTRL_OVERRUN 0 r).put F.RNG_CTRL_CPL_FULL 0 r).put F.RNG_CTRL_ERR 0 r) h1
  (List.range 8).foldl (fun x k => x.showInflight k) h2

end Sys2Proof.Machine
end

