-- ==== Sys2Proof/Machine/Buffers.lean ====
section
/-!
DEFINITION. Record buffers, shared by every engine that writes records to posted buffers (R290 to R295): posting, writing a
record, closing, and the checks of a RECBUF descriptor (Table 06.4). A queue is named by a class and an index. Readings: log
entry 21.
-/
namespace Sys2Proof.Machine

/-- The key of a queue: class 0 raw channels by port, 1 to 5 the sensor streams by partition, 6 DIO changes by partition,
7 and 8 fusion streams by partition, 9 to 11 GNSS streams by antenna, 12 CAN by port, 13 LIN by port, 14 Ethernet by
port and queue. -/
def qKey (cls i : Nat) : Nat := cls * 2 ^ 20 + i

/-- A queue of record buffers. -/
def Hw.bufq (h : Hw) (k : Nat) : BufQ := mgetD h.bufs k {}
/-- Replaces a queue. -/
def Hw.setBufq (h : Hw) (k : Nat) (q : BufQ) : Hw := { h with bufs := mset h.bufs k q }

/-- Capacity of a record buffer. -/
def bLen (d : List Byte) : Nat := fld d 16 4

/-- The pieces of a record buffer; `sg` says that its descriptor may name a list. -/
def bPieces (h : Hw) (sg : Bool) (d : List Byte) : List (Nat × Nat) :=
  if sg && fld d 4 2 != 0 then sgPieces h (fld d 8 8) (fld d 4 2) else [(fld d 8 8, bLen d)]

/-- The pieces that remain after a number of bytes. -/
def dropBytes : List (Nat × Nat) → Nat → List (Nat × Nat)
  | [], _ => []
  | (a, n) :: ps, k => if n ≤ k then dropBytes ps (k - n) else (a + k, n - k) :: ps

/-- The fields a record buffer's descriptor shares (Table 06.4), given its least capacity: the checks from LEN on. -/
def bufDescOk (sg : Bool) (least : Nat) (d : List Byte) : Bool :=
  allZero (slice d 6 2) && fld d 8 8 % 64 == 0 && bLen d % 64 == 0 && decide (least ≤ bLen d)
    && decide (fld d 20 4 ≤ 10000000) && allZero (slice d 24 24) && (sg || fld d 4 2 == 0)

/-- The checks on the memory of a record buffer (R291, R144, R145, Table 03.3). -/
def bufMemCheck (h : Hw) (p : Nat) (sg : Bool) (d : List Byte) : Nat :=
  if maxTransfer < bLen d then ST_TOO_LARGE
  else if sg then sgCheck h p (fld d 8 8) (fld d 4 2) (bLen d)
  else firstBad [(h.owns p (fld d 8 8) (bLen d), ST_BUFFER_NOT_OWNED)]

/-- Posts a buffer to a queue of at most 64, or leaves it waiting at the head of its ring (R292). -/
def bufPost (h : Hw) (k : Nat) (f : Flight) : Hw :=
  let q := h.bufq k
  if q.bufs.contains f.id then h
  else if 64 ≤ q.bufs.length then h.waitHead f
  else (h.goesOn f).setBufq k { q with bufs := q.bufs ++ [f.id] }

/-- Closes the first buffer of a queue with a status (R294). -/
def bufClose (h : Hw) (k st : Nat) : Hw :=
  let q := h.bufq k
  match q.bufs with
  | [] => h
  | id :: r =>
    let h1 := h.setBufq k { bufs := r }
    h1.finishId id st (if q.written = 0 then 0 else q.tov) (satN 32 q.drops) q.written

/-- Closes every buffer of a queue, as when its source is disabled (R294). -/
def bufCloseAll (h : Hw) (k st : Nat) : Hw := (h.bufq k).bufs.foldl (fun g _ => bufClose g k st) h

/-- Stores bytes at an offset of the first buffer. -/
def bufStore (h : Hw) (sg : Bool) (f : Flight) (off : Nat) (bs : List Byte) : Hw :=
  scatter h (dropBytes (bPieces h sg f.desc) off) bs

/-- Writes a record to a queue, closing first a buffer it would not fit (R294); the answer says whether a buffer was
open. The fuel is the number of buffers a queue holds. -/
def bufPutAux (sg : Bool) (k : Nat) (bs : List Byte) (tov : Nat) : Nat → Hw → Hw × Bool
  | 0, h => (h, false)
  | n + 1, h =>
    let q := h.bufq k
    match q.bufs with
    | [] => (h, false)
    | id :: _ =>
      match h.flight id with
      | none => (h, false)
      | some f =>
        if bLen f.desc < q.written + bs.length then bufPutAux sg k bs tov n (bufClose h k ST_OK)
        else
          let h1 := bufStore h sg f q.written bs
          (h1.setBufq k { q with written := q.written + bs.length, tov := tov,
                                 first := match q.first with | some t => some t | none => some h.now }, true)

/-- Writes a record to a queue, or drops it: a drop is counted for the queue's next completion (R294, R295). -/
def bufPut (h : Hw) (sg : Bool) (k : Nat) (bs : List Byte) (tov : Nat) : Hw × Bool :=
  let r := bufPutAux sg k bs tov 66 h
  if r.2 then r else
    let q := r.1.bufq k
    (r.1.setBufq k { q with drops := q.drops + 1 }, false)

/-- The queue whose first buffer is an operation. -/
def Hw.queueOf (h : Hw) (id : Nat) : Option Nat := (h.bufs.find? (fun (_, q) => q.bufs.head? == some id)).map (·.1)

end Sys2Proof.Machine
end

