-- ==== Sys2Proof/Machine/WaggleCore.lean ====
section
/-!
DEFINITION. Angle domains and stamps (chapter 02): a domain's predicted position at any instant (R81, R82, R85), its history of
the last 100 ms (R118), and the 48-byte stamp (R117). Readings: log entry 16.
-/
namespace Sys2Proof.Machine

/-- A prediction that holds a position (states OFF, PRIMING and STOPPED of Table 02.3). -/
def heldPred (state : Nat) (pos t d : Int) : Pred := ⟨state, pos, t, d, qi 0, qi 0, 0, none⟩

/-- A domain as it is after reset: OFF, at position 0 (R119, R72). -/
def domOff : Dom := ⟨heldPred 0 0 0 1, 0, 0, 0, qi 0, 0, 0, 0, 0, false, 1, false, [], [], 0, 0⟩

/-- A domain. -/
def Hw.dom (h : Hw) (i : Nat) : Dom := mgetD h.wgl.doms i domOff

/-- Replaces a domain. -/
def Hw.setDom (h : Hw) (i : Nat) (x : Dom) : Hw := { h with wgl := { h.wgl with doms := mset h.wgl.doms i x } }

/-- The domain is rotary (WGL_DOM_CFG.TYPE = 1). -/
def Hw.domRotary (h : Hw) (i : Nat) : Bool := h.get F.WGL_DOM_CFG_TYPE i == 1

/-- WGL_DOM_DIV as the enabled domain uses it: a value above the range of the type counts as the top of the range. -/
def Hw.domDiv (h : Hw) (i : Nat) : Nat :=
  clampN (h.get F.WGL_DOM_DIV_DIV i) 1 (if h.domRotary i then 65535 else 1000000)

/-- The position of an edge (Table 02.1, R74): index k of revolution r in a rotary domain, edge k in a linear one. -/
def edgePos (rotary : Bool) (n : Nat) (rev k : Int) : Int :=
  if rotary then rev * 2 ^ 32 + k * 2 ^ 32 / (n : Int) else k * (n : Int)

/-- The index and revolution one edge on in a direction (R74). -/
def stepIndex (rotary : Bool) (n : Nat) (rev k d : Int) : Int × Int :=
  if rotary then
    if k + d ≥ (n : Int) then (rev + 1, 0) else if k + d < 0 then (rev - 1, (n : Int) - 1) else (rev, k + d)
  else (rev, k + d)

/-- The distance predicted t ns after the edge, before the clamp (R81). -/
def travel (v a : Q) (t : Int) : Q :=
  if qle v (qi 0) then qi 0
  else if qlt a (qi 0) && qlt (qadd v (qmul a (qi t))) (qi 0) then qdiv (qmul v v) (qmul (qi (-2)) a)
  else qadd (qmul v (qi t)) (qdiv (qmul a (qi (t * t))) (qi 2))

/-- The position a prediction gives at a time: whole units in the direction of travel, never past the clamp (R82) and never
behind the held position (R85). -/
def Pred.at (p : Pred) (t : Int) : Int :=
  if p.state = 2 ∨ p.state = 3 then
    let x := min (qfloor (travel p.v p.a (max 0 (t - p.te)))) p.snext
    let y := p.pe + p.d * x
    match p.hold with
    | some q => if p.d > 0 then max y q else min y q
    | none => y
  else p.pe

/-- The position of a domain now. -/
def Hw.domPos (h : Hw) (i : Nat) : Int := (h.dom i).p.at h.wgl.tb

/-- The furthest forward position reached up to now (R89). -/
def Hw.domHwm (h : Hw) (i : Nat) : Int := max (h.dom i).hwm (h.domPos i)

/-- Keeps the entries of a history that the last 100 ms need: those begun since, and the newest one before (R118). -/
def pruneHist (t : Int) : List (Int × Pred) → List (Int × Pred)
  | [] => []
  | (b, p) :: r => if b ≤ t - 100000000 then [(b, p)] else (b, p) :: pruneHist t r

/-- A domain takes a new prediction from a time on; its old one joins the history, its high-water mark takes in the
position reached until then, and its state is shown in WGL_DOM_STATUS. -/
def Hw.newPred (h : Hw) (i : Nat) (p : Pred) : Hw :=
  let x := h.dom i
  let t : Int := h.wgl.tb
  (h.setDom i { x with hwm := max x.hwm (x.p.at t), p := p, hist := pruneHist t ((t, p) :: x.hist) }).put
    F.WGL_DOM_STATUS_STATE p.state i

/-- The prediction that was in force at a time, or the oldest kept (R118). -/
def predAt : List (Int × Pred) → Int → Option Pred
  | [], _ => none
  | [(_, p)], _ => some p
  | (b, p) :: r, t => if b ≤ t then some p else predAt r t

/-- The state and position of a domain at a time (R118). -/
def Hw.domAt (h : Hw) (i : Nat) (t : Int) : Nat × Int :=
  match predAt (h.dom i).hist t with
  | some p => (p.state, p.at t)
  | none => ((h.dom i).p.state, (h.dom i).p.at t)

/-- The domains a binding set names (R116). -/
def Hw.bindDoms (h : Hw) (b : Nat) : List Nat :=
  [h.get F.WGL_BIND_D0 b, h.get F.WGL_BIND_D1 b, h.get F.WGL_BIND_D2 b, h.get F.WGL_BIND_D3 b].take
    (min 4 (h.get F.WGL_BIND_COUNT b))

/-- The first time from `lo` on, within `2^fuel` ns, at which a rising test holds. -/
def firstTime (test : Int → Bool) : Nat → Int → Int
  | 0, lo => lo
  | n + 1, lo => if test (lo + 2 ^ n - 1) then firstTime test n lo else firstTime test n (lo + 2 ^ n)

/-- The spans of a history from the oldest on: prediction, begin and end, the newest ending now. -/
def histSpans (now : Int) : List (Int × Pred) → List (Int × Int × Pred)
  | [] => []
  | (b, p) :: r => histSpans b r ++ [(b, now, p)]

/-- The time at which a domain's position first reached a mark, as far back as its history goes; now where it has not. -/
def Hw.reachedAt (h : Hw) (i : Nat) (mark : Int) : Int :=
  let now : Int := h.wgl.tb
  match (histSpans now (h.dom i).hist).find? (fun (_, e, p) => decide (mark ≤ p.at e)) with
  | some (b, _, p) => if mark ≤ p.at b then b else firstTime (fun u => decide (mark ≤ p.at u)) 40 b
  | none => now

/-- A Waggle stamp of 48 bytes: time of validity, states and binding, and the bound positions at that time (R117). -/
def Hw.stamp (h : Hw) (b : Nat) (t : Nat) : List Byte :=
  let ds := h.bindDoms b
  let xs := ds.map (fun d => h.domAt d t)
  let states := (xs.zipIdx.map (fun (x, k) => x.1 * 2 ^ (3 * k))).sum
  leBytes 8 t ++ leBytes 4 (states + b % 64 * 2 ^ 12 + ds.length * 2 ^ 18) ++ zeros 4
    ++ padTo 32 (xs.flatMap (fun x => leBytes 8 (ux 64 x.2)))

/-! ## Slot records (Table 02.4) -/

/-- POSITION as a signed number (compared under R71). -/
def sPos (r : List Byte) : Int := sx 64 (fld r 0 8)
/-- PARAM. -/
def sParam (r : List Byte) : Nat := fld r 8 4
/-- TARGET. -/
def sTarget (r : List Byte) : Nat := fld r 12 2
/-- ACTION. -/
def sAction (r : List Byte) : Nat := fld r 14 1 % 16
/-- DOMAIN. -/
def sDomain (r : List Byte) : Nat := fld r 15 1 % 32
/-- BIDIR, ignored for the timebase. -/
def sBidir (r : List Byte) : Bool := bit (fld r 15 1) 5 && sDomain r != 31
/-- CPL. -/
def sCpl (r : List Byte) : Bool := bit (fld r 15 1) 6
/-- LEAD. -/
def sLead (r : List Byte) : Nat := fld r 16 4
/-- REPEAT. -/
def sRepeat (r : List Byte) : Nat := fld r 20 4
/-- COUNT. -/
def sCount (r : List Byte) : Nat := fld r 24 4
/-- COOKIE. -/
def sCookie (r : List Byte) : Nat := fld r 28 4

/-- P(k) of a slot, counted from a base position in the domain's unwrapped coordinates (R94). -/
def slotP (rotary : Bool) (base : Int) (rep k : Nat) : Int :=
  if rep = 0 then base
  else if rotary then base + ((k * 2 ^ 32 / rep : Nat) : Int)
  else base + ((k * rep : Nat) : Int)

/-- How many of P(0), P(1) and onwards lie at or below a position. -/
def slotBelow (rotary : Bool) (base : Int) (rep : Nat) (x : Int) : Nat :=
  if x < base then 0
  else
    let y := (x - base).toNat
    if rep = 0 then 1
    else if rotary then ((y + 1) * rep + 2 ^ 32 - 1) / 2 ^ 32
    else y / rep + 1

/-- The completion of a firing or of the end of a slot, if one is due: none for a slot armed through WGL_SLOT_CMD
(R121); otherwise when CPL is set, or when the status is one that is written whatever CPL is (Table 02.4). -/
def Hw.fireCpl (h : Hw) (f : Fire) (status defer : Nat) (after : Option Nat := none) : Hw :=
  if f.quiet || !(sCpl f.raw || status == ST_EVENT_PASSED || status == ST_EVENT_DISARMED || status == ST_EVENT_DOMAIN_OFF)
  then h
  else { h with rng := { h.rng with ucpl := h.rng.ucpl ++ [⟨f.cplRing, f.part,
    { tov := f.tov, d8 := ux 64 f.pos, user := sCookie f.raw, d20 := f.k, index := f.slot, status := status,
      d28 := satN 16 defer + 2 ^ 16 * (f.dir % 2 + 2 * b2n f.catchup + 4 * b2n f.late) }, after⟩] } }

/-- An armed slot. -/
def Hw.slot (h : Hw) (n : Nat) : Option Slot := mget h.wgl.slots n

/-- Replaces or arms a slot. -/
def Hw.setSlot (h : Hw) (n : Nat) (s : Slot) : Hw := { h with wgl := { h.wgl with slots := mset h.wgl.slots n s } }

/-- Disarms a slot. -/
def Hw.delSlot (h : Hw) (n : Nat) : Hw := { h with wgl := { h.wgl with slots := mdel h.wgl.slots n } }

/-- POSITION of a slot in the unwrapped coordinates of its domain (R71); the timebase is not wrapped. -/
def Hw.slotBase (h : Hw) (r : List Byte) : Int :=
  if sDomain r = 31 then (fld r 0 8 : Nat) else h.domHwm (sDomain r) + diff64 (sPos r) (h.domHwm (sDomain r))

/-- P(k) of a slot now (R94). -/
def Hw.slotPos (h : Hw) (r : List Byte) (k : Nat) : Int :=
  slotP (sDomain r != 31 && h.domRotary (sDomain r)) (h.slotBase r) (sRepeat r) k

/-! ## Crossings that fire nothing -/

/-- How many of the positions counted up to c0 and up to c1 lie between the two. -/
def crossed (c0 c1 : Nat) : Nat := (c0 - c1) + (c1 - c0)

/-- Crossings between two positions that fire no slot: of an ordinary slot the backward ones and the forward ones at or below
the high-water mark, of a bidirectional slot those of the positions that its arming skipped (R92, R95). -/
def suppressed (h : Hw) (i : Nat) (old new hwm : Int) : Nat :=
  let rot := h.domRotary i
  ((h.wgl.slots.filter (fun x => sDomain x.2.raw == i)).map (fun (_, s) =>
    let c := slotBelow rot (h.slotBase s.raw) (sRepeat s.raw)
    if sBidir s.raw then crossed (min s.kmin (c old)) (min s.kmin (c new))
    else if new < old then c old - c new else c (min new hwm) - c (min old hwm))).sum

/-- Counts the crossings that a running domain's prediction has made since they were last counted (R92). -/
def settleDom (h : Hw) (i : Nat) : Hw :=
  let x := h.dom i
  if x.p.state = 2 ∨ x.p.state = 3 then
    let pos := h.domPos i
    let n := suppressed h i x.acct pos x.hwm
    let h1 := if n = 0 then h else h.bump F.WGL_CNT_COUNT 3 0 n
    h1.setDom i { x with hwm := max x.hwm pos, acct := pos }
  else h

/-- Counts the crossings of the domain of an armed slot, which are this slot's only while it is armed (R92). -/
def settleSlot (h : Hw) (n : Nat) : Hw :=
  match h.slot n with
  | some s => settleDom h (sDomain s.raw)
  | none => h

end Sys2Proof.Machine
end

