-- ==== Sys2Proof/Machine/TileCore.lean ====
section
/-!
DEFINITION. What all power tiles share (chapter 09): which tile drives a channel, fail-safe codes, when a command is accepted,
and the state of load switches and DIO outputs. Channels are named by port index (Table 04.3). Readings: log entry 25.
-/
namespace Sys2Proof.Machine

/-- The tile of an output port (Table 09.1). -/
def tileOf (p : Nat) : Nat :=
  if p < 48 then 4 + p / 24
  else if p < 144 then (p - 48) / 24
  else if p < 272 then 6 + (p - 144) / 64
  else 6 + (p - 272) / 4

/-- The fail-safe entry of an output port within its tile (Table 09.4). -/
def fsEntry (p : Nat) : Nat :=
  if p < 48 then p % 24
  else if p < 144 then (p - 48) % 24
  else if p < 272 then (p - 144) % 64
  else 64 + (p - 272) % 4

/-- The output ports of a tile (Table 09.1). -/
def tilePorts (t : Nat) : List Nat := (List.range 280).filter (fun p => tileOf p == t)

/-- The fail-safe code of an output port (Table 09.5). Code 3 is reserved; the model takes it as OFF. -/
def Hw.fsCode (h : Hw) (p : Nat) : Nat :=
  let e := fsEntry p
  let c := h.get F.LSW_FS_ENTRY (tileOf p) (e / 16) / 4 ^ (e % 16) % 4
  if c = 3 then 0 else c

/-- LSW_TILE_STATUS.STATE (Table 09.6): 0 SAFE, 1 RUN, 2 TRIPPED. -/
def Hw.tileState (h : Hw) (t : Nat) : Nat := h.get F.LSW_TILE_STATUS_STATE t

/-- An output channel's own state. -/
def Hw.out (h : Hw) (p : Nat) : OutCh := mgetD h.til.outs p {}
/-- Replaces an output channel's own state. What reaches a channel during Smoker's off-pulse ends the pulse (R847). -/
def Hw.setOut (h : Hw) (p : Nat) (x : OutCh) : Hw :=
  let k := if h.smk.test = some p then { h.smk with test := none } else h.smk
  { h with til := { h.til with outs := mset h.til.outs p x }, smk := k }

/-- The tile's feed is under or over voltage (R820). -/
def Hw.feedBad (h : Hw) (t : Nat) : Bool := h.flag F.PWR_FEED_STATUS_FEED_UV t || h.flag F.PWR_FEED_STATUS_FEED_OV t

/-- A channel is held at its fail-safe state: by its tile in SAFE, or by a per-channel force (R470, Table 09.6). -/
def Hw.held (h : Hw) (p : Nat) : Bool :=
  h.tileState (tileOf p) == 0 || (h.tileState (tileOf p) == 1 && ((h.out p).pf || (h.out p).hf))

/-- A command reaches the channel: its tile is in RUN with its feed in range, and no force holds it (R471, R477, R820). -/
def Hw.canCommand (h : Hw) (p : Nat) : Bool :=
  h.tileState (tileOf p) == 1 && !h.held p && !h.feedBad (tileOf p)

/-! ## Load switches -/

/-- A load switch is off for a cause that firmware must clear (R461). -/
def lsLatched (h : Hw) (c : Nat) : Bool :=
  h.flag F.LSW_FAULT_SHORT c || h.flag F.LSW_FAULT_SHED c || ((h.out (48 + c)).ot && (h.out (48 + c)).otLatch)

/-- A load switch has a channel fault (Table 09.3). -/
def lsFault (h : Hw) (c : Nat) : Bool := h.flag F.LSW_FAULT_SHORT c || h.flag F.LSW_FAULT_SHED c || (h.out (48 + c)).ot

/-- A load switch is on (R471: protection, then the fail-safe output, then the command). -/
def lsOn (h : Hw) (c : Nat) : Bool :=
  let x := h.out (48 + c)
  if lsFault h c || h.tileState (tileOf (48 + c)) == 2 || h.feedBad (tileOf (48 + c)) then false
  else if x.stay then x.fs == 1
  else h.flag F.LSW_CFG_ENABLE c && x.cmd

/-- Shows a load switch in LSW_STATUS. -/
def showLs (h : Hw) (c : Nat) : Hw :=
  ((h.put F.LSW_STATUS_ON (b2n (lsOn h c)) c).put F.LSW_STATUS_FORCED (b2n (h.held (48 + c))) c).put
    F.LSW_STATUS_CH_FAULT (b2n (lsFault h c)) c

/-- A command from a load switch's source; it is ignored while the switch is held or off for a latched cause (R461, R471). -/
def lsCommand (h : Hw) (c : Nat) (on : Bool) : Hw :=
  if h.canCommand (48 + c) && !lsLatched h c then
    showLs (h.setOut (48 + c) { h.out (48 + c) with cmd := on, stay := false }) c
  else h

/-- A control-engine command to a load switch (DEST 5 and 6): with `fs` the stored fail-safe state is what is commanded
(FAIL 2). The answer says whether the slot sees its destination as blocked (R360, R458). -/
def lsEngine (h : Hw) (c : Nat) (on fs : Bool) : Hw × Bool :=
  let mine := h.flag F.LSW_CFG_ENABLE c && h.get F.LSW_CFG_MODE c == 0
  let v := if fs then (match h.fsCode (48 + c) with | 0 => false | 1 => true | _ => lsOn h c) else on
  (if mine then lsCommand h c v else h, !mine || lsFault h c || !h.canCommand (48 + c))

/-! ## DIO channels -/

/-- A DIO channel's filter state. -/
def Hw.dio (h : Hw) (c : Nat) : Dio := mgetD h.dios c {}
/-- Replaces a DIO channel's filter state. -/
def Hw.setDio (h : Hw) (c : Nat) (x : Dio) : Hw := { h with dios := mset h.dios c x }

/-- The DIO channel is an enabled output. -/
def dioOutput (h : Hw) (c : Nat) : Bool := h.flag F.DIO_CFG_ENABLE c && h.flag F.DIO_CFG_DIR c

/-- Strobe line 1 of an enabled camera that mirrors its strobe on the channel is high (R236, R493). -/
def strobeHigh (h : Hw) (c : Nat) : Bool :=
  h.img.cams.any (fun (k, x) => h.flag F.IMG_CAM_CFG_ENABLE k && h.flag F.IMG_CAM_TRIG_STROBE_EN k
    && h.get F.IMG_CAM_TRIG_STROBE_DIO k == c && decide (x.line1.1 ≤ h.wgl.tb) && decide (h.wgl.tb < x.line1.2))

/-- The DIO outputs of the channel's tile are off for silence (R496). -/
def dioSilent (h : Hw) (c : Nat) : Bool := h.til.silent.contains (tileOf (144 + c))

/-- A DIO channel has a channel fault (Table 10.3). -/
def dioFault (h : Hw) (c : Nat) : Bool :=
  h.flag F.DIO_FAULT_OVERLOAD c || h.flag F.DIO_FAULT_SHED c || (h.out (144 + c)).ot
    || (h.flag F.DIO_CFG_DIR c && dioSilent h c) || (!h.flag F.DIO_CFG_DIR c && (h.dio c).openNow)

/-- A DIO output is on. -/
def dioOn (h : Hw) (c : Nat) : Bool :=
  let x := h.out (144 + c)
  if !h.flag F.DIO_CFG_DIR c || dioFault h c || h.tileState (tileOf (144 + c)) == 2 || h.feedBad (tileOf (144 + c)) then false
  else if h.held (144 + c) then x.fs == 1
  else if dioOutput h c && h.get F.DIO_CFG_MODE c == 2 then strobeHigh h c
  else if x.stay then x.fs == 1
  else dioOutput h c && x.cmd

/-- Shows a DIO channel in DIO_STATUS. -/
def showDio (h : Hw) (c : Nat) : Hw :=
  ((h.put F.DIO_STATUS_ON (b2n (dioOn h c)) c).put F.DIO_STATUS_FORCED (b2n (h.flag F.DIO_CFG_DIR c && h.held (144 + c))) c).put
    F.DIO_STATUS_CH_FAULT (b2n (dioFault h c)) c

/-- A command from a DIO output's source (R461, R471). -/
def dioCommand (h : Hw) (c : Nat) (on : Bool) : Hw :=
  if h.canCommand (144 + c) && !(h.flag F.DIO_FAULT_OVERLOAD c || h.flag F.DIO_FAULT_SHED c) then
    showDio (h.setOut (144 + c) { h.out (144 + c) with cmd := on, stay := false }) c
  else h

/-- A control-engine command to a DIO output (DEST 7). -/
def dioEngine (h : Hw) (c : Nat) (on fs : Bool) : Hw × Bool :=
  let mine := dioOutput h c && h.get F.DIO_CFG_MODE c == 0
  let v := if fs then (match h.fsCode (144 + c) with | 0 => false | 1 => true | _ => dioOn h c) else on
  (if mine then dioCommand h c v else h, !mine || dioFault h c || !h.canCommand (144 + c))

end Sys2Proof.Machine
end

