-- ==== Sys2Proof/Machine/FanCore.lean ====
section
/-!
DEFINITION. Fan drives (chapter 11): the request in force, resonance bands, the ramp, table mode, and commands. Readings: log
entry 28.
-/
namespace Sys2Proof.Machine

/-- A fan drive's own state. -/
def Hw.fan (h : Hw) (n : Nat) : Fan := mgetD h.fans n {}
/-- Replaces a fan drive's own state. -/
def Hw.setFan (h : Hw) (n : Nat) (x : Fan) : Hw := { h with fans := mset h.fans n x }

/-- The drive is enabled. -/
def fanOn (h : Hw) (n : Nat) : Bool := h.flag F.FAN_CFG_ENABLE n

/-- A point of a table block: temperature in 0.1 °C and speed (R508). -/
def fanPoint (b : List Byte) (j : Nat) : Int × Nat := (sx 16 (fld b (32 + 4 * j) 2), fld b (34 + 4 * j) 2)

/-- A table block keeps to R508. -/
def fanTableOk (b : List Byte) : Bool :=
  let n := fld b 0 1
  decide (2 ≤ n) && decide (n ≤ 8) && allZero (slice b 1 31)
    && (List.range n).all (fun j =>
      let s := (fanPoint b j).2
      (s == 0 || (decide (100 ≤ s) && decide (s ≤ 12000)))
        && (j + 1 == n || decide ((fanPoint b j).1 < (fanPoint b (j + 1)).1)))

/-- The table's speed at a temperature, from a point on: interpolated, rounded down, flat beyond the ends (R510). -/
def tableAux (b : List Byte) (t : Int) : Nat → Nat → Nat
  | 0, j => (fanPoint b j).2
  | k + 1, j =>
    let (t0, s0) := fanPoint b j
    let (t1, s1) := fanPoint b (j + 1)
    if t ≤ t0 then s0
    else if t < t1 then (s0 + (t - t0) * ((s1 : Int) - s0) / (t1 - t0)).toNat
    else tableAux b t k (j + 1)

/-- The table's speed at a temperature (R510). -/
def tableSpeed (b : List Byte) (t : Int) : Nat := tableAux b t (fld b 0 1 - 1) 0

/-- The thermistor reading of a drive: the last point's temperature while the thermistor is faulted (R512). -/
def fanTemp (h : Hw) (n : Nat) : Int :=
  let x := h.fan n
  match x.sensor, x.table with
  | true, some b => (fanPoint b (fld b 0 1 - 1)).1
  | _, _ => x.temp

/-- The speed that table mode requests, 0 without a valid table. -/
def fanTable (h : Hw) (n : Nat) : Int := match (h.fan n).table with | some b => tableSpeed b (fanTemp h n) | none => 0

/-- The drive is off for a cause of Table 11.2. -/
def fanOff (h : Hw) (n : Nat) : Bool :=
  h.flag F.FAN_FAULT_OVERCURRENT n || h.flag F.FAN_FAULT_SHED n || (h.fan n).stall.isSome || (h.fan n).hot
    || h.tileState (tileOf (272 + n)) == 2 || h.feedBad (tileOf (272 + n))

/-- The drive has a channel fault (Table 11.2). -/
def fanFault (h : Hw) (n : Nat) : Bool :=
  h.flag F.FAN_FAULT_OVERCURRENT n || h.flag F.FAN_FAULT_SHED n || (h.fan n).stall.isSome || (h.fan n).hot

/-- The drive runs in table mode: by R511, or by a fail-safe ON (R513). -/
def fanTableMode (h : Hw) (n : Nat) : Bool :=
  let x := h.out (272 + n)
  if x.stay then (x.fs == 1 && (h.fan n).table.isSome) || (x.fs == 2 && (h.fan n).tmode) else (h.fan n).tmode

/-- The request in force before bands, with reversal only where allowed (R502, R510, R511, R513). -/
def fanRequest (h : Hw) (n : Nat) : Int :=
  let x := h.out (272 + n)
  let r : Int :=
    if fanOff h n then 0
    else if x.stay then
      match x.fs with
      | 0 => 0
      | 1 => fanTable h n
      | _ => if (h.fan n).tmode then fanTable h n else (h.fan n).req
    else if !fanOn h n then 0
    else if (h.fan n).tmode then fanTable h n else (h.fan n).req
  if r < 0 ∧ !h.flag F.FAN_CFG_REV_EN n then 0 else r

/-- The bands of a drive, those that overlap or touch joined (R503): a list of low and high edges in rising order. -/
def joinBands : List (Nat × Nat) → List (Nat × Nat)
  | [] => []
  | (l, u) :: bs =>
    match joinBands bs with
    | [] => [(l, u)]
    | (l2, u2) :: r => if l2 ≤ u then (min l l2, max u u2) :: r else (l, u) :: (l2, u2) :: r

/-- Puts a band in order of its low edge. -/
def addBand (b : Nat × Nat) : List (Nat × Nat) → List (Nat × Nat)
  | [] => [b]
  | c :: cs => if b.1 ≤ c.1 then b :: c :: cs else c :: addBand b cs

/-- The bands in use (R503). -/
def fanBands (h : Hw) (n : Nat) : List (Nat × Nat) :=
  joinBands (((List.range 4).map (fun j => (h.get F.FAN_BAND_LO n j, h.get F.FAN_BAND_HI n j))).filter (·.2 != 0)
    |>.foldr addBand [])

/-- The band strictly inside which a speed magnitude lies. -/
def bandOf (bs : List (Nat × Nat)) (m : Nat) : Option (Nat × Nat) := bs.find? (fun b => decide (b.1 < m) && decide (m < b.2))

/-- The request after the bands (R504): the edge on the side of the present speed, or the edge nearer the request when the
present speed lies inside the band; which of two equally near edges is open. The answer says whether it was moved. -/
def fanTarget (h : Hw) (n : Nat) : Int × Bool :=
  let r := fanRequest h n
  match bandOf (fanBands h n) r.natAbs with
  | none => (r, false)
  | some (l, u) =>
    let s := (h.getS F.FAN_SPEED_SPEED n).natAbs
    let m := r.natAbs
    let e := if s ≤ l then l else if u ≤ s then u
      else if m - l < u - m then l else if u - m < m - l then u
      else if Config.freeNat (l + u) % 2 = 0 then l else u
    (if r < 0 then -(e : Int) else e, true)

/-- The speed a ramp from one value towards another reaches after a time in ns, at a rate in rpm/s that is higher inside the
bands (R502, R505); the fuel is the number of band edges. -/
def rampTo (bs : List (Nat × Nat)) (acc bacc : Nat) : Nat → Q → Q → Q → Q
  | 0, _, goal, _ => goal
  | k + 1, a, goal, t =>
    if a = goal then goal
    else
      let up := qlt a goal
      let edges : List Q := (bs.flatMap (fun b => [qi b.1, qi b.2, qi (-(b.1 : Int)), qi (-(b.2 : Int))]))
      let between := edges.filter (fun e => if up then qlt a e && qlt e goal else qlt e a && qlt goal e)
      let next := between.foldl (fun m e => if up then qmin m e else qmax m e) goal
      let mid := qdiv (qadd a next) (qi 2)
      let inside := bs.any (fun b =>
        (qlt (qi b.1) mid && qlt mid (qi b.2)) || (qlt (qi (-(b.2 : Int))) mid && qlt mid (qi (-(b.1 : Int)))))
      let rate : Q := mkQ (max 1 (if inside then bacc else acc) : Nat) 1000000000
      let dist := if up then qsub next a else qsub a next
      let need := qdiv dist rate
      if qle need t then rampTo bs acc bacc k next goal (qsub t need)
      else (if up then qadd a (qmul rate t) else qsub a (qmul rate t))

/-- The drive's speed target now (R502 to R505). -/
def fanRamp (h : Hw) (n : Nat) : Q :=
  let x := h.fan n
  rampTo (fanBands h n) (h.get F.FAN_LIMIT_ACCEL n) (h.get F.FAN_LIMIT_BAND_ACCEL n) 20 x.from_ (qi (fanTarget h n).1)
    (qi (h.now - x.fromAt : Nat))

/-- The ramp goes on from where it stands now, before the request changes. -/
def fanAnchor (h : Hw) (n : Nat) : Hw := h.setFan n { h.fan n with from_ := fanRamp h n, fromAt := h.now }

/-- Shows a drive in FAN_STATUS and FAN_SPEED.TEMP. -/
def showFan (h : Hw) (n : Nat) : Hw :=
  (((((h.put F.FAN_STATUS_TABLE (b2n (fanTableMode h n)) n).put F.FAN_STATUS_TAB_VALID (b2n (h.fan n).table.isSome) n).put
    F.FAN_STATUS_FORCED (b2n (h.held (272 + n))) n).put F.FAN_STATUS_CH_FAULT (b2n (fanFault h n)) n).put
    F.FAN_STATUS_IN_BAND (b2n (fanTarget h n).2) n).putS F.FAN_SPEED_TEMP (fanTemp h n) n

/-- A command from a drive's source (R506, R511). It restarts the time without commands; while the drive is held, or off for
a cause that firmware must clear, it does not become the request (R461, R471). -/
def fanCommand (h : Hw) (n : Nat) (rpm : Int) : Hw :=
  if h.canCommand (272 + n) && !(h.flag F.FAN_FAULT_OVERCURRENT n || h.flag F.FAN_FAULT_SHED n) then
    let h1 := fanAnchor h n
    let h2 := h1.setOut (272 + n) { h1.out (272 + n) with stay := false }
    showFan (h2.setFan n { h2.fan n with req := rpm, cmdAt := h.now, tmode := false }) n
  else h

/-- A control-engine command to a fan drive (DEST 8). With `fs` the stored fail-safe state is commanded (FAIL 2): OFF as a
request of 0, HOLD as the request in force, ON as the table's request. -/
def fanEngine (h : Hw) (n : Nat) (rpm : Int) (fs : Bool) : Hw × Bool :=
  let mine := fanOn h n && h.get F.FAN_CFG_MODE n == 0
  let v := if fs then (match h.fsCode (272 + n) with | 0 => 0 | 1 => fanTable h n | _ => fanRequest h n) else rpm
  (if mine then fanCommand h n v else h, !mine || fanFault h n || !h.canCommand (272 + n))

/-- Puts a drive at its fail-safe state (R513). -/
def fanFailsafe (h : Hw) (n : Nat) : Hw :=
  let h1 := fanAnchor h n
  let keep := fanRequest h n
  let code := h.fsCode (272 + n)
  let h2 := if code = 2 then h1.setFan n { h1.fan n with req := keep } else h1
  showFan (h2.setOut (272 + n) { h2.out (272 + n) with stay := true, fs := code }) n

end Sys2Proof.Machine
end

