-- ==== Sys2Proof/Machine/ValveCore.lean ====
section
/-!
DEFINITION. Valve channels (chapter 08): the regulated target, profiles, starts and stops, and the actions of Waggle and of the
control engine on them. Readings: log entry 24.
-/
namespace Sys2Proof.Machine

/-- A valve channel's own state. -/
def Hw.sol (h : Hw) (c : Nat) : Sol := mgetD h.vlv.chs c {}
/-- Replaces a valve channel's own state. -/
def Hw.setSol (h : Hw) (c : Nat) (x : Sol) : Hw := { h with vlv := { h.vlv with chs := mset h.vlv.chs c x } }

/-- The channel is enabled. -/
def solOn (h : Hw) (c : Nat) : Bool := h.flag F.SOL_CFG_ENABLE c
/-- The channel's mode (Table 08.2). -/
def solMode (h : Hw) (c : Nat) : Nat := h.get F.SOL_CFG_MODE c

/-- Full scale in mA (SOL_CFG.IFS). -/
def solIfs (h : Hw) (c : Nat) : Nat := [1250, 2500, 5000, 10000].getD (h.get F.SOL_CFG_IFS c) 0

/-! ## Profiles (Tables 08.4 and 08.5) -/

/-- TARGET of phase i. -/
def phTarget (b : List Byte) (i : Nat) : Nat := fld b (16 + 8 * i) 2 % 4096
/-- KIND of phase i: 0 REG, 1 PEAK, 2 RAMP, 3 OFF. -/
def phKind (b : List Byte) (i : Nat) : Nat := fld b (18 + 8 * i) 1 % 4
/-- TTP of phase i. -/
def phTtp (b : List Byte) (i : Nat) : Bool := bit (fld b (18 + 8 * i) 1) 4
/-- Dither amplitude of phase i. -/
def phDithA (b : List Byte) (i : Nat) : Nat := fld b (19 + 8 * i) 1
/-- DURATION of phase i in ns; 0 until stopped. -/
def phDur (b : List Byte) (i : Nat) : Nat := 10000 * fld b (20 + 8 * i) 2
/-- Dither frequency of phase i in 2 Hz units. -/
def phDithF (b : List Byte) (i : Nat) : Nat := fld b (22 + 8 * i) 1
/-- NPHASE. -/
def profN (b : List Byte) : Nat := fld b 1 1 % 16

/-- Phase i of a block with n phases keeps to Table 08.5 and R417. -/
def phOk (b : List Byte) (n i : Nat) : Bool :=
  if n ≤ i then allZero (slice b (16 + 8 * i) 8)
  else
    let k := phKind b i
    let x := fld b (18 + 8 * i) 1
    decide (fld b (16 + 8 * i) 2 < 4096) && x / 4 % 4 != 3 && !bit x 5 && !bit x 6 && !bit x 7
      && (!phTtp b i || k == 1) && (phDithF b i == 0 || (decide (25 ≤ phDithF b i) && decide (phDithF b i ≤ 250)))
      && fld b (23 + 8 * i) 1 == 0 && (phDur b i != 0 || (i + 1 == n && (k == 0 || k == 3)))

/-- A profile block keeps to Table 08.4 (R421). -/
def solProfOk (b : List Byte) : Bool :=
  let n := fld b 1 1
  decide (fld b 0 1 < 64) && decide (1 ≤ n) && decide (n ≤ 8) && decide (fld b 2 1 < 3) && allZero (slice b 3 13)
    && (List.range 8).all (phOk b n)

/-! ## The regulated target (R436, R438, R439, R412) -/

/-- A code after calibration correction (R438). -/
def correctCode (k : Q) (code : Nat) : Nat := min 4095 (qfloor (qmul (qi code) k)).toNat

/-- The triangular wave of dither at a time since it began (R412). -/
def dither (amp f t : Nat) : Q :=
  if f = 0 then qi 0 else
    let x := mkQ ((2 * f * t % 1000000000 : Nat) : Int) 1000000000
    let y := if qlt x (mkQ 1 4) then qmul (qi 4) x
      else if qlt x (mkQ 3 4) then qsub (qi 2) (qmul (qi 4) x)
      else qsub (qmul (qi 4) x) (qi 4)
    qmul (qi amp) y

/-- The current ceiling in codes at the coil estimate (R436). -/
def solCeiling (h : Hw) (c : Nat) : Nat :=
  let t := (h.sol c).temp
  let w : Q := mkQ (sx 16 ((h.sol c).lim % 2 ^ 16)) 10
  let l : Q := mkQ (sx 16 ((h.sol c).lim / 2 ^ 16)) 10
  if qle t w then 4095 else if qle l t then 0
  else (qfloor (qdiv (qmul (qi 4095) (qsub l t)) (qsub l w))).toNat

/-- A ramp's target between two codes after a part of its duration. -/
def rampAt (a b : Nat) (t dur : Nat) : Q := qadd (qi a) (mkQ (((b : Int) - a) * (min t dur : Nat)) dur)

/-- The code a channel is to regulate now, corrected, before dither and the ceiling (R438, R439). -/
def solBase (h : Hw) (c : Nat) : Q :=
  let x := h.sol c
  match x.out with
  | 0 => qi 0
  | 1 => qi (correctCode x.k x.base)
  | 2 => qi x.base
  | _ =>
    let i := x.phase
    let tgt := correctCode x.k (phTarget x.prof i)
    match phKind x.prof i with
    | 0 => qi tgt
    | 1 => qi (phTarget x.prof i)
    | 2 =>
      let a := if i = 0 then x.startCode
        else if phKind x.prof (i - 1) = 0 ∨ phKind x.prof (i - 1) = 2 then correctCode x.k (phTarget x.prof (i - 1))
        else phTarget x.prof (i - 1)
      rampAt a tgt (h.now - x.phaseAt) (phDur x.prof i)
    | _ => qi 0

/-- The dither in force, as amplitude and frequency: none in a fail-safe state, nor in PEAK and OFF phases (R412, Table 09.5). -/
def solDither (x : Sol) : Option (Nat × Nat) :=
  match x.out with
  | 1 => some (bits x.cfg 23 16, bits x.cfg 31 24)
  | 3 => if phKind x.prof x.phase = 0 ∨ phKind x.prof x.phase = 2 then some (phDithA x.prof x.phase, phDithF x.prof x.phase) else none
  | _ => none

/-- The requested code: corrected, with dither, before the ceiling (R412, R439). -/
def solRequest (h : Hw) (c : Nat) : Q :=
  match solDither (h.sol c) with
  | some (amp, f) => qclamp (qadd (solBase h c) (dither amp f (h.now - (h.sol c).dithAt))) (qi 0) (qi 4095)
  | none => solBase h c

/-- The output is kept off by a protection (Table 08.7, R465, R820). -/
def solInhibit (h : Hw) (c : Nat) : Bool :=
  h.flag F.SOL_FAULT_OVERCURRENT c || h.flag F.SOL_FAULT_SHED c || (h.sol c).drvHot || (h.sol c).shortBat
    || h.tileState (tileOf c) == 2 || h.feedBad (tileOf c)

/-- The channel has a channel fault (Table 08.7, R432). -/
def solFault (h : Hw) (c : Nat) : Bool :=
  h.flag F.SOL_FAULT_OVERCURRENT c || h.flag F.SOL_FAULT_SHED c || (h.sol c).drvHot || (h.sol c).shortBat || (h.sol c).openNow
    || h.flag F.SOL_STATUS_COIL_HOT c

/-- SOL_STATUS.STATE. -/
def solStateOf (h : Hw) (c : Nat) : Nat :=
  if !solOn h c then 0
  else if solMode h c ≠ 1 then 4
  else if (h.sol c).out = 3 then 2
  else if h.now < (h.sol c).offEnd then 3
  else 1

/-- Shows a valve channel in SOL_STATUS and SOL_CURRENT.CODE; the rounding of a ramp or of dither is open. -/
def showSol (h : Hw) (c : Nat) : Hw :=
  let x := h.sol c
  let r := solRequest h c
  let top := solCeiling h c
  let (code, h1) := if solInhibit h c then (0, h) else h.openRound (qmin r (qi top))
  let run := decide (x.out = 3)
  ((((((h1.put F.SOL_STATUS_STATE (solStateOf h c) c).put F.SOL_STATUS_PHASE (if run then x.phase else 0) c).put
    F.SOL_STATUS_PROF (if run then x.no else 0) c).put F.SOL_STATUS_PEND (b2n x.pend.isSome) c).put
    F.SOL_STATUS_LIMITED (b2n (qlt (qi top) r)) c).put F.SOL_STATUS_CH_FAULT (b2n (solFault h c)) c).put
    F.SOL_CURRENT_CODE code.toNat c

/-! ## Starts, stops and ends -/

/-- The output switches off; a running profile ends, and its off-time runs from an instant (R416, R424). -/
def solOffAt (h : Hw) (c t : Nat) : Hw :=
  let x := h.sol c
  let x1 := { x with out := 0, base := 0, offEnd := if x.out = 3 then t + 1000 * x.offtime else x.offEnd }
  showSol (h.setSol c x1) c

/-- The output switches off now. -/
def solOff (h : Hw) (c : Nat) : Hw := solOffAt h c h.now

/-- A profile action reaches the channel: it is enabled in MODE 1 and not held (R405, R471). -/
def solGate (h : Hw) (c : Nat) : Bool := solOn h c && solMode h c == 1 && h.canCommand c

/-- The profile is valid and owned by the channel's owner (R419). -/
def profUsable (h : Hw) (c n : Nat) : Bool :=
  match mget h.vlv.profs n with
  | some (p, _) => h.ownsPort p c
  | none => false

/-- The measured current in codes. -/
def measCode (h : Hw) (c : Nat) : Nat := h.get F.SOL_CURRENT_MEAN c * 4096 / solIfs h c

/-- Why a profile cannot start now, or ST_OK: the channel or the profile (R405, R419), or a hot coil or a latched
protection (R427, R461). -/
def startCheck (h : Hw) (c n : Nat) : Nat :=
  firstBad [(solGate h c, ST_SOL_MODE), (profUsable h c n, ST_SOL_PROFILE),
    (!h.flag F.SOL_STATUS_COIL_HOT c, ST_SOL_COIL_HOT),
    (!(h.flag F.SOL_FAULT_OVERCURRENT c || h.flag F.SOL_FAULT_SHED c), ST_SOL_FAULT)]

/-- Counts a discarded or refused action (R405, R419, R427). -/
def countStart (h : Hw) (st : Nat) : Hw :=
  if st = ST_SOL_MODE ∨ st = ST_SOL_PROFILE then h.bump F.SOL_CNT_COUNT 0
  else if st = ST_OK then h else h.bump F.SOL_CNT_COUNT 1

/-- Starts a profile's sequencer (R418, R446). -/
def beginProfile (h : Hw) (c n : Nat) : Hw :=
  let x := h.sol c
  let b := match mget h.vlv.profs n with | some (_, b) => b | none => []
  let h1 := h.setOut c { h.out c with stay := false }
  showSol (h1.setSol c { x with
    out := 3, prof := b, no := n, phase := 0, phaseAt := h.now, dithAt := h.now, startCode := measCode h c,
    ttpDone := false, ttpMin := h.get F.SOL_TTP_MIN c, ttpMax := h.get F.SOL_TTP_MAX c,
    offtime := h.get F.SOL_OFFTIME_OFFTIME c }) c

/-- Ends a waiting start with a status; a Waggle start completes with it (R113, R114, R428). -/
def endPend (h : Hw) (c st defer : Nat) : Hw :=
  match (h.sol c).pend with
  | none => h
  | some (_, src) =>
    let h1 := h.setSol c { h.sol c with pend := none }
    match src with
    | some f => h1.fireCpl f st defer
    | none => h1

/-- A profile start for a Waggle firing or for a control-engine slot: begins at once, waits, or is discarded; none where the
completion comes later (R112, R113, R425, R427). -/
def solStart (h : Hw) (c n : Nat) (src : Option Fire) : Hw × Option Nat :=
  if !solGate h c then (countStart h ST_SOL_MODE, some ST_SOL_MODE)
  else if !profUsable h c n then (countStart h ST_SOL_PROFILE, some ST_SOL_PROFILE)
  else if (h.sol c).out = 3 ∨ h.now < (h.sol c).offEnd then
    let h1 := if (h.sol c).pend.isSome then (endPend h c ST_EVENT_REPLACED 0).bump F.WGL_CNT_COUNT 1 else h
    (showSol (h1.setSol c { h1.sol c with pend := some (n, src) }) c, none)
  else
    let st := startCheck h c n
    if st = ST_OK then (beginProfile h c n, some ST_OK) else (countStart h st, some st)

/-- A profile stop: ends a running profile, or is discarded (R110, R111, R426). -/
def solStop (h : Hw) (c : Nat) : Hw × Option Nat :=
  if !solGate h c then (countStart h ST_SOL_MODE, some ST_SOL_MODE)
  else if (h.sol c).out = 3 then (solOff h c, some ST_OK)
  else (h.bump F.WGL_CNT_COUNT 0, some ST_EVENT_NOT_RUNNING)

/-- ACTION 4 of a Waggle slot. -/
def solStartEv (h : Hw) (f : Fire) : Hw × Option Nat := solStart h (sTarget f.raw) (sParam f.raw % 64) (some f)

/-- ACTION 5 of a Waggle slot. -/
def solStopEv (h : Hw) (f : Fire) : Hw × Option Nat := solStop h (sTarget f.raw)

/-- The waiting start of a channel begins, or is refused, once no profile runs and the off-time has passed (R114, R425,
R427); DEFER is its delay from the crossing in 4 µs units. -/
def solDeferredStart (h : Hw) (c : Nat) : Hw :=
  let x := h.sol c
  match x.pend with
  | none => h
  | some (n, src) =>
    if x.out = 3 ∨ h.now < x.offEnd then h
    else
      let st := startCheck h c n
      let defer := match src with | some f => (h.wgl.tb - f.tov) / 4000 | none => 0
      let h1 := endPend h c st (if st = ST_OK then defer else 0)
      if st = ST_OK then beginProfile h1 c n else showSol (countStart h1 st) c

/-! ## Codes (MODE 0 and 2) -/

/-- A current code from the channel's source (R408); ignored while the channel is held or off for a latched cause. -/
def solCode (h : Hw) (c code : Nat) : Hw :=
  if h.canCommand c && !(h.flag F.SOL_FAULT_OVERCURRENT c || h.flag F.SOL_FAULT_SHED c) then
    let x := h.sol c
    showSol ((h.setOut c { h.out c with stay := false }).setSol c
      { x with out := 1, base := code, code := code, dithAt := if x.out = 1 then x.dithAt else h.now }) c
  else h

/-- The code a channel regulates now without its dither, for a fail-safe HOLD (Table 09.5); the rounding of a ramp is open. -/
def heldCode (h : Hw) (c : Nat) : Nat × Hw :=
  if solInhibit h c then (0, h) else (let (x, g) := h.openRound (solBase h c); (x.toNat, g))

/-- Puts a channel at its fail-safe state (Table 09.5): off, LSW_FS_CODE, or the code regulated at the moment; a running
profile ends, with an off-time only where the driver switches off (R424). -/
def solFailsafe (h : Hw) (c : Nat) : Hw :=
  match h.fsCode c with
  | 0 => solOff h c
  | 1 => showSol (h.setSol c { h.sol c with out := 2, base := h.get F.LSW_FS_CODE_CODE c }) c
  | _ =>
    let (x, g) := heldCode h c
    showSol (g.setSol c { g.sol c with out := 2, base := x }) c

/-- The control engine sees a valve channel as blocked or faulted (R360, R406, R432, R436). -/
def solBlocked (h : Hw) (c mode : Nat) : Bool :=
  !(solOn h c && solMode h c == mode) || solFault h c || !h.canCommand c || h.flag F.SOL_STATUS_LIMITED c

/-- A control-engine code (DEST 2 and 3, R406). -/
def solEngine (h : Hw) (c code : Nat) (fs : Bool) : Hw × Bool :=
  (if solOn h c && solMode h c == 0 then
     (if fs then (if h.canCommand c then solFailsafe h c else h) else solCode h c code)
   else h, solBlocked h c 0)

/-- A control-engine profile command (DEST 4, R355, R356): acts when the value changes, without completions. -/
def solEngineProf (h : Hw) (c : Nat) (v : Int) (fs : Bool) : Hw × Bool :=
  let b := solBlocked h c 1
  if fs then (if solOn h c && solMode h c == 1 && h.canCommand c then solFailsafe h c else h, b)
  else if v = (h.sol c).lastV then (h, b)
  else
    let h1 := h.setSol c { h.sol c with lastV := v }
    if v = 0 then ((solStop h1 c).1, b)
    else if 1 ≤ v ∧ v ≤ 64 then ((solStart h1 c (v - 1).toNat none).1, b)
    else (h1, b)

end Sys2Proof.Machine
end

