-- ==== Sys2Proof/Machine/Outputs.lean ====
section
/-!
DEFINITION. Forces and protection across all outputs (R465, R470, R471, R476, R477, R820): putting channels at their fail-safe
states, releasing them, and switching them off with their tile. Readings: log entry 25.
-/
namespace Sys2Proof.Machine

/-- The 4-byte entries of a set descriptor (R422, R459, R494, R507). -/
def setEntries (d : List Byte) : List Nat := (List.range (fld d 1 1)).map (fun i => fld d (8 + 4 * i) 4)

/-- Shows an output channel in its status register. -/
def showOut (h : Hw) (p : Nat) : Hw :=
  if p < 48 then showSol h p
  else if p < 144 then showLs h (p - 48)
  else if p < 272 then showDio h (p - 144)
  else showFan h (p - 272)

/-- Puts an output channel at its stored fail-safe state (Table 09.5); HOLD keeps the output of the moment. -/
def forceCh (h : Hw) (p : Nat) : Hw :=
  let x := h.out p
  if p < 48 then
    let h1 := solFailsafe h p
    showSol (h1.setOut p { h1.out p with stay := true, cmd := false }) p
  else if p < 272 then
    let on := if p < 144 then lsOn h (p - 48) else dioOn h (p - 144)
    let fs := match h.fsCode p with | 0 => 0 | 1 => 1 | _ => b2n on
    showOut (h.setOut p { x with stay := true, fs := fs, cmd := false }) p
  else fanFailsafe h (p - 272)

/-- An output switched off with its tile's feed: it stays off until its source commands it again (R477, R820). -/
def dropCh (h : Hw) (p : Nat) : Hw :=
  let x := h.out p
  if p < 48 then
    let h1 := solOff h p
    showSol (h1.setOut p { h1.out p with stay := true, fs := 0, cmd := false }) p
  else if p < 272 then showOut (h.setOut p { x with stay := true, fs := 0, cmd := false }) p
  else
    let h1 := fanAnchor h (p - 272)
    showFan (h1.setOut p { x with stay := true, fs := 0, cmd := false }) (p - 272)

/-- Every channel of a tile goes to its fail-safe state. -/
def forceTile (h : Hw) (t : Nat) : Hw := (tilePorts t).foldl forceCh h

/-- Every channel of a tile is switched off. -/
def dropTile (h : Hw) (t : Nat) : Hw := (tilePorts t).foldl dropCh h

/-- Shows every channel of a tile. -/
def showTile (h : Hw) (t : Nat) : Hw := (tilePorts t).foldl showOut h

/-- Sets the per-channel forces of a channel, forcing it when a force begins; a tripped tile stays off (R470, R471). -/
def setForce (h : Hw) (p : Nat) (pf hf : Bool) : Hw :=
  let x := h.out p
  let begins := (pf && !x.pf) || (hf && !x.hf)
  let h1 := h.setOut p { x with pf := pf, hf := hf }
  if begins && h.tileState (tileOf p) != 2 then forceCh h1 p else showOut h1 p

/-- The output ports of a partition. -/
def partOutputs (h : Hw) (p : Nat) : List Nat := (List.range 280).filter (fun i => h.ownsPort p i)

/-- Forces the outputs of a partition that stops to their fail-safe states; its waiting valve starts end without completions
and its stored profiles become free (R197, R470, R104, R421). -/
def stopOutputs (h : Hw) (p : Nat) : Hw :=
  let h1 := (partOutputs h p).foldl (fun g i =>
    let g1 := if i < 48 then g.setSol i { g.sol i with pend := none, lastV := 0 } else g
    setForce g1 i true (g1.out i).hf) h
  let mine := (h1.vlv.profs.filter (fun x => x.2.1 == p)).map (·.1)
  mine.foldl (fun g n => { g with vlv := { g.vlv with profs := mdel g.vlv.profs n } }.setReg (F.SOL_PROF_INFO_OWNER.at n 0) 0) h1

/-- Releases the outputs of a partition that reaches RUNNING; each stays at its fail-safe output until commanded (R470). -/
def releaseOutputs (h : Hw) (p : Nat) : Hw :=
  (partOutputs h p).foldl (fun g i => setForce g i false (g.out i).hf) h

/-- The output ports that header outputs off holds: in the merged configuration the header ports that are no raise ports
(R210). -/
def headerPorts (h : Hw) : List Nat :=
  if h.prp.cfg.mode = 1 then h.prp.cfg.hdrPorts.filter (fun i => decide (i < 280) && !h.prp.cfg.raisePorts.contains i) else []

/-- Header outputs go off or follow their commands again, as `outsOff` says (R210, R211, R470). -/
def hdrOutputs (h : Hw) : Hw := (headerPorts h).foldl (fun g i => setForce g i (g.out i).pf h.prp.outsOff) h

/-- A DIO change record goes to the queue of the channel's owner, or is dropped (R490, R492). -/
def dioRecord (h : Hw) (c : Nat) (bs : List Byte) (tov : Nat) : Hw :=
  match h.portOwner (144 + c) with
  | some p =>
    let r := bufPut h true (qKey 6 p) bs tov
    if r.2 then r.1 else (r.1.bump F.DIO_DROP_COUNT p).log 0x0A05 p true
  | none => h

end Sys2Proof.Machine
end

