-- ==== Sys2Proof/Machine/CanCore.lean ====
section
/-!
DEFINITION. CAN controllers (chapter 14): filters, mailboxes and the receive FIFO, transmit requests, what ends them, error
states, and the requests of Waggle and of the control engine. Readings: log entries 31 and 32.
-/
namespace Sys2Proof.Machine

/-- A controller's own state. -/
def Hw.canc (h : Hw) (n : Nat) : CanCtl := mgetD h.can.ctls n {}
/-- Replaces a controller's own state. -/
def Hw.setCanc (h : Hw) (n : Nat) (x : CanCtl) : Hw := { h with can := { h.can with ctls := mset h.can.ctls n x } }
/-- A transmit buffer. -/
def Hw.canb (h : Hw) (n b : Nat) : CanMb := mgetD h.can.mbs (128 * n + b) {}
/-- Replaces a transmit buffer. -/
def Hw.setCanb (h : Hw) (n b : Nat) (x : CanMb) : Hw := { h with can := { h.can with mbs := mset h.can.mbs (128 * n + b) x } }

/-- The controller is enabled. -/
def canOn (h : Hw) (n : Nat) : Bool := h.flag F.CAN_CTRL_EN n
/-- The controller's state (Table 14.3). -/
def canState (h : Hw) (n : Nat) : Nat := h.get F.CAN_STATUS_STATE n

/-- Data bytes of a DLC (ISO 11898-1). -/
def dlcLen (fd : Bool) (dlc : Nat) : Nat :=
  if dlc ≤ 8 then dlc else if !fd then 8 else [12, 16, 20, 24, 32, 48, 64].getD (dlc - 9) 64

/-- Extended identifier. -/
def frameIde (w : Nat) : Bool := bit w 29
/-- CAN FD frame. -/
def frameFdf (w : Nat) : Bool := bit w 30
/-- The 29-bit identifier field. -/
def frameId (w : Nat) : Nat := w % 2 ^ 29

/-- A filter accepts an identifier (R621). -/
def canMatch (ide : Bool) (id mask w : Nat) : Bool := ide == frameIde w && Nat.xor (frameId w) id &&& mask == 0

/-- An identifier belongs to the header-link set (Table 04.10). -/
def headerLink (h : Hw) (w : Nat) : Bool := h.prp.cfg.link.any (fun (ide, id, mask) => canMatch ide id mask w)

/-! ## Reception (R621 to R628) -/

/-- Bytes 4 to 127 of a mailbox or FIFO record (Table 14.4). -/
def canBody (h : Hw) (n : Nat) (f : CanFrame) (loop : Bool) (tov : Nat) : List Byte :=
  leBytes 4 f.idw ++ [BitVec.ofNat 8 (f.dlc + 16 * b2n f.rtr + 32 * b2n f.esi + 64 * b2n loop), BitVec.ofNat 8 f.data.length]
    ++ zeros 6 ++ h.stamp (h.get F.CAN_CTRL_BIND n) tov ++ padTo 64 f.data

/-- Counts a lost or overwritten frame (R622, R625, R627). -/
def canLoss (h : Hw) (n i : Nat) : Hw := (h.bump F.CAN_CNT_COUNT n i).log 0x0E06 n true

/-- Stores a frame in a mailbox: the body, then the header in one operation (R625). -/
def mailboxWrite (h : Hw) (n b : Nat) (f : CanFrame) (loop : Bool) (tov : Nat) : Hw :=
  let a := h.get64 F.CAN_MB_BASE_LO_ADDR n + 128 * b
  let w : Who := ⟨(h.portOwner (280 + n)).getD 8, 39, false⟩
  let h1 := h.wr (a + 4) (canBody h n f loop tov) w
  let (h2, ok) := h1.scan w a 4
  if !ok then h2 else
    let old := h2.rdN a 4
    let h3 := h2.wr a (leBytes 4 ((bits old 31 16 + 1) % 2 ^ 16 * 2 ^ 16 + bits old 15 3 * 8 + 4 * b2n (bit old 0 || bit old 2) + 1)) w
    if bit old 0 then canLoss h3 n 0 else h3

/-- The receive buffer that takes a frame: the first that accepts it (R622). -/
def rxBuffer (h : Hw) (n w : Nat) : Option Nat :=
  (List.range 128).find? (fun b => h.get F.CAN_MB_CFG_DIR n b == 1
    && canMatch (h.flag F.CAN_MB_ID_IDE n b) (h.get F.CAN_MB_ID_ID n b) (h.get F.CAN_MB_MASK_ID n b) w)

/-- Offers a frame to the receive buffers and then to the FIFO (R622, R627). -/
def canStore (h : Hw) (n : Nat) (f : CanFrame) (loop : Bool) (tov : Nat) : Hw :=
  match rxBuffer h n f.idw with
  | some b => mailboxWrite h n b f loop tov
  | none =>
    let x := h.canc n
    if h.flag F.CAN_FIFO_ID_EN n && (h.flag F.CAN_FIFO_ID_ALL n
        || canMatch (h.flag F.CAN_FIFO_ID_IDE n) (h.get F.CAN_FIFO_ID_ID n) (h.get F.CAN_FIFO_MASK_ID n) f.idw) then
      if 256 ≤ x.fifo.length then canLoss h n 2
      else
        let seq := (x.fifoSeq + 1) % 2 ^ 16
        h.setCanc n { x with fifoSeq := seq,
                             fifo := x.fifo ++ [(tov, leBytes 4 (n * 2 ^ 4 + seq * 2 ^ 16) ++ canBody h n f loop tov)] }
    else canLoss h n 1

/-- A frame carries the ISO 11783 heartbeat of a node (R646): the published parameter group 0xF0E4. -/
def isHeartbeat (w sa : Nat) : Bool := frameIde w && w / 256 % 2 ^ 16 == 0xF0E4 && w % 256 == sa

/-- The identity frames of CAN01, which the module takes (R216, R217, R622). -/
def identityFrame (n w : Nat) : Bool :=
  n == 1 && frameIde w && (frameId w / 2 ^ 24 == 0x1E || (decide (0x1D000000 ≤ frameId w) && decide (frameId w ≤ 0x1D000014)))

/-- A valid frame from the wire (R208, R622, R646). -/
def canReceive (h : Hw) (n : Nat) (f : CanFrame) (tov : Nat) : Hw :=
  if identityFrame n f.idw then h
  else if n = 1 ∧ h.prp.cfg.mode = 1 ∧ headerLink h f.idw then (h.bump F.PRP_HDR_STATUS_FOREIGN).log 0x0409 0xFFFF true
  else
    let h1 := if h.flag F.CAN_HB_WATCH_EN n && isHeartbeat f.idw (h.get F.CAN_HB_WATCH_SA n) then
        (h.setCanc n { h.canc n with seenAt := h.now }).put F.CAN_HB_LOST 0 n
      else h
    canStore h1 n f false tov

/-! ## Requests (R629 to R638) -/

/-- A send ends: the operation attached to it completes (R642). -/
def reqDone (h : Hw) (r : CanReq) (st sent : Nat) : Hw :=
  match r.op with
  | some id => h.finishId id st (if r.tries = 0 then h.tb else r.sof) r.tries sent
  | none => h

/-- The buffer's frame is on the bus, or looped and not yet delivered. -/
def onBus (h : Hw) (n b : Nat) : Bool :=
  (match (h.canc n).tx with | some t => t.mb == b | none => false) || (h.canc n).loops.any (fun t => t.mb == b)

/-- The request in progress of a buffer ends, and the one made meanwhile takes its place (R632). -/
def reqEnd (h : Hw) (n b st sent : Nat) : Hw :=
  let x := h.canb n b
  let h1 := h.setCanb n b { x with req := x.next, next := none }
  match x.req with | some r => reqDone h1 r st sent | none => h1

/-- Header commands are withheld from a buffer: header outputs are off in the split configuration (R210). -/
def hdrBlocked (h : Hw) (n b : Nat) : Bool := n == 1 && h.prp.cfg.mode == 0 && h.prp.outsOff && h.prp.cfg.cmdMb.contains b

/-- The identifier is replaced in part by the claimed address (R637). -/
def saIns (h : Hw) (n b : Nat) : Bool := h.flag F.CAN_MB_CFG_SA_INS n b && frameIde (h.canb n b).idw

/-- Merges an operation into a request; the answer says whether it was attached (R631). -/
def attach (r : CanReq) (op : Option Nat) : CanReq × Bool :=
  match r.op, op with
  | none, some id => ({ r with op := some id }, true)
  | _, _ => (r, false)

/-- A request to send a buffer's frame, from a ring operation or without one: the status of one that makes no transmission of
its own, ST_OK otherwise (R631, R632, R637, R210). -/
def canRequest (h : Hw) (n b : Nat) (op : Option Nat) : Hw × Nat :=
  let x := h.canb n b
  let refuse (st : Nat) : Hw × Nat := (reqDone h ⟨op, 0, 0⟩ st 0, st)
  let merge (r : CanReq) (set : CanReq → CanMb) : Hw × Nat :=
    let h1 := h.bump F.CAN_CNT_COUNT n 3
    let (r1, ok) := attach r op
    let h2 := h1.setCanb n b (set r1)
    (if ok then h2 else reqDone h2 ⟨op, 0, 0⟩ ST_CAN_MERGED 0, ST_CAN_MERGED)
  if hdrBlocked h n b then refuse ST_HDR_BLOCKED
  else if saIns h n b && h.get F.CAN_ADDR_ADDR n == 254 then refuse ST_CAN_NO_ADDRESS
  else if onBus h n b then
    match x.next with
    | some r => merge r (fun r1 => { x with next := some r1 })
    | none => (h.setCanb n b { x with next := some ⟨op, 0, 0⟩ }, ST_OK)
  else match x.req with
    | some r => merge r (fun r1 => { x with req := some r1 })
    | none => (h.setCanb n b { x with req := some ⟨op, 0, 0⟩ }, ST_OK)

/-- The buffer is a transmit buffer of an enabled controller. -/
def canTxOk (h : Hw) (n b : Nat) : Bool := canOn h n && h.get F.CAN_MB_CFG_DIR n b == 2

/-- ACTION 7 of a Waggle slot (R643). -/
def canSendEv (h : Hw) (f : Fire) : Hw × Option Nat :=
  let n := sTarget f.raw / 256 % 16
  let b := sTarget f.raw % 128
  if canTxOk h n b then
    let (h1, st) := canRequest h n b none
    (h1, some (if st = ST_CAN_NO_ADDRESS then ST_OK else st))
  else (h, some ST_CAN_NOT_TX)

/-- A DEST 9 write: two bytes of a transmit buffer (R630, R634). -/
def canSignal (h : Hw) (n b aux : Nat) (v : Int) : Hw :=
  if h.get F.CAN_MB_CFG_DIR n b = 2 then
    let x := h.canb n b
    h.setCanb n b { x with data := (patch x.data aux (leBytes 2 (clampI v 0 65535).toNat)).take 64 }
  else h

/-- The request of a DEST 9 write at the end of its tick (R629). -/
def canSignalSend (h : Hw) (n b : Nat) : Hw := if canTxOk h n b then (canRequest h n b none).1 else h

/-- Requests of withheld buffers that have not started end when header outputs go off (R210). -/
def canHdrOff (h : Hw) : Hw :=
  h.prp.cfg.cmdMb.foldl (fun g b =>
    if !hdrBlocked g 1 b then g
    else
      let x := g.canb 1 b
      let g1 := match x.next with
        | some r => reqDone (g.setCanb 1 b { x with next := none }) r ST_HDR_BLOCKED 0
        | none => g
      if onBus g1 1 b || (g1.canb 1 b).req.isNone then g1 else reqEnd g1 1 b ST_HDR_BLOCKED 0) h

/-! ## Arbitration and attempts -/

/-- Where a frame stands in bus arbitration: the smaller key wins (R633). -/
def arbKey (w : Nat) (rtr : Bool) : Nat :=
  let base := frameId w / 2 ^ 18 * 2 ^ 21
  if frameIde w then base + 2 ^ 20 + 2 ^ 19 + 2 * (frameId w % 2 ^ 18) + b2n (rtr && !frameFdf w)
  else base + 2 ^ 20 * b2n (rtr && !frameFdf w)

/-- The ID word a buffer sends: with SA_INS its low byte is the claimed address (R637). -/
def sentIdw (h : Hw) (n b : Nat) : Nat :=
  let w := (h.canb n b).idw
  if saIns h n b then w / 256 * 256 + h.get F.CAN_ADDR_ADDR n else w

/-- The frame of a buffer is not put on the wire: a header-link frame of CAN01 in the merged configuration (R206). -/
def isLooped (h : Hw) (n b : Nat) : Bool := n == 1 && h.prp.cfg.mode == 1 && headerLink h (sentIdw h n b)

/-- The buffers of a controller that may start an attempt now; while a frame is on the bus only looped ones may. -/
def canReady (h : Hw) (n : Nat) : List Nat :=
  (List.range 128).filter (fun b => (h.canb n b).req.isSome && !onBus h n b && h.get F.CAN_MB_CFG_DIR n b == 2
    && (!saIns h n b || h.get F.CAN_ADDR_ADDR n != 254) && ((h.canc n).tx.isNone || isLooped h n b))

/-- The buffer that goes first (R633). -/
def canFirst (h : Hw) (n : Nat) : Option Nat :=
  (canReady h n).foldl (fun best b =>
    match best with
    | none => some b
    | some c => if arbKey (sentIdw h n b) (h.canb n b).rtr < arbKey (sentIdw h n c) (h.canb n c).rtr then some b else best) none

/-- The attempt of a buffer begins: its content is latched (R634). -/
def canStart (h : Hw) (n b : Nat) : Hw :=
  let x := h.canb n b
  let w := sentIdw h n b
  let len := if x.rtr && !frameFdf w then 0 else dlcLen (frameFdf w) x.dlc
  let t : CanTx := ⟨b, ⟨w, x.dlc, x.rtr, false, x.data.take len⟩, h.tb, none⟩
  let r := x.req.map (fun q => { q with tries := q.tries + 1, sof := h.tb })
  let h1 := h.setCanb n b { x with req := r }
  let y := h1.canc n
  if isLooped h n b then h1.setCanc n { y with loops := y.loops ++ [t] }
  else (h1.setCanc n { y with tx := some t }).put F.CAN_STATUS_TX_ACTIVE 1 n

/-- The ABORT that waited for an attempt completes after it (R638). -/
def abortDone (h : Hw) (t : CanTx) : Hw :=
  match t.abort with | some id => h.finishId id ST_OK h.tb | none => h

/-- A frame has been sent, or a looped one delivered: the request completes (R642). -/
def canSent (h : Hw) (n : Nat) (t : CanTx) : Hw := abortDone (reqEnd h n t.mb ST_OK t.frame.data.length) t

/-- An attempt has failed: the request goes on, or ends when it is ONESHOT or aborted (R636, R638). -/
def canFailed (h : Hw) (n : Nat) (t : CanTx) (st : Nat) : Hw :=
  if t.abort.isSome then abortDone (reqEnd h n t.mb ST_CAN_ABORTED 0) t
  else if h.flag F.CAN_MB_CFG_ONESHOT n t.mb then reqEnd h n t.mb st 0
  else
    let x := h.canb n t.mb
    match x.req, x.next with
    | none, some r => h.setCanb n t.mb { x with req := some r, next := none }
    | _, _ => h

/-- The wire is free of the controller's own frame. -/
def busFree (h : Hw) (n : Nat) : Hw := (h.setCanc n { h.canc n with tx := none }).put F.CAN_STATUS_TX_ACTIVE 0 n

/-! ## Error confinement (R617 to R619) -/

/-- Ends requests of a controller with a status: those of every buffer, or of ONESHOT buffers only. -/
def canFlush (h : Hw) (n st : Nat) (all : Bool) : Hw :=
  (List.range 128).foldl (fun g b =>
    if all || g.flag F.CAN_MB_CFG_ONESHOT n b then
      let x := g.canb n b
      if x.req.isNone && x.next.isNone then g
      else
        let g1 := g.setCanb n b { x with req := none, next := none }
        let g2 := match x.req with | some r => reqDone g1 r st 0 | none => g1
        match x.next with | some r => reqDone g2 r st 0 | none => g2
    else g) h

/-- Enters BUS_OFF (R618, R619). -/
def canBusOff (h : Hw) (n : Nat) : Hw :=
  let h1 := ((h.put F.CAN_STATUS_STATE 3 n).bump F.CAN_BUSOFF_CNT_COUNT n).log 0x0E02 n
  let h2 := busFree (h1.setCanc n { h1.canc n with recov := h.flag F.CAN_CTRL_AUTO_REC n }) n
  canFlush h2 n ST_CAN_BUS_OFF (h.flag F.CAN_CTRL_BO_FLUSH n)

/-- The state the error counters call for (Table 14.3). -/
def canErrState (h : Hw) (n tec rec_ : Nat) : Hw :=
  let h1 := (h.put F.CAN_ECR_TEC (satN 9 tec) n).put F.CAN_ECR_REC (satN 8 rec_) n
  let st := canState h n
  if st = 0 ∨ st = 3 then h1
  else if 255 < tec then canBusOff h1 n
  else if 127 < tec ∨ 127 < rec_ then (if st = 2 then h1 else (h1.put F.CAN_STATUS_STATE 2 n).log 0x0E01 n)
  else h1.put F.CAN_STATUS_STATE 1 n

/-- A frame received without error lowers REC; from above 127 it goes to an open value between 119 and 127 (ISO 11898-1). -/
def canRxGood (h : Hw) (n : Nat) : Hw :=
  let r := h.get F.CAN_ECR_REC n
  if 127 < r then
    let (x, h1) := h.fresh
    canErrState h1 n (h1.get F.CAN_ECR_TEC n) (119 + x % 9)
  else canErrState h n (h.get F.CAN_ECR_TEC n) (r - 1)

/-! ## Disabling -/

/-- A LIN channel's own state. -/
def Hw.lin (h : Hw) (c : Nat) : LinCh := mgetD h.can.lins c {}
/-- Replaces a LIN channel's own state. -/
def Hw.setLin (h : Hw) (c : Nat) (x : LinCh) : Hw := { h with can := { h.can with lins := mset h.can.lins c x } }

/-- Disables a controller (R639): attached requests end, the FIFO buffers close, the transceiver goes to standby. -/
def canDisable (h : Hw) (n : Nat) : Hw :=
  let h1 := h.put F.CAN_CTRL_EN 0 n
  let h2 := match (h1.canc n).tx with | some t => abortDone h1 t | none => h1
  let h3 := (h2.canc n).loops.foldl abortDone h2
  let h4 := canFlush h3 n ST_CAN_ABORTED true
  let h5 := bufCloseAll h4 (qKey 12 (280 + n)) ST_STREAM_OFF
  let h6 := busFree (h5.setCanc n { h5.canc n with loops := [], recov := false, fifo := [], claiming := none }) n
  ((h6.put F.CAN_STATUS_STATE 0 n).put F.CAN_STATUS_RX_ACTIVE 0 n).put F.CAN_ADDR_ADDR 254 n

/-- Disables a LIN channel: its schedule stops and its record buffers close. -/
def linDisable (h : Hw) (c : Nat) : Hw :=
  let h1 := (h.put F.CAN_LIN_CFG_EN 0 c).put F.CAN_LIN_STATUS_RUN 0 c
  let h2 := h1.setLin c { h1.lin c with cur := none }
  bufCloseAll h2 (qKey 13 (510 + c)) ST_STREAM_OFF

end Sys2Proof.Machine
end

