-- ==== Sys2Proof/Machine/HeaderCore.lean ====
section
/-!
DEFINITION. Header presence and identity (R209 to R222): the states of Table 04.6, challenge rounds, and the header outputs.
Readings: log entry 19.
-/
namespace Sys2Proof.Machine

/-- The bit rate of a CAN bit timing in bit/s from an 80 MHz clock (R614): the prescaler and the two segments are stored
less 1. -/
def canRate (brp tseg1 tseg2 : Nat) : Nat := 80000000 / ((brp + 1) * (tseg1 + tseg2 + 3))

/-- CAN01 is enabled with FD and a data-phase rate of at least 2 Mbit/s (R218). -/
def challengeable (h : Hw) : Bool :=
  h.flag F.CAN_CTRL_EN 1 && h.flag F.CAN_CTRL_FD_EN 1
    && decide (2000000 ≤ canRate (h.get F.CAN_DBT_DBRP 1) (h.get F.CAN_DBT_DTSEG1 1) (h.get F.CAN_DBT_DTSEG2 1))

/-- Header outputs become off or follow their commands again (R210, R211). -/
def setHdrOff (h : Hw) (off : Bool) : Hw :=
  let h1 := hdrOutputs { h with prp := { h.prp with outsOff := off } }
  if off then canHdrOff h1 else h1

/-- Enters a header state of Table 04.6; only IDENTIFIED lets the header outputs follow their commands. -/
def hdrState (h : Hw) (st : Nat) : Hw := setHdrOff (h.put F.PRP_HDR_STATUS_STATE st) (st != 2)

/-- Restarts the header retry timer (R213, R214). -/
def restartRetry (h : Hw) : Hw :=
  { h with prp := { h.prp with retryAt := some (h.now + 1000000000 * h.get F.PRP_HDR_CFG_RETRY) } }

/-- Sends the challenge frame of a round, or does not send it when CAN01 is not suitable (R216, R218). -/
def sendChallenge (h : Hw) (r : Nat) : Hw :=
  if challengeable h then
    let (nonce, h1) := h.freshBytes 16
    let h2 := (hdrState h1 1).put F.PRP_HDR_STATUS_ROUND r
    { h2 with prp := { h2.prp with
        chal := some ⟨nonce, r, h.now, []⟩,
        frame := some (0x1D000000 + r, nonce ++ [BitVec.ofNat 8 r] ++ zeros 47) } }
  else
    let h1 := { h with prp := { h.prp with chal := none } }
    (restartRetry (hdrState h1 3)).log 0x040A

/-- The identity is lost: ABSENT, any challenge abandoned (R212). -/
def presenceGone (h : Hw) : Hw :=
  let h1 := { h with prp := { h.prp with chal := none, lostAt := none, retryAt := none } }
  ((hdrState h1 0).put F.PRP_HDR_STATUS_PRESENT 0).log 0x0404

/-- A lost heartbeat of the header controller counts as a presence loss longer than 50 ms (R205). -/
def headerHeartbeatLost (h : Hw) : Hw :=
  let h1 := h.log 0x0408
  if h.get F.PRP_HDR_STATUS_STATE = 0 then h1 else presenceGone h1

/-- The slots of a round (R215). -/
def roundSlots (r : Nat) : Nat := 2 ^ (r + 2)

/-- The known identity with an identifier: its class and public key (Table 04.10). -/
def identOf (h : Hw) (i : Nat) : Option (Nat × List Byte) :=
  (h.prp.cfg.ident.find? (fun x => x.1 == i)).map (fun x => (x.2.1, x.2.2))

/-- An answer is valid: its identifier is listed and its signature over SHA-256 of nonce, identifier and round verifies
(R217, R220). -/
def answerValid (h : Hw) (c : Chal) (ident : Nat) (sig : List Byte) : Bool :=
  match identOf h ident with
  | some (_, key) => Config.ecdsaP256Verify key
      (sha256 (c.nonce ++ (leBytes 3 ident).reverse ++ [BitVec.ofNat 8 c.r])) sig
  | none => false

/-- The outcome of a round (Table 04.7): the state to enter and its event, or none for another round. -/
def roundOutcome (r : Nat) (ans : List HAns) : Option (Nat × Option Nat) :=
  let valid := ans.filter (·.valid)
  let crowded := valid.any (fun a => decide (1 < (valid.filter (fun b => b.slot == a.slot)).length))
  let headers := (valid.filter (·.header)).length
  if valid.isEmpty then some (3, none)
  else if valid.length ≠ ans.length then some (5, some 0x0407)
  else if crowded then (if r < 8 then none else some (4, some 0x0406))
  else if 1 < headers then some (4, some 0x0406)
  else if headers = 0 then some (3, none)
  else some (2, some 0x0405)

/-- Puts an answer into slot order, after those of the same slot. -/
def addAns (a : HAns) : List HAns → List HAns
  | [] => [a]
  | b :: bs => if a.slot < b.slot then a :: b :: bs else b :: addAns a bs

/-- Reports the answers of the last round (R222). -/
def showAns (h : Hw) (ans : List HAns) : Hw :=
  let h1 := (List.range 16).foldl (fun g i =>
    match ans[i]? with
    | some a => ((g.put F.PRP_HDR_ANS_ID a.ident i).put F.PRP_HDR_ANS_VALID (b2n a.valid) i).put
        F.PRP_HDR_ANS_HEADER (b2n a.header) i
    | none => g.setReg (F.PRP_HDR_ANS_ID.at i 0) 0) h
  h1.put F.PRP_HDR_STATUS_NANS (min 16 ans.length)

end Sys2Proof.Machine
end

