-- ==== Sys2Proof/Machine/State.lean ====
section
/-!
DEFINITION. The state of the machine: the module's hardware and the queue of commands waiting; the reasons a step can stop; the
state after reset. Readings: log entry 5.
-/
namespace Sys2Proof.Machine

/-- A fault stops the machine. The spec gives every command an effect, so no command faults and the type has no
constructor (safe: nothing is cut short). -/
inductive Fault where
  deriving DecidableEq, Repr

/-- A refusal: a command without a meaning. -/
inductive Refusal where
  /-- Raised by an arm of `exec` whose command has no meaning in the model yet. Safe: nothing is claimed about it. -/
  | notModelled (mnemonic : String)
  deriving DecidableEq, Repr

/-- The machine: the commands waiting, first in, first out, and the module itself. -/
structure State where
  pending : List Instr
  hw : Hw
  deriving DecidableEq, Repr

/-- The registers that do not hold at reset what their field tables give every module: PWR_STATUS.IGN and PWR_RST_CAUSE after a first
ignition (Table 19.3), one power cycle (R830), and a map of vision tiles with tiles 96 to 99 as spares (R25, log entry 5). -/
def resetRf : Map (BitVec 32) :=
  [(0x120000, 1), (0x120008, 0x11), (0x120038, 1), (0x130008, 608), (0x130028, 0x55)]

/-- The machine right after reset, as it stands when the logic domain has first been switched on by ignition: every register at its
reset value (R903), memory filled with zeros (R706), the boot resources with partition 0 (R824), start-up still to run (Sequence
19.1), and no command waiting. -/
def State.reset : State :=
  ⟨[], { rf := resetRf, til := { silent := [6, 7] }, prp := { layout := [⟨2, 0, 0, 512⟩] }, pwr := { up := false, cmp := 1 } }⟩

end Sys2Proof.Machine
end

