-- ==== Sys2Proof/Machine/Run.lean ====
section
/-!
DEFINITION. How a command runs: the time its first operand gives passes, and then its effect comes about, while the logic domain
is on. Readings: log entries 2 and 6.
-/
namespace Sys2Proof.Machine

/-- What a command answers. -/
abbrev Out := Host.Outcome State Fault Refusal

/-- Lets dt ns pass for the whole module. -/
def Hw.elapse (h : Hw) (dt : Nat) : Hw := { h with wgl := h.wgl.elapse dt }

/-- The logic domain is on and its start-up has come to its end (R821, R822). -/
def Hw.isOn (h : Hw) : Bool := h.pwr.state == .on && h.pwr.up

/-- A command of the logic domain: time passes; while the logic domain is off nothing else comes about. -/
def run (dt : Nat) (s : State) (act : Hw → Hw) : Out :=
  let h := s.hw.elapse dt
  .next { s with hw := if h.isOn then act h else h }

/-- A command of the keep-alive domain, in every power state. -/
def runAny (dt : Nat) (s : State) (act : Hw → Hw) : Out := .next { s with hw := act (s.hw.elapse dt) }

end Sys2Proof.Machine
end

