-- ==== Sys2Proof/Machine/CanCmd.lean ====
section
/-!
DEFINITION. The commands of the CAN controllers and LIN channels (chapter 14). Readings: log entries 31 and 32.
-/
namespace Sys2Proof.Machine

/-! ## Enabling -/

/-- The divisor of the 80 MHz clock of a bit time: BRP × (1 + TSEG1 + TSEG2), each stored less 1 (R614). -/
def canDiv (brp t1 t2 : Nat) : Nat := (brp + 1) * (t1 + t2 + 3)

/-- The checks of an enable (R615, R659). -/
def canCheck (h : Hw) (n : Nat) : Nat :=
  let nt1 := h.get F.CAN_NBT_NTSEG1 n
  let nt2 := h.get F.CAN_NBT_NTSEG2 n
  let nd := canDiv (h.get F.CAN_NBT_NBRP n) nt1 nt2
  let dd := canDiv (h.get F.CAN_DBT_DBRP n) (h.get F.CAN_DBT_DTSEG1 n) (h.get F.CAN_DBT_DTSEG2 n)
  let fd := h.flag F.CAN_CTRL_FD_EN n
  let area := h.get64 F.CAN_MB_BASE_LO_ADDR n
  firstBad [(decide (1 ≤ nt1) && decide (h.get F.CAN_NBT_NSJW n ≤ nt2)
    && decide (h.get F.CAN_DBT_DSJW n ≤ h.get F.CAN_DBT_DTSEG2 n)
    && decide (80 ≤ nd) && decide (nd ≤ 640)
    && (!fd || (decide (dd ≤ nd) && decide (10 ≤ dd) && (decide (80 ≤ dd) || h.flag F.CAN_CTRL_TDC_EN n)))
    && (match h.portOwner (280 + n) with | some p => h.owns p area 16384 | none => false), ST_CAN_CONFIG)]

/-- RESTART = 1 begins the recovery of a controller in BUS_OFF (R618). -/
def canRestart (h : Hw) (n : Nat) : Hw :=
  if canState h n = 3 then h.setCanc n { h.canc n with recov := true } else h

/-- A write to CAN_CTRL (R615, R618, R639, R659). Settings locked while enabled are judged on EN before the write. -/
def canCtrlWrite (h : Hw) (n v : Nat) : Hw :=
  let f := F.CAN_CTRL_EN.at n 0
  let old := (h.reg f).toNat
  if old % 2 = 1 then
    let h1 := h.put F.CAN_CTRL_BIND (bits v 17 12) n
    let h2 := if bit v 1 then canRestart h1 n else h1
    if v % 2 = 0 then canDisable h2 n else h2
  else
    let h1 := h.setReg f (BitVec.ofNat 32 (v % 2 ^ 18 / 4 * 4))
    if v % 2 = 0 then h1
    else
      let st := canCheck h1 n
      let h2 := h1.put F.CAN_STATUS_ERR st n
      if st ≠ ST_OK then h2
      else
        let x := h2.canc n
        let h3 := h2.setCanc n { x with fifo := [], fifoSeq := 0, claiming := none, others := [], hbAt := h.now, hbSeq := 251,
                                        seenAt := h.now }
        ((((h3.put F.CAN_CTRL_EN 1 n).put F.CAN_ECR_TEC 0 n).put F.CAN_ECR_REC 0 n).put F.CAN_STATUS_STATE 0 n).put F.CAN_HB_LOST 0 n

/-- CAN_ENABLE: the owner of the port writes CAN_CTRL with EN = 1. -/
def execCanEnable (dt : Nat) (hart : Fin 19) (n : Fin 16) (v : Word) (s : State) : Out :=
  run dt s fun h => if h.byOwner hart (280 + n) then canCtrlWrite h n (v ||| 1).toNat else h

/-- CAN_DISABLE: the owner of the port writes CAN_CTRL with EN = 0. -/
def execCanDisable (dt : Nat) (hart : Fin 19) (n : Fin 16) (v : Word) (s : State) : Out :=
  run dt s fun h => if h.byOwner hart (280 + n) then canCtrlWrite h n (v.toNat / 2 * 2) else h

/-- CAN_RESTART: the owner of the port writes RESTART = 1 with EN = 1. -/
def execCanRestart (dt : Nat) (hart : Fin 19) (n : Fin 16) (s : State) : Out :=
  run dt s fun h => if h.byOwner hart (280 + n) && canOn h n then canRestart h n else h

/-- CAN_BUS_INTEGRATED: 11 recessive bits after enable (Table 14.3). -/
def execCanBusIntegrated (dt : Nat) (n : Fin 16) (s : State) : Out :=
  run dt s fun h => if canOn h n && canState h n == 0 then h.put F.CAN_STATUS_STATE 1 n else h

/-- BUS_OFF_RECOVERY_DONE: 128 occurrences of 11 recessive bits have passed since recovery began (R618). -/
def execBusOffRecoveryDone (dt : Nat) (n : Fin 16) (s : State) : Out :=
  run dt s fun h =>
    if canState h n = 3 ∧ (h.canc n).recov then
      ((((h.setCanc n { h.canc n with recov := false }).put F.CAN_ECR_TEC 0 n).put F.CAN_ECR_REC 0 n).put F.CAN_STATUS_STATE 1 n).log
        0x0E03 n
    else h

/-! ## Reception -/

/-- A controller takes part in bus traffic: ERROR_ACTIVE or ERROR_PASSIVE. -/
def canLive (h : Hw) (n : Nat) : Bool := canOn h n && (canState h n == 1 || canState h n == 2)

/-- CAN_FRAME_RECEIVED: a frame from the wire is valid: ID word of Table 14.4, DLC, RTR, ESI, data, and the time in ns since its
start of frame (R622, R624). With FD_EN = 0 an FD frame is a form error and no valid frame. -/
def execCanFrameReceived (dt : Nat) (n : Fin 16) (idw : Word) (dlc : Fin 16) (rtr esi : Bool) (data : List Byte) (age : Nat)
    (s : State) : Out :=
  run dt s fun h =>
    let w := idw.toNat
    if canLive h n && (!frameFdf w || h.flag F.CAN_CTRL_FD_EN n) then
      let len := if rtr && !frameFdf w then 0 else dlcLen (frameFdf w) dlc
      canReceive (canRxGood h n) n ⟨w, dlc, rtr, esi, padTo len data⟩ (h.tb - age)
    else h

/-- CAN_RX_ERROR: a bus error while receiving raises REC by 1, or by 8 where ISO 11898-1 says so (R617). -/
def execCanRxError (dt : Nat) (n : Fin 16) (by8 : Bool) (s : State) : Out :=
  run dt s fun h =>
    if canLive h n then canErrState h n (h.get F.CAN_ECR_TEC n) (h.get F.CAN_ECR_REC n + (if by8 then 8 else 1)) else h

/-- FIFO_RECORD_WRITE: the oldest frame in the receive FIFO goes to an open record buffer (R628). -/
def execFifoRecordWrite (dt : Nat) (n : Fin 16) (s : State) : Out :=
  run dt s fun h =>
    let k := qKey 12 (280 + n)
    match (h.canc n).fifo with
    | (tov, bs) :: r =>
      if (h.bufq k).bufs.isEmpty then h
      else (bufPut (h.setCanc n { h.canc n with fifo := r }) true k bs tov).1
    | [] => h

/-! ## Ring operations -/

/-- Controller of an operation. -/
def opCtl (d : List Byte) : Nat := fld d 1 1 % 16
/-- Buffer of an operation. -/
def opMb (d : List Byte) : Nat := fld d 2 1 % 128

/-- A request for an operation; one whose buffer can no longer send ends with ST_CAN_ABORTED, as in R639. -/
def opRequest (h : Hw) (f : Flight) : Hw :=
  let n := opCtl f.desc
  let b := opMb f.desc
  if canTxOk h n b then (canRequest h n b (some f.id)).1 else h.finish f ST_CAN_ABORTED h.tb

/-- An operation's request has been made already. -/
def opAsked (h : Hw) (f : Flight) : Bool :=
  let x := h.canb (opCtl f.desc) (opMb f.desc)
  (match x.req with | some r => r.op == some f.id | none => false) || (match x.next with | some r => r.op == some f.id | none => false)

/-- TXSET: loads a transmit buffer and, with SEND, requests its sending (R629, R640). -/
def execTxset (dt id : Nat) (s : State) : Out :=
  run dt s fun h => h.onOp id 5 1 fun f =>
    if opAsked h f then h else
      let d := f.desc
      let n := opCtl d
      let b := opMb d
      let w := fld d 4 4
      let dlc := fld d 3 1 % 16
      let rtr := bit (fld d 3 1) 4
      let len := if rtr && !frameFdf w then 0 else dlcLen (frameFdf w) dlc
      let a := fld d 8 8
      let src := if a = 0 then 0 else len
      h.engRead f [(a, src)] fun h1 =>
        let x := h1.canb n b
        let h2 := h1.setCanb n b { x with idw := w, dlc := dlc, rtr := rtr, data := (patch x.data 0 (h1.rd a src)).take 64 }
        if bit (fld d 3 1) 5 then opRequest h2 f else h2.finish f ST_OK h2.tb

/-- TXREQ: requests the sending of a transmit buffer (R631). -/
def execTxreq (dt id : Nat) (s : State) : Out :=
  run dt s fun h => h.onOp id 5 2 fun f => if opAsked h f then h else opRequest h f

/-- Removes the requests of a buffer that have not started; one whose frame is on the bus keeps its attempt (R638). -/
def canAbort (h : Hw) (n b id : Nat) : Hw :=
  let x := h.canb n b
  let h1 := match x.next with
    | some r => reqDone (h.setCanb n b { x with next := none }) r ST_CAN_ABORTED 0
    | none => h
  if onBus h1 n b then
    let y := h1.canc n
    let mark (t : CanTx) : CanTx := if t.mb = b ∧ t.abort.isNone then { t with abort := some id } else t
    h1.setCanc n { y with tx := y.tx.map mark, loops := y.loops.map mark }
  else (if (h1.canb n b).req.isSome then reqEnd h1 n b ST_CAN_ABORTED 0 else h1).finishId id ST_OK h.tb

/-- CAN_ABORT: removes a pending request (R638). A second ABORT of one attempt completes at once. -/
def execCanAbort (dt id : Nat) (s : State) : Out :=
  run dt s fun h => h.onOp id 5 3 fun f =>
    let n := opCtl f.desc
    let b := opMb f.desc
    let mine (t : CanTx) : Bool := t.mb == b && t.abort == some id
    let others (t : CanTx) : Bool := t.mb == b && t.abort.isSome && t.abort != some id
    let ts := (match (h.canc n).tx with | some t => [t] | none => []) ++ (h.canc n).loops
    if ts.any mine then h else if ts.any others then h.finish f ST_OK h.tb else canAbort h n b id

/-- CAN_RXBUF: posts a record buffer for the FIFO or for LIN records (R628, R653). -/
def execCanRxbuf (dt id : Nat) (s : State) : Out :=
  run dt s fun h => h.onOp id 5 4 fun f => bufPost h (qKey (12 + fld f.desc 1 1 % 2) (fld f.desc 2 2)) f

/-! ## Attempts -/

/-- CAN_TRANSMIT_START: the pending buffer that goes first starts its frame (R633 to R635, R206). -/
def execCanTransmitStart (dt : Nat) (n : Fin 16) (s : State) : Out :=
  run dt s fun h =>
    if canLive h n && h.get F.CAN_CTRL_MODE n != 1 then
      match canFirst h n with
      | some b => canStart h n b
      | none => h
    else h

/-- CAN_TRANSMIT_END: the frame on the bus has been sent, with the delay measured in it where R616 measures one; with SELF_RX the
controller offers it to its own buffers (R616, R622, R642). -/
def execCanTransmitEnd (dt : Nat) (n : Fin 16) (tdcv : Fin 128) (s : State) : Out :=
  run dt s fun h =>
    match (h.canc n).tx with
    | some t =>
      let h1 := canSent (busFree h n) n t
      let h2 := canErrState h1 n (h1.get F.CAN_ECR_TEC n - 1) (h1.get F.CAN_ECR_REC n)
      let h3 := if h.flag F.CAN_CTRL_TDC_EN n && frameFdf t.frame.idw && bit t.frame.idw 31 then h2.put F.CAN_STATUS_TDCV tdcv n else h2
      if h.flag F.CAN_CTRL_SELF_RX n then canStore h3 n t.frame false t.sof else h3
    | none => h

/-- CAN_ARB_LOST: the frame on the bus loses arbitration (R636). -/
def execCanArbLost (dt : Nat) (n : Fin 16) (s : State) : Out :=
  run dt s fun h =>
    match (h.canc n).tx with
    | some t => canFailed (busFree h n) n t ST_CAN_ARB_LOST
    | none => h

/-- CAN_TX_ERROR: an attempt fails with an error; TEC rises by 8 unless ISO 11898-1 excepts the error (R617, R636). -/
def execCanTxError (dt : Nat) (n : Fin 16) (counted : Bool) (s : State) : Out :=
  run dt s fun h =>
    match (h.canc n).tx with
    | some t =>
      let h1 := canFailed (busFree h n) n t ST_CAN_TX_ERROR
      if counted then canErrState h1 n (h1.get F.CAN_ECR_TEC n + 8) (h1.get F.CAN_ECR_REC n) else h1
    | none => h

/-- LOOPED_FRAME_DELIVERY: the looped frame of a CAN01 buffer reaches the CAN01 receive buffers and FIFO (R206, R207). -/
def execLoopedFrameDelivery (dt : Nat) (b : Fin 128) (s : State) : Out :=
  run dt s fun h =>
    let x := h.canc 1
    match x.loops.find? (fun t => t.mb == b.val) with
    | some t =>
      let h1 := h.setCanc 1 { x with loops := x.loops.filter (fun u => u.mb != b.val) }
      canStore (canSent h1 1 t) 1 t.frame true t.sof
    | none => h

/-! ## ISO 11783 agent (R644 to R646) -/

/-- The NAME of a controller. -/
def canName (h : Hw) (n : Nat) : Nat := h.get64 F.CAN_NAME_LO_NAME n

/-- The agent sends Address Claimed, or Cannot Claim from the null address 254. -/
def claimSend (h : Hw) (n sa : Nat) : Hw :=
  h.setCanc n { h.canc n with sent := some ⟨0x18EEFF00 + sa + 2 ^ 29, 8, false, false, leBytes 8 (canName h n)⟩ }

/-- A contention is lost: the next free address of a self-configurable NAME, or Cannot Claim (R644). -/
def claimLost (h : Hw) (n sa : Nat) : Hw :=
  let x := h.canc n
  let lo := h.get F.CAN_ADDR_AMIN n
  let free := ((List.range (h.get F.CAN_ADDR_AMAX n + 1 - lo)).map (lo + ·)).filter (fun a => (mget x.others a).isNone && a != sa)
  let pick := match free.find? (fun a => decide (sa < a)) with | some a => some a | none => free.head?
  let h1 := h.put F.CAN_ADDR_ADDR 254 n
  match (if bit (canName h n) 63 then pick else none) with
  | some a => claimSend (h1.setCanc n { x with claiming := some a }) n a
  | none => (claimSend (h1.setCanc n { x with claiming := none }) n 254).log 0x0E04 n

/-- ADDRESS_CLAIM: the agent claims, settles, defends or loses its address (R644). -/
def execAddressClaim (dt : Nat) (n : Fin 16) (ev : ClaimEv) (s : State) : Out :=
  run dt s fun h =>
    let x := h.canc n
    if !(canLive h n && h.flag F.CAN_CTRL_AGENT n) then h
    else
      let own := h.get F.CAN_ADDR_ADDR n
      match ev with
      | .claim =>
        if own ≠ 254 then claimSend h n own
        else
          let a := x.claiming.getD (h.get F.CAN_ADDR_PREF n)
          claimSend (h.setCanc n { x with claiming := some a }) n a
      | .settled =>
        (match x.claiming with
         | some a => (h.setCanc n { x with claiming := none }).put F.CAN_ADDR_ADDR a n
         | none => h)
      | .other name sa =>
        let h1 := h.setCanc n { x with others := mset x.others sa.toNat name.toNat }
        if own = sa.toNat ∨ x.claiming = some sa.toNat then
          (if canName h n < name.toNat then claimSend (h.setCanc n x) n sa.toNat else claimLost h1 n sa.toNat)
        else h1

/-- HEARTBEAT_SEND: the 100 ms period of the heartbeat ends (R645). -/
def execHeartbeatSend (dt : Nat) (n : Fin 16) (s : State) : Out :=
  run dt s fun h =>
    let x := h.canc n
    if h.now < x.hbAt + 100000000 then h
    else
      let running := match h.portOwner (280 + n) with | some p => h.partState p == 3 | none => false
      let sa := h.get F.CAN_ADDR_ADDR n
      if h.flag F.CAN_HB_TX_EN n && canOn h n && sa != 254 && running && h.til.hub.feed then
        h.setCanc n { x with hbAt := h.now, hbSeq := if 250 ≤ x.hbSeq then 0 else x.hbSeq + 1,
                             sent := some ⟨0x0CF0E400 + sa + 2 ^ 29, 8, false, false, BitVec.ofNat 8 x.hbSeq :: List.replicate 7 0xFF⟩ }
      else h.setCanc n { x with hbAt := h.now }

/-- WATCH_TIMEOUT: no heartbeat from the watched partner for 300 ms (R205, R646). -/
def execWatchTimeout (dt : Nat) (n : Fin 16) (s : State) : Out :=
  run dt s fun h =>
    if canOn h n && h.flag F.CAN_HB_WATCH_EN n && !h.flag F.CAN_HB_LOST n && decide ((h.canc n).seenAt + 300000000 ≤ h.now) then
      let h1 := h.put F.CAN_HB_LOST 1 n
      if n.val = 1 ∧ h.prp.cfg.mode = 0 then headerHeartbeatLost h1 else h1.log 0x0E05 n
    else h

/-! ## LIN (R648 to R654) -/

/-- An entry of a schedule keeps to R649 and R650 at a bit rate. -/
def linEntryOk (rate : Nat) (e : List Byte) : Bool :=
  let len := fld e 2 1
  let slot := fld e 3 1
  decide (1 ≤ len) && decide (len ≤ 8) && decide (1 ≤ slot) && allZero (slice e 4 4)
    && decide (1400 * (44 + 10 * len) ≤ slot * rate)

/-- LINSCHED: loads a schedule, which takes effect at the end of the slot in progress, or is refused (R649 to R651). -/
def execLinsched (dt id : Nat) (s : State) : Out :=
  run dt s fun h => h.onOp id 5 5 fun f =>
    let c := fld f.desc 1 1 % 2
    let a := fld f.desc 8 8
    let x := h.lin c
    if (match x.wait with | some (_, w) => w == id | none => false) then h
    else
      let n := h.rdN (a + 2) 2
      h.engRead f [(a, 16), (a + 16, 16 * (if n ≤ 64 then n else 0))] fun h1 =>
        let hd := h1.rd a 16
        let es := (List.range n).map (fun i => h1.rd (a + 16 + 16 * i) 16)
        let ok := fld hd 0 2 == 1 && decide (1 ≤ n) && decide (n ≤ 64) && allZero (slice hd 4 12)
          && es.all (linEntryOk (h1.get F.CAN_LIN_CFG_RATE c))
        let st := if ok then ST_OK else ST_LIN_SCHED_INVALID
        let h2 := h1.put F.CAN_LIN_STATUS_ERR st c
        if !ok then h2.finish f st h2.tb
        else if x.cur.isSome ∧ h2.flag F.CAN_LIN_CFG_EN c then
          let h3 := match x.wait with | some (_, w) => h2.finishId w ST_OK h2.tb | none => h2
          (h3.setLin c { x with wait := some (es, id) }).put F.CAN_LIN_STATUS_PEND 1 c
        else
          ((h2.setLin c { x with sched := es, cur := none, slotAt := h2.now }).put F.CAN_LIN_STATUS_RUN
            (b2n (h2.flag F.CAN_LIN_CFG_EN c)) c).finish f ST_OK h2.tb

/-- LINPUB: sets the publish data of an entry (R652). -/
def execLinpub (dt id : Nat) (s : State) : Out :=
  run dt s fun h => h.onOp id 5 6 fun f =>
    let c := fld f.desc 1 1 % 2
    let i := fld f.desc 2 1
    let x := h.lin c
    match x.sched[i]? with
    | some e => (h.setLin c { x with sched := x.sched.set i (patch e 8 (slice f.desc 8 8)) }).finish f ST_OK h.tb
    | none => h.finish f ST_BAD_DESCRIPTOR h.tb

/-- A write to CAN_LIN_CFG: enabling needs a rate in range, and the rate stays while enabled. -/
def linCfgWrite (h : Hw) (c v : Nat) : Hw :=
  let f := F.CAN_LIN_CFG_EN.at c 0
  let old := (h.reg f).toNat
  let new := v % 2 ^ 22
  if old % 2 = 1 then
    let h1 := h.setReg f (BitVec.ofNat 32 (new / 2 ^ 16 * 2 ^ 16 + old % 2 ^ 16))
    if v % 2 = 0 then linDisable h1 c else h1
  else
    let h1 := h.setReg f (BitVec.ofNat 32 (new / 2 * 2))
    if v % 2 = 0 then h1
    else
      let st := if 1000 ≤ bits v 15 1 ∧ bits v 15 1 ≤ 20000 then ST_OK else ST_CAN_CONFIG
      let h2 := h1.put F.CAN_LIN_STATUS_ERR st c
      if st ≠ ST_OK then h2
      else ((h2.put F.CAN_LIN_CFG_EN 1 c).setLin c { h2.lin c with cur := none, slotAt := h2.now }).put F.CAN_LIN_STATUS_RUN
        (b2n (!(h2.lin c).sched.isEmpty)) c

/-- LIN_SLOT: a slot of a channel's schedule: the next header, and the response as received with its errors: no response,
checksum, bit, framing (R651 to R653). -/
def execLinSlot (dt : Nat) (c : Fin 2) (noResp chk bitErr frameErr : Bool) (data : List Byte) (s : State) : Out :=
  run dt s fun h =>
    let x := h.lin c
    if !h.flag F.CAN_LIN_CFG_EN c ∨ h.now < x.slotAt then h
    else
      let (es, i, h1) := match x.wait with
        | some (w, id) => (w, 0, (h.finishId id ST_OK h.tb).put F.CAN_LIN_STATUS_PEND 0 c)
        | none => (x.sched, (match x.cur with | some k => if k + 1 < x.sched.length then k + 1 else 0 | none => 0), h)
      match es[i]? with
      | none => h1
      | some e =>
        let start := x.slotAt
        let pub := !bit (fld e 1 1) 0
        let nr := noResp && !pub
        let errs := nr || chk || bitErr || frameErr
        let h2 := ((h1.setLin c { sched := es, cur := some i, slotAt := start + 1000000 * fld e 3 1, wait := none }).put
          F.CAN_LIN_STATUS_ENTRY i c).put F.CAN_LIN_STATUS_RUN 1 c
        let h3 := if nr then h2.bump F.CAN_LIN_CNT_COUNT c 0 else h2
        let h4 := if chk then h3.bump F.CAN_LIN_CNT_COUNT c 1 else h3
        let h5 := if bitErr || frameErr then h4.bump F.CAN_LIN_CNT_COUNT c 2 else h4
        let h6 := if errs then h5.log 0x0E07 c true else h5
        if pub && !errs then h6
        else
          let t := h6.tb - (h6.now - start)
          let len := fld e 2 1
          let fl := b2n nr + 2 * b2n chk + 4 * b2n bitErr + 8 * b2n frameErr + 16 * b2n pub
          let bs := h6.stamp (h6.get F.CAN_LIN_CFG_BIND c) t ++ [BitVec.ofNat 8 i, BitVec.ofNat 8 (fld e 0 1 % 64), BitVec.ofNat 8 len,
            BitVec.ofNat 8 fl] ++ zeros 4 ++ padTo 8 (data.take len)
          (bufPut h6 true (qKey 13 (510 + c)) bs t).1

/-- LIN_WAKE: a wake-up signal from a slave node (R654). -/
def execLinWake (dt : Nat) (c : Fin 2) (s : State) : Out := run dt s fun h => h.put F.CAN_LIN_STATUS_WAKE 1 c

end Sys2Proof.Machine
end

