-- ==== Sys2Proof/Machine/SensorCore.lean ====
section
/-!
DEFINITION. What the sensor front-end shares with Waggle and the other engines (chapter 06): samples, record streams, loss
windows, snapshots, and fault flags. Readings: log entry 21.
-/
namespace Sys2Proof.Machine

/-! ## Samples -/

/-- The port index that names the internal IMU (Table 06.4). -/
abbrev imuPort : Nat := 0xFFFF

/-- The port is an analog input, an impact channel, a bridge, a speed input, a SENT input (Table 04.3). -/
def isAin (p : Nat) : Bool := decide (326 ≤ p) && decide (p < 390)
/-- Speed inputs. -/
def isSpd (p : Nat) : Bool := decide (390 ≤ p) && decide (p < 430)
/-- Impact channels. -/
def isImp (p : Nat) : Bool := decide (430 ≤ p) && decide (p < 478)
/-- Bridges. -/
def isBrg (p : Nat) : Bool := decide (478 ≤ p) && decide (p < 494)
/-- SENT inputs. -/
def isSnt (p : Nat) : Bool := decide (494 ≤ p) && decide (p < 510)

/-- The channel of a port is enabled; the IMU always samples (R285). -/
def Hw.sfeOn (h : Hw) (p : Nat) : Bool :=
  if p = imuPort then true
  else if isAin p then h.flag F.SFE_AIN_CFG_EN (p - 326)
  else if isSpd p then h.flag F.SFE_SPD_CFG_EN (p - 390)
  else if isImp p then h.flag F.SFE_IMP_CFG_EN (p - 430)
  else if isBrg p then h.flag F.SFE_BRG_CFG_EN (p - 478)
  else if isSnt p then h.flag F.SFE_SNT_CFG_EN (p - 494)
  else false

/-- The binding set of a channel; the IMU has no configuration register, and its stream uses set 0. -/
def Hw.sfeBind (h : Hw) (p : Nat) : Nat :=
  if isAin p then h.get F.SFE_AIN_CFG_BIND (p - 326)
  else if isSpd p then h.get F.SFE_SPD_CFG_BIND (p - 390)
  else if isImp p then h.get F.SFE_IMP_CFG_BIND (p - 430)
  else if isBrg p then h.get F.SFE_BRG_CFG_BIND (p - 478)
  else if isSnt p then h.get F.SFE_SNT_CFG_BIND (p - 494)
  else 0

/-- The sample period of a periodic channel in ns (Table 06.1, R907); 0 for edges and frames. -/
def Hw.sfePeriod (h : Hw) (p : Nat) : Q :=
  if p = imuPort then qi 250000
  else if isAin p then qi (50000 * (h.get F.SFE_AIN_CFG_DEC (p - 326) + 1) : Nat)
  else if isImp p then qi 1000
  else if isBrg p then mkQ (1000000000 * 2 ^ h.get F.SFE_BRG_CFG_RATE (p - 478) : Nat) 4800
  else qi 0

/-- Bytes of a raw entry (Table 06.1). -/
def rawEntry (p : Nat) : Nat :=
  if p = imuPort then 12 else if isAin p || isImp p then 2 else if isBrg p then 4 else 16

/-- Bits of a conversion and whether it is signed (Table 06.1). -/
def clampConv (p : Nat) (x : Int) : Int :=
  if isAin p then clampI x 0 65535 else if isBrg p then satI 24 x else satI 16 x

/-- The sample stands at an end value that sets SAT (R908). -/
def atEnd (p : Nat) (x : Int) : Bool :=
  if isAin p then decide (65535 ≤ x)
  else if isBrg p then decide (8388607 ≤ x) || decide (x ≤ -8388608)
  else if isImp p then decide (32767 ≤ x) || decide (x ≤ -32768)
  else false

/-- Keeps a sample as a port's newest. Beside ports, 512 and 513 hold the flow and FORCE_INVALID flag of paddle records with the
times they were written, and 1000 + p the SENT frames of port p with the times they ended. -/
def Hw.keepSample (h : Hw) (p tov : Nat) (x : Int) : Hw :=
  { h with sfe := { h.sfe with last := mset h.sfe.last p (((tov, x) :: mgetD h.sfe.last p []).take 32) } }

/-- The newest sample of a port. -/
def Hw.newest (h : Hw) (p : Nat) : Option (Nat × Int) := (mgetD h.sfe.last p []).head?

/-- The newest sample of a port at or before a time. -/
def Hw.sampleAt (h : Hw) (p t : Nat) : Option (Nat × Int) := (mgetD h.sfe.last p []).find? (fun s => decide (s.1 ≤ t))

/-- The partition that owns a port runs, or nobody owns it: the port's samples are not discarded (R198). -/
def Hw.portLive (h : Hw) (p : Nat) : Bool :=
  match h.portOwner p with
  | some q => h.partState q == 3 || h.partState q == 4
  | none => true

/-! ## Streams -/

/-- Writes a record to a stream's queue, or drops it: SFE_DROP and event 0x0603 (R293, R295). -/
def streamPut (h : Hw) (stream : Nat) (part : Option Nat) (bs : List Byte) (tov : Nat) : Hw :=
  match part with
  | some p =>
    let r := bufPut h true (qKey stream p) bs tov
    if r.2 then r.1 else (r.1.bump F.SFE_DROP_COUNT stream).log 0x0603 stream true
  | none => (h.bump F.SFE_DROP_COUNT stream).log 0x0603 stream true

/-- The raw chunk header of 64 bytes (R296). -/
def chunkHead (h : Hw) (p tov count per : Nat) : List Byte :=
  h.stamp (h.sfeBind p) tov ++ leBytes 2 count ++ leBytes 2 (rawEntry p) ++ leBytes 4 per ++ zeros 8

/-- Adds an entry to the raw stream of a port: to the chunk in progress, or in a new chunk on the next 64-byte boundary
(R296); a buffer that it does not fit closes first (R294). -/
def rawPutAux (p : Nat) (bs : List Byte) (tov : Nat) : Nat → Hw → Hw × Bool
  | 0, h => (h, false)
  | n + 1, h =>
    let k := qKey 0 p
    let q := h.bufq k
    match q.bufs with
    | [] => (h, false)
    | id :: _ =>
      match h.flight id with
      | none => (h, false)
      | some f =>
        let most := if h.sfePeriod p == qi 0 then 1 else 256
        let start := (q.written + 63) / 64 * 64
        match q.chunk.filter (fun c => decide (c.2 < most)) with
        | some (off, c) =>
          if bLen f.desc < q.written + bs.length then rawPutAux p bs tov n (bufClose h k ST_OK)
          else
            let h1 := bufStore (bufStore h true f q.written bs) true f (off + 48) (leBytes 2 (c + 1))
            (h1.setBufq k { q with written := q.written + bs.length, tov := tov, chunk := some (off, c + 1) }, true)
        | none =>
          if bLen f.desc < start + 64 + bs.length then rawPutAux p bs tov n (bufClose h k ST_OK)
          else
            let (per, h0) := h.openRound (qmul (h.sfePeriod p) (qi 256))
            let h1 := bufStore h0 true f start (chunkHead h p tov 1 per.toNat ++ bs)
            (h1.setBufq k { q with written := start + 64 + bs.length, tov := tov, chunk := some (start, 1),
                                   first := match q.first with | some t => some t | none => some h.now }, true)

/-- Adds an entry to a raw stream, or drops it (R295). -/
def rawPut (h : Hw) (p : Nat) (bs : List Byte) (tov : Nat) : Hw :=
  let r := rawPutAux p bs tov 66 h
  if r.2 then r.1 else
    let q := r.1.bufq (qKey 0 p)
    ((r.1.setBufq (qKey 0 p) { q with drops := q.drops + 1 }).bump F.SFE_DROP_COUNT 0).log 0x0603 0 true

/-- The raw chunk in progress of a port ends (R907). -/
def endChunk (h : Hw) (p : Nat) : Hw := h.setBufq (qKey 0 p) { h.bufq (qKey 0 p) with chunk := none }

/-! ## Loss windows -/

/-- A loss window. -/
def Hw.win (h : Hw) (w : Nat) : Win := mgetD h.sfe.wins w {}
/-- Replaces a loss window. -/
def Hw.setWin (h : Hw) (w : Nat) (x : Win) : Hw := { h with sfe := { h.sfe with wins := mset h.sfe.wins w x } }

/-- The impact channels of a window's mask. -/
def winChannels (h : Hw) (w : Nat) : List Nat :=
  let m := h.get F.SFE_WIN_MASK_LO_MASK w + 2 ^ 32 * (h.get F.SFE_WIN_MASK_HI_MASK w % 2 ^ 16)
  (List.range 48).filter (fun c => bit m c)

/-- The one owner of a list of ports, if they have one (R303, R308). -/
def oneOwner (h : Hw) : List Nat → Option Nat
  | [] => none
  | p :: ps => match h.portOwner p with
    | some q => if ps.all (fun r => h.portOwner r == some q) then some q else none
    | none => none

/-- The partition that owns a window (R303). -/
def winOwner (h : Hw) (w : Nat) : Option Nat := oneOwner h ((winChannels h w).map (430 + ·))

/-- A partition owns a window. -/
def winOwned (h : Hw) (p w : Nat) : Bool := winOwner h w == some p

/-- Shows a window's owner in SFE_WIN_CFG. -/
def showWinOwner (h : Hw) (w : Nat) : Hw :=
  match winOwner h w with
  | some p => (h.put F.SFE_WIN_CFG_OWNED 1 w).put F.SFE_WIN_CFG_OWNER p w
  | none => (h.put F.SFE_WIN_CFG_OWNED 0 w).put F.SFE_WIN_CFG_OWNER 0 w

/-- Shows every window's owner, as after a change of the layout. -/
def showWinOwners (h : Hw) : Hw := (List.range 16).foldl showWinOwner h

/-- The high-water mark of a domain at a time not before now (for a crossing still ahead, R96). -/
def hwmAt (h : Hw) (i : Nat) (t : Nat) : Int := max (h.domHwm i) (if h.wgl.tb < t then (h.dom i).p.at t else h.domHwm i)

/-- RATE of a loss sample (Table 06.7). -/
def lossRate (grain dist : Nat) : Nat := if dist = 0 then 0xFFFF else satN 16 (grain * 16000000 / dist)

/-- The bytes of a loss sample (Table 06.7). DIST does not say what it holds beyond 32 bits: the value is open there. -/
def lossBytes (w : Nat) (x : WPend) (distOpen : Nat) : List Byte :=
  x.stamp ++ leBytes 4 x.grain ++ leBytes 4 x.other ++ leBytes 4 (if x.dist < 2 ^ 32 then x.dist else distOpen)
    ++ leBytes 2 (lossRate x.grain x.dist) ++ [BitVec.ofNat 8 w, BitVec.ofNat 8 x.cause]

/-- An impact that counts in an interval of a window is still in progress. -/
def ivalBusy (h : Hw) (w ival : Nat) : Bool := h.sfe.dets.any (fun (_, d) => d.begun && d.ivals.contains (w, ival))

/-- Writes the ended intervals of a window whose end has come and whose impacts have all ended, in order (R304, R307). -/
def flushPend (w : Nat) : Nat → Hw → Hw
  | 0, h => h
  | n + 1, h =>
    match (h.win w).pend with
    | [] => h
    | x :: r =>
      if x.endTov ≤ h.wgl.tb ∧ !ivalBusy h w x.ival then
        let (o, h1) := if x.dist < 2 ^ 32 then (0, h) else h.fresh
        let y := h1.win w
        let h2 := h1.setWin w { y with pend := r, rates := ((h.tb, lossRate x.grain x.dist) :: y.rates).take 4 }
        flushPend w n (streamPut h2 2 x.part (lossBytes w x o) x.endTov)
      else h

/-- Writes the loss samples that are ready. -/
def flushWins (h : Hw) : Hw :=
  h.sfe.wins.foldl (fun g (w, x) => if x.pend.isEmpty then g else flushPend w x.pend.length g) h

/-- Ends the current interval of a window with a cause at a time (R305 to R307); causes 1 to 3 close the window. Impacts
that begin at or after the end do not count in it. -/
def endInterval (h : Hw) (w cause t : Nat) : Hw :=
  let x := h.win w
  let d := h.get F.SFE_WIN_CFG_DOMAIN w
  let m := hwmAt h d t
  let p : WPend := ⟨x.ival, t, h.stamp (h.get F.SFE_WIN_CFG_BIND w) t, x.grain, x.other, (m - x.start).toNat, cause, winOwner h w⟩
  let y := { x with ival := x.ival + 1, grain := 0, other := 0, start := m, pend := x.pend ++ [p] }
  let h1 := { h with sfe := { h.sfe with dets := h.sfe.dets.map (fun ((c, e) : Nat × ImpDet) =>
    (c, if (match e.hit with | some b => decide (t ≤ b) | none => false) then
          { e with ivals := if cause = 0 then e.ivals.map (fun i => if i = (w, x.ival) then (w, x.ival + 1) else i)
                            else e.ivals.filter (· != (w, x.ival)) }
        else e)) } }
  let h2 := if cause = 0 then h1.setWin w y
    else (h1.setWin w { y with openAt := none, len := none }).put F.SFE_WIN_CFG_OPEN 0 w
  flushPend w 16 h2

/-- The length an open action names: the slot's domain (31 the timebase) and the mark that ends the window (Table 02.5). -/
def winLen (f : Fire) : Option (Nat × Int) :=
  if sParam f.raw = 0 then none
  else if sDomain f.raw = 31 then some (31, (f.tov + sParam f.raw : Nat))
  else some (sDomain f.raw, f.pos + sParam f.raw)

/-- ACTION 2: opens a window from the crossing on; one already open restarts its length (R115, R304). -/
def winOpenEv (h : Hw) (f : Fire) : Hw × Option Nat :=
  let w := sTarget f.raw
  let x := h.win w
  if x.openAt.isSome then (h.setWin w { x with len := winLen f }, some ST_OK)
  else
    let d := h.get F.SFE_WIN_CFG_DOMAIN w
    let y := { x with openAt := some f.tov, grain := 0, other := 0, start := hwmAt h d f.tov, len := winLen f }
    let mine (c : Nat) : Bool := (winChannels h w).contains c
    let h1 := (h.setWin w y).put F.SFE_WIN_CFG_OPEN 1 w
    let h2 := { h1 with sfe := { h1.sfe with dets := h1.sfe.dets.map (fun ((c, e) : Nat × ImpDet) =>
      (c, if e.begun && mine c && (match e.hit with | some b => decide (f.tov ≤ b) | none => false)
          then { e with ivals := e.ivals ++ [(w, y.ival)] } else e)) } }
    (if h.get F.WGL_DOM_CFG_TYPE d = 0 then endInterval h2 w 3 f.tov else h2, some ST_OK)

/-- ACTION 3: closes an open window at the crossing with a sample of cause 1; without one it is discarded (R110, R305). -/
def winCloseEv (h : Hw) (f : Fire) : Hw × Option Nat :=
  let w := sTarget f.raw
  if (h.win w).openAt.isSome then (endInterval h w 1 f.tov, some ST_OK)
  else (h.bump F.WGL_CNT_COUNT 0, some ST_EVENT_NOT_RUNNING)

/-- Ends the open windows whose distance domain goes OFF, or one that is reconfigured (cause 3). -/
def winDomainOff (h : Hw) (d : Nat) : Hw :=
  (List.range 16).foldl (fun g w =>
    if (g.win w).openAt.isSome && g.get F.SFE_WIN_CFG_DOMAIN w == d then endInterval g w 3 g.tb else g) h

/-- A write changes a window's mask, configuration or step: an open window ends with cause 3 (Table 06.6). -/
def winReconfig (h : Hw) (w : Nat) : Hw := if (h.win w).openAt.isSome then endInterval h w 3 h.tb else h

/-! ## Snapshots -/

/-- The ports of a snapshot group by entry. -/
def snapPorts (h : Hw) (g : Nat) : List (Option Nat) :=
  (List.range 4).flatMap (fun j =>
    [if h.flag F.SFE_SNAP_CH_VA g j then some (h.get F.SFE_SNAP_CH_PORT_A g j) else none,
     if h.flag F.SFE_SNAP_CH_VB g j then some (h.get F.SFE_SNAP_CH_PORT_B g j) else none])

/-- A partition owns a snapshot group: all its ports, which are SFE ports (R308). -/
def snapOwner (h : Hw) (g : Nat) : Option Nat :=
  let ps := (snapPorts h g).filterMap id
  if ps.all (fun p => decide (326 ≤ p) && decide (p ≤ 509)) then oneOwner h ps else none

/-- A partition owns a snapshot group. -/
def snapOwned (h : Hw) (p g : Nat) : Bool := snapOwner h g == some p

/-- The value of a port in a snapshot at a crossing; a port that has no sample yet gives an open value (R309). -/
def snapVal (h : Hw) (t : Nat) (p : Option Nat) : Nat × Hw :=
  match p with
  | none => (0, h)
  | some q => match h.sampleAt q t with
    | some (_, x) => (ux 32 x, h)
    | none => let (v, h1) := h.fresh
              (v % 2 ^ 32, h1)

/-- The values of a group's entries in order. -/
def snapVals (t : Nat) : List (Option Nat) → Hw → List Byte × Hw
  | [], h => ([], h)
  | p :: ps, h =>
    let (v, h1) := snapVal h t p
    let (r, h2) := snapVals t ps h1
    (leBytes 4 v ++ r, h2)

/-- ACTION 6: takes the group's samples at the crossing and writes a 96-byte record to stream 5 (R309). -/
def snapEv (h : Hw) (f : Fire) : Hw × Option Nat :=
  let g := sTarget f.raw
  let ps := snapPorts h g
  let (vs, h1) := snapVals f.tov ps h
  let n := (ps.filterMap id).length
  let bs := h.stamp (h.get F.SFE_SNAP_CH_BIND g 0) f.tov ++ [BitVec.ofNat 8 g, BitVec.ofNat 8 n] ++ zeros 14 ++ vs
  (streamPut h1 5 (snapOwner h g) bs f.tov, some ST_OK)

/-! ## Faults of inputs -/

/-- SUP5 of J2 is in current limit: AIN00 to AIN63 read as faulted (R876). -/
def sup5J2 (h : Hw) : Bool := bit (h.get F.PWR_ENV_SUP_LIM) 0

/-- Shows in SFE_FAULT.NOW whether a fault is present at an input (R876, Table 21.8). -/
def showFaultNow (h : Hw) (p : Nat) : Hw :=
  let (o, r) := mgetD h.sfe.faults p (false, false)
  h.put F.SFE_FAULT_NOW (b2n (o || r || (isAin p && sup5J2 h))) (p - 326)

end Sys2Proof.Machine
end

