-- ==== Sys2Proof/Machine/YieldCore.lean ====
section
/-!
DEFINITION. The yield unit (chapter 06): paddles at the plate, their mass and flow, the transport delay line, moisture and yield
bins. Readings: log entry 22.
-/
namespace Sys2Proof.Machine

/-- Changes the yield unit's own state. -/
def Hw.setYld (h : Hw) (y : Yld) : Hw := { h with yld := y }

/-- The yield unit runs. -/
def yldOn (h : Hw) : Bool := h.flag F.SFE_YLD_STATUS_RUN

/-- The partition that owns the yield unit (R310). -/
def yldOwner (h : Hw) : Option Nat := h.portOwner (478 + h.get F.SFE_YLD_CFG_BRG)

/-! ## Paddles at the plate (R311 to R313) -/

/-- P(j) of a paddle counted through all revolutions (R311). -/
def padPos (h : Hw) (j : Int) : Int :=
  let n : Int := h.get F.SFE_YLD_CFG_PADDLES
  h.get F.SFE_YLD_OFFSET_OFFSET + j / n * 2 ^ 32 + j % n * 2 ^ 32 / n

/-- The paddle whose interval contains an elevator mark. -/
def padAt (h : Hw) (x : Int) : Int :=
  let n : Int := h.get F.SFE_YLD_CFG_PADDLES
  let y := x - h.get F.SFE_YLD_OFFSET_OFFSET
  y / 2 ^ 32 * n + ((y % 2 ^ 32 + 1) * n - 1) / 2 ^ 32

/-- The elevator's high-water mark. -/
def elevHwm (h : Hw) : Int := h.domHwm (h.get F.SFE_YLD_CFG_EDOM)

/-- The calibration in force for paddles that end now: a loaded block applies once the completion of its operation has
been written (R319). -/
def calNow (h : Hw) : Option (List Byte) :=
  match h.yld.calNext with
  | some (id, b) => if (h.flight id).isNone then some b else h.yld.cal
  | none => h.yld.cal

/-- The bridge of the impact plate reports a fault now. -/
def yldBridgeFault (h : Hw) : Bool :=
  let f := mgetD h.sfe.faults (478 + h.get F.SFE_YLD_CFG_BRG) (false, false)
  f.1 || f.2

/-- Shows the number of paddles that wait for their fill. -/
def showPend (h : Hw) : Hw :=
  h.put F.SFE_YLD_STATUS_PEND
    (satN 7 ((h.yld.pads.filter (fun p => p.t1.isSome && !h.yld.fills.any (fun f => f.1 == p.j))).length))

/-- Ends the paddles whose intervals the elevator's high-water mark has left, and starts those it has reached; the fuel is the
number of boundaries passed. -/
def padsPass : Nat → Hw → Hw
  | 0, h => h
  | n + 1, h =>
    let j := h.yld.nextJ
    if padPos h j ≤ elevHwm h then
      let t := (h.reachedAt (h.get F.SFE_YLD_CFG_EDOM) (padPos h j)).toNat
      let ended := h.yld.pads.map (fun p => if p.t1.isNone then { p with t1 := some t, cal := calNow h } else p)
      padsPass n (h.setYld { h.yld with nextJ := j + 1, pads := ended ++ [⟨j, t, none, [], yldBridgeFault h, none⟩] })
    else h

/-- Brings the paddles up to the elevator's position now. -/
def yldAdvance (h : Hw) : Hw :=
  if yldOn h then showPend (padsPass (padAt h (elevHwm h) - h.yld.nextJ + 1).toNat h) else h

/-- Changes the paddle at the plate. -/
def onPlate (h : Hw) (g : Pad → Pad) : Hw :=
  h.setYld { h.yld with pads := h.yld.pads.map (fun p => if p.t1.isNone then g p else p) }

/-- A bridge sample of the impact plate (R312). -/
def yldBridge (h : Hw) (port : Nat) (c : Int) : Hw :=
  if yldOn h && port == 478 + h.get F.SFE_YLD_CFG_BRG then
    onPlate (yldAdvance h) (fun p => { p with cs := (c, h.get F.SFE_BRG_CFG_RATE (port - 478)) :: p.cs })
  else h

/-- The bridge of the impact plate begins to report a fault (R313). -/
def yldFault (h : Hw) (port : Nat) : Hw :=
  if yldOn h && port == 478 + h.get F.SFE_YLD_CFG_BRG then onPlate (yldAdvance h) (fun p => { p with fault := true }) else h

/-- A fast frame from the moisture port (R326). -/
def yldMoist (h : Hw) (port data : Nat) : Hw :=
  if yldOn h && h.flag F.SFE_YLD_CFG_MOIST_EN && port == 494 + h.get F.SFE_YLD_CFG_SNT then
    let v := qadd (mkQ ((data * h.get F.SFE_YLD_MOIST_GAIN : Nat) : Int) 4096) (qi (h.getS F.SFE_YLD_MOIST_OFS))
    let keep := padPos h ((h.yld.pads.map (·.j)).head?.getD h.yld.nextJ) - h.getS F.SFE_YLD_MOIST_SHIFT_SHIFT * 2 ^ 16
    h.setYld { h.yld with moist := (h.yld.moist.filter (fun m => decide (keep ≤ m.1))) ++ [(elevHwm h, v)] }
  else h

/-! ## Mass and flow (R320 to R323) -/

/-- A point of a calibration block: impulse and mass. -/
def calPoint (b : List Byte) (i : Nat) : Nat × Nat := (fld b (32 + 8 * i) 4, fld b (36 + 8 * i) 4)

/-- The impulse of a paddle in µN·s under a calibration (R312). -/
def padImpulse (b : List Byte) (p : Pad) : Q :=
  let z := sx 32 (fld b 28 4)
  let k := fld b 24 4
  (p.cs.map (fun (c, r) => mkQ (max 0 (c - z) * (k * 2 ^ r : Nat)) 4800)).foldl qadd (qi 0)

/-- Linear interpolation through two points, extended beyond them. -/
def linear (x0 y0 x1 y1 : Q) (x : Q) : Q := qadd y0 (qdiv (qmul (qsub y1 y0) (qsub x x0)) (qsub x1 x0))

/-- The mass a calibration gives for an impulse, the last segment extended (R320). -/
def calMassAux (b : List Byte) (x : Q) : Nat → Nat → Q
  | 0, _ => qi 0
  | n + 1, i =>
    let (x0, y0) := calPoint b i
    let (x1, y1) := calPoint b (i + 1)
    if qle x (qi x1) || n == 0 then linear (qi x0) (qi y0) (qi x1) (qi y1) x else calMassAux b x n (i + 1)

/-- The mass from impulse; with a first point at impulse 0, the mass at impulse 0 is not given and stays open. -/
def massImpulse (h : Hw) (b : List Byte) (x : Q) : Q × Hw :=
  let (x0, y0) := calPoint b 0
  if qle x (qi x0) then
    if x0 = 0 then let (v, h1) := h.fresh
                   (qi v, h1)
    else (mkQ (y0 * x.num) (x0 * x.den), h)
  else (calMassAux b x (fld b 4 1 - 1) 0, h)

/-- The mass of a paddle in mg and its flags 0 to 3 but EXTRAP (R320); without a calibration the paddle volume is not given
and a mass from fill is open. -/
def padMass (h : Hw) (p : Pad) (fill : Option (Nat × Nat)) : Q × Nat × Hw :=
  let fi := p.cs.isEmpty || p.fault
  match p.cal with
  | none =>
    let fl := 4 * b2n fi + 8
    match fill with
    | some _ => let (v, h1) := h.fresh
                (qi v, fl, h1)
    | none => (qi 0, fl, h)
  | some b =>
    let w := fld b 6 2
    let fl := 2 * b2n (decide (w < 4096) && fill.isNone) + 4 * b2n fi
    let mf (x : Nat × Nat) : Q := mkQ ((x.1 * fld b 16 4 * (if x.2 = 0 then fld b 20 4 else x.2) : Nat) : Int) 10000
    if fi then (match fill with | some x => (mf x, fl, h) | none => (qi 0, fl, h))
    else
      let (mi, h1) := massImpulse h b (padImpulse b p)
      match fill with
      | some x => (qdiv (qadd (qmul (qi w) mi) (qmul (qi (4096 - w)) (mf x))) (qi 4096), fl, h1)
      | none => (mi, fl, h1)

/-! ## Transport delay (R328 to R331) -/

/-- A coordinate of a history entry: 0 the ground domain, 1 to 3 the segment domains. -/
def HEnt.at (e : HEnt) (k : Nat) : Int := match k with | 0 => e.g | 1 => e.s0 | 2 => e.s1 | _ => e.s2

/-- The marks now as a history entry. -/
def histNow (h : Hw) : HEnt :=
  ⟨h.tb, h.domHwm (h.get F.SFE_YLD_CFG_GDOM), h.domHwm (h.get F.SFE_YLD_SEG_DOMAIN 0),
   h.domHwm (h.get F.SFE_YLD_SEG_DOMAIN 1), h.domHwm (h.get F.SFE_YLD_SEG_DOMAIN 2)⟩

/-- The position of a domain at a time, through entries from the oldest on, interpolated linearly (R330). -/
def posAtHist (k : Nat) (t : Q) : List HEnt → Q
  | [] => qi 0
  | [e] => qi (e.at k)
  | e :: f :: es =>
    if qle t (qi e.t) then qi (e.at k)
    else if qle t (qi f.t) then linear (qi e.t) (qi (e.at k)) (qi f.t) (qi (f.at k)) t
    else posAtHist k t (f :: es)

/-- The earliest time at which a domain reached a position, through entries from the oldest on (R330). -/
def timeAtHist (k : Nat) (p : Q) : List HEnt → Q
  | [] => qi 0
  | [e] => qi e.t
  | e :: f :: es =>
    if qle p (qi (e.at k)) then qi e.t
    else if qle p (qi (f.at k)) then linear (qi (e.at k)) (qi e.t) (qi (f.at k)) (qi f.t) p
    else timeAtHist k p (f :: es)

/-- Walks back through the segments from the last one: the cut time, and whether the history was overrun (R330). -/
def cutTime (h : Hw) (es : List HEnt) : Nat → Q → Q × Bool
  | 0, t => (t, false)
  | i + 1, t =>
    let p := qsub (posAtHist (i + 1) t es) (qi (h.get F.SFE_YLD_SEG_LEN_LEN i * 2 ^ 16 : Nat))
    match es with
    | [] => (t, true)
    | e :: _ => if qlt p (qi (e.at (i + 1))) then (qi e.t, true) else cutTime h es i (timeAtHist (i + 1) p es)

/-! ## Yield bins (R332 to R336) -/

/-- The width in force for a bin that starts at a position: the last waiting one that it reaches (R335). -/
def takeWidth (y : Yld) (d0 : Int) : Yld :=
  let due := y.widths.filter (fun w => decide (w.1 ≤ d0))
  { y with widths := y.widths.filter (fun w => !decide (w.1 ≤ d0)),
           width := match due.getLast? with | some w => some w.2 | none => y.width }

/-- Writes one bin, with the paddles it gathered or without any (R333, R336). A width, or a mean moisture, that nothing
gives is open. -/
def binWrite (h : Hw) (b : Int) : Hw :=
  let step := h.get F.SFE_YLD_STEP_STEP
  let y := takeWidth h.yld (b * step)
  let x : Bin := (y.bins.find? (fun q => q.b == b)).getD ⟨b, 0, 0, 0, 0, 0, 0, 0, 0, 0⟩
  let h0 := h.setYld { y with bins := y.bins.filter (fun q => q.b != b), lastBin := some b, seq := y.seq + 1 }
  let (wd, h1) := match y.width with | some w => (w, h0) | none => (let (v, g) := h0.fresh
                                                                  (v % 2 ^ 16, g))
  let (mo, h2) := if x.moistN = 0 then (0xFFFF, h1)
    else if x.moistMass = 0 then (let (v, g) := h1.fresh
                                  (v % 2 ^ 16, g))
    else (let (r, g) := h1.openRound (mkQ x.moist x.moistMass)
          g.fitOpen 16 r)
  let (ms, h3) := h2.fitOpen 32 (x.mass / 1000 : Nat)
  let bs := leBytes 8 (ux 64 (b * step)) ++ leBytes 8 x.tcut ++ leBytes 4 ms ++ leBytes 2 mo ++ leBytes 2 wd
    ++ leBytes 4 step ++ leBytes 2 x.flags ++ leBytes 2 x.calId ++ leBytes 4 x.n ++ leBytes 4 x.flowMax
    ++ leBytes 4 y.seq ++ zeros 20
  streamPut h3 4 (yldOwner h) bs h.tb

/-- Writes the bins from the one after the last written, or the oldest open one, up to a bin. -/
def binsUpTo (h : Hw) (b : Int) : Hw :=
  let first := match h.yld.lastBin with
    | some l => l + 1
    | none => (h.yld.bins.map (·.b)).foldl min (b + 1)
  (List.range (b + 1 - first).toNat).foldl (fun g (i : Nat) => binWrite g (first + i)) h

/-- Writes every open bin (R333). -/
def binsAll (h : Hw) : Hw :=
  match h.yld.bins with
  | [] => h
  | x :: xs => binsUpTo h ((xs.map (·.b)).foldl max x.b)

/-- Adds a paddle to a bin, which it may be the first to fall in. -/
def binAdd (y : Yld) (b : Int) (tcut mass : Nat) (moist : Option Nat) (flags calId flow : Nat) : Yld :=
  let x : Bin := (y.bins.find? (fun q => q.b == b)).getD ⟨b, tcut, 0, 0, 0, 0, 0, calId, 0, 0⟩
  let mixed := if x.n ≠ 0 ∧ x.calId ≠ calId then 2 ^ 7 else 0
  let x' : Bin := { x with mass := x.mass + mass, flags := x.flags ||| flags ||| mixed, calId := calId, n := x.n + 1,
                           flowMax := max x.flowMax flow,
                           moist := x.moist + ((moist.getD 0) * mass : Nat),
                           moistMass := x.moistMass + (if moist.isSome then mass else 0),
                           moistN := x.moistN + (if moist.isSome then 1 else 0) }
  { y with bins := if y.bins.any (fun q => q.b == b) then y.bins.map (fun q => if q.b = b then x' else q) else y.bins ++ [x'] }

/-- A paddle falls in a bin: earlier bins are written, and a paddle of a bin already written goes to the oldest open bin, or
to the one after the last written where none is open, which is flagged MERGED (R332 to R334). -/
def binPaddle (h : Hw) (b : Int) (tcut mass : Nat) (moist : Option Nat) (flags calId flow : Nat) : Hw :=
  let closed := match h.yld.lastBin with | some l => decide (b ≤ l) | none => false
  let h1 := if closed then
      let l := h.yld.lastBin.getD 0
      let oldest := match h.yld.bins with | [] => l + 1 | x :: xs => (xs.map (·.b)).foldl min x.b
      h.setYld (binAdd h.yld oldest tcut mass moist (flags ||| 2 ^ 6) calId flow)
    else
      let g := binsUpTo h (b - 2)
      g.setYld (binAdd g.yld b tcut mass moist flags calId flow)
  h1.setYld { h1.yld with lastAdd := h.now }

/-- Stops the yield unit: the open bins are written and the buffers of streams 3 and 4 close (R333, R294). -/
def yldStop (h : Hw) : Hw :=
  if yldOn h then
    let h1 := binsAll h
    let h2 := match yldOwner h with
      | some p => bufCloseAll (bufCloseAll h1 (qKey 3 p) ST_STREAM_OFF) (qKey 4 p) ST_STREAM_OFF
      | none => h1
    ((h2.setYld { cal := h2.yld.cal, calNext := h2.yld.calNext, widths := h2.yld.widths, width := h2.yld.width }).put
      F.SFE_YLD_STATUS_RUN 0).put F.SFE_YLD_STATUS_PEND 0
  else h

/-- The checks of an enable (R310). -/
def yldCheck (h : Hw) : Nat :=
  let own := yldOwner h
  let hist := h.get F.SFE_YLD_HIST_LO_ADDR + 2 ^ 32 * h.get F.SFE_YLD_HIST_HI_ADDR
  let step := h.get F.SFE_YLD_STEP_STEP
  let ok := match own with
    | some p => (!h.flag F.SFE_YLD_CFG_MOIST_EN || h.ownsPort p (494 + h.get F.SFE_YLD_CFG_SNT)) && h.owns p hist 8388608
    | none => false
  firstBad [(ok && h.get F.WGL_DOM_CFG_TYPE (h.get F.SFE_YLD_CFG_EDOM) == 1
    && h.get F.WGL_DOM_CFG_TYPE (h.get F.SFE_YLD_CFG_GDOM) == 2
    && (List.range (h.get F.SFE_YLD_CFG_NSEG)).all (fun i => h.get F.WGL_DOM_CFG_TYPE (h.get F.SFE_YLD_SEG_DOMAIN i) != 0)
    && decide (1 ≤ h.get F.SFE_YLD_CFG_PADDLES) && decide (1 ≤ h.get F.SFE_YLD_RES_ROT)
    && decide (1 ≤ h.get F.SFE_YLD_RES_GND) && decide (100000 ≤ step) && decide (step ≤ 100000000)
    && decide (1 ≤ h.get F.SFE_YLD_FILL_WAIT) && decide (h.get F.SFE_YLD_FILL_WAIT ≤ 64), ST_SFE_CONFIG)]

/-- Enables the yield unit (R310). -/
def yldEnable (h : Hw) : Hw :=
  if h.flag F.SFE_YLD_CFG_EN then h else
    let st := yldCheck h
    let h1 := h.put F.SFE_YLD_STATUS_ERR st
    if st ≠ ST_OK then h1 else
      let j := padAt h (elevHwm h)
      let j0 := if padPos h j = elevHwm h then j else j + 1
      ((h1.setYld { h.yld with nextJ := j0, firstJ := j0, pads := [], fills := [], moist := [], hist := [], histN := 0,
                               base := { histNow h with t := 0 }, bins := [], lastBin := none, seq := 0, lastAdd := h.now }).put
        F.SFE_YLD_CFG_EN 1).put F.SFE_YLD_STATUS_RUN 1

end Sys2Proof.Machine
end

