-- ==== Sys2Proof/Machine/SourceCore.lean ====
section
/-!
DEFINITION. Measurement sources (Table 07.2): raw values, their arrival after the delay D, and fault conditions. Control engine
slots read them, and the valve drive takes the oil temperature from them (R433). Readings: log entry 23.
-/
namespace Sys2Proof.Machine

/-- The newest sample under a key that arrived before a time, given its delay: arrival and value. -/
def keyed (h : Hw) (key d t : Nat) : Option (Nat × Int) :=
  ((mgetD h.sfe.last key []).find? (fun s => decide (s.1 + d < t))).map (fun s => (s.1 + d, s.2))

/-- The pulse frequency of a speed input in mHz: from its last period, or 0 once 1 s has passed without an edge. -/
def speedSample (h : Hw) (p t : Nat) : Option (Nat × Q) :=
  match keyed h p 2000 t with
  | none => none
  | some (a, per) =>
    if a + 1000000000 < t then some (a + 1000000000, qi 0)
    else if per ≤ 0 then none
    else some (a, mkQ 1000000000000 per.toNat)

/-- The speed of a domain under a prediction: 2^-16 rev/s in a rotary domain, mm/s in a linear one; 0 in PRIMING and
STOPPED. -/
def predSpeed (rotary : Bool) (p : Pred) : Q :=
  if p.state = 2 ∨ p.state = 3 then
    let v := qmul (qmul p.v (qi p.d)) (qi 1000000000)
    if rotary then qdiv v (qi 65536) else qdiv v (qi 1000)
  else qi 0

/-- The newest speed of a domain that arrived before a time, 2 µs after its edge or update. -/
def domSample (h : Hw) (i t : Nat) : Option (Nat × Q) :=
  ((h.dom i).hist.find? (fun e => decide (e.1 + 2000 < (t : Int)))).map (fun e =>
    ((e.1 + 2000).toNat, predSpeed (h.domRotary i) e.2))

/-- The newest sample of a source that arrived before a time: arrival and exact raw value (R353, R354). -/
def srcSample (h : Hw) (src idx t : Nat) : Option (Nat × Q) :=
  let val (x : Option (Nat × Int)) : Option (Nat × Q) := x.map (fun s => (s.1, qi s.2))
  match src with
  | 1 => val (keyed h (326 + idx) (3000 + 25000 * h.get F.SFE_AIN_CFG_DEC idx) t)
  | 2 => val (keyed h (478 + idx) (3000 + qceil (qmul (mkQ 3 2) (h.sfePeriod (478 + idx)))).toNat t)
  | 3 => speedSample h (390 + idx) t
  | 4 => domSample h idx t
  | 5 => val (keyed h (1000 + 494 + idx) 3000 t)
  | 6 => (h.sfe.imu.find? (fun s => decide (s.1 + 3000 < t))).map (fun s => (s.1 + 3000, qi (s.2.getD idx 0)))
  | 7 => ((h.win idx).rates.find? (fun s => decide (s.1 + 3000 < t))).map (fun s => (s.1 + 3000, qi s.2))
  | 8 => val (keyed h 512 3000 t)
  | 9 => val (keyed h idx 2000 t)
  | 10 => val (keyed h (48 + idx) 2000 t)
  | 11 => val (keyed h (272 + idx) 2000 t)
  | 12 => ((h.dio idx).hist.find? (fun s => decide (s.1 + 3000 < t))).map (fun s => (s.1 + 3000, qi (b2n s.2)))
  | 13 => (mget h.ctl.meas idx).bind (fun (a, x, _) => if a < t then some (a, qi x) else none)
  | _ => none

/-- The last paddle flow that reached the engine is of a FORCE_INVALID record. -/
def flowInvalid (h : Hw) (t : Nat) : Bool := match keyed h 513 3000 t with | some (_, x) => x != 0 | none => false

/-- A source is faulted (Table 07.2). -/
def srcFault (h : Hw) (src idx t : Nat) : Bool :=
  match src with
  | 1 => h.flag F.SFE_FAULT_NOW idx || !h.sfeOn (326 + idx)
  | 2 => h.flag F.SFE_FAULT_NOW (152 + idx) || !h.sfeOn (478 + idx)
  | 3 => !h.sfeOn (390 + idx)
  | 4 => (h.dom idx).p.state == 0
  | 5 => !h.sfeOn (494 + idx)
  | 7 => (winOwner h idx).isNone || (h.dom (h.get F.SFE_WIN_CFG_DOMAIN idx)).p.state == 0
  | 8 => !yldOn h || flowInvalid h t
  | 9 => solFault h idx
  | 10 => lsFault h idx
  | 11 => fanFault h idx
  | 12 => !h.flag F.DIO_CFG_DIR idx && (h.dio idx).openNow
  | 13 => match mget h.ctl.meas idx with | some (_, _, ok) => !ok | none => false
  | _ => false

end Sys2Proof.Machine
end

