-- ==== Sys2Proof/Machine/ControlCore.lean ====
section
/-!
DEFINITION. The control engine (chapter 07): slot records, measurements, the law, destinations, injection and capture, and the
work of one tick. Readings: log entry 23.
-/
namespace Sys2Proof.Machine

/-! ## Slot records (Table 07.1) -/

/-- A slot. -/
def Hw.cslot (h : Hw) (n : Nat) : CSlot := mgetD h.ctl.slots n {}
/-- Replaces a slot. -/
def Hw.setCslot (h : Hw) (n : Nat) (x : CSlot) : Hw := { h with ctl := { h.ctl with slots := mset h.ctl.slots n x } }
/-- The record of a slot, all zeros while none is loaded (R398). -/
def CSlot.rec_ (x : CSlot) : List Byte := x.raw.getD (zeros 128)

/-- A signed 32-bit field of a record. -/
def rI (r : List Byte) (i : Nat) : Int := sx 32 (fld r i 4)
/-- LEVEL. -/
def rLevel (r : List Byte) : Nat := bits (fld r 1 1) 1 0
/-- LAW: 0 RELAY2, 1 RELAY3, 2 STEP. -/
def rLaw (r : List Byte) : Nat := bits (fld r 1 1) 3 2
/-- The source of a side: A or B. -/
def rSrc (r : List Byte) (b : Bool) : Nat := if b then bits (fld r 2 1) 7 4 else bits (fld r 2 1) 3 0
/-- The index of a side's source. -/
def rIdx (r : List Byte) (b : Bool) : Nat := if b then fld r 6 2 else fld r 4 2
/-- DEST. -/
def rDest (r : List Byte) : Nat := fld r 8 1 % 16
/-- DEST_IDX. -/
def rDestIdx (r : List Byte) : Nat := fld r 10 2
/-- DIV. -/
def rDiv (r : List Byte) : Nat := fld r 12 4
/-- PHASE. -/
def rPhase (r : List Byte) : Nat := fld r 16 4
/-- SP_MIN. -/
def rSpMin (r : List Byte) : Int := rI r 40
/-- SP_MAX. -/
def rSpMax (r : List Byte) : Int := rI r 44
/-- OUT_LO. -/
def rOutLo (r : List Byte) : Int := rI r 56
/-- OUT_HI. -/
def rOutHi (r : List Byte) : Int := rI r 60

/-- The largest index of a source (Table 07.2). -/
def srcMax (src : Nat) : Nat := [65535, 63, 15, 39, 15, 15, 5, 15, 0, 47, 95, 7, 127, 63].getD src 0
/-- The largest index of a destination (Table 07.3). -/
def destMax (d : Nat) : Nat := [65535, 255, 47, 46, 47, 95, 94, 127, 7, 65535].getD d 0

/-- A record keeps to Tables 07.1 to 07.3 and to the order rules of R384. -/
def recOk (r : List Byte) : Bool :=
  let d := rDest r
  let ix := rDestIdx r
  let aux := fld r 9 1
  let bo := rI r 48
  let bi := rI r 52
  let lo := rOutLo r
  let hi := rOutHi r
  rLaw r != 3 && decide (rSrc r false ≤ 13) && decide (rSrc r true ≤ 13) && decide (rIdx r false ≤ srcMax (rSrc r false))
    && decide (rIdx r true ≤ srcMax (rSrc r true)) && decide (fld r 3 1 < 3) && decide (fld r 8 1 < 10)
    && decide (ix ≤ destMax d) && (if d = 9 then decide (aux ≤ 62) && decide (ix / 256 < 16) && decide (ix % 256 < 128) else aux == 0)
    && decide (1 ≤ rDiv r) && decide (rDiv r ≤ 100000) && decide (rPhase r < rDiv r)
    && decide (0 ≤ bo) && decide (0 ≤ bi) && decide (bi ≤ bo) && decide (0 ≤ rI r 68) && decide (0 ≤ rI r 84) && decide (0 ≤ rI r 88)
    && decide (1 ≤ fld r 94 2) && allZero (slice r 96 32)
    && decide (rSpMin r ≤ rI r 36) && decide (rI r 36 ≤ rSpMax r)
    && [64, 72, 76].all (fun i => decide (lo ≤ rI r i) && decide (rI r i ≤ hi))

/-- The output ports of a destination (Table 07.3), by port index; a CAN signal's controller. -/
def destPorts (r : List Byte) : List Nat :=
  let i := rDestIdx r
  match rDest r with
  | 2 => [i] | 3 => [i, i + 1] | 4 => [i] | 5 => [48 + i] | 6 => [48 + i, 49 + i] | 7 => [144 + i] | 8 => [272 + i]
  | 9 => [280 + i / 256] | _ => []

/-- What a destination occupies alone: ports, or the two CAN signal bytes (R384, R630). -/
def destKeys (r : List Byte) : List Nat :=
  if rDest r = 9 then [2 ^ 24 + 64 * rDestIdx r + fld r 9 1, 2 ^ 24 + 64 * rDestIdx r + fld r 9 1 + 1] else destPorts r

/-- The loaded records, by slot. -/
def ctlRecs (h : Hw) : List (Nat × List Byte) := h.ctl.slots.filterMap (fun (n, x) => x.raw.map (fun r => (n, r)))

/-- Nesting is kept (R361, R362): each outer slot's inner slot stands among the records. -/
def nestOk (rs : List (Nat × List Byte)) : Bool :=
  rs.all (fun (n, r) =>
    let lv := rLevel r
    let d := rDest r
    (if lv = 0 then d != 1 else decide (d ≤ 1))
      && (d != 1 || (match rs.find? (fun q => q.1 == rDestIdx r) with
        | some (i, q) => i / 64 == n / 64 && rLevel q + 1 == lv && rDiv r % rDiv q == 0 && rPhase r % rDiv q == rPhase q
            && !(rs.any (fun (m, t) => m != n && rDest t == 1 && rDestIdx t == i))
        | none => false)))

/-- No two records share a destination (R384). -/
def destsApart : List (Nat × List Byte) → Bool
  | [] => true
  | (_, r) :: rs => rs.all (fun q => (destKeys q.2).all (fun k => !(destKeys r).contains k)) && destsApart rs

/-- The fields that only an OFF slot may change are the same (R384). -/
def sameFixed (a b : List Byte) : Bool :=
  fld a 1 1 % 16 == fld b 1 1 % 16 && fld a 2 1 == fld b 2 1 && fld a 4 4 == fld b 4 4 && slice a 8 12 == slice b 8 12

/-- Why a set of new records is refused, or ST_OK, judged in the order of R384. -/
def loadCheck (h : Hw) (new : List (Nat × List Byte)) : Nat :=
  let kept := (ctlRecs h).filter (fun q => !(new.any (fun x => x.1 == q.1)))
  let all := kept ++ new
  firstBad [
    (new.all (fun x => recOk x.2) && nestOk all, ST_CTL_TABLE_INVALID),
    (destsApart all, ST_CTL_DEST_CONFLICT),
    (new.all (fun x => (destPorts x.2).all (fun p => h.ownsPort 1 p)), ST_TARGET_NOT_OWNED),
    (new.all (fun x => (h.cslot x.1).state == 0 || sameFixed (h.cslot x.1).rec_ x.2), ST_CTL_SLOT_STATE)]

/-- Puts a new record in force (R384). A slot in OFF whose record names no alternate source turns to source A. -/
def recStore (h : Hw) (x : Nat × List Byte) : Hw :=
  let s := h.cslot x.1
  let sp := if s.state = 0 then s.sp else clampI s.sp (rSpMin x.2) (rSpMax x.2)
  h.setCslot x.1 { s with raw := some x.2, sp := sp, sel := s.sel && rSrc x.2 true != 0, eccBad := false }

/-- The outer slot of a slot (R361). -/
def outerOf (h : Hw) (n : Nat) : Option Nat :=
  ((ctlRecs h).find? (fun (_, r) => rDest r == 1 && rDestIdx r == n)).map (·.1)

/-! ## Measurements (R352, R353, R365 to R367) -/

/-- What an evaluation finds at a source: faulted, stale, and whether it has a new sample. -/
structure SrcView where
  fault : Bool
  stale : Bool
  fresh : Bool
  deriving DecidableEq, Repr

/-- A source is stale at a time: no sample has arrived for STALE × 100 µs, counted from the slot's entry where none has arrived
yet. -/
def isStale (r : List Byte) (entry : Nat) (arr : Option Nat) (t : Nat) : Bool :=
  let lim := 100000 * fld r 92 2
  lim != 0 && decide ((arr.getD entry) + lim ≤ t)

/-- Measures a side of a slot at the start of a tick: the conversion is M = sat32(raw × GAIN + OFS). A raw value that is not whole
is rounded either way, and a source without any sample gives an open value (R352). -/
def measure (h : Hw) (n : Nat) (b : Bool) (t : Nat) : Hw × SrcView :=
  let x := h.cslot n
  let r := x.rec_
  let src := rSrc r b
  if src = 0 then (h, ⟨false, false, false⟩) else
    let idx := rIdx r b
    let smp := srcSample h src idx t
    let (m, h1) := match smp with
      | some (_, q) =>
        (let (raw, g) := h.openRound q
         (satI 32 (raw * rI r (if b then 28 else 20) + rI r (if b then 32 else 24)), g))
      | none => (let (v, g) := h.fresh
                 (sx 32 v, g))
    let arr := smp.map (·.1)
    let new := match arr, x.prevEval with | some a, some p => decide (p < a) | some _, none => true | none, _ => false
    let x1 := if b then { x with mB := m } else { x with mA := m }
    (h1.setCslot n x1, ⟨srcFault h src idx t, isStale r x.entry arr t, new⟩)

/-- A source is neither faulted nor stale at a time (R366, R370). -/
def srcHealthy (h : Hw) (n : Nat) (b : Bool) (t : Nat) : Bool :=
  let x := h.cslot n
  let r := x.rec_
  let src := rSrc r b
  src == 0 || (!srcFault h src (rIdx r b) t && !isStale r x.entry ((srcSample h src (rIdx r b) t).map (·.1)) t)

/-- The measurement of a side. -/
def CSlot.side (x : CSlot) (b : Bool) : Int := if b then x.mB else x.mA

/-- Switches to a source, with BUMP when SW_RATE is not 0 (R365). -/
def switchTo (x : CSlot) (b : Bool) : CSlot :=
  { x with sel := b, bump := if rI x.rec_ 88 = 0 then 0 else x.side x.sel - x.side b }

/-! ## Destinations (Table 07.3) -/

/-- Writes a value to a slot's destination; `fs` writes the stored fail-safe state (FAIL 2). The answer says whether the
destination is blocked, faulted or held (R360). -/
def destWrite (h : Hw) (r : List Byte) (out : Int) (fs : Bool) : Hw × Bool :=
  let i := rDestIdx r
  let v := out / 65536
  let code (x : Int) : Nat := (clampI x 0 4095).toNat
  let on := decide (32768 ≤ out)
  match rDest r with
  | 1 =>
    let x := h.cslot i
    let c := clampI out (rSpMin x.rec_) (rSpMax x.rec_)
    let h1 := if c = out then h else h.bump F.CTL_CNT_COUNT 2
    (h1.setCslot i { x with sp := c }, false)
  | 2 => solEngine h i (code v) fs
  | 3 =>
    let (h1, b1) := solEngine h i (code v) fs
    let (h2, b2) := solEngine h1 (i + 1) (code (-v)) fs
    (h2, b1 || b2)
  | 4 => solEngineProf h i v fs
  | 5 => lsEngine h i on fs
  | 6 =>
    let (h1, b1) := lsEngine h i on fs
    let (h2, b2) := lsEngine h1 (i + 1) (decide (out ≤ -32768)) fs
    (h2, b1 || b2)
  | 7 => dioEngine h i on fs
  | 8 => fanEngine h i v fs
  | 9 => (canSignal h (i / 256 % 16) (i % 128) (fld r 9 1) v, false)
  | _ => (h, false)

/-- The inner slot that a slot writes is not in RUN or is saturated (R360). -/
def innerSat (h : Hw) (r : List Byte) : Bool :=
  rDest r == 1 && ((h.cslot (rDestIdx r)).state != 1 || (h.cslot (rDestIdx r)).sat)

/-! ## Injection (R385 to R389) -/

/-- Orders and taps of the PRBS polynomials (R386). -/
def prbsPoly (code : Nat) : Nat × Nat := [(7, 6), (9, 5), (11, 9), (15, 14), (17, 14), (23, 18)].getD code (7, 6)

/-- The register with all ones. -/
def prbsSeed (code : Nat) : Nat := 2 ^ (prbsPoly code).1 - 1

/-- One shift of the Fibonacci register. -/
def prbsShift (code x : Nat) : Nat :=
  let (n, t) := prbsPoly code
  (2 * x + (x / 2 ^ (n - 1) + x / 2 ^ (t - 1)) % 2) % 2 ^ n

/-- The phase φn of a chirp in turns (R386). -/
def chirpPhase (d : List Byte) (div n : Nat) : Q :=
  let f0 : Int := (fld d 24 4 : Nat)
  let f1 : Int := (fld d 28 4 : Nat)
  let sum := qadd (qi (n * f0)) (mkQ ((f1 - f0) * (n * (n - 1) : Nat)) (2 * fld d 4 4))
  qmul sum (mkQ div 100000000)

/-- The value a generator injects now (R386). A sine that is not 0 or ±1 is open within ±AMP: the spec does not say how it is
rounded. -/
def injValue (h : Hw) (j : Inj) (div : Nat) : Int × Hw :=
  let amp := rI j.desc 16
  match fld j.desc 2 1 / 2 % 8 with
  | 1 => (amp, h)
  | 2 => (if bit j.lfsr ((prbsPoly (fld j.desc 3 1)).1 - 1) then amp else -amp, h)
  | _ =>
    let p := qmul (chirpPhase j.desc div j.n) (qi 4)
    if p.den = 1 then
      ((match p.num % 4 with | 0 => 0 | 1 => amp | 2 => 0 | _ => -amp), h)
    else
      let (x, g) := h.fresh
      ((x % (2 * amp.natAbs + 1) : Nat) - (amp.natAbs : Int), g)

/-- The generator of a lane moves on by one evaluation. -/
def injNext (j : Inj) : Inj :=
  let bit_ := fld j.desc 20 2
  let n := j.n + 1
  { j with n := n, begun := true,
           lfsr := if bit_ ≠ 0 ∧ n % bit_ = 0 then prbsShift (fld j.desc 3 1) j.lfsr else j.lfsr }

/-- Shows a lane's generator in CTL_INJ_STATUS. -/
def showInj (h : Hw) (lane : Nat) : Hw :=
  match mget h.ctl.inj lane with
  | some j => (h.put F.CTL_INJ_STATUS_SLOT (fld j.desc 1 1) lane).put F.CTL_INJ_STATUS_ACTIVE 1 lane
  | none => h.put F.CTL_INJ_STATUS_ACTIVE 0 lane

/-- Shows the capture in CTL_CAP_STATUS. -/
def showCapt (h : Hw) : Hw :=
  match h.ctl.capt with
  | some c => (h.put F.CTL_CAP_STATUS_WRITTEN c.written).put F.CTL_CAP_STATUS_ACTIVE 1
  | none => h.put F.CTL_CAP_STATUS_ACTIVE 0

/-- Ends an operation at a tick (R382). -/
def ctlDone (h : Hw) (id st t k d20 : Nat) : Hw := h.finishId id st t (k % 2 ^ 32) d20

/-- The capture ends. -/
def captEnd (h : Hw) (st t k : Nat) : Hw :=
  match h.ctl.capt with
  | some c => showCapt (ctlDone { h with ctl := { h.ctl with capt := none } } c.op st t k 0)
  | none => h

/-- An injection on a slot is aborted because the slot leaves RUN (R389); a capture that waits for it ends too (R392). -/
def injAbort (h : Hw) (n t k : Nat) : Hw :=
  match mget h.ctl.inj (n / 64) with
  | some j =>
    if fld j.desc 1 1 = n then
      let h1 := showInj ((ctlDone { h with ctl := { h.ctl with inj := mdel h.ctl.inj (n / 64) } } j.op ST_CTL_INJ_ABORTED t k 0).log 0x0704)
        (n / 64)
      match h1.ctl.capt with
      | some c => if !c.begun && bit (fld c.desc 24 1) 0 && fld c.desc 2 1 == n then captEnd h1 ST_CTL_INJ_ABORTED t k else h1
      | none => h1
    else h
  | none => h

/-- A slot takes a state; leaving RUN aborts an injection on it (R389). -/
def slotState (h : Hw) (n st t k : Nat) : Hw :=
  let x := h.cslot n
  let h1 := h.setCslot n { x with state := st }
  if x.state = 1 ∧ st ≠ 1 then injAbort h1 n t k else h1

/-! ## One evaluation (R357 to R369) -/

/-- The law's new act and output for an error (R357). -/
def lawStep (r : List Byte) (act out e : Int) : Int × Int :=
  let bo := rI r 48
  let bi := rI r 52
  let law := rLaw r
  let a : Int := if bo ≤ e then 1 else if e ≤ -bo then -1
    else if law = 0 then act
    else if act = 1 ∧ e < bi then 0
    else if act = -1 ∧ -bi < e then 0
    else act
  let lo := rOutLo r
  let hi := rOutHi r
  let o : Int := match law with
    | 0 => if a > 0 then hi else if a < 0 then lo else out
    | 1 => if a > 0 then hi else if a < 0 then lo else rI r 64
    | _ => clampI (out + a * rI r 68) lo hi
  (a, o)

/-- Moves BUMP towards 0 by at most SW_RATE (R365). -/
def bumpDecay (bump rate : Int) : Int := if 0 < bump then max 0 (bump - rate) else min 0 (bump + rate)

/-- The capture entry of an evaluated slot (R391). -/
def captEntry (x : CSlot) (n t : Nat) (fresh inj : Bool) : List Byte :=
  leBytes 8 t ++ leBytes 4 (ux 32 x.spOut) ++ leBytes 4 (ux 32 x.m) ++ leBytes 4 (ux 32 x.outOut) ++ leBytes 4 (ux 32 x.trim)
    ++ [BitVec.ofNat 8 n, BitVec.ofNat 8 (x.state + 8 * b2n (x.act != 0) + 16 * b2n (decide (x.act < 0)) + 32 * b2n x.sat
      + 64 * b2n fresh + 128 * b2n inj)] ++ zeros 6

/-- The slots a capture lists. -/
def captSlots (d : List Byte) : List Nat := (List.range (fld d 1 1)).map (fun i => fld d (2 + i) 1)

/-- An evaluated slot may be due for a capture entry (R390); the capture begins at its START, or at the first injected evaluation
of its first slot. -/
def captStep (h : Hw) (n t k : Nat) (fresh inj : Bool) : Hw :=
  match h.ctl.capt with
  | none => h
  | some c =>
    let d := c.desc
    let withInj := bit (fld d 24 1) 0
    let c1 := if c.begun then c
      else if withInj then { c with begun := inj && fld d 2 1 == n }
      else { c with begun := decide (fld d 16 8 ≤ t) }
    if !c1.begun then h
    else
      match (captSlots d).findIdx? (· == n) with
      | none => { h with ctl := { h.ctl with capt := some c1 } }
      | some i =>
        let seen := c1.seen.getD i 0
        let c2 := { c1 with seen := c1.seen.set i (seen + 1) }
        if seen % fld d 12 4 = 0 then
          let h1 := { h with ctl := { h.ctl with sram := mset h.ctl.sram c2.written (captEntry (h.cslot n) n t fresh inj),
                                                 capt := some { c2 with written := c2.written + 1 } } }
          let h2 := showCapt h1
          if c2.written + 1 = fld d 8 4 then captEnd h2 ST_OK t k else h2
        else { h with ctl := { h.ctl with capt := some c2 } }

/-- Judges the active source of a slot that is evaluated: an automatic switch, or FAULT (R367, R369). -/
def judgeSource (h : Hw) (n t k : Nat) (v : SrcView) (other : SrcView) : Hw × SrcView :=
  let x := h.cslot n
  let bad := v.fault || v.stale
  if x.state = 4 ∨ !bad then (h.setCslot n { x with bad := bad, srcFault := v.fault, stale := v.stale }, v)
  else
    let h1 := if x.bad || x.state != 1 then h else h.log 0x0701
    if bit (fld x.rec_ 1 1) 6 && !x.autoDone && rSrc x.rec_ (!x.sel) != 0 && !other.fault && !other.stale then
      let y := switchTo x (!x.sel)
      let h2 := ((h1.setCslot n { y with autoDone := true, bad := false, srcFault := other.fault, stale := other.stale }).bump
        F.CTL_CNT_COUNT 1).log 0x0702
      (h2, other)
    else
      let h2 := ((h1.setCslot n { x with bad := true, srcFault := v.fault, stale := v.stale }).bump F.CTL_CNT_COUNT 0).log 0x0703
      (slotState h2 n 4 t k, v)

/-- Counts evaluations at a relay level and says whether a slot is saturated (R360). -/
def saturation (x : CSlot) (clampHit blocked inner : Bool) : Nat × Bool :=
  let r := x.rec_
  let atLevel := x.out == rOutLo r || x.out == rOutHi r
  let n := if atLevel then min (x.relayN + 1) 65535 else 0
  (n, (if rLaw r = 2 then atLevel else decide (fld r 94 2 ≤ n)) || clampHit || blocked || inner)

/-- Evaluates a slot that is not OFF in a tick that starts at a time. -/
def evalSlot (h : Hw) (n t k : Nat) : Hw :=
  let x0 := h.cslot n
  let (h1, va) := measure h n false t
  let (h2, vb) := measure h1 n true t
  let (h3, v) := if x0.eccBad then
      (if x0.state = 4 then h2 else slotState (h2.log 0x0703) n 4 t k, if x0.sel then vb else va)
    else (let r := judgeSource h2 n t k (if x0.sel then vb else va) (if x0.sel then va else vb)
          (r.1, r.2))
  let x := h3.cslot n
  let r := x.rec_
  let m := x.side x.sel + x.bump
  let lane := n / 64
  let due := match mget h3.ctl.inj lane with
    | some j => fld j.desc 1 1 == n && x.state == 1 && (j.begun || decide (fld j.desc 8 8 ≤ t))
    | none => false
  let (iv, h4) := match (if due then mget h3.ctl.inj lane else none) with
    | some j => injValue h3 j (rDiv r)
    | none => (0, h3)
  let atOut := match mget h3.ctl.inj lane with | some j => due && bit (fld j.desc 2 1) 0 | none => false
  let spRaw := if due && !atOut then x.sp + iv else x.sp
  let spE := if due && !atOut then clampI spRaw (rSpMin r) (rSpMax r) else x.sp
  let c := spE + x.trim
  let e := if bit (fld r 1 1) 4 then m - c else c - m
  let act_ := x.state == 1 && (!bit (fld r 1 1) 7 || v.fresh)
  let (act, out) := if act_ then lawStep r x.act x.out e else (x.act, x.out)
  let out1 := if x.state = 3 then clampI x.forced (rOutLo r) (rOutHi r)
    else if x.state = 4 ∧ fld r 3 1 = 1 then rI r 76 else out
  let outRaw := if atOut then out1 + iv else out1
  let outW := if atOut then clampI outRaw (rOutLo r) (rOutHi r) else out1
  let hit := due && (spE != spRaw || outW != outRaw)
  let inner := innerSat h4 r
  let (h5, blocked) := destWrite h4 r outW (x.state == 4 && fld r 3 1 == 2)
  let x5 := { h5.cslot n with act := act, out := out1 }
  let (rn, sat) := saturation x5 hit blocked inner
  let trim := if act_ && bit (fld r 1 1) 5 && !sat then
      clampI (x5.trim + ((spE - m) * (fld r 80 4 : Nat)) / 2 ^ 24) (-(rI r 84)) (rI r 84)
    else x5.trim
  let h6 := h5.setCslot n { x5 with
    relayN := rn, sat := sat, blocked := blocked, trim := trim, m := m, spOut := spE, outOut := outW, prevEval := some t,
    band := if x.state = 1 then c else x5.band,
    bump := if x.state = 1 then bumpDecay x5.bump (rI r 88) else x5.bump }
  let h7 := captStep h6 n t k v.fresh due
  if due then
    match mget h7.ctl.inj lane with
    | some j =>
      let j1 := injNext j
      if j1.n = fld j.desc 4 4 then showInj (ctlDone { h7 with ctl := { h7.ctl with inj := mdel h7.ctl.inj lane } } j.op ST_OK t k 0) lane
      else { h7 with ctl := { h7.ctl with inj := mset h7.ctl.inj lane j1 } }
    | none => h7
  else h7

/-! ## Ring operations (R378 to R393) -/

/-- Entries of a SETPOINT, MEAS or MODE descriptor: the low and high 32 bits. -/
def ctlEntries (d : List Byte) : List (Nat × Nat) := (List.range (fld d 1 1)).map (fun i => (fld d (8 + 8 * i) 4, fld d (12 + 8 * i) 4))

/-- SETPOINT at a tick (R380). -/
def opSetpoint (h : Hw) (f : Flight) (t k : Nat) : Hw :=
  let es := ctlEntries f.desc
  if es.any (fun e => (outerOf h (e.1 % 256)).isSome) then ctlDone h f.id ST_CTL_SP_OWNED t k 0
  else
    let (h1, n) := es.foldl (fun (g, n) e =>
      let s := e.1 % 256
      let x := g.cslot s
      let v := sx 32 e.2
      let c := clampI v (rSpMin x.rec_) (rSpMax x.rec_)
      let g1 := g.setCslot s { x with sp := c }
      if c = v then (g1, n) else (g1.bump F.CTL_CNT_COUNT 2, n + 1)) (h, 0)
    ctlDone h1 f.id ST_OK t k n

/-- MEAS at a tick: the entries count from their arrival, the fetch of the descriptor (Table 07.2). -/
def opMeas (h : Hw) (f : Flight) (t k : Nat) : Hw :=
  let m := (ctlEntries f.desc).foldl (fun m e => mset m (e.1 % 64) (f.cpl.tov, sx 32 e.2, bit e.1 8)) h.ctl.meas
  ctlDone { h with ctl := { h.ctl with meas := m } } f.id ST_OK t k 0

/-- Why a MODE entry is refused, or ST_OK (R366, R370, R381). -/
def modeCheck (h : Hw) (t : Nat) (e : Nat × Nat) : Nat :=
  let x := h.cslot (e.1 % 256)
  let st := bits e.1 10 8
  let src := bits e.1 13 12
  let side := if src = 0 then x.sel else src == 2
  firstBad [(x.raw.isSome, ST_CTL_SLOT_STATE), (src != 2 || rSrc x.rec_ true != 0, ST_CTL_SLOT_STATE),
    (side == x.sel || srcHealthy h (e.1 % 256) side t, ST_CTL_SOURCE_FAULT),
    (x.state != 4 || decide (st < 2) || srcHealthy h (e.1 % 256) side t, ST_CTL_SOURCE_FAULT)]

/-- Applies a MODE entry (R358, R365, R368). -/
def modeApply (t k : Nat) (h : Hw) (e : Nat × Nat) : Hw :=
  let n := e.1 % 256
  let src := bits e.1 13 12
  let want := [none, some 0, some 1, some 2, some 3].getD (bits e.1 10 8) none
  let side := src == 2
  let h1 := if src = 0 then h else
    let x := h.cslot n
    if side = x.sel then h.setCslot n { x with autoDone := false }
    else if x.state = 0 then h.setCslot n { x with sel := side, bump := 0, autoDone := false }
    else
      let g := (measure (measure h n false t).1 n true t).1
      g.setCslot n { switchTo (g.cslot n) side with autoDone := false }
  match want with
  | none => h1
  | some st =>
    let x := h1.cslot n
    let r := x.rec_
    let x1 := if x.state = 0 ∧ st ≠ 0 then
        { x with act := 0, trim := 0, sp := clampI (rI r 36) (rSpMin r) (rSpMax r), out := rI r 72, bump := 0, relayN := 0,
                 band := clampI (rI r 36) (rSpMin r) (rSpMax r), spOut := clampI (rI r 36) (rSpMin r) (rSpMax r),
                 outOut := rI r 72,
                 sat := false, bad := false, autoDone := false, prevEval := none, entry := t }
      else x
    slotState (h1.setCslot n { x1 with forced := if st = 3 then sx 32 e.2 else x1.forced }) n st t k

/-- MODE at a tick: all entries, or none (R381). -/
def opMode (h : Hw) (f : Flight) (t k : Nat) : Hw :=
  let es := ctlEntries f.desc
  let st := firstBad (es.map (fun e => (modeCheck h t e == ST_OK, modeCheck h t e)))
  ctlDone (if st = ST_OK then es.foldl (modeApply t k) h else h) f.id st t k 0

/-- Slot numbers that rise strictly. -/
def rising : List Nat → Bool
  | [] => true
  | [_] => true
  | a :: b :: r => decide (a < b) && rising (b :: r)

/-- LOAD at a tick (R383, R384). -/
def opLoad (h : Hw) (f : Flight) (t k : Nat) : Hw :=
  let a := fld f.desc 8 8
  let n := h.rdN (a + 2) 2
  let n' := if n ≤ 256 then n else 0
  let (w, h0) := engWho h 6 f.part
  let (h1, ok) := h0.scan w a (16 + 128 * n')
  if !ok then ctlDone h1 f.id ST_MEM_UNCORRECTABLE t k 0
  else
    let new := (List.range n').map (fun i => (h1.rdN (a + 16 + 128 * i) 1, h1.rd (a + 16 + 128 * i) 128))
    let headOk := h1.rdN a 2 == 1 && decide (1 ≤ n) && decide (n ≤ 256) && allZero (h1.rd (a + 4) 12) && rising (new.map (·.1))
    let st := if headOk then loadCheck h1 new else ST_CTL_TABLE_INVALID
    ctlDone (if st = ST_OK then new.foldl recStore h1 else h1) f.id st t k 0

/-- INJECT at a tick (R388). -/
def opInject (h : Hw) (f : Flight) (t k : Nat) : Hw :=
  let d := f.desc
  let s := fld d 1 1
  let x := h.cslot s
  let lim := 50000000 / rDiv x.rec_
  let st := firstBad [((mget h.ctl.inj (s / 64)).isNone, ST_CTL_BUSY), (x.state == 1, ST_CTL_SLOT_STATE),
    (decide (fld d 24 4 ≤ lim) && decide (fld d 28 4 ≤ lim), ST_BAD_DESCRIPTOR)]
  if st = ST_OK then
    showInj { h with ctl := { h.ctl with inj := mset h.ctl.inj (s / 64) ⟨f.id, d, 0, false, prbsSeed (fld d 3 1)⟩ } } (s / 64)
  else ctlDone h f.id st t k 0

/-- CAPTURE at a tick (R392). -/
def opCapture (h : Hw) (f : Flight) (t k : Nat) : Hw :=
  if h.ctl.capt.isSome then ctlDone h f.id ST_CTL_BUSY t k 0
  else showCapt { h with ctl := { h.ctl with capt := some ⟨f.id, f.desc, false, 0, List.replicate (fld f.desc 1 1) 0⟩ } }

/-- READCAP at a tick (R393, R394). -/
def opReadcap (h : Hw) (f : Flight) (t k : Nat) : Hw :=
  let d := f.desc
  let n := fld d 16 4
  let bs := (List.range n).flatMap (fun i => mgetD h.ctl.sram (fld d 4 4 + i) (zeros 32))
  ctlDone (h.wr (fld d 8 8) bs) f.id ST_OK t k n

/-- Whether an INJECT or CAPTURE operation already runs. -/
def ctlRuns (h : Hw) (id : Nat) : Bool :=
  h.ctl.inj.any (fun (_, j) => j.op == id) || (match h.ctl.capt with | some c => c.op == id | none => false)

/-- An operation waits for the tick that starts next: it was fetched before that start, has not ended, and does not run yet
(R379). -/
def ctlWaits (h : Hw) (f : Flight) : Bool :=
  f.eng == 6 && (f.stage == 1 || f.stage == 3) && decide (f.cpl.tov < h.ctl.nextAt) && !ctlRuns h f.id

/-- Applies an operation at the start of a tick. -/
def ctlApply (h : Hw) (f : Flight) (t k : Nat) : Hw :=
  match fld f.desc 0 1 % 16 with
  | 1 => opSetpoint h f t k
  | 2 => opMeas h f t k
  | 3 => opMode h f t k
  | 4 => opLoad h f t k
  | 5 => opInject h f t k
  | 6 => opCapture h f t k
  | _ => opReadcap h f t k

/-- The operation is the first in fetch order that waits, and its tick has begun: what its own command applies (R379). -/
def ctlFirst (h : Hw) (f : Flight) : Bool :=
  decide (h.ctl.nextAt ≤ h.wgl.tb) && (match h.rng.flights.find? (ctlWaits h) with | some g => g.id == f.id | none => false)

/-! ## The tick (R346, R348, R350) -/

/-- The slots due in a tick, in the order each lane takes them: descending level, then ascending number. -/
def dueSlots (h : Hw) (k : Nat) : List Nat :=
  let due := h.ctl.slots.filter (fun (_, x) => x.state != 0 && rDiv x.rec_ != 0
    && ((k : Int) - rPhase x.rec_) % (rDiv x.rec_ : Int) == 0)
  (List.range 4).flatMap (fun lane => [3, 2, 1, 0].flatMap (fun lv =>
    (due.filter (fun (n, x) => n / 64 == lane && rLevel x.rec_ == lv)).map (·.1)))

/-- One tick: ring operations in fetch order, then the due slots, then the sends of CAN signals; the live values of the
completed tick are kept for CTL_SLOT_SEL (R350, R379, R400, R629). -/
def ctlTick (h : Hw) : Hw :=
  let t := h.ctl.nextAt
  let k := h.ctl.tick
  let h1 := (h.rng.flights.filter (ctlWaits h)).foldl (fun g f => ctlApply g f t k) h
  let due := dueSlots h1 k
  let h2 := due.foldl (fun g n => evalSlot g n t k) h1
  let sends := due.filter (fun n => rDest (h2.cslot n).rec_ == 9)
  let h3 := sends.foldl (fun g n => let i := rDestIdx (g.cslot n).rec_; canSignalSend g (i / 256 % 16) (i % 128)) h2
  let inj := h3.ctl.inj.map (fun (_, j) => fld j.desc 1 1)
  { h3 with ctl := { h3.ctl with nextAt := t + 10000, tick := k + 1, shown := h3.ctl.slots, shownInj := inj } }

/-- Every slot goes to OFF, and injection and capture end, when partition 1 stops (R371); their operations end with the
partition's rings (R176). -/
def ctlStop (h : Hw) : Hw :=
  let h1 := { h with ctl := { h.ctl with slots := h.ctl.slots.map (fun (n, x) => (n, { x with state := 0 })), inj := [], capt := none } }
  showCapt ((List.range 4).foldl showInj h1)

/-- CTL_SLOT_STATUS of a slot (R400). -/
def ctlStatus (x : CSlot) (inj : Bool) : Nat :=
  x.state + (if x.act = 1 then 8 else if x.act = -1 then 16 else 0) + 32 * b2n x.sel + 64 * b2n x.sat + 128 * b2n x.stale
    + 256 * b2n x.srcFault + 512 * b2n x.blocked + 1024 * b2n inj

end Sys2Proof.Machine
end

