-- ==== Sys2Proof/Machine/Control.lean ====
section
/-!
DEFINITION. The commands of the control engine (chapter 07). Readings: log entry 23.
-/
namespace Sys2Proof.Machine

/-- CONTROL_TICK: the next tick, once its start has come (R346, R350). -/
def execControlTick (dt : Nat) (s : State) : Out :=
  run dt s fun h => if h.ctl.nextAt ≤ h.wgl.tb then ctlTick h else h

/-- An operation of the control engine is applied at the start of its tick, before the ones fetched after it (R379). -/
def ctlOp (id op : Nat) (h : Hw) : Hw :=
  h.onOp id 6 op fun f => if ctlFirst h f then ctlApply h f h.ctl.nextAt h.ctl.tick else h

/-- SETPOINT: writes clamped set-points (R380). -/
def execSetpoint (dt id : Nat) (s : State) : Out := run dt s (ctlOp id 1)

/-- MEAS: delivers ring measurements (R378, Table 07.2). -/
def execMeas (dt id : Nat) (s : State) : Out := run dt s (ctlOp id 2)

/-- MODE: changes slot states and sources, all entries or none (R381). -/
def execMode (dt id : Nat) (s : State) : Out := run dt s (ctlOp id 3)

/-- LOAD: replaces slot records at one tick boundary, or none (R383, R384). -/
def execLoopTableLoad (dt id : Nat) (s : State) : Out := run dt s (ctlOp id 4)

/-- INJECT: starts a signal generator on a slot (R385 to R389). -/
def execInject (dt id : Nat) (s : State) : Out := run dt s (ctlOp id 5)

/-- CAPTURE: starts a capture into capture SRAM (R390 to R392). -/
def execCapture (dt id : Nat) (s : State) : Out := run dt s (ctlOp id 6)

/-- READCAP: copies capture entries to memory of the partition (R393, R394). -/
def execReadcap (dt id : Nat) (s : State) : Out := run dt s (ctlOp id 7)

/-! ## Set-up registers (R399 to R401) -/

/-- A hart writes CTL registers: through partition 1's view (R399). -/
def Hw.byCtl (h : Hw) (hart : Nat) : Bool := h.hartRuns hart && h.hartPart hart == some 1

/-- A write to CTL_SLOT_SEL latches a snapshot of the selected slot (R400). -/
def ctlSelWrite (h : Hw) (v : Nat) : Hw :=
  let n := v % 256
  let x := mgetD h.ctl.shown n {}
  ((((((h.put F.CTL_SLOT_SEL_SLOT n).putS F.CTL_SP_VALUE x.spOut).putS F.CTL_MEAS_VALUE x.m).putS F.CTL_OUT_VALUE x.outOut).putS
    F.CTL_BAND_VALUE x.band).putS F.CTL_TRIM_VALUE x.trim).setReg (F.CTL_SLOT_STATUS_STATE.at 0 0)
    (BitVec.ofNat 32 (ctlStatus x (h.ctl.shownInj.contains n)))

/-- CTL_SLOT_SEL_WRITE: a hart of partition 1 writes CTL_SLOT_SEL. -/
def execCtlSlotSelWrite (dt : Nat) (hart : Fin 19) (v : Word) (s : State) : Out :=
  run dt s fun h => if h.byCtl hart then ctlSelWrite h v.toNat else h

/-- Writes the record window to the selected slot, with the checks of R384 (R401). -/
def ctlRecWrite (h : Hw) : Hw :=
  let n := h.get F.CTL_SLOT_SEL_SLOT
  let r := (List.range 32).flatMap (fun i => leBytes 4 (h.get F.CTL_REC_DATA_DATA i))
  let st := firstBad [(fld r 0 1 == n, ST_CTL_TABLE_INVALID), ((h.cslot n).state == 0, ST_CTL_SLOT_STATE),
    (loadCheck h [(n, r)] == ST_OK, loadCheck h [(n, r)])]
  (if st = ST_OK then recStore h (n, r) else h).put F.CTL_REC_ST_STATUS st

/-- REC_CMD_WRITE: a hart of partition 1 writes CTL_REC_CMD with OP 1. -/
def execRecCmdWrite (dt : Nat) (hart : Fin 19) (s : State) : Out :=
  run dt s fun h => if h.byCtl hart then ctlRecWrite h else h

/-- Reads the record of the selected slot into the record window (R401). -/
def ctlRecRead (h : Hw) : Hw :=
  let r := (h.cslot (h.get F.CTL_SLOT_SEL_SLOT)).rec_
  ((List.range 32).foldl (fun g i => g.put F.CTL_REC_DATA_DATA (fld r (4 * i) 4) i) h).put F.CTL_REC_ST_STATUS ST_OK

/-- REC_CMD_READ: a hart of partition 1 writes CTL_REC_CMD with OP 2. -/
def execRecCmdRead (dt : Nat) (hart : Fin 19) (s : State) : Out :=
  run dt s fun h => if h.byCtl hart then ctlRecRead h else h

end Sys2Proof.Machine
end

