-- ==== Sys2Proof/Machine/DioCmd.lean ====
section
/-!
DEFINITION. The commands of the digital inputs and outputs (chapter 10). Readings: log entry 27.
-/
namespace Sys2Proof.Machine

/-! ## Filters (R485 to R488) -/

/-- The channel is an enabled input. -/
def dioInput (h : Hw) (c : Nat) : Bool := h.flag F.DIO_CFG_ENABLE c && !h.flag F.DIO_CFG_DIR c

/-- The debounce filter is the one to use (R487). A channel that nobody owns has no RUNNING owner. -/
def wantDeb (h : Hw) (c : Nat) : Bool :=
  h.tileState (tileOf (144 + c)) != 1 || h.flag F.DIO_CFG_FORCE_DEB c || h.smk.test == some (144 + c)
    || (match h.portOwner (144 + c) with | some p => h.partState p != 3 | none => true)

/-- Changes to the filter that is now the one to use, without changing the filtered level (R488). -/
def syncFilter (h : Hw) (c : Nat) : Hw :=
  let x := h.dio c
  let w := wantDeb h c
  let h1 := h.put F.DIO_STATUS_DEB_ACTIVE (b2n w) c
  if w = x.deb then h1
  else if w then h1.setDio c { x with deb := true, debAt := h.now }
  else h1.setDio c { x with deb := false, stepAt := h.now,
                            cnt := if h.flag F.DIO_STATUS_LEVEL c then h.get F.DIO_FILT_LIMIT c else 0 }

/-- The filtered level of an input becomes a level; an enabled input with REC writes its change record (R490). `rawT` is the time
of the raw transition that led to it. -/
def setLevel (h : Hw) (c : Nat) (lvl : Bool) (rawT : Nat) : Hw :=
  if h.flag F.DIO_STATUS_LEVEL c = lvl then h
  else
    let x := h.dio c
    let a := F.DIO_IN_LEVEL.at (c / 32) 0
    let w := (h.reg a).toNat
    let w1 := if lvl then w ||| 2 ^ (c % 32) else w - (w &&& 2 ^ (c % 32))
    let h1 := ((h.put F.DIO_STATUS_LEVEL (b2n lvl) c).setReg a (BitVec.ofNat 32 w1)).setDio c
      { x with hist := ((h.tb, lvl) :: x.hist).take 32 }
    if h.flag F.DIO_CFG_REC c then
      dioRecord h1 c (h1.stamp (h.get F.DIO_CFG_BIND c) h.tb ++ leBytes 8 rawT ++ [BitVec.ofNat 8 c,
        BitVec.ofNat 8 (b2n lvl + 2 * b2n x.deb + 4 * b2n x.openNow)] ++ zeros 6) h.tb
    else h1

/-- COUNTER_FILTER_STEP: the counter filter of an input steps; `raw` is the raw level, `age` the time in ns since its last
transition (R485). An input with open wire holds its filtered level (Table 10.3). -/
def execCounterFilterStep (dt : Nat) (c : Fin 128) (raw : Bool) (age : Nat) (s : State) : Out :=
  run dt s fun h =>
    if !dioInput h c then h
    else
      let h1 := (syncFilter h c).put F.DIO_STATUS_RAW (b2n raw) c
      let x := h1.dio c
      let per := 1000 * 2 ^ h1.get F.DIO_FILT_PRE c
      if x.deb || decide (h1.now < x.stepAt + per) then h1
      else
        let lim := h1.get F.DIO_FILT_LIMIT c
        let k := if raw then min (x.cnt + 1) lim else min (x.cnt - 1) lim
        let h2 := h1.setDio c { x with cnt := k, stepAt := x.stepAt + per }
        if x.openNow then h2
        else if k = lim then setLevel h2 c true (h2.tb - age)
        else if k = 0 then setLevel h2 c false (h2.tb - age)
        else h2

/-- DEBOUNCE_EXPIRY: the raw level of an input has been unchanged for a time in ns (R486); samples taken in an input pulse do not count
(R846). -/
def execDebounceExpiry (dt : Nat) (c : Fin 128) (raw : Bool) (stable : Nat) (s : State) : Out :=
  run dt s fun h =>
    if !dioInput h c then h
    else
      let h1 := (syncFilter h c).put F.DIO_STATUS_RAW (b2n raw) c
      let x := h1.dio c
      let deb := 1000 * h1.get F.DIO_FILT_DEB c
      if x.deb && !x.openNow && h1.smk.test != some (144 + c.val) && decide (deb ≤ stable) && decide (x.debAt + deb ≤ h1.now) then setLevel h1 c raw (h1.tb - stable)
      else h1

/-- FILTER_CHANGE: a change of tile, partition or test state reaches an input's filter (R488). -/
def execFilterChange (dt : Nat) (c : Fin 128) (s : State) : Out := run dt s fun h => syncFilter h c

/-! ## Enabling and commands -/

/-- A write to DIO_CFG, with the checks of an enable (R499). -/
def dioCfgWrite (h : Hw) (c v : Nat) : Hw :=
  let f := F.DIO_CFG_ENABLE.at c 0
  let old := (h.reg f).toNat
  let new := v % 2 ^ 16
  if old % 2 = 1 then
    showDio (syncFilter (h.setReg f (BitVec.ofNat 32 (new - bits new 3 1 * 2 + bits old 3 1 * 2))) c) c
  else if v % 2 = 0 then showDio (syncFilter (h.setReg f (BitVec.ofNat 32 new)) c) c
  else
    let st := firstBad [(h.get F.DIO_FILT_LIMIT c != 0 && h.get F.DIO_FILT_DEB c != 0 && bits new 3 2 != 3 && bits v 31 16 == 0,
      ST_DIO_CONFIG)]
    let h1 := (h.setReg f (BitVec.ofNat 32 (if st = ST_OK then new else new - 1))).put F.DIO_STATUS_ERR st c
    showDio (syncFilter (if st = ST_OK then h1.setOut (144 + c) { h1.out (144 + c) with cmd := false } else h1) c) c

/-- DIO_ENABLE: the owner of the port writes DIO_CFG with ENABLE = 1. -/
def execDioEnable (dt : Nat) (hart : Fin 19) (c : Fin 128) (v : Word) (s : State) : Out :=
  run dt s fun h => if h.byOwner hart (144 + c) then dioCfgWrite h c (v ||| 1).toNat else h

/-- DIOSET: all entries take effect together (R494). -/
def execDioset (dt id : Nat) (s : State) : Out :=
  run dt s fun h => h.onOp id 12 5 fun f =>
    let h1 := (setEntries f.desc).foldl (fun g e =>
      let c := e % 128
      if dioOutput g c && g.get F.DIO_CFG_MODE c == 1 then dioCommand g c (bit e 8) else g) h
    h1.finish f ST_OK h1.tb

/-- DIOBUF: posts a change-record buffer (R491, R492). -/
def execDiobuf (dt id : Nat) (s : State) : Out :=
  run dt s fun h => h.onOp id 12 6 fun f => bufPost h (qKey 6 f.part) f

/-! ## Faults -/

/-- DIO_OVERLOAD: an output has been in current limit for 1 ms (Table 10.3). -/
def execDioOverload (dt : Nat) (c : Fin 128) (s : State) : Out :=
  run dt s fun h =>
    if dioOn h c then
      showDio (((h.put F.DIO_FAULT_OVERLOAD 1 c).setOut (144 + c) { h.out (144 + c) with cmd := false }).log 0x0A01 c) c
    else h

/-- DIO_FAULT_DETECT: open load of an output that is on, open wire of an input, or an output's junction at 170 °C
(Table 10.3). -/
def execDioFaultDetect (dt : Nat) (c : Fin 128) (kind : DioFaultKind) (s : State) : Out :=
  run dt s fun h =>
    let x := h.out (144 + c)
    match kind with
    | .openLoad => if dioOn h c then (h.put F.DIO_FAULT_OPEN 1 c).log 0x0A02 c true else h
    | .openWire =>
      if dioInput h c && h.flag F.DIO_CFG_OW_EN c && !(h.dio c).openNow then
        showDio (((h.setDio c { h.dio c with openNow := true }).put F.DIO_FAULT_OPEN 1 c).log 0x0A02 c true) c
      else h
    | .overtemp =>
      if h.flag F.DIO_CFG_DIR c && !x.ot then
        showDio (((h.setOut (144 + c) { x with ot := true }).put F.DIO_FAULT_OVERTEMP 1 c).log 0x0A03 c) c
      else h

/-- DIO_OVERTEMP_RECOVERY: the junction of an output has cooled below 150 °C. -/
def execDioOvertempRecovery (dt : Nat) (c : Fin 128) (s : State) : Out :=
  run dt s fun h => showDio (h.setOut (144 + c) { h.out (144 + c) with ot := false }) c

/-- DIO_OPEN_WIRE_ENDS: an input draws 0.5 mA or more again. -/
def execDioOpenWireEnds (dt : Nat) (c : Fin 128) (s : State) : Out :=
  run dt s fun h => showDio (h.setDio c { h.dio c with openNow := false }) c

/-- Clears bits of DIO_FAULT; a channel that was latched off or shed stays off until commanded (Table 10.3, R461). -/
def dioFaultClear (h : Hw) (c v : Nat) : Hw :=
  let old := (h.reg (F.DIO_FAULT_OVERLOAD.at c 0)).toNat
  let clear := v % 32
  let x := h.out (144 + c)
  let h1 := h.setReg (F.DIO_FAULT_OVERLOAD.at c 0) (BitVec.ofNat 32 (old - (old &&& clear)))
  let ends := (bit old 0 && bit clear 0) || (bit old 4 && bit clear 4)
  showDio (if ends && !h.held (144 + c) then h1.setOut (144 + c) { x with cmd := false, fs := if x.stay then 0 else x.fs } else h1) c

/-- SILENT: tile 6 or 7 has received no valid frame for 10 ms (R496). -/
def execSilent (dt : Nat) (t : Fin 2) (s : State) : Out :=
  run dt s fun h =>
    let tile := 6 + t.val
    if mgetD h.til.goodAt tile 0 + 10000000 ≤ h.now ∧ !h.til.silent.contains tile then
      let h1 := { h with til := { h.til with silent := h.til.silent ++ [tile] } }
      let cs := (List.range 64).map (64 * t.val + ·)
      let h2 := cs.foldl (fun g c => showDio (if g.flag F.DIO_CFG_DIR c then g.put F.DIO_FAULT_SILENT 1 c else g) c) h1
      h2.log 0x0A04 tile
    else h

end Sys2Proof.Machine
end

