-- ==== Sys2Proof/Machine/EthCore.lean ====
section
/-!
DEFINITION. Ethernet ports and the Swarm agent (chapter 15): queues, shapers, gates, and Swarm frames. Readings: log entries 33
and 34.
-/
namespace Sys2Proof.Machine

/-! ## Ports -/

/-- A port. -/
def Hw.ethPort (h : Hw) (n : Nat) : EthPort := mgetD h.eth.ports n {}
/-- Replaces a port. -/
def Hw.setEth (h : Hw) (n : Nat) (x : EthPort) : Hw := { h with eth := { h.eth with ports := mset h.eth.ports n x } }

/-- The rate of a port in Mbit/s (Table 15.1). -/
def ethRate (h : Hw) (n : Nat) : Nat :=
  if n < 8 then (match h.get F.ETH_PORT_CFG_SPEED n with | 0 => 10000 | 1 => 5000 | _ => 2500) else 1000

/-- idleSlope of a class in Mbit/s; the registers of classes 4 to 7 lie where the port's counters lie and are kept apart
(log entry 3). -/
def cbsIdle (h : Hw) (n c : Nat) : Nat :=
  let a := F.ETH_PORT_CBS_IDLE.at n c
  (h.reg (if c < 4 then a else a + 0x1000000)).toNat % 65536

/-- The address of a port (ETH_PORT_MAC): its six bytes in the order sent. -/
def ethMac (h : Hw) (n : Nat) : List Byte :=
  (leBytes 6 (h.get F.ETH_PORT_MAC_LO_MAC n + h.get F.ETH_PORT_MAC_HI_MAC n * 2 ^ 32)).reverse

/-- The frames queued in a class. -/
def EthPort.q (x : EthPort) (c : Nat) : List Nat := mgetD x.txq c []

/-- Bits a frame occupies on the wire from its preamble to its last bit: 8 bytes before it, at least 60 bytes, and the FCS
(R666). -/
def wireBits (len : Nat) : Nat := 8 * (8 + max len 60 + 4)

/-- The time of a number of bits at a rate, in ns. -/
def bitTime (h : Hw) (n b : Nat) : Q := mkQ (b * 1000 : Nat) (ethRate h n)

/-- Brings the credits of a port's shapers to the present (R672): they fall while their class sends, rise while it waits, and are held
at 0 while it has no frame waiting. -/
def creditTick (h : Hw) (n : Nat) : Hw :=
  let x := h.ethPort n
  let upd (c : Nat) : Q :=
    let idle := cbsIdle h n c
    if idle = 0 then qi 0 else
      let old := mgetD x.credit c (qi 0)
      let tx := if x.sending = some c then min h.now x.busyTill - x.creditAt else 0
      let rest := h.now - x.creditAt - tx
      let c1 := qadd old (mkQ (((idle : Int) - ethRate h n) * tx) 1000)
      if (x.q c).isEmpty && decide (x.busyTill ≤ h.now || x.sending ≠ some c) then qi 0
      else qadd c1 (mkQ (idle * rest : Nat) 1000)
  h.setEth n { x with credit := (List.range 8).map (fun c => (c, upd c)), creditAt := h.now,
                      sending := if x.busyTill ≤ h.now then none else x.sending }

/-! ## Gates (R673 to R675) -/

/-- The open runs of a class through a gate list, in ns; runs of consecutive entries join, and a class open throughout has none to
end. -/
def openRuns (c : Nat) : List (Nat × Nat) → Nat → List Nat
  | [], r => [r]
  | (m, t) :: es, r => if bit m c then openRuns c es (r + t) else r :: openRuns c es 0

/-- The class is open in every entry. -/
def allOpen (g : GateList) (c : Nat) : Bool := g.ents.all (fun e => bit e.1 c)

/-- The longest open run of a class, joining the end of the cycle with its begin. -/
def longestOpen (g : GateList) (c : Nat) : Nat := ((openRuns c (g.ents ++ g.ents) 0)).foldl max 0

/-- How long a class stays open from a phase of the cycle on; 0 while closed. -/
def openFrom (c : Nat) : List (Nat × Nat) → Nat → Nat
  | [], _ => 0
  | (m, t) :: es, ph => if t ≤ ph then openFrom c es (ph - t) else if bit m c then (t - ph) + openFrom c es 0 else 0

/-- A head frame of a length fits no open run of its class (R675). -/
def gateNever (h : Hw) (n c len : Nat) : Bool :=
  match (h.ethPort n).gate with
  | none => false
  | some g => !allOpen g c && qlt (qi (longestOpen g c)) (bitTime h n (wireBits len + 96))

/-- The class gate is open and stays open until the last bit and the interframe gap (R671). -/
def gateOpen (h : Hw) (n c len : Nat) : Bool :=
  match (h.ethPort n).gate with
  | none => true
  | some g =>
    allOpen g c || qle (bitTime h n (wireBits len + 96)) (qi (openFrom c (g.ents ++ g.ents) ((h.tb - g.base) % g.cycle)))

/-- A gate list image (R673). -/
def gateImage (h : Hw) (a : Nat) : Option GateList :=
  let n := h.rdN (a + 2) 2
  let cyc := h.rdN (a + 4) 4
  let es := (List.range (min n 64)).map (fun i => (h.rdN (a + 16 + 8 * i) 4, h.rdN (a + 20 + 8 * i) 4))
  if h.rdN a 2 == 1 && decide (1 ≤ n) && decide (n ≤ 64) && decide (1000 ≤ cyc) && decide (cyc ≤ 1000000000)
      && es.all (fun e => decide (e.1 < 256)) && (es.map (·.2)).sum == cyc
  then some ⟨h.rdN (a + 8) 8, cyc, es⟩ else none

/-- The end of the cycle in progress at a time; the time itself with no list in force. -/
def cycleEnd (g : Option GateList) (t : Nat) : Nat :=
  match g with
  | none => t
  | some g => if t ≤ g.base then g.base else g.base + ((t - g.base + g.cycle - 1) / g.cycle) * g.cycle

/-- The first instant BASE + n × CYCLE at or after a time (R674). -/
def gateStart (g : GateList) (t : Nat) : Nat := cycleEnd (some g) t

/-! ## Queues (R667, R670) -/

/-- A frame leaves the head of its class. -/
def EthPort.pop (x : EthPort) (c tb : Nat) : EthPort := { x with txq := mset x.txq c ((x.q c).drop 1), headAt := mset x.headAt c tb }

/-- The key of a receive queue. -/
def rxKey (n q : Nat) : Nat := qKey 14 (8 * n + q)

/-- Ends every frame queued and closes the receive buffers of a port (R670). -/
def ethFlush (h : Hw) (n : Nat) : Hw :=
  let x := h.ethPort n
  let ops := (List.range 8).flatMap x.q
  let h1 := ops.foldl (fun g id => g.finishId id ST_ETH_DISABLED g.tb) (h.setEth n { x with txq := [] })
  (List.range 8).foldl (fun g q => bufCloseAll g (rxKey n q) ST_STREAM_OFF) h1

/-- The rings of a partition end: its ports' queues are empty. -/
def ethStop (h : Hw) (p : Nat) : Hw :=
  (List.range 12).foldl (fun g n => if g.ownsPort p (312 + n) then g.setEth n { g.ethPort n with txq := [], gates := [] } else g) h

/-! ## Swarm frames (R679, R680) -/

/-- The group address of Swarm frames. -/
def swarmDst : List Byte := [0x01, 0x0C, 0xCD, 0x5A, 0x00, 0x01]

/-- The Swarm port. -/
def swarmPort (h : Hw) : Nat := h.get F.ETH_SWARM_CFG_PORT
/-- The period in ns. -/
def swarmPeriod (h : Hw) : Nat := 1000000 * h.get F.ETH_SWARM_CFG_PERIOD
/-- The group offset G. -/
def swarmG (h : Hw) : Int := sx 64 (h.get64 F.ETH_SWARM_GOFS_LO_G)
/-- Sets G. -/
def setG (h : Hw) (g : Int) : Hw := h.put64 F.ETH_SWARM_GOFS_LO_G (ux 64 g)

/-- A 20-byte big-endian identifier. -/
def idBytes (x : Nat) : List Byte := (leBytes 20 x).reverse

/-- Sends a Swarm frame on the Swarm port. -/
def swarmSend (h : Hw) (kind : Nat) (tsend : Int) (leader : Nat) (ms : List Member) : Hw :=
  let n := swarmPort h
  let pay := [1, BitVec.ofNat 8 kind] ++ zeros 2 ++ leBytes 4 (h.get F.ETH_SWARM_FIELD_FIELD) ++ idBytes h.grd.serial
    ++ leBytes 8 (ux 64 tsend) ++ idBytes leader ++ [BitVec.ofNat 8 ms.length] ++ zeros 7
    ++ ms.flatMap (fun m => idBytes m.id ++ leBytes 8 (ux 64 m.tRecv))
  let frame := swarmDst ++ ethMac h n ++ [0x88, 0xB5] ++ pay
  h.setEth n { h.ethPort n with sent := some (h.tb, frame) }

/-- Replaces the agent's data. -/
def Hw.setSwarm (h : Hw) (x : Swarm) : Hw := { h with eth := { h.eth with swarm := x } }

/-- A leader sends its ANNOUNCE: the members whose JOIN came since its previous one or within the last 3 periods (R685). -/
def swarmAnnounce (h : Hw) : Hw :=
  let x := h.eth.swarm
  let ms := (x.members.filter (fun m => m.since || decide (h.now < m.at_ + 3 * swarmPeriod h))).take 31
  let h1 := swarmSend h 1 (h.tb + swarmG h) 0 ms
  (h1.setSwarm { x with members := ms.map (fun m => { m with since := false }) }).put F.ETH_SWARM_STATUS_MEMBERS ms.length

/-- A machine sends a JOIN to its leader. -/
def swarmJoin (h : Hw) : Hw :=
  let h1 := swarmSend h 2 h.tb h.eth.swarm.leader []
  h1.setSwarm { h1.eth.swarm with joins := (h.tb :: h1.eth.swarm.joins).take 8 }

end Sys2Proof.Machine
end

