-- ==== Sys2Proof/Machine/Ethernet.lean ====
section
/-!
DEFINITION. The commands of the Ethernet ports and the Swarm agent (chapter 15). Readings: log entries 33 and 34.
-/
namespace Sys2Proof.Machine

/-! ## Enabling and the link (R663, R670, R691) -/

/-- The checks of an enable: SPEED, the shapers and the gPTP interval lie in their ranges (R691). -/
def ethCheck (h : Hw) (n : Nat) : Nat :=
  let ls := h.get F.ETH_GPTP_CFG_LOG_SYNC
  firstBad [((if n < 8 then h.get F.ETH_PORT_CFG_SPEED n != 3 else h.get F.ETH_PORT_CFG_SPEED n == 0)
    && (List.range 8).all (fun c => decide (cbsIdle h n c ≤ ethRate h n)) && (decide (11 ≤ ls) || ls == 0), ST_ETH_CONFIG)]

/-- A write to ETH_PORT_CFG. -/
def ethCfgWrite (h : Hw) (n v : Nat) : Hw :=
  let f := F.ETH_PORT_CFG_EN.at n 0
  let old := (h.reg f).toNat
  let new := v % 2 ^ 12
  if old % 2 = 1 then
    let kept := new - bits new 3 1 * 2 + bits old 3 1 * 2
    let h1 := (creditTick h n).setReg f (BitVec.ofNat 32 kept)
    if new % 2 = 1 then h1 else (ethFlush h1 n).put F.ETH_PORT_STATUS_LINK 0 n
  else if new % 2 = 0 then h.setReg f (BitVec.ofNat 32 new)
  else
    let h1 := h.setReg f (BitVec.ofNat 32 (new - 1))
    let st := ethCheck h1 n
    let h2 := h1.put F.ETH_PORT_STATUS_ERR st n
    if st ≠ ST_OK then h2
    else ((h2.put F.ETH_PORT_CFG_EN 1 n).put F.ETH_PORT_STATUS_LINK 1 n).setEth n { h2.ethPort n with linkAt := h.now }

/-- ETH_ENABLE: the owner of the port writes ETH_PORT_CFG with EN = 1. -/
def execEthEnable (dt : Nat) (hart : Fin 19) (n : Fin 12) (v : Word) (s : State) : Out :=
  run dt s fun h => if h.byOwner hart (312 + n) then ethCfgWrite h n (v ||| 1).toNat else h

/-- ETH_DISABLE: the owner of the port writes ETH_PORT_CFG with EN = 0. -/
def execEthDisable (dt : Nat) (hart : Fin 19) (n : Fin 12) (v : Word) (s : State) : Out :=
  run dt s fun h => if h.byOwner hart (312 + n) then ethCfgWrite h n (v &&& ~~~1).toNat else h

/-- ETH_LINK_CHANGE: a training link comes up, a link that is up drops, or 200 ms of training pass in vain (R663). -/
def execEthLinkChange (dt : Nat) (n : Fin 12) (up : Bool) (s : State) : Out :=
  run dt s fun h =>
    let st := h.get F.ETH_PORT_STATUS_LINK n
    let x := h.ethPort n
    if up then (if st = 1 then (h.put F.ETH_PORT_STATUS_LINK 2 n).log 0x0F02 n else h)
    else if st = 2 ∨ (st = 1 ∧ x.linkAt + 200000000 ≤ h.now) then
      ((h.setEth n { x with linkAt := h.now }).put F.ETH_PORT_STATUS_LINK 3 n).log 0x0F01 n
    else h

/-- ETH_LINK_RETRY: 500 ms after going DOWN an enabled port trains again (R663). -/
def execEthLinkRetry (dt : Nat) (n : Fin 12) (s : State) : Out :=
  run dt s fun h =>
    let x := h.ethPort n
    if h.get F.ETH_PORT_STATUS_LINK n = 3 ∧ x.linkAt + 500000000 ≤ h.now then
      (h.setEth n { x with linkAt := h.now }).put F.ETH_PORT_STATUS_LINK 1 n
    else h

/-! ## Descriptors (R664 to R668, R673, R674) -/

/-- TXPKT: the frame joins the queue of its class; a port that is not enabled refuses it (R667). -/
def execTxpkt (dt id : Nat) (s : State) : Out :=
  run dt s fun h => h.onOp id 3 1 fun f =>
    let n := fld f.desc 1 1 % 16
    let c := fld f.desc 2 1 % 8
    let h1 := creditTick h n
    let x := h1.ethPort n
    if (x.q c).contains id then h
    else if !h.flag F.ETH_PORT_CFG_EN n then h.finish f ST_ETH_DISABLED h.tb
    else
      let y := if (x.q c).isEmpty then { x with headAt := mset x.headAt c h.tb } else x
      h1.setEth n { y with txq := mset y.txq c (x.q c ++ [id]) }

/-- RXBUF: the buffer joins its receive queue (R668). -/
def execEthRxbuf (dt id : Nat) (s : State) : Out :=
  run dt s fun h => h.onOp id 3 2 fun f => bufPost h (rxKey (fld f.desc 2 2 - 312) (fld f.desc 1 1 % 8)) f

/-- GCL: a gate list is accepted for the next cycle boundary, or refused (R673, R674). -/
def execGcl (dt id : Nat) (s : State) : Out :=
  run dt s fun h => h.onOp id 3 3 fun f =>
    let n := fld f.desc 1 1 % 16
    let a := fld f.desc 8 8
    let x := h.ethPort n
    if x.gates.any (fun g => g.1 == id) then h else
      h.engRead f [(a, 16 + 8 * min 64 (h.rdN (a + 2) 2))] fun h1 =>
        match gateImage h1 a with
        | none => h1.finish f ST_ETH_GCL_INVALID h1.tb
        | some g => h1.setEth n { x with gates := x.gates ++ [(id, g, gateStart g (cycleEnd x.gate h1.tb))] }

/-- GATE_LIST_TAKES_EFFECT: the instant of the first accepted list has come (R674). -/
def execGateListTakesEffect (dt : Nat) (n : Fin 12) (s : State) : Out :=
  run dt s fun h =>
    let x := h.ethPort n
    match x.gates with
    | (id, g, t) :: r =>
      if t ≤ h.tb then (h.setEth n { x with gate := some { g with base := t }, gates := r }).finishId id ST_OK t else h
    | [] => h

/-! ## Frames (R661 to R672) -/

/-- LAUNCH of a TXPKT. -/
def txLaunch (d : List Byte) : Nat := fld d 16 8
/-- LEN of a TXPKT. -/
def txLen (d : List Byte) : Nat := fld d 6 2
/-- The pieces of a TXPKT's frame. -/
def txPieces (h : Hw) (d : List Byte) : List (Nat × Nat) :=
  if bit (fld d 0 1) 4 then sgPieces h (fld d 8 8) (fld d 4 2) else [(fld d 8 8, txLen d)]

/-- The head frames of a port, highest class first. -/
def heads (h : Hw) (n : Nat) : List (Nat × Flight) :=
  [7, 6, 5, 4, 3, 2, 1, 0].filterMap (fun c => ((h.ethPort n).q c).head?.bind (fun id => (h.flight id).map (fun f => (c, f))))

/-- A head frame may start (R671). -/
def mayStart (h : Hw) (n c : Nat) (d : List Byte) : Bool :=
  decide (txLaunch d ≤ h.tb) && gateOpen h n c (txLen d)
    && (cbsIdle h n c == 0 || qle (qi 0) (mgetD (h.ethPort n).credit c (qi 0)))

/-- Sends a head frame (R666). -/
def ethSend (h : Hw) (n c : Nat) (f : Flight) : Hw :=
  h.setEth n ((h.ethPort n).pop c h.tb) |>.engRead f (txPieces h f.desc) fun h1 =>
    let bs := padTo (max 60 (txLen f.desc)) ((gather h1 (txPieces h1 f.desc)).take (txLen f.desc))
    let late := txLaunch f.desc != 0 && decide (txLaunch f.desc < mgetD (h.ethPort n).headAt c 0)
    let x := h1.ethPort n
    let till := h1.now + (qceil (bitTime h n (wireBits (txLen f.desc) + 96))).toNat
    (h1.setEth n { x with sent := some (h1.tb, bs), sending := some c, busyTill := till }).finish f ST_OK h1.tb 0 bs.length (b2n late)

/-- ETH_FRAME_SEND: a port whose link is up and whose wire is free refuses a head frame that fits no gate, or sends the head frame of
the highest class that may start (R671, R675). -/
def execEthFrameSend (dt : Nat) (n : Fin 12) (s : State) : Out :=
  run dt s fun h =>
    let h0 := creditTick h n
    if h.get F.ETH_PORT_STATUS_LINK n ≠ 2 ∨ h.now < (h.ethPort n).busyTill then h else
      match (heads h0 n).find? (fun (c, f) => gateNever h0 n c (txLen f.desc)) with
      | some (c, f) =>
        ((h0.setEth n ((h0.ethPort n).pop c h0.tb)).bump F.ETH_CNT_COUNT n 3).finish f ST_ETH_GATE h0.tb
      | none =>
        match (heads h0 n).find? (fun (c, f) => mayStart h0 n c f.desc) with
        | some (c, f) => ethSend h0 n c f
        | none => h0

/-- The EtherType of a frame from its destination address on; bytes 12 and 13, big-endian. -/
def etherType (bs : List Byte) : Nat := beNat (slice bs 12 2)

/-- A port accepts a destination (R661). -/
def ethAccept (h : Hw) (n : Nat) (bs : List Byte) : Bool :=
  h.flag F.ETH_PORT_CFG_PROMISC n || fld bs 0 1 % 2 == 1 || bs.take 6 == ethMac h n

/-- ETH_FRAME_RECEIVE: a frame from its destination address on, without FCS, whose start frame delimiter ended `age` ns ago
(R661, R662, R668, R669, R676, R678). -/
def execEthFrameReceive (dt : Nat) (n : Fin 12) (bs : List Byte) (fcsOk : Bool) (age : Nat) (s : State) : Out :=
  run dt s fun h =>
    if h.get F.ETH_PORT_STATUS_LINK n ≠ 2 then h
    else if !fcsOk then h.bump F.ETH_CNT_COUNT n 1
    else if bs.length < 14 ∨ 9212 < bs.length ∨ !ethAccept h n bs then h.bump F.ETH_CNT_COUNT n 2
    else if etherType bs = 0x88F7 then
      if h.flag F.ETH_PORT_CFG_GPTP_EN n && fld bs 14 1 % 16 == 11 then (h.bump F.ETH_CNT_COUNT n 2).log 0x0F04 n true else h
    else if etherType bs = 0x88B5 ∧ bs.take 6 = swarmDst ∧ n.val = swarmPort h ∧ h.flag F.ETH_SWARM_CTRL_EN then h
    else
      let tagged := etherType bs == 0x8100
      let tci := if tagged then beNat (slice bs 14 2) else 0
      let q := bits (h.get F.ETH_PORT_PCP_MAP n) (3 * (tci / 8192) + 2) (3 * (tci / 8192))
      let t := h.tb - age
      let rec_ := h.stamp (h.get F.ETH_PORT_CFG_BIND n) t ++ leBytes 2 bs.length
        ++ [BitVec.ofNat 8 n, BitVec.ofNat 8 q, BitVec.ofNat 8 (b2n tagged), 0] ++ leBytes 2 tci ++ zeros 8
        ++ padTo ((bs.length + 63) / 64 * 64) bs
      let (h1, ok) := bufPut h true (rxKey n q) rec_ t
      if ok then h1 else (h1.bump F.ETH_CNT_COUNT n 0).log 0x0F03 n true

/-! ## gPTP (R676, R677) -/

/-- The clock class announced (R677). -/
def clockClass (h : Hw) : Nat := match h.get F.WGL_STATUS_DISC with | 2 => 6 | 3 => 7 | _ => 248

/-- The time of gPTP messages in ns (R677). -/
def gptpTime (h : Hw) : Nat := h.tb + 315964819 * 1000000000

/-- A port sends a gPTP message. -/
def gptpSend (h : Hw) (n kind : Nat) : Hw :=
  let x := h.ethPort n
  let m : GptpMsg := ⟨kind, gptpTime h, clockClass h, h.get F.ETH_GPTP_CFG_PRIO1, h.get F.ETH_GPTP_CFG_PRIO2⟩
  h.setEth n { x with gptp := m :: x.gptp.filter (fun y => y.kind != kind) }

/-- The Sync interval 2^LOG_SYNC s in ns. -/
def syncNs (h : Hw) : Nat :=
  let l := h.getS F.ETH_GPTP_CFG_LOG_SYNC
  if 0 ≤ l then 1000000000 * 2 ^ l.toNat else 1000000000 / 2 ^ (-l).toNat

/-- GPTP_SYNC: at the Sync interval the port sends Announce, Sync and Follow_Up. -/
def execGptpSync (dt : Nat) (n : Fin 12) (s : State) : Out :=
  run dt s fun h =>
    let x := h.ethPort n
    if h.flag F.ETH_PORT_CFG_GPTP_EN n && h.get F.ETH_PORT_STATUS_LINK n == 2 && decide (x.syncAt + syncNs h ≤ h.now) then
      let h1 := gptpSend h n 0
      h1.setEth n { h1.ethPort n with syncAt := h.now }
    else h

/-- PDELAY_EXCHANGE: the port answers a Pdelay request, or has measured its link delay in ns. -/
def execPdelayExchange (dt : Nat) (n : Fin 12) (measured : Option Nat) (s : State) : Out :=
  run dt s fun h =>
    if h.flag F.ETH_PORT_CFG_GPTP_EN n && h.get F.ETH_PORT_STATUS_LINK n == 2 then
      match measured with
      | some d => h.setEth n { h.ethPort n with delay := some d }
      | none => gptpSend h n 1
    else h

/-! ## The Swarm agent (R681 to R688) -/

/-- The state of the agent. -/
def swarmState (h : Hw) : Nat := h.get F.ETH_SWARM_STATUS_STATE

/-- The agent becomes a leader. -/
def swarmLead (h : Hw) : Hw :=
  (h.setSwarm { h.eth.swarm with leader := h.grd.serial, members := [], joins := [] }).put F.ETH_SWARM_STATUS_STATE 1

/-- A write to ETH_SWARM_CTRL: EN enters LEADER with G = 0 and sends an ANNOUNCE at once; its settings must lie in their ranges
(R682, R691). -/
def swarmCtrlWrite (h : Hw) (v : Nat) : Hw :=
  let on := h.flag F.ETH_SWARM_CTRL_EN
  let per := h.get F.ETH_SWARM_CFG_PERIOD
  if v % 2 = 0 then (if on then (h.put F.ETH_SWARM_CTRL_EN 0).put F.ETH_SWARM_STATUS_STATE 0 else h)
  else if on || !(decide (100 ≤ per) && decide (per ≤ 10000) && decide (swarmPort h < 12)) then h
  else
    let h1 := swarmLead (setG (h.put F.ETH_SWARM_CTRL_EN 1) 0)
    swarmAnnounce (h1.setSwarm { h1.eth.swarm with sentAt := h.now, ignore := [] })

/-- SWARM_ENABLE: the owner of the Swarm port writes ETH_SWARM_CTRL with EN = 1. -/
def execSwarmEnable (dt : Nat) (hart : Fin 19) (s : State) : Out :=
  run dt s fun h => if h.byOwner hart (312 + swarmPort h) then swarmCtrlWrite h 1 else h

/-- SWARM_PERIOD: every PERIOD a leader sends its ANNOUNCE and any other state a JOIN (Table 15.4). -/
def execSwarmPeriod (dt : Nat) (s : State) : Out :=
  run dt s fun h =>
    let x := h.eth.swarm
    if swarmState h ≠ 0 ∧ x.sentAt + swarmPeriod h ≤ h.now then
      let h1 := h.setSwarm { x with sentAt := x.sentAt + swarmPeriod h }
      if swarmState h = 1 then swarmAnnounce h1 else swarmJoin h1
    else h

/-- θ of R687, from T_RECV, T_SEND, t1 and t4. -/
def swarmTheta (tRecv tSend t1 t4 : Int) : Q := mkQ ((tRecv - t1) + (tSend - t4)) 2

/-- ANNOUNCE_RECEIVED: an ANNOUNCE of a sender for a field with its T_SEND and member entries, received `age` ns ago; `back` says
which of the agent's JOINs its entry answers, 0 the newest (R683, R684, R686, R687). -/
def execAnnounceReceived (dt : Nat) (sender : BitVec 160) (field : Word) (tSend : DWord) (ents : List (BitVec 160 × DWord))
    (age back : Nat) (s : State) : Out :=
  run dt s fun h =>
    let x := h.eth.swarm
    let st := swarmState h
    let who := sender.toNat
    let me := h.grd.serial
    let cur := if st = 1 then me else x.leader
    let ignored := x.ignore.any (fun (i, t) => i == who && decide (h.now < t))
    if st = 0 ∨ field.toNat ≠ h.get F.ETH_SWARM_FIELD_FIELD then h
    else if who = me then h.log 0x0F07 0xFFFF true
    else
      let h0 := h.put F.ETH_SWARM_STATUS_MEMBERS (min ents.length 31)
      if who < cur && !ignored then
        let h1 := h0.setSwarm { x with leader := who, members := [], joins := [], joinAt := h.now, heardAt := h.now }
        (swarmJoin h1).put F.ETH_SWARM_STATUS_STATE 2
      else if st ≠ 1 ∧ who = x.leader then
        let h1 := h0.setSwarm { x with heardAt := h.now }
        match ents.find? (fun e => e.1.toNat == me), x.joins[back]? with
        | some (_, tr), some t1 =>
          let (th, h2) := h1.openRound (swarmTheta (sx 64 tr.toNat) (sx 64 tSend.toNat) t1 ((h.tb : Int) - age))
          if st = 2 then ((setG h2 th).put F.ETH_SWARM_STATUS_STATE 3).log 0x0F05
          else setG h2 (swarmG h2 + Int.tdiv (th - swarmG h2) 4)
        | _, _ => h1
      else h0

/-- JOIN_RECEIVED: a JOIN of a sender for a field, addressed to a leader and received `age` ns ago (R685). -/
def execJoinReceived (dt : Nat) (sender : BitVec 160) (field : Word) (leader : BitVec 160) (age : Nat) (s : State) : Out :=
  run dt s fun h =>
    let x := h.eth.swarm
    if swarmState h ≠ 1 ∨ field.toNat ≠ h.get F.ETH_SWARM_FIELD_FIELD ∨ leader.toNat ≠ h.grd.serial then h
    else
      let m : Member := ⟨sender.toNat, (h.tb : Int) - age + swarmG h, h.now, true⟩
      let others := x.members.filter (fun y => y.id != m.id)
      if 31 ≤ others.length then h.bump F.ETH_SWARM_STATUS_FULL else h.setSwarm { x with members := others ++ [m] }

/-- JOIN_TIMEOUT: a joining machine has not been listed within 3 periods; it leads again and ignores that leader for 60 s
(R686). -/
def execJoinTimeout (dt : Nat) (s : State) : Out :=
  run dt s fun h =>
    let x := h.eth.swarm
    if swarmState h = 2 ∧ x.joinAt + 3 * swarmPeriod h ≤ h.now then
      swarmLead (h.setSwarm { x with ignore := (x.leader, h.now + 60000000000) :: x.ignore.filter (fun i => decide (h.now < i.2)) })
    else h

/-- LEADER_LOST: a member has heard no ANNOUNCE of its leader for 3 periods; it leads, keeping its G (R688). -/
def execLeaderLost (dt : Nat) (s : State) : Out :=
  run dt s fun h =>
    if swarmState h = 3 ∧ h.eth.swarm.heardAt + 3 * swarmPeriod h ≤ h.now then (swarmLead h).log 0x0F06 else h

end Sys2Proof.Machine
end

