-- ==== Sys2Proof/Machine/FanDrive.lean ====
section
/-!
DEFINITION. The commands of the fan, pump and blower drives (chapter 11). Readings: log entry 28.
-/
namespace Sys2Proof.Machine

/-! ## Enabling and commands -/

/-- The checks of an enable (R521). -/
def fanCheck (h : Hw) (n : Nat) : Nat :=
  let st := h.get F.FAN_COMPAT_STRETCH n
  firstBad [(h.get F.FAN_CFG_TYPE n != 3 && h.get F.FAN_LIMIT_ACCEL n != 0 && h.get F.FAN_LIMIT_BAND_ACCEL n != 0
    && h.get F.FAN_COMPAT_PULSES n != 0 && decide (20 ≤ st) && decide (st ≤ 200) && decide (h.get F.FAN_COMPAT_FULL_RPM n ≤ 12000)
    && (h.get F.FAN_CFG_TYPE n != 2 || h.get F.FAN_COMPAT_FULL_RPM n != 0)
    && (List.range 4).all (fun j => decide (h.get F.FAN_BAND_LO n j ≤ h.get F.FAN_BAND_HI n j)), ST_FAN_CONFIG)]

/-- A write to FAN_CFG, with the checks of an enable; while enabled TYPE and MODE stay (R521). -/
def fanCfgWrite (h : Hw) (n v : Nat) : Hw :=
  let f := F.FAN_CFG_ENABLE.at n 0
  let h0 := fanAnchor h n
  let old := (h.reg f).toNat
  let new := v % 2 ^ 7
  if old % 2 = 1 then showFan (h0.setReg f (BitVec.ofNat 32 (new - bits new 3 1 * 2 + bits old 3 1 * 2))) n
  else if v % 2 = 0 then showFan (h0.setReg f (BitVec.ofNat 32 new)) n
  else
    let h1 := h0.setReg f (BitVec.ofNat 32 (new - 1))
    let st := fanCheck h1 n
    let h2 := h1.put F.FAN_STATUS_ERR st n
    if st ≠ ST_OK then showFan h2 n
    else showFan ((h2.put F.FAN_CFG_ENABLE 1 n).setFan n { h2.fan n with req := 0, cmdAt := h.now, tmode := false }) n

/-- FAN_ENABLE: the owner of the port writes FAN_CFG with ENABLE = 1. -/
def execFanEnable (dt : Nat) (hart : Fin 19) (n : Fin 8) (v : Word) (s : State) : Out :=
  run dt s fun h => if h.byOwner hart (272 + n) then fanCfgWrite h n (v ||| 1).toNat else h

/-- FANSET: all entries take effect together (R507). -/
def execFanset (dt id : Nat) (s : State) : Out :=
  run dt s fun h => h.onOp id 12 7 fun f =>
    let h1 := (setEntries f.desc).foldl (fun g e =>
      let n := e % 8
      if fanOn g n && g.get F.FAN_CFG_MODE n == 1 then fanCommand g n (sx 16 (e / 2 ^ 16)) else g) h
    h1.finish f ST_OK h1.tb

/-- FANTAB: loads a table into the tile or refuses it (R508, R509). -/
def execFantab (dt id : Nat) (s : State) : Out :=
  run dt s fun h => h.onOp id 12 8 fun f =>
    let n := fld f.desc 1 1 % 8
    let a := fld f.desc 8 8
    h.engRead f [(a, 64)] fun h1 =>
      let b := h1.rd a 64
      let st := firstBad [(h1.ownsPort f.part (272 + n), ST_TARGET_NOT_OWNED), (fanTableOk b, ST_FAN_TABLE_INVALID)]
      let h2 := if st = ST_OK then
          (let g := fanAnchor h1 n
           showFan (g.setFan n { g.fan n with table := some b }) n)
        else h1
      h2.finish f st h2.tb

/-! ## Table mode and the thermistor -/

/-- TABLE_MODE_ENTRY: a drive with a valid table has had no command for 2 s (R511, R513). -/
def execTableModeEntry (dt : Nat) (n : Fin 8) (s : State) : Out :=
  run dt s fun h =>
    let x := h.fan n
    let o := h.out (272 + n)
    if x.table.isSome && !x.tmode && (fanOn h n || h.held (272 + n)) && !(o.stay && o.fs == 0)
        && decide (x.cmdAt + 2000000000 ≤ h.now) then
      let h1 := fanAnchor h n
      showFan (h1.setFan n { h1.fan n with tmode := true }) n
    else h

/-- THERMISTOR_FAULT: the resistance has been out of range for 100 ms (R512). -/
def execThermistorFault (dt : Nat) (n : Fin 8) (s : State) : Out :=
  run dt s fun h =>
    if (h.fan n).sensor then h
    else
      let h1 := fanAnchor h n
      showFan (((h1.setFan n { h1.fan n with sensor := true }).put F.FAN_FAULT_SENSOR 1 n).log 0x0B04 n true) n

/-- THERMISTOR_RELEASE: the resistance has been back in range for 100 ms (R512). -/
def execThermistorRelease (dt : Nat) (n : Fin 8) (s : State) : Out :=
  run dt s fun h =>
    let h1 := fanAnchor h n
    showFan (h1.setFan n { h1.fan n with sensor := false }) n

/-! ## Faults -/

/-- FAN_OVERCURRENT: a phase above 15 A for 2 µs (R501, R518). -/
def execFanOvercurrent (dt : Nat) (n : Fin 8) (s : State) : Out :=
  run dt s fun h =>
    if fanOff h n then h
    else
      let h1 := fanAnchor h n
      showFan ((h1.put F.FAN_FAULT_OVERCURRENT 1 n).log 0x0B01 n) n

/-- STALL: the measured speed has been below 10 % of a request of at least 300 rpm for a time in ns (R518). -/
def execStall (dt : Nat) (n : Fin 8) (dur : Nat) (s : State) : Out :=
  run dt s fun h =>
    let r := (fanTarget h n).1.natAbs
    if 300 ≤ r ∧ 10 * (h.getS F.FAN_SPEED_SPEED n).natAbs < r ∧ 2000000000 ≤ dur then
      let h1 := fanAnchor h n
      showFan (((h1.setFan n { h1.fan n with stall := some h.now }).put F.FAN_FAULT_STALL 1 n).log 0x0B02 n true) n
    else h

/-- STALL_RESTART: a stalled drive tries to restart, every 5 s (R518). -/
def execStallRestart (dt : Nat) (n : Fin 8) (s : State) : Out :=
  run dt s fun h =>
    match (h.fan n).stall with
    | some t =>
      if t + 5000000000 ≤ h.now then
        let h1 := fanAnchor h n
        showFan (h1.setFan n { h1.fan n with stall := none }) n
      else h
    | none => h

/-- FAN_FAULT_DETECT: an invalid Hall code for 10 ms, or a bridge at 170 °C (R518). -/
def execFanFaultDetect (dt : Nat) (n : Fin 8) (kind : FanFaultKind) (s : State) : Out :=
  run dt s fun h =>
    match kind with
    | .hall => if h.get F.FAN_CFG_TYPE n = 1 then (h.put F.FAN_FAULT_HALL 1 n).log 0x0B03 n true else h
    | .drvHot =>
      if (h.fan n).hot then h
      else
        let h1 := fanAnchor h n
        showFan (((h1.setFan n { h1.fan n with hot := true }).put F.FAN_FAULT_DRV_HOT 1 n).log 0x0B05 n) n

/-- FAN_DRV_HOT_RECOVERY: the bridge has cooled below 150 °C. -/
def execFanDrvHotRecovery (dt : Nat) (n : Fin 8) (s : State) : Out :=
  run dt s fun h =>
    let h1 := fanAnchor h n
    showFan (h1.setFan n { h1.fan n with hot := false }) n

/-- Clears bits of FAN_FAULT; a drive that was latched off or shed stays stopped until its next command (R461, R518). -/
def fanFaultClear (h : Hw) (n v : Nat) : Hw :=
  let h0 := fanAnchor h n
  let old := (h.reg (F.FAN_FAULT_OVERCURRENT.at n 0)).toNat
  let clear := v % 64
  let h1 := h0.setReg (F.FAN_FAULT_OVERCURRENT.at n 0) (BitVec.ofNat 32 (old - (old &&& clear)))
  let ends := (bit old 0 && bit clear 0) || (bit old 5 && bit clear 5)
  showFan (if ends && !h.held (272 + n) then h1.setFan n { h1.fan n with req := 0, cmdAt := h.now, tmode := false } else h1) n

/-! ## XN7200-compatible mode -/

/-- XN7200_MEASUREMENT: every 400 ms, the period in ns between the last two tachometer edges of the stretched window, if it held
two (R515 to R517); the rounding of the speed is open. -/
def execXn7200Measurement (dt : Nat) (n : Fin 8) (period : Option Nat) (s : State) : Out :=
  run dt s fun h =>
    let x := h.fan n
    if h.get F.FAN_CFG_TYPE n ≠ 2 ∨ !fanOn h n ∨ h.now < x.measAt + 400000000 then h
    else
      let (sp, h1) := match period with
        | some p => if p = 0 then (0, h) else h.openRound (mkQ 60000000000 (p * h.get F.FAN_COMPAT_PULSES n))
        | none => (0, h)
      let sp := satI 16 sp
      let r := (fanTarget h n).1
      let d := Int.tdiv ((r - sp) * 64) (h.get F.FAN_COMPAT_FULL_RPM n)
      let duty := if r = 0 then 0 else (clampI (x.duty + d) 26 255).toNat
      showFan (((h1.setFan n { h1.fan n with duty := duty, measAt := h.now }).putS F.FAN_SPEED_SPEED sp n).keepSample (272 + n) h.tb sp) n

end Sys2Proof.Machine
end

