-- ==== Sys2Proof/Machine/FusionCore.lean ====
section
/-!
DEFINITION. The fusion engine's arithmetic and parts (chapter 12): matrices, the Kalman update unit, the ego propagator, its
history, wheel and fix tests, tracks, and the degradation steps. Lengths are in m, angles in rad, times in s inside the filter.
Readings: log entry 29.
-/
namespace Sys2Proof.Machine

/-! ## Vectors and matrices -/

/-- A component of a vector, 0 where it has none. -/
def vat (v : List Q) (i : Nat) : Q := v.getD i ⟨0, 1⟩
/-- Component by component. -/
def vadd (a b : List Q) : List Q := (List.range (max a.length b.length)).map (fun i => qadd (vat a i) (vat b i))
/-- Difference. -/
def vsub (a b : List Q) : List Q := (List.range (max a.length b.length)).map (fun i => qsub (vat a i) (vat b i))
/-- Scaled. -/
def vscale (k : Q) (a : List Q) : List Q := a.map (qmul k)
/-- Scalar product. -/
def vdot (a b : List Q) : Q := (List.zipWith qmul a b).foldl qadd (qi 0)
/-- A component of a matrix. -/
def mat (m : List (List Q)) (i j : Nat) : Q := vat (m.getD i []) j
/-- A matrix of r rows and c columns from its components. -/
def mkMat (r c : Nat) (f : Nat → Nat → Q) : List (List Q) := (List.range r).map (fun i => (List.range c).map (f i))
/-- The number of columns. -/
def mcols (m : List (List Q)) : Nat := (m.headD []).length
/-- Transpose. -/
def mtr (m : List (List Q)) : List (List Q) := mkMat (mcols m) m.length (fun i j => mat m j i)
/-- Product. -/
def mmul (a b : List (List Q)) : List (List Q) := let t := mtr b; a.map (fun r => t.map (vdot r))
/-- Sum. -/
def madd (a b : List (List Q)) : List (List Q) := mkMat a.length (mcols a) (fun i j => qadd (mat a i j) (mat b i j))
/-- Matrix times vector. -/
def mvec (m : List (List Q)) (v : List Q) : List Q := m.map (fun r => vdot r v)
/-- The unit matrix. -/
def munit (n : Nat) : List (List Q) := mkMat n n (fun i j => qi (b2n (i == j)))
/-- A diagonal matrix. -/
def mdiag (v : List Q) : List (List Q) := mkMat v.length v.length (fun i j => if i = j then vat v i else qi 0)

/-- One round of elimination in column k of a matrix beside its inverse in the making. -/
def elimRound (n k : Nat) (a : List (List Q)) : Option (List (List Q)) :=
  match (List.range n).find? (fun i => decide (k ≤ i) && (mat a i k).num != 0) with
  | none => none
  | some p =>
    let rp := vscale (qdiv (qi 1) (mat a p k)) (a.getD p [])
    let b := (a.set p (a.getD k [])).set k rp
    some ((List.range n).map (fun i => if i = k then rp else vsub (b.getD i []) (vscale (mat b i k) rp)))

/-- The inverse of a square matrix; where it has none, what the unit then uses is open (log entry 14). -/
def minv (m : List (List Q)) : List (List Q) :=
  let n := m.length
  let a := (List.range n).map (fun i => m.getD i [] ++ (munit n).getD i [])
  match (List.range n).foldl (fun o k => o.bind (elimRound n k)) (some a) with
  | some b => b.map (fun r => r.drop n)
  | none => Config.mats 5 [] m

/-! ## The Kalman update unit (R543, R554) -/

/-- A measurement: innovation, how it depends on the states, covariance of its noise. -/
structure Obs where
  nu : List Q
  hm : List (List Q)
  r : List (List Q)

/-- S = H P Hᵀ + R. -/
def obsS (cov : List (List Q)) (o : Obs) : List (List Q) := madd (mmul (mmul o.hm cov) (mtr o.hm)) o.r

/-- The normalised innovation νᵀ S⁻¹ ν / m (R543), in single precision. -/
def obsNis (cov : List (List Q)) (o : Obs) : Q :=
  Config.fl 32 (qdiv (vdot o.nu (mvec (minv (obsS cov o)) o.nu)) (qi o.nu.length))

/-- The update in Joseph form: the correction of the states and the covariance, kept symmetric, in single precision. -/
def obsUpdate (cov : List (List Q)) (o : Obs) : List Q × List (List Q) :=
  let n := cov.length
  let k := mmul (mmul cov (mtr o.hm)) (minv (obsS cov o))
  let ikh := madd (munit n) ((mmul k o.hm).map (vscale (qi (-1))))
  let c := madd (mmul (mmul ikh cov) (mtr ikh)) (mmul (mmul k o.r) (mtr k))
  ((mvec k o.nu).map (Config.fl 32), mkMat n n (fun i j => Config.fl 32 (qdiv (qadd (mat c i j) (mat c j i)) (qi 2))))

/-- The value of an IEEE 754 single-precision pattern; infinities and NaN give an open value. -/
def f32 (x : Nat) : Q :=
  let e := bits x 30 23
  let m : Nat := x % 2 ^ 23
  let s : Int := if bit x 31 then -1 else 1
  if e = 255 then Config.fl 0 (qi x)
  else if e = 0 then mkQ (s * (m : Int)) (2 ^ 149)
  else if 150 ≤ e then qi (s * (((2 ^ 23 + m) * 2 ^ (e - 150) : Nat) : Int))
  else mkQ (s * ((2 ^ 23 + m : Nat) : Int)) (2 ^ (150 - e))

/-! ## The ego propagator (R533 to R538) -/

/-- The rotation from the body to the world frame by a quaternion. -/
def rot (q : List Q) : List (List Q) :=
  let w := vat q 0
  let x := vat q 1
  let y := vat q 2
  let z := vat q 3
  let two (a b c d : Q) (s : Int) : Q := qmul (qi 2) (qadd (qmul a b) (qmul (qi s) (qmul c d)))
  [[qsub (qi 1) (two y y z z 1), two x y w z (-1), two x z w y 1],
   [two x y w z 1, qsub (qi 1) (two x x z z 1), two y z w x (-1)],
   [two x z w y (-1), two y z w x 1, qsub (qi 1) (two x x y y 1)]]

/-- The product of two quaternions. -/
def quatMul (a b : List Q) : List Q :=
  let s (i j k l m n o p : Nat) (f g e : Int) : Q :=
    qadd (qmul (vat a i) (vat b j)) (qadd (qmul (qi f) (qmul (vat a k) (vat b l)))
      (qadd (qmul (qi g) (qmul (vat a m) (vat b n))) (qmul (qi e) (qmul (vat a o) (vat b p)))))
  [s 0 0 1 1 2 2 3 3 (-1) (-1) (-1), s 0 1 1 0 2 3 3 2 1 1 (-1), s 0 2 1 3 2 0 3 1 (-1) 1 1, s 0 3 1 2 2 1 3 0 1 (-1) 1]

/-- The length of a step in s. -/
def egoDt : Q := mkQ 1 2000

/-- The velocity in the body frame: forward, left, up. -/
def egoBodyV (e : Ego) : List Q := mvec (mtr (rot e.q)) e.v

/-- The heading of the body x axis in rad. -/
def egoHeading (e : Ego) : Q := let r := rot e.q; Config.elem 2 [mat r 0 0, mat r 1 0]

/-- Adds a correction of the 16 error states (R533). -/
def egoInject (e : Ego) (dx : List Q) (cov : List (List Q)) : Ego :=
  let part (i : Nat) := (dx.drop i).take 3
  { e with p := (vadd e.p (part 0)).map (Config.fl 64), v := vadd e.v (part 3), q := Config.vecs 2 (e.q ++ part 6),
           bg := vadd e.bg (part 9), ba := vadd e.ba (part 12), k := qadd e.k (vat dx 15), cov := cov }

/-- Applies a measurement to the ego filter. -/
def egoApply (e : Ego) (o : Obs) : Ego := let (dx, c) := obsUpdate e.cov o; egoInject e dx c

/-- How an ego measurement of a kind depends on the error states, which the spec does not give: 0 forward speed, 1 lateral and
vertical velocity, 2 yaw rate, 3 antenna position, 4 heading. -/
def egoJac (kind : Nat) (e : Ego) (rest : List Q) : List (List Q) :=
  Config.mats 1 (qi kind :: e.p ++ e.v ++ e.q ++ e.bg ++ e.ba ++ [e.k] ++ rest) []

/-- Velocity stands in the error states as it is. -/
def velRows : List (List Q) := mkMat 3 16 (fun i j => qi (b2n (j == 3 + i)))

/-- The wheel measurement k × speed against the forward speed, with SD a part of that speed (R535). -/
def wheelObs (e : Ego) (speed sd : Q) : Obs :=
  let z := qmul e.k speed
  let d := qmul sd z
  ⟨[qsub z (vat (egoBodyV e) 0)], egoJac 0 e [speed], [[qmul d d]]⟩

/-- Propagates by one step, and corrects by wheels and non-holonomic constraint (R534, R535). -/
def egoAdvance (e : Ego) (i : EgoIn) : Ego :=
  let w := vsub i.w e.bg
  let f := vsub i.f e.ba
  let q := quatMul e.q (Config.vecs 0 (vscale (qdiv egoDt (qi 2)) w))
  let g := [qi 0, qi 0, qneg (Config.elem 8 [])]
  let v := (vadd e.v (vscale egoDt (vadd (mvec (rot q) f) g))).map (Config.fl 0)
  let p := (vadd e.p (vscale egoDt v)).map (Config.fl 64)
  let e1 := { e with q := q.map (Config.fl 0), v := v, p := p, yaw := vat w 2,
                     cov := Config.mats 0 (q ++ v ++ w ++ f) e.cov }
  let vf := vat (egoBodyV e1) 0
  let s := if i.running then vf else i.dspeed
  let e2 := { e1 with d := Config.fl 0 (qadd e1.d (qmul s egoDt)), vf := s,
                      acc := if i.running then qdiv (qsub vf e.vf) egoDt else qi 0 }
  let e3 := if i.zero then egoApply e2 ⟨vscale (qi (-1)) e2.v, velRows, mdiag (Config.vecs 6 [qi 0])⟩
    else match i.wheel with
      | some s => egoApply e2 (wheelObs e2 s i.wheelSd)
      | none => e2
  let e4 := match i.turn with
    | some t => egoApply e3 ⟨[qsub t e3.yaw], egoJac 2 e3 [], mdiag (Config.vecs 6 [qi 1])⟩
    | none => e3
  let b := egoBodyV e4
  let n2 := qmul i.nhcSd i.nhcSd
  egoApply e4 ⟨[qneg (vat b 1), qneg (vat b 2)], egoJac 1 e4 [], mdiag [n2, n2]⟩

/-- An angle of 2^-32 rev in rad. -/
def revRad (x : Int) : Q := qmul (mkQ x (2 ^ 31)) (Config.elem 9 [])
/-- An angle in rad in 2^-32 rev. -/
def radRev (x : Q) : Q := qdiv (qmul x (qi (2 ^ 31))) (Config.elem 9 [])
/-- A number of thousandths. -/
def milli (x : Int) : Q := mkQ x 1000
/-- A square. -/
def qsq (x : Q) : Q := qmul x x

/-- The measurement of a fix (R537, Table 12.4), given the lever arm of antenna A in m. -/
def fixObs (e : Ego) (arm : List Q) (d : List Byte) : Obs :=
  let fl := fld d 1 1
  let pos := vadd e.p (mvec (rot e.q) arm)
  let s16 (i : Nat) : Q := milli (sx 16 (fld d i 2))
  let s32 (i : Nat) : Q := milli (sx 32 (fld d i 4))
  let sd (i : Nat) : Q := qsq (milli (fld d i 2))
  let blank : List (List Q) := []
  let (n1, h1, r1) := if bit fl 0 then (vsub [s32 16, s32 20, s32 24] pos, egoJac 3 e arm, [sd 36, sd 36, sd 38]) else ([], blank, [])
  let (n2, h2, r2) := if bit fl 1 then (vsub [s16 28, s16 30, s16 32] e.v, velRows, [sd 40, sd 40, sd 40]) else ([], blank, [])
  let (n3, h3, r3) := if bit fl 2 then
      ([Config.elem 5 [qsub (revRad (fld d 4 4)) (egoHeading e)]], egoJac 4 e [], [qsq (mkQ (fld d 42 2) 10000)]) else ([], blank, [])
  ⟨n1 ++ n2 ++ n3, h1 ++ h2 ++ h3, mdiag (r1 ++ r2 ++ r3)⟩

/-- An INIT sets the pose and the pose's covariance, and leaves d, the biases and k (R542). -/
def initApply (e : Ego) (d : List Byte) : Ego :=
  let var := qsq (milli (fld d 20 2))
  let c := Config.mats 2 [qi 1, mkQ (fld d 22 2) 10000] e.cov
  { e with p := [milli (sx 32 (fld d 8 4)), milli (sx 32 (fld d 12 4)), milli (sx 32 (fld d 16 4))],
           q := Config.vecs 3 (revRad (fld d 4 4) :: e.q),
           cov := mkMat 16 16 (fun i j => if i < 3 ∨ j < 3 then (if i = j then var else qi 0) else mat c i j) }

/-- Applies a fix or an INIT descriptor. -/
def egoTake (arm : List Q) (e : Ego) (d : List Byte) : Ego :=
  if fld d 0 1 % 16 = 3 then initApply e d else egoApply e (fixObs e arm d)

/-- A step with the fixes and INITs applied in it. -/
def egoStep (arm : List Q) (e : Ego) (i : EgoIn) : Ego := i.fixes.foldl (egoTake arm) (egoAdvance e i)

/-- The step that contains a time of validity. -/
def stepOf (tov : Nat) : Nat := (tov + 499999) / 500000

/-- The stored state of a step; of the oldest step held where the step is older (R531, R538). -/
def histAt : List (Ego × EgoIn) → Nat → Option (Ego × EgoIn)
  | [], _ => none
  | [x], _ => some x
  | x :: y :: r, n => if x.2.n ≤ n then some x else histAt (y :: r) n

/-- Applies a fix to the stored state of its step and propagates again to the present (R538); history newest first. -/
def histRerun (arm : List Q) (d : List Byte) (n : Nat) : List (Ego × EgoIn) → List (Ego × EgoIn)
  | [] => []
  | (e, i) :: r =>
    if i.n ≤ n ∨ r = [] then (egoApply e (fixObs e arm d), { i with fixes := i.fixes ++ [d] }) :: r
    else
      match histRerun arm d n r with
      | [] => []
      | (e0, i0) :: r' => (egoStep arm e0 i, i) :: (e0, i0) :: r'

/-! ## Inputs of a step -/

/-- The lever arm of antenna A in m. -/
def fusArm (h : Hw) : List Q :=
  [milli (h.getS F.FUS_GNSS_ARM_X), milli (h.getS F.FUS_GNSS_ARM_Y), milli (h.getS F.FUS_GNSS_ARM_Z_Z)]

/-- The SPD channel of a wheel. -/
def wheelCh (h : Hw) (i : Nat) : Nat := h.get F.FUS_WHEEL_CH i

/-- A wheel is in use and its channel not faulted (R546). -/
def wheelIn (h : Hw) (i : Nat) : Bool := h.flag F.FUS_WHEEL_EN i && h.sfeOn (390 + wheelCh h i)

/-- The state of a wheel: 1 OK, 2 LOST, 3 REJECTED (R546). -/
def wheelState (h : Hw) (i : Nat) : Nat := h.get (if i = 0 then F.FUS_STATUS_WHEEL0 else F.FUS_STATUS_WHEEL1)
/-- Sets the state of a wheel. -/
def setWheelState (h : Hw) (i v : Nat) : Hw := h.put (if i = 0 then F.FUS_STATUS_WHEEL0 else F.FUS_STATUS_WHEEL1) v

/-- The speed of a wheel in m/s: µm per edge over the last period, 0 once no edge has arrived for 1 s (R536); the level is that of
its direction input. A wheel whose first edge alone has come has an open speed. -/
def wheelSpeed (h : Hw) (i : Nat) (level : Bool) : Q × Hw :=
  match mget h.sfe.spd (wheelCh h i) with
  | none => (qi 0, h)
  | some (t, per) =>
    if t + 1000000000 ≤ h.tb then (qi 0, h)
    else if per = 0 then
      (let (x, g) := h.fresh
       (mkQ x 1000, g))
    else
      let s := mkQ (1000 * h.get F.FUS_WHEEL_DIV_DIV i : Nat) per
      ((if h.get F.FUS_WHEEL_DIR i ≠ 0 ∧ level then qneg s else s), h)

/-- No edge of a wheel's channel for a time. -/
def wheelQuiet (h : Hw) (i ns : Nat) : Bool :=
  match mget h.sfe.spd (wheelCh h i) with | none => true | some (t, _) => decide (t + ns ≤ h.tb)

/-- The three axes of an IMU sample from an offset on, turned into the body frame and scaled (R525). -/
def imuAxes (h : Hw) (xs : List Int) (i : Nat) (scale : Q) : List Q :=
  let v := (List.range 3).map (fun j => qmul scale (qi (xs.getD (i + j) 0)))
  if h.get F.FUS_EGO_CFG_IMU_ROT = 0 then v else Config.vecs 1 (qi (h.get F.FUS_EGO_CFG_IMU_ROT) :: v)

/-- Mean rates and forces of the IMU samples in the 500 µs before an instant: two samples; with any other number what the step
uses is open (R534). -/
def imuMean (h : Hw) (t : Nat) : List Q × List Q × Hw :=
  let ss := h.sfe.imu.filter (fun s => decide (s.1 ≤ t) && decide (t < s.1 + 500000))
  let gs := qdiv (qmul (qi 2000) (Config.elem 9 [])) (qi (180 * 32768))
  let as := mkQ 16 32768
  match ss with
  | [a, b] =>
    let half := mkQ 1 2
    (vscale half (vadd (imuAxes h a.2 3 gs) (imuAxes h b.2 3 gs)),
     vscale (qmul half (Config.elem 8 [])) (vadd (imuAxes h a.2 0 as) (imuAxes h b.2 0 as)), h)
  | _ =>
    let (x, g) := h.fresh
    (Config.vecs 7 [qi 1, qi x], Config.vecs 7 [qi 2, qi x], g)

/-- The newest IMU sample's age in ns is below a limit. -/
def imuWithin (h : Hw) (ns : Nat) : Bool := match h.sfe.imu with | s :: _ => decide (h.tb < s.1 + ns) | [] => false

/-- The begin of the newest run of IMU samples without a gap of 2 ms. -/
def imuRunAux : Nat → List (Nat × List Int) → Nat
  | t, [] => t
  | t, s :: r => if s.1 + 2000000 ≤ t then t else imuRunAux s.1 r

/-- The instant since which IMU samples have come without a gap of 2 ms. -/
def imuSince (h : Hw) : Option Nat := match h.sfe.imu with | s :: r => some (imuRunAux s.1 r) | [] => none

/-! ## Degradation (R565 to R567) -/

/-- The enabled sources of a perception class. -/
def classSrcs (h : Hw) (c : Nat) : List Nat :=
  (List.range 16).filter (fun s => h.flag F.FUS_SRC_EN s && h.get F.FUS_SRC_PCLASS s == c)

/-- A perception class is available (R565). -/
def classAvail (h : Hw) (c : Nat) : Bool := (classSrcs h c).any (fun s => h.get F.FUS_SRC_STATUS_STATE s == 1)

/-- A wheel is available. -/
def wheelAvail (h : Hw) : Bool := wheelState h 0 == 1 || wheelState h 1 == 1

/-- The SD of east or north is above HOLD_SD. -/
def sdAbove (h : Hw) (i : Nat) : Bool := qlt (qsq (milli (h.get F.FUS_DEG_HOLD_SD))) (mat h.fus.ego.cov i i)

/-- The highest step whose condition holds (Table 12.7). -/
def fusTarget (h : Hw) : Nat :=
  let on := [0, 1, 2].filter (fun c => !(classSrcs h c).isEmpty)
  let gnss := h.get F.FUS_STATUS_GNSS == 1
  if h.get F.FUS_STATUS_EGO ≠ 1 ∨ (!gnss && !wheelAvail h) ∨ sdAbove h 0 ∨ sdAbove h 1 then 4
  else if !on.any (classAvail h) then 3
  else if !gnss then 2
  else if on.any (fun c => !classAvail h c) then 1
  else 0

/-- The classes' availability in FUS_STATUS. -/
def showAvail (h : Hw) : Hw := h.put F.FUS_STATUS_CLS_AVAIL (([0, 1, 2].map (fun c => b2n (classAvail h c) * 2 ^ c)).sum)

/-- Judges the fusion step: a higher-numbered one at once, a lower-numbered one from when its condition began to hold (R567). -/
def fusJudge (h : Hw) : Hw :=
  let h1 := showAvail h
  let t := fusTarget h1
  let cur := h1.get F.FUS_STATUS_STEP
  if cur < t then ({ h1 with fus := { h1.fus with lower := none } }.put F.FUS_STATUS_STEP t).log 0x0C01
  else if cur = t then { h1 with fus := { h1.fus with lower := none } }
  else
    match h1.fus.lower with
    | some (x, _) => if x = t then h1 else { h1 with fus := { h1.fus with lower := some (t, h1.now) } }
    | none => { h1 with fus := { h1.fus with lower := some (t, h1.now) } }

/-! ## Tests (R543 to R546) -/

/-- The gate of fixes and wheels. -/
def fixGate (h : Hw) : Q := mkQ (h.get F.FUS_FIX_GATE) 256

/-- Tests a wheel in a step (R546). -/
def wheelTest (h : Hw) (i : Nat) (speed : Q) : Hw :=
  if !wheelIn h i then setWheelState { h with fus := { h.fus with wheels := mset h.fus.wheels i {} } } i 2
  else
    let x := mgetD h.fus.wheels i {}
    let pass := qle (obsNis h.fus.ego.cov (wheelObs h.fus.ego speed (mkQ (h.get F.FUS_EGO_NOISE_WHEEL_SD) 1000))) (fixGate h)
    let y : InTest := if pass then { x with fails := 0, passes := min (x.passes + 1) 255 } else { x with fails := min (x.fails + 1) 255, passes := 0 }
    let st := wheelState h i
    let st' := if st = 3 then (if h.get F.FUS_EGO_CFG_READMIT_N ≤ y.passes then 1 else 3)
      else if h.get F.FUS_EGO_CFG_REJ_N ≤ y.fails then 3 else 1
    let y' := if st' = st then y else {}
    setWheelState { h with fus := { h.fus with wheels := mset h.fus.wheels i y' } } i st'

/-- The outcome of a fix test for the GNSS input, and whether the fix is applied (R543 to R545). -/
def gnssJudge (h : Hw) (pass : Bool) (tov : Nat) : Hw × Bool :=
  let g := h.fus.gnss
  let st := h.get F.FUS_STATUS_GNSS
  let recent := decide (h.tb < tov + 1000000 * h.get F.FUS_FIX_STALE)
  let newest := match h.fus.fixTov with | some t => max t tov | none => tov
  let h0 := { h with fus := { h.fus with fixTov := some newest } }
  let h1 := if pass then h0 else h0.bump F.FUS_CNT_COUNT 2
  if st = 3 then
    let y := if !g.open_ then g else if pass then { g with passes := g.passes + 1 } else { g with passes := 0 }
    if g.open_ && decide (h.get F.FUS_EGO_CFG_READMIT_N ≤ y.passes) then
      ({ h1 with fus := { h1.fus with gnss := {} } }.put F.FUS_STATUS_GNSS 1, true)
    else ({ h1 with fus := { h1.fus with gnss := y } }, false)
  else
    let y : InTest := if pass then {} else { g with fails := g.fails + 1 }
    if h.get F.FUS_EGO_CFG_REJ_N ≤ y.fails then
      (({ h1 with fus := { h1.fus with gnss := { since := h.now } } }.put F.FUS_STATUS_GNSS 3).log 0x0C02, false)
    else
      let h2 := { h1 with fus := { h1.fus with gnss := y } }
      (if recent then h2.put F.FUS_STATUS_GNSS 1 else h2, pass)

/-- d²/m × 256, saturating (R543). -/
def nis256 (w : Nat) (q : Q) (h : Hw) : Nat × Hw :=
  let (x, g) := h.openRound (qmul q (qi 256))
  (satN w x.toNat, g)

/-- Tests a fix and applies it at its step, or to the stored past with a re-run (R537, R538, R543). -/
def fixTest (h : Hw) (x : FFix) : Hw :=
  let arm := fusArm h
  let n := stepOf x.tov
  let e := match histAt h.fus.hist n with | some (e, _) => e | none => h.fus.ego
  let nis := obsNis e.cov (fixObs e arm x.desc)
  let pass := qle nis (fixGate h)
  let (h1, use) := gnssJudge h pass x.tov
  let hist := if use then histRerun arm x.desc n h1.fus.hist else h1.fus.hist
  let now := match hist with | (e, _) :: _ => e | [] => h1.fus.ego
  let keep := h1.fus.fixes.map (fun y => if y.op = x.op ∧ y.tov = x.tov then { y with tested := true } else y)
  let app := if use then some (match h1.fus.appliedTov with | some t => max t x.tov | none => x.tov) else h1.fus.appliedTov
  let (v, h2) := nis256 32 nis { h1 with fus := { h1.fus with hist := hist, ego := now, fixes := keep, appliedTov := app } }
  h2.finishId x.op (if pass then ST_OK else ST_FUS_REJECTED) x.tov v

/-! ## Records (R569 to R571) -/

/-- Bytes of a record from exact values: kind 0 signed, kind 1 unsigned and saturating, kind 2 a fraction of a revolution, kind 3
unsigned. A value between two whole numbers is rounded either way; one that a field of kind 0 or 3 cannot hold is open. -/
def fmtFields : List (Nat × Nat × Q) → Hw → List Byte × Hw
  | [], h => ([], h)
  | (n, kind, q) :: r, h =>
    let (x, h1) := h.openRound q
    let w := 8 * n
    let (v, h2) := if kind = 1 then (if x < 0 then 0 else satN w x.toNat, h1)
      else if kind = 2 ∨ (kind = 0 ∧ x = satI w x) ∨ (kind = 3 ∧ 0 ≤ x ∧ x < 2 ^ w) then (ux w x, h1)
      else (let (y, g) := h1.fresh
            (y % 2 ^ w, g))
    let (bs, h3) := fmtFields r h2
    (leBytes n v ++ bs, h3)

/-- The readers of a stream. -/
def fusReaders (h : Hw) : List Nat := (List.range 8).filter (fun p => bit (h.get F.FUS_OWNER_READERS) p)

/-- Writes a record to every reader's queue of a stream, counting what is dropped (R569). -/
def fusPut (h : Hw) (stream : Nat) (bs : List Byte) (tov : Nat) : Hw :=
  (fusReaders h).foldl (fun g p =>
    let (g1, ok) := bufPut g true (qKey (7 + stream) p) bs tov
    if ok then g1 else (g1.bump F.FUS_CNT_COUNT 6).log 0x0C06 p true) h

/-- An SD in thousandths. -/
def sdOf (v : Q) (scale : Int) : Q := qmul (Config.elem 6 [v]) (qi scale)

/-- The better of two wheel states: OK, and else one of the two (Table 12.8). -/
def bestWheel (h : Hw) : Nat × Hw :=
  let a := wheelState h 0
  let b := wheelState h 1
  if a = 1 ∨ b = 1 then (1, h) else if a = b then (a, h) else
    let (x, g) := h.fresh
    (if x % 2 = 0 then a else b, g)

/-- The oldest of the inputs in use at a step instant (R570). -/
def egoOldest (h : Hw) (t : Nat) : Nat :=
  let imu := match h.sfe.imu with | s :: _ => [s.1] | [] => []
  let wh := [0, 1].flatMap (fun i => if wheelState h i = 1 then
    (match mget h.sfe.spd (wheelCh h i) with | some (u, _) => [u] | none => []) else [])
  let fx := if h.get F.FUS_STATUS_GNSS = 1 then (match h.fus.appliedTov with | some u => [u] | none => []) else []
  (imu ++ wh ++ fx).foldl min t

/-- Writes an ego record of a step instant (Table 12.8). -/
def egoRecord (h : Hw) (t : Nat) : Hw :=
  let e := h.fus.ego
  let b := egoBodyV e
  let mm (q : Q) : Q := qmul q (qi 1000)
  let half (q : Q) : Q := qdiv (radRev q) (qi 65536)
  let (wh, h0) := bestWheel h
  let (bs, h1) := fmtFields [(4, 0, mm (vat e.p 0)), (4, 0, mm (vat e.p 1)), (4, 0, mm (vat e.p 2)), (4, 2, radRev (egoHeading e)),
    (2, 0, half (Config.elem 3 e.q)), (2, 0, half (Config.elem 4 e.q)), (2, 0, mm (vat b 0)), (2, 0, mm (vat b 1)),
    (4, 0, qmul e.yaw (qi 1000000)), (8, 0, qmul e.d (qi 1000000)), (2, 1, sdOf (mat e.cov 0 0) 1000), (2, 1, sdOf (mat e.cov 1 1) 1000),
    (2, 1, sdOf (vat (Config.vecs 6 [qi 2, mat e.cov 6 6, mat e.cov 7 7, mat e.cov 8 8]) 0) 10000)] h0
  let st := h.get F.FUS_STATUS_STEP + 8 * h.get F.FUS_STATUS_EGO
  let inp := h.get F.FUS_STATUS_GNSS + 4 * wh + 16 * b2n (imuWithin h 2000000)
  let (age, h2) := fmtFields [(4, 1, mkQ (t - egoOldest h t : Nat) 1000)] h1
  fusPut h2 0 (leBytes 8 t ++ bs ++ [BitVec.ofNat 8 st, BitVec.ofNat 8 inp] ++ age ++ zeros 8) t

/-! ## Tracks (R551 to R563) -/

/-- Sine and cosine. -/
def qsin (x : Q) : Q := Config.elem 0 [x]
/-- Cosine. -/
def qcos (x : Q) : Q := Config.elem 1 [x]

/-- The ego pose at a time: position, heading, velocity, yaw rate and horizontal covariance, between the two stored steps around
it (R551). -/
structure Pose where
  e : Q
  n : Q
  hdg : Q
  v : List Q
  yaw : Q
  cov : List (List Q)

/-- The horizontal block of a covariance. -/
def horiz (m : List (List Q)) : List (List Q) := mkMat 2 2 (mat m)

/-- The pose interpolated at a time from the history, newest first. -/
def poseAt (hist : List (Ego × EgoIn)) (now : Ego) (t : Nat) : Pose :=
  let n := t / 500000
  let a := match histAt hist n with | some (e, _) => e | none => now
  let b := match histAt hist (n + 1) with | some (e, _) => e | none => now
  let u := mkQ (t % 500000 : Nat) 500000
  let mix (x y : Q) : Q := qadd x (qmul u (qsub y x))
  let ha := egoHeading a
  ⟨mix (vat a.p 0) (vat b.p 0), mix (vat a.p 1) (vat b.p 1), qadd ha (qmul u (Config.elem 5 [qsub (egoHeading b) ha])),
   [mix (vat a.v 0) (vat b.v 0), mix (vat a.v 1) (vat b.v 1)], mix a.yaw b.yaw,
   mkMat 2 2 (fun i j => mix (mat a.cov i j) (mat b.cov i j))⟩

/-- A detection in the world frame: class, HAS, east, north, heading, velocity, extent, curvature, covariance of the position,
variances of heading, velocity and extent, USER. -/
structure Det where
  cls : Nat
  has : Nat
  e : Q
  n : Q
  hdg : Q
  v : List Q
  ext : Q
  curv : Q
  cov : List (List Q)
  vHdg : Q
  vV : Q
  vExt : Q
  user : Nat

/-- The axes of a frame whose x axis has a heading: the columns are x and y to its left, in east and north. -/
def axes (hdg : Q) : List (List Q) := [[qsin hdg, qneg (qcos hdg)], [qcos hdg, qsin hdg]]

/-- Places a detection entry of a source in the world frame (R551, Table 12.3). -/
def placeDet (h : Hw) (src : Nat) (p : Pose) (d : List Byte) : Det :=
  let yaw := revRad (h.get F.FUS_SRC_YAW_YAW src)
  let body := axes p.hdg
  let sens := axes (qsub p.hdg yaw)
  let mount := [milli (h.getS F.FUS_SRC_POSE_X src), milli (h.getS F.FUS_SRC_POSE_Y src)]
  let s32 (i : Nat) : Q := milli (sx 32 (fld d i 4))
  let xy := vadd (vadd (mvec body mount) (mvec sens [s32 4, s32 8])) [p.e, p.n]
  let arm := mvec body [qneg (qmul p.yaw (vat mount 1)), qmul p.yaw (vat mount 0)]
  let c := [[f32 (fld d 32 4), f32 (fld d 40 4)], [f32 (fld d 40 4), f32 (fld d 36 4)]]
  { cls := fld d 0 1 % 4, has := fld d 1 1 % 16, e := vat xy 0, n := vat xy 1,
    hdg := qadd (qsub p.hdg yaw) (revRad (fld d 12 4)), v := vadd (vadd (mvec sens [s32 16, s32 20]) p.v) arm,
    ext := milli (fld d 24 4), curv := mkQ (sx 32 (fld d 28 4)) 1000000,
    cov := madd (mmul (mmul sens c) (mtr sens)) p.cov, vHdg := f32 (fld d 44 4), vV := f32 (fld d 48 4),
    vExt := f32 (fld d 52 4), user := fld d 60 4 }

/-- Predicts a track to a time (Table 12.5): classes 0 to 2 keep their states, a vehicle moves with constant acceleration and turns
with its yaw rate; the process noise takes QLIN and QANG. -/
def trackPredict (h : Hw) (t : Nat) (x : Track) : Track :=
  let dt := mkQ (t - x.at_ : Nat) 1000000000
  let q := Config.mats 3 [qi x.cls, mkQ (h.get F.FUS_CLS_Q_QLIN x.cls) 1000, mkQ (h.get F.FUS_CLS_Q_QANG x.cls) 10000, dt] []
  if t ≤ x.at_ then x
  else if x.cls = 3 then
    let h2 := qdiv (qsq dt) (qi 2)
    let fm := mkMat 8 8 (fun i j => if i = j then qi 1 else if i < 4 ∧ j = i + 2 then dt else if i < 2 ∧ j = i + 4 then h2
      else if i = 6 ∧ j = 7 then dt else qi 0)
    { x with xs := (mvec fm x.xs).map (Config.fl 32), at_ := t,
             cov := (madd (mmul (mmul fm x.cov) (mtr fm)) q).map (·.map (Config.fl 32)) }
  else { x with at_ := t, cov := (madd x.cov (q.map (vscale dt))).map (·.map (Config.fl 32)) }

/-- Moves the point of a line track along its arc to the foot of the perpendicular from a detection: θ advances by κ × s (R553). -/
def trackFoot (x : Track) (d : Det) : Track :=
  if x.cls < 2 then
    let f := Config.vecs 4 (d.e :: d.n :: x.xs)
    { x with xs := [vat f 0, vat f 1, qadd (vat x.xs 2) (qmul (vat x.xs 3) (vat f 2))] ++ x.xs.drop 3 }
  else x

/-- A row of zeros with one entry 1. -/
def unitRow (n i : Nat) : List Q := (List.range n).map (fun j => qi (b2n (j == i)))

/-- The measurement a detection gives a track, already moved to its foot (Table 12.5). -/
def trackObs (x : Track) (d : Det) : Obs :=
  let n := x.xs.length
  let ang (i : Nat) : List Q × List (List Q) × List Q :=
    if bit d.has 0 then ([Config.elem 5 [qsub d.hdg (vat x.xs i)]], [unitRow n i], [d.vHdg]) else ([], [], [])
  let ext (i : Nat) : List Q × List (List Q) × List Q :=
    if bit d.has 2 then ([qsub d.ext (vat x.xs i)], [unitRow n i], [d.vExt]) else ([], [], [])
  if x.cls < 2 then
    let nrm := [qcos (vat x.xs 2), qneg (qsin (vat x.xs 2))]
    let off := vdot nrm [qsub d.e (vat x.xs 0), qsub d.n (vat x.xs 1)]
    let row := nrm ++ List.replicate (n - 2) (qi 0)
    let (a, b, c) := ang 2
    let (a2, b2, c2) := if bit d.has 3 then
        ([qsub d.curv (vat x.xs 3)], [unitRow n 3], [vat (Config.vecs 6 [qi 3, qi x.cls]) 0]) else ([], [], [])
    let (a3, b3, c3) := if x.cls = 1 then ext 4 else ([], [], [])
    ⟨off :: a ++ a2 ++ a3, row :: b ++ b2 ++ b3, mdiag (vdot nrm (mvec d.cov nrm) :: c ++ c2 ++ c3)⟩
  else
    let de := [qsub d.e (vat x.xs 0), qsub d.n (vat x.xs 1)]
    let (a, b, c) := if x.cls = 3 then ang 6 else ext 2
    let (a2, b2, c2) := if x.cls = 3 ∧ bit d.has 1 then
        ([qsub (vat d.v 0) (vat x.xs 2), qsub (vat d.v 1) (vat x.xs 3)], [unitRow n 2, unitRow n 3], [d.vV, d.vV]) else ([], [], [])
    let m := 2 + a.length + a2.length
    let tail := mdiag (c ++ c2)
    ⟨de ++ a ++ a2, unitRow n 0 :: unitRow n 1 :: b ++ b2,
     mkMat m m (fun i j => if i < 2 ∧ j < 2 then mat d.cov i j else if 2 ≤ i ∧ 2 ≤ j then mat tail (i - 2) (j - 2) else qi 0)⟩

/-- The pairs of a batch that pass their class's gate: d²/m, track index, detection index (R555). -/
def gatePairs (h : Hw) (ts : Map Track) (ds : List Det) : List (Q × Nat × Nat) :=
  ts.flatMap (fun (i, x) => ds.zipIdx.filterMap (fun (d, j) =>
    if x.cls = d.cls then
      let y := trackFoot x d
      let nis := obsNis y.cov (trackObs y d)
      if qle nis (mkQ (h.get F.FUS_CLS_GATE x.cls) 256) then some (nis, i, j) else none
    else none))

/-- Keeps, of pairs in order, those whose track and detection are still free. -/
def takeFree : List (Q × Nat × Nat) → List Nat → List Nat → List (Q × Nat × Nat)
  | [], _, _ => []
  | (q, i, j) :: r, ti, dj => if ti.contains i || dj.contains j then takeFree r ti dj else (q, i, j) :: takeFree r (i :: ti) (j :: dj)

end Sys2Proof.Machine
end

