-- ==== Sys2Proof/Machine/Fusion.lean ====
section
/-!
DEFINITION. The commands of the fusion engine (chapter 12). Readings: log entry 29.
-/
namespace Sys2Proof.Machine

/-! ## Enabling -/

/-- A hart writes FUS registers: through the view of the owning partition (R523). -/
def Hw.byFus (h : Hw) (hart : Nat) : Bool := h.hartRuns hart && h.hartPart hart == some (h.get F.FUS_OWNER_OWNER)

/-- A number lies in a range. -/
def within (x lo hi : Nat) : Bool := decide (lo ≤ x) && decide (x ≤ hi)

/-- The checks of an enable (R576). -/
def fusCheck (h : Hw) : Nat :=
  let cy := h.get F.FUS_TIMING_CYCLE
  let lag := h.get F.FUS_TIMING_LAG
  firstBad [(within cy 20 1000 && within lag 0 980 && decide (lag + cy ≤ 1000) && within (h.get F.FUS_EGO_CFG_IMU_ROT) 0 23
    && within (h.get F.FUS_EGO_CFG_OUT_DIV) 1 2000 && within (h.get F.FUS_EGO_CFG_REJ_N) 1 15
    && within (h.get F.FUS_EGO_CFG_READMIT_N) 1 255 && within (h.get F.FUS_EGO_NOISE_NHC_SD) 1 65535
    && within (h.get F.FUS_EGO_NOISE_WHEEL_SD) 1 1000 && within (h.get F.FUS_DEG_RECOVER) 1 255
    && within (h.get F.FUS_DEG_HOLD_SD) 1 65535 && within (h.get F.FUS_FIX_STALE) 100 10000
    && [0, 1].all (fun i => within (wheelCh h i) 0 39 && within (h.get F.FUS_WHEEL_DIR i) 0 2
      && within (h.get F.FUS_WHEEL_DIV_DIV i) 1 1000000)
    && (List.range 16).all (fun s => h.get F.FUS_SRC_PCLASS s != 3 && within (h.get F.FUS_SRC_STALE s) 1 65535
      && within (h.get F.FUS_SRC_TEST_WINDOW s) 10 255)
    && (List.range 4).all (fun c => within (h.get F.FUS_CLS_BIRTH_N c) 1 8 && within (h.get F.FUS_CLS_BIRTH_M c) 1 (h.get F.FUS_CLS_BIRTH_N c)
      && within (h.get F.FUS_CLS_CONF_N c) 1 8 && within (h.get F.FUS_CLS_CONF_M c) 1 (h.get F.FUS_CLS_CONF_N c)
      && within (h.get F.FUS_CLS_DEL_DEL_MISS c) 1 255 && within (h.get F.FUS_CLS_DEL_COAST c) 1 65535), ST_FUS_CONFIG)]

/-- The length of a cycle in ns. -/
def cycleNs (h : Hw) : Nat := 1000000 * h.get F.FUS_TIMING_CYCLE

/-- The fusion time of a cycle (R547). -/
def fusionTime (h : Hw) (j : Nat) : Int := (j * cycleNs h : Nat) - (1000000 * h.get F.FUS_TIMING_LAG : Nat)

/-- Sets a source's state as it is enabled or disabled while the engine runs. -/
def srcReset (h : Hw) (s : Nat) : Hw :=
  let on := h.flag F.FUS_CTRL_EN && h.flag F.FUS_SRC_EN s
  (({ h with fus := { h.fus with srcAt := mset h.fus.srcAt s h.now, srcNis := mset h.fus.srcNis s [] } }).put
    F.FUS_SRC_STATUS_STATE (b2n on) s).put F.FUS_SRC_STATUS_MNIS 0 s

/-- The engine stops: no tracks, history or ego state is left (R575); fixes and batches held stay unless the owner stops. -/
def fusOff (h : Hw) : Hw :=
  let f := h.fus
  let h1 := { h with fus := { inits := f.inits, fixes := f.fixes, batches := f.batches, gens := f.gens } }
  let h2 := (((((h1.put F.FUS_CTRL_EN 0).put F.FUS_STATUS_STEP 4).put F.FUS_STATUS_EGO 0).put F.FUS_STATUS_GNSS 0).put
    F.FUS_STATUS_WHEEL0 0).put F.FUS_STATUS_WHEEL1 0
  showAvail ((List.range 16).foldl srcReset h2)

/-- The engine is disabled and everything it holds is dropped, as the partition that owns it stops (R575). -/
def fusStop (h : Hw) : Hw :=
  let h1 := fusOff h
  { h1 with fus := { gens := h1.fus.gens } }

/-- The engine starts UNALIGNED and in G4 (R574); the filter's first values are not given. -/
def fusStart (h : Hw) : Hw :=
  let (x, h1) := h.fresh
  let v := Config.vecs 7 [qi 0, qi x]
  let part (i n : Nat) := (v.drop i).take n
  let ego : Ego := { p := part 0 3, v := part 3 3, q := part 6 4, bg := part 10 3, ba := part 13 3, k := vat v 16,
                     cov := Config.mats 2 [qi 0, qi x] [] }
  let h2 := { h1 with fus := { h1.fus with step := h.tb / 500000 + 1, cyc := h.tb / cycleNs h + 1, ego := ego } }
  let h3 := ((((h2.put F.FUS_CTRL_EN 1).put F.FUS_STATUS_STEP 4).put F.FUS_STATUS_EGO 0).put F.FUS_STATUS_GNSS 2).put
    F.FUS_STATUS_ERR ST_OK
  let h4 := [0, 1].foldl (fun g i => setWheelState g i (if wheelIn g i then 1 else 2)) h3
  showAvail ((List.range 16).foldl srcReset h4)

/-- A write to FUS_CTRL (R576). -/
def fusCtrlWrite (h : Hw) (v : Nat) : Hw :=
  let on := h.flag F.FUS_CTRL_EN
  if v % 2 = 0 then (if on then fusOff h else h)
  else if on then h
  else if fusCheck h = ST_OK then fusStart h else h.put F.FUS_STATUS_ERR (fusCheck h)

/-- FUS_ENABLE: a hart of the owner writes FUS_CTRL with EN = 1. -/
def execFusEnable (dt : Nat) (hart : Fin 19) (s : State) : Out :=
  run dt s fun h => if h.byFus hart then fusCtrlWrite h 1 else h

/-! ## Descriptors (R526 to R532) -/

/-- The pieces of a DETECT's entries. -/
def detPieces (h : Hw) (d : List Byte) : List (Nat × Nat) :=
  if bit (fld d 0 1) 4 then sgPieces h (fld d 16 8) (fld d 4 2) else [(fld d 16 8, 64 * fld d 2 2)]

/-- An entry keeps to Table 12.3. -/
def detOk (d : List Byte) : Bool := decide (fld d 0 1 < 4) && decide (fld d 1 1 < 16) && fld d 2 2 == 0 && fld d 58 2 == 0

/-- Entries of 64 bytes. -/
def chunks64 : Nat → List Byte → List (List Byte)
  | 0, _ => []
  | n + 1, bs => bs.take 64 :: chunks64 n (bs.drop 64)

/-- A batch is late: the engine runs, and its TOV lies at or before the fusion time of the last cycle started (R549). -/
def batchLate (h : Hw) (tov : Nat) : Bool := h.flag F.FUS_CTRL_EN && decide ((tov : Int) ≤ fusionTime h (h.fus.cyc - 1))

/-- Ends a batch as late or overloaded (R548, R549). -/
def batchLost (h : Hw) (op n st : Nat) (tov : Nat) : Hw :=
  let h1 := { h with fus := { h.fus with lateN := h.fus.lateN + n } }
  ((h1.bump F.FUS_CNT_COUNT (if st = ST_FUS_LATE then 0 else 1)).log 0x0C05 0xFFFF true).finishId op st tov

/-- DETECT: the batch joins the buffer, waits for room, or is late (R530, R548, R549, R564). -/
def execDetect (dt id : Nat) (s : State) : Out :=
  run dt s fun h => h.onOp id 9 1 fun f =>
    let d := f.desc
    let src := fld d 1 1 % 16
    let n := fld d 2 2
    let tov := fld d 8 8
    let held := (h.fus.batches.map (·.dets.length)).sum
    if h.fus.batches.any (fun b => b.op == id) then h
    else if 16384 < held + n then h.waitHead f
    else
      let h1 := h.goesOn f
      let h2 := { h1 with fus := { h1.fus with srcAt := mset h1.fus.srcAt src h1.now } }
      if batchLate h2 tov then batchLost h2 id n ST_FUS_LATE h.tb
      else h2.engRead f (detPieces h2 d) fun h3 =>
        let es := chunks64 n (gather h3 (detPieces h3 d))
        if !es.all detOk then h3.finish f ST_BAD_DESCRIPTOR h3.tb
        else
          let h4 := { h3 with fus := { h3.fus with batches := h3.fus.batches ++ [⟨id, src, tov, f.cpl.tov, es⟩] } }
          if h4.get F.FUS_SRC_STATUS_STATE src = 2 then fusJudge (h4.put F.FUS_SRC_STATUS_STATE 1 src) else h4

/-- Fixes leave the buffer once their TOV is older than 1,000 ms (R531). -/
def dropFixes (h : Hw) : Hw :=
  { h with fus := { h.fus with fixes := h.fus.fixes.filter (fun x => !(x.tested && decide (x.tov + 1000000000 < h.tb))) } }

/-- FIX: the fix joins the buffer of at most 64 (R530). -/
def execFix (dt id : Nat) (s : State) : Out :=
  run dt s fun h => h.onOp id 9 2 fun f =>
    let h1 := dropFixes h
    if h1.fus.fixes.any (fun x => x.op == id) then h1
    else if 64 ≤ h1.fus.fixes.length then
      ((h1.bump F.FUS_CNT_COUNT 1).log 0x0C05 0xFFFF true).finish f ST_FUS_OVERLOAD h1.tb
    else { h1 with fus := { h1.fus with fixes := h1.fus.fixes ++ [⟨id, f.desc, fld f.desc 8 8, false⟩] } }

/-- INIT: it is applied at the next propagator step (R542). -/
def execInit (dt id : Nat) (s : State) : Out :=
  run dt s fun h => h.onOp id 9 3 fun _ =>
    if h.fus.inits.contains id then h else { h with fus := { h.fus with inits := h.fus.inits ++ [id] } }

/-- OUTBUF: the buffer joins the partition's queue of its stream (R569). -/
def execOutbuf (dt id : Nat) (s : State) : Out :=
  run dt s fun h => h.onOp id 9 4 fun f => bufPost h (qKey (7 + fld f.desc 1 1 % 2) f.part) f

/-! ## The propagator step (R534 to R546) -/

/-- Measures the inputs of a step, testing the wheels first (R534 to R536, R546). -/
def egoInputs (h : Hw) (n : Nat) (l0 l1 : Bool) : EgoIn × Hw :=
  let (s0, h0) := wheelSpeed h 0 l0
  let (s1, h1) := wheelSpeed h0 1 l1
  let h2 := wheelTest (wheelTest h1 0 s0) 1 s1
  let a0 := wheelState h2 0 == 1
  let a1 := wheelState h2 1 == 1
  let mean := if a0 && a1 then some (qdiv (qadd s0 s1) (qi 2)) else if a0 then some s0 else if a1 then some s1 else none
  let st := h2.get F.FUS_STATUS_EGO
  let (x, h3) := if mean.isNone && st == 0 then h2.fresh else (0, h2)
  let dy := h2.getS F.FUS_WHEEL_Y 1 - h2.getS F.FUS_WHEEL_Y 0
  let turn := if a0 && a1 && dy != 0 then some (qdiv (qsub s0 s1) (milli dy)) else none
  let (w, f, h4) := imuMean h3 (500000 * n)
  (⟨n, w, f, mean, wheelQuiet h 0 500000000 && wheelQuiet h 1 500000000, turn,
    (match mean with | some m => m | none => if st = 0 then mkQ x 1000 else qi 0), st == 1,
    mkQ (h.get F.FUS_EGO_NOISE_WHEEL_SD) 1000, milli (h.get F.FUS_EGO_NOISE_NHC_SD), []⟩, h4)

/-- Sends the step's ground distance to every fusion-fed linear domain (R539, R540). -/
def egoSend (h : Hw) (t : Nat) : Hw :=
  if h.get F.FUS_STATUS_EGO = 2 ∧ wheelAvail h = false then h
  else
    let e := h.fus.ego
    (List.range 16).foldl (fun g i =>
      if g.get F.WGL_DOM_CFG_TYPE i = 2 ∧ g.get F.WGL_DOM_CFG_SRC i = 1 then
        let (pos, g1) := g.openRound (qmul e.d (qi 1000000))
        let u : Upd := ⟨pos, qdiv e.vf (qi 1000), qdiv e.acc (qi (10 ^ 12)), t⟩
        { g1 with wgl := { g1.wgl with sent := mset g1.wgl.sent i (mgetD g1.wgl.sent i [] ++ [u]) } }
      else g) h

/-- Applies the INITs that wait (R542). -/
def egoInits (h : Hw) (t : Nat) : Hw :=
  h.fus.inits.foldl (fun g id =>
    match g.flight id, g.fus.hist with
    | some f, (e, i) :: r =>
      let e' := initApply e f.desc
      let g1 := { g with fus := { g.fus with ego := e', hist := (e', { i with fixes := i.fixes ++ [f.desc] }) :: r, before := 1 } }
      (if g.get F.FUS_STATUS_EGO = 2 then g1 else g1.put F.FUS_STATUS_EGO 1).finish f ST_OK t
    | _, _ => g) h

/-- EGO_STEP: the next propagator step, once its instant has come; `l0` and `l1` are the levels of the wheels' direction inputs
(R534 to R546, R570). -/
def execEgoStep (dt : Nat) (l0 l1 : Bool) (s : State) : Out :=
  run dt s fun h =>
    let n := h.fus.step
    let t := 500000 * n
    if !h.flag F.FUS_CTRL_EN || decide (h.tb < t) then h else
      let (i, h1) := egoInputs h n l0 l1
      let e := egoAdvance h1.fus.ego i
      let h2 := { h1 with fus := { h1.fus with step := n + 1, ego := e, hist := ((e, i) :: h1.fus.hist).take 2000 } }
      let h3 := egoInits h2 t
      let h4 := { h3 with fus := { h3.fus with inits := [] } }
      let due := sortBy (fun x y => decide (x.tov ≤ y.tov)) (h4.fus.fixes.filter (fun x => !x.tested && decide (x.tov ≤ t)))
      let h5 := dropFixes (due.foldl fixTest h4)
      let h6 := egoSend h5 t
      let h7 := if n % h6.get F.FUS_EGO_CFG_OUT_DIV = 0 then egoRecord h6 t else h6
      fusJudge h7

/-- IMU_TIMEOUT: no IMU sample has arrived for 2 ms (R542). -/
def execImuTimeout (dt : Nat) (s : State) : Out :=
  run dt s fun h =>
    let st := h.get F.FUS_STATUS_EGO
    if !h.flag F.FUS_CTRL_EN || st == 2 || imuWithin h 2000000 then h
    else fusJudge (({ h with fus := { h.fus with before := st } }.put F.FUS_STATUS_EGO 2).log 0x0C08)

/-- EGO_FAULT_EXIT: 100 ms have passed since samples resumed (R542). -/
def execEgoFaultExit (dt : Nat) (s : State) : Out :=
  run dt s fun h =>
    match imuSince h with
    | some t =>
      if h.flag F.FUS_CTRL_EN && h.get F.FUS_STATUS_EGO == 2 && imuWithin h 2000000 && decide (t + 100000000 ≤ h.tb)
      then fusJudge (h.put F.FUS_STATUS_EGO h.fus.before) else h
    | none => h

/-- GNSS_LOST: no fix with a TOV of the last STALE ms has been tested (R544). -/
def execGnssLost (dt : Nat) (s : State) : Out :=
  run dt s fun h =>
    let old := match h.fus.fixTov with | some t => decide (t + 1000000 * h.get F.FUS_FIX_STALE ≤ h.tb) | none => true
    if h.flag F.FUS_CTRL_EN && h.get F.FUS_STATUS_GNSS == 1 && old then fusJudge (h.put F.FUS_STATUS_GNSS 2) else h

/-- GNSS_HOLDOFF_END: HOLDOFF s after the rejection, fixes begin to count for readmission (R545). -/
def execGnssHoldoffEnd (dt : Nat) (s : State) : Out :=
  run dt s fun h =>
    let g := h.fus.gnss
    if h.flag F.FUS_CTRL_EN && h.get F.FUS_STATUS_GNSS == 3 && !g.open_
        && decide (g.since + 1000000000 * h.get F.FUS_DEG_HOLDOFF ≤ h.now) then
      { h with fus := { h.fus with gnss := { g with open_ := true, passes := 0 } } }
    else h

/-! ## The tracker cycle (R547 to R563) -/

/-- Judges a source's window after one more association (R562, R563). -/
def srcPush (h : Hw) (s : Nat) (nis : Q) : Hw :=
  let win := h.get F.FUS_SRC_TEST_WINDOW s
  let l := (nis :: mgetD h.fus.srcNis s []).take win
  let mean := qdiv (l.foldl qadd (qi 0)) (qi l.length)
  let (x, h0) := h.openRound (qmul mean (qi 256))
  let h1 := { h0 with fus := { h0.fus with srcNis := mset h0.fus.srcNis s l } }.put F.FUS_SRC_STATUS_MNIS (satN 16 x.toNat) s
  let lim := mkQ (h.get F.FUS_SRC_TEST_NIS_MAX s) 16
  let full := l.length == win
  let st := h.get F.FUS_SRC_STATUS_STATE s
  if full && st == 1 && qlt lim mean then
    ({ h1 with fus := { h1.fus with srcNis := mset h1.fus.srcNis s [] } }.put F.FUS_SRC_STATUS_STATE 3 s).log 0x0C03 s
  else if full && st == 3 && qle mean (qdiv lim (qi 2)) then h1.put F.FUS_SRC_STATUS_STATE 1 s
  else h1

/-- Updates a track by an assigned detection (R557). -/
def trackHit (x : Track) (d : Det) (src tov : Nat) : Track :=
  let y := trackFoot x d
  let (dx, c) := obsUpdate y.cov (trackObs y d)
  { y with xs := (vadd y.xs dx).map (Config.fl 32), cov := c, lastHit := tov, hitNow := true,
           srcHits := mset y.srcHits src (tov, y.obs + 1) }

/-- The states and covariance of a new track: its measured states are the detection's; the others are not given. -/
def trackBorn (d : Det) : List Q × List (List Q) :=
  let v := Config.vecs 5 [qi d.cls, d.e, d.n, d.hdg, vat d.v 0, vat d.v 1, d.ext, d.curv]
  let has (i : Nat) (x : Q) (k : Nat) : Q := if bit d.has i then x else vat v k
  let xs := match d.cls with
    | 0 => [d.e, d.n, has 0 d.hdg 2, has 3 d.curv 3]
    | 1 => [d.e, d.n, has 0 d.hdg 2, has 3 d.curv 3, has 2 d.ext 4]
    | 2 => [d.e, d.n, has 2 d.ext 2]
    | _ => [d.e, d.n, has 1 (vat d.v 0) 2, has 1 (vat d.v 1) 3, vat v 4, vat v 5, has 0 d.hdg 6, vat v 7]
  (xs, Config.mats 4 [qi d.cls, d.vHdg, d.vV, d.vExt] d.cov)

/-- A candidate track from an unassigned detection, at an index left open among the free ones; refused where the table is full or
the class has its limit (R557, R561). -/
def trackNew (h : Hw) (d : Det) (src tov : Nat) : Hw × Bool :=
  let cands := (h.fus.tracks.filter (fun (_, x) => x.cls == d.cls && x.state == 0)).length
  if Config.candLimit d.cls ≤ cands then (h, false)
  else if 512 ≤ h.fus.tracks.length then ((h.bump F.FUS_CNT_COUNT 3).log 0x0C07 0xFFFF true, false)
  else
    let free := (List.range 512).filter (fun i => (mget h.fus.tracks i).isNone)
    let (x, h1) := h.fresh
    let i := free.getD (x % free.length) 0
    let (xs, c) := trackBorn d
    let t : Track := { cls := d.cls, state := 0, xs := xs, cov := c, at_ := tov, gen := mgetD h.fus.gens i 0, user := d.user,
                       lastHit := tov, hitNow := true, srcHits := [(src, (tov, 1))] }
    ({ h1 with fus := { h1.fus with tracks := mset h1.fus.tracks i t } }, true)

/-- Rank of pairs: d²/m, track index, detection index (R556). -/
def pairLe (x y : Q × Nat × Nat) : Bool :=
  if qlt x.1 y.1 then true else if qlt y.1 x.1 then false
  else if x.2.1 = y.2.1 then decide (x.2.2 ≤ y.2.2) else decide (x.2.1 ≤ y.2.1)

/-- Processes a batch: detections associated and candidates created (R551 to R557). In G3 and G4 tracks coast only. -/
def batchRun (h : Hw) (b : DBatch) : Hw × Nat × Nat :=
  if 3 ≤ h.get F.FUS_STATUS_STEP then (h, 0, 0)
  else
    let pose := poseAt h.fus.hist h.fus.ego b.tov
    let ds := b.dets.map (placeDet h b.src pose)
    let ts := h.fus.tracks.map (fun (i, x) => (i, trackPredict h b.tov x))
    let st := h.get F.FUS_SRC_STATUS_STATE b.src
    let as := takeFree (sortBy pairLe (gatePairs h ts ds)) [] []
    let ts1 := if st = 3 then ts else as.foldl (fun m (_, i, j) =>
      match mget m i, ds[j]? with | some x, some d => mset m i (trackHit x d b.src b.tov) | _, _ => m) ts
    let h1 := as.foldl (fun g (q, _, _) => srcPush g b.src q) { h with fus := { h.fus with tracks := ts1 } }
    let rest := (ds.zipIdx.filter (fun (_, j) => !as.any (fun a => a.2.2 == j))).map (·.1)
    let (h2, n) := if st = 1 then rest.foldl (fun (g, n) d => let (g1, ok) := trackNew g d b.src b.tov; (g1, n + b2n ok)) (h1, 0)
      else (h1, 0)
    (h2, as.length, n)

/-- What a cycle has done so far: detections processed, track classes that a batch of an OK source covers, and whether a batch has
passed the limit. -/
structure CycleAcc where
  n : Nat := 0
  seen : List Nat := []
  full : Bool := false

/-- Takes a batch of a cycle, or refuses it and those after it beyond 4,096 detections (R548, R550). -/
def cycleBatch (tf : Nat) (x : Hw × CycleAcc) (b : DBatch) : Hw × CycleAcc :=
  let (h, a) := x
  let n := b.dets.length
  if a.full || decide (4096 < a.n + n) then (batchLost h b.op n ST_FUS_OVERLOAD tf, { a with full := true })
  else
    let ok := h.get F.FUS_SRC_STATUS_STATE b.src == 1 && decide (h.get F.FUS_STATUS_STEP < 3)
    let seen := if ok then (List.range 4).filter (fun c => bit (h.get F.FUS_SRC_TMASK b.src) c) else []
    let (h1, k, m) := batchRun h b
    (h1.finishId b.op ST_OK tf k m, { a with n := a.n + n, seen := a.seen ++ seen })

/-- A track at the end of a cycle: hit, miss or unobserved, and its next state (R559, R560). -/
def trackLife (h : Hw) (tf : Nat) (seen : List Nat) (x : Track) : Track :=
  let observed := x.hitNow || seen.contains x.cls
  let y := if observed then
      { x with hits := (x.hitNow :: x.hits).take 8, obs := x.obs + 1, miss := if x.hitNow then 0 else min (x.miss + 1) 255 }
    else x
  let count (n : Nat) : Nat := ((y.hits.take n).filter id).length
  let bm := h.get F.FUS_CLS_BIRTH_M x.cls
  let bn := h.get F.FUS_CLS_BIRTH_N x.cls
  let dead := decide (h.get F.FUS_CLS_DEL_DEL_MISS x.cls ≤ y.miss)
    || decide (y.lastHit + 100000000 * h.get F.FUS_CLS_DEL_COAST x.cls ≤ tf)
    || (y.state == 0 && decide (count 8 < bm) && decide (count 8 + (bn - y.obs) < bm))
  let st := if dead then 3
    else if y.state = 0 ∧ bm ≤ count bn then 1
    else if y.state = 1 ∧ h.get F.FUS_CLS_CONF_M x.cls ≤ count (h.get F.FUS_CLS_CONF_N x.cls) then 2
    else y.state
  { y with state := st }

/-- The oldest last hit of the sources that hit a track in its last 8 observed cycles (Table 12.9). -/
def trackOldest (x : Track) (tf : Nat) : Nat :=
  (x.srcHits.filter (fun (_, _, o) => decide (x.obs < o + 8))).foldl (fun m (_, t, _) => min m t) tf

/-- The record of a track (Table 12.9); a field its class has no state for is open unless the table gives it. -/
def trackRecord (h : Hw) (i : Nat) (x : Track) (tf : Nat) : List Byte × Hw :=
  let mm (q : Q) : Q := qmul q (qi 1000)
  let line := decide (x.cls < 2)
  let (o1, h1) := h.fresh
  let (o2, h2) := h1.fresh
  let (o3, h3) := h2.fresh
  let ang := if x.cls = 3 then 6 else 2
  let open_ (o w : Nat) : Q := qi (o % 2 ^ w : Nat)
  let (a, h4) := fmtFields [(4, 0, mm (vat x.xs 0)), (4, 0, mm (vat x.xs 1)),
    (4, 2, if x.cls = 2 then qi 0 else radRev (vat x.xs ang)),
    if line then (4, 0, qmul (vat x.xs 3) (qi 1000000)) else (4, 3, open_ o1 32),
    (2, 0, if x.cls = 3 then mm (vat x.xs 2) else qi 0), (2, 0, if x.cls = 3 then mm (vat x.xs 3) else qi 0),
    (4, 3, if x.cls = 1 then mm (vat x.xs 4) else if x.cls = 2 then mm (vat x.xs 2) else open_ o2 32),
    (2, 3, sdOf (mat x.cov 0 0) 1000), (2, 3, sdOf (mat x.cov 1 1) 1000),
    (2, 3, if x.cls = 2 then open_ o3 16 else sdOf (mat x.cov ang ang) 10000)] h3
  let (age, h5) := fmtFields [(4, 3, mkQ (tf - trackOldest x tf : Nat) 1000)] h4
  let (yaw, h6) := fmtFields [(4, 0, if x.cls = 3 then qmul (vat x.xs 7) (qi 1000000) else qi 0)] h5
  let bitsOf := (x.hits.zipIdx.map (fun (b, k) => b2n b * 2 ^ k)).sum
  (leBytes 8 tf ++ a ++ leBytes 2 (i + 512 * (x.gen % 128)) ++ age ++ leBytes 4 x.user
    ++ [BitVec.ofNat 8 (x.cls + 4 * x.state), BitVec.ofNat 8 bitsOf, BitVec.ofNat 8 x.miss, BitVec.ofNat 8 (b2n !x.hitNow)] ++ yaw
    ++ zeros 8, h6)

/-- The cycle header (Table 12.9, KIND 1). -/
def cycleHeader (h : Hw) (tf j recs n lost : Nat) : List Byte :=
  let ok := ((List.range 16).map (fun s => b2n (h.get F.FUS_SRC_STATUS_STATE s == 1) * 2 ^ s)).sum
  leBytes 8 tf ++ leBytes 4 j ++ leBytes 4 recs ++ leBytes 4 n ++ leBytes 4 lost ++ leBytes 2 ok ++ zeros 2
    ++ leBytes 4 (h.get F.FUS_STATUS_STEP) ++ zeros 24 ++ [1] ++ zeros 7

/-- FUSION_CYCLE: the next cycle, once its start has come (R547 to R563, R571). -/
def execFusionCycle (dt : Nat) (s : State) : Out :=
  run dt s fun h =>
    let j := h.fus.cyc
    let start := j * cycleNs h
    if !h.flag F.FUS_CTRL_EN || decide (h.tb < start) then h else
      let tfi := fusionTime h j
      let tf := tfi.toNat
      let came := h.fus.batches.filter (fun b => decide (b.fetched < start) && decide ((b.tov : Int) ≤ tfi))
      let (late, due) := came.partition (fun b => decide ((b.tov : Int) ≤ fusionTime h (j - 1)))
      let left := h.fus.batches.filter (fun b => !came.any (fun c => c.op == b.op))
      let old := h.fus.tracks.map (fun (i, x) => (i, { x with hitNow := false }))
      let h1 := fusJudge { h with fus := { h.fus with cyc := j + 1, batches := left, tracks := old } }
      let h2 := late.foldl (fun g b => batchLost g b.op b.dets.length ST_FUS_LATE tf) h1
      let order := sortBy (fun (x y : DBatch) => if x.tov = y.tov then decide (x.src ≤ y.src) else decide (x.tov < y.tov)) due
      let (h3, a) := order.foldl (cycleBatch tf) (h2, {})
      let ts := h3.fus.tracks.map (fun (i, x) => (i, trackLife h3 tf a.seen (trackPredict h3 tf x)))
      let out := ts.filter (fun (_, x) => x.state != 0)
      let gone := ts.filter (fun (_, x) => x.state == 3)
      let cand := (gone.filter (fun (i, _) => match mget h3.fus.tracks i with | some x => x.state == 0 | none => false)).length
      let h4 := (if cand = 0 then h3 else h3.bump F.FUS_CNT_COUNT 4 0 cand)
      let h5 := (if gone.length = cand then h4 else h4.bump F.FUS_CNT_COUNT 5 0 (gone.length - cand))
      let h6 := fusPut h5 1 (cycleHeader h5 tf j out.length a.n h5.fus.lateN) tf
      let h7 := out.foldl (fun g (i, x) => let (bs, g1) := trackRecord g i x tf; fusPut g1 1 bs tf) h6
      let gens := gone.foldl (fun m (i, x) => mset m i ((x.gen + 1) % 128)) h7.fus.gens
      fusJudge { h7 with fus := { h7.fus with lateN := 0, tracks := ts.filter (fun (_, x) => x.state != 3), gens := gens } }

/-- SOURCE_STALE: an enabled source has had no batch fetched for STALE ms (R564). -/
def execSourceStale (dt : Nat) (src : Fin 16) (s : State) : Out :=
  run dt s fun h =>
    let st := h.get F.FUS_SRC_STATUS_STATE src
    if h.flag F.FUS_CTRL_EN && h.flag F.FUS_SRC_EN src && (st == 1 || st == 3)
        && decide (mgetD h.fus.srcAt src 0 + 1000000 * h.get F.FUS_SRC_STALE src ≤ h.now) then
      fusJudge ((h.put F.FUS_SRC_STATUS_STATE 2 src).log 0x0C04 src)
    else h

/-- DEGRADATION_RECOVER: the condition of a lower-numbered step has held without break for RECOVER (R567). -/
def execDegradationRecover (dt : Nat) (s : State) : Out :=
  run dt s fun h =>
    match h.fus.lower with
    | some (x, t) =>
      if h.flag F.FUS_CTRL_EN && decide (t + 100000000 * h.get F.FUS_DEG_RECOVER ≤ h.now) then
        ({ h with fus := { h.fus with lower := none } }.put F.FUS_STATUS_STEP x).log 0x0C01
      else h
    | none => h

end Sys2Proof.Machine
end

