-- ==== Sys2Proof/Machine/GnssCore.lean ====
section
/-!
DEFINITION. What the GNSS baseband shares with Waggle (chapter 13): the clock solution and its internal PPS, the step of the
timebase (R66, R67), and Foragers. Readings: log entry 30.
-/
namespace Sys2Proof.Machine

/-! ## The clock solution (R601 to R605) -/

/-- TOV of a CLOCK in ns. -/
def clkTov (d : List Byte) : Nat := fld d 8 8
/-- BIAS in ps. -/
def clkBias (d : List Byte) : Int := sx 64 (fld d 16 8)
/-- DRIFT as a fraction; 0 while DRIFT_VALID is 0. -/
def clkDrift (d : List Byte) : Q := if bit (fld d 1 1) 1 then mkQ (sx 32 (fld d 4 4)) (10 ^ 12) else qi 0
/-- SD in ns. -/
def clkSd (d : List Byte) : Nat := fld d 2 2

/-- b′ at a timebase instant, in ns (R603). -/
def clkAt (d : List Byte) (t : Int) : Q := qadd (mkQ (clkBias d) 1000) (qmul (clkDrift d) (qi (t - clkTov d)))

/-- The timebase instant of a whole GPS second, in ns, rounded to the nearest ns: t − b′(t) = G (R603). -/
def ppsInstant (d : List Byte) (g : Int) : Int :=
  let r := clkDrift d
  let c := qsub (mkQ (clkBias d) 1000) (qmul r (qi (clkTov d)))
  qround (qdiv (qadd (qi (g * 1000000000)) c) (qsub (qi 1) r))

/-- The newest internal PPS edge that has come and has not been seen: its GPS second and instant. -/
def ppsDue (h : Hw) : Option (Int × Int) :=
  match h.gns.sol with
  | none => none
  | some d =>
    let t : Int := h.wgl.tb
    let g := qfloor (qdiv (qsub (qi t) (clkAt d t)) (qi 1000000000))
    let te := ppsInstant d g
    if decide (te ≤ t) && (match h.gns.lastSec with | some l => decide (l < g) | none => true) then some (g, te) else none

/-- The conditions of R604. -/
def ppsHolds (h : Hw) : Bool :=
  match h.gns.sol with
  | none => false
  | some d => decide (h.tb ≤ clkTov d + 1000000 * h.get F.GNS_CLK_CFG_STALE) && decide (clkSd d ≤ h.get F.GNS_CLK_CFG_SD_MAX)
    && (match h.gns.stepAt with | some t => decide (t ≤ clkTov d) | none => true)

/-- The internal PPS becomes valid or invalid as R604 says; an end of its validity is counted and logged. -/
def ppsJudge (h : Hw) : Hw :=
  let ok := ppsHolds h
  if h.flag F.GNS_CLK_STATUS_PPS_VALID && !ok then
    ((h.put F.GNS_CLK_STATUS_PPS_VALID 0).bump F.GNS_CNT_COUNT 3).log 0x0D03
  else h.put F.GNS_CLK_STATUS_PPS_VALID (b2n ok)

/-- The age of the solution in force in ms, saturating; 0xFFFF while none is in force (GNS_CLK_STATUS.AGE). -/
def clkAge (h : Hw) : Nat :=
  match h.gns.sol with
  | none => 65535
  | some d => satN 16 ((h.tb - clkTov d) / 1000000)

/-- GNS_HOLD_EST: 24 t + 0.0155 t² ns with t the seconds in holdover, 0 at any other time (R608). -/
def holdEst (h : Hw) : Q :=
  if h.get F.WGL_STATUS_DISC = 3 then
    let t := mkQ (h.now - h.wgl.holdAt : Nat) 1000000000
    qadd (qmul (qi 24) t) (qmul (mkQ 155 10000) (qmul t t))
  else qi 0

/-! ## The step of the timebase (R66, R67) -/

/-- A prediction with its times moved. -/
def shiftPred (o : Int) (p : Pred) : Pred := { p with te := p.te + o }

/-- A domain with its edge times moved. -/
def shiftDom (o : Int) (x : Dom) : Dom :=
  { x with p := shiftPred o x.p, tLast := x.tLast + o, hist := x.hist.map (fun (t, p) => (t + o, shiftPred o p)),
           held := x.held.map (fun u => { u with tov := u.tov + o }) }

/-- A time moved. -/
def shiftT (o : Int) (t : Nat) : Nat := ((t : Int) + o).toNat

/-- The samples of a speed input with their edge times moved; those of other channels as they are. -/
def shiftEdges (o : Int) (x : Nat × List (Nat × Int)) : Nat × List (Nat × Int) :=
  if 390 ≤ x.1 ∧ x.1 < 430 then (x.1, x.2.map (fun y => (shiftT o y.1, y.2))) else x

/-- Adds an offset in ns to the timebase and to every stored edge time. Sample grids move with it (R907), the control engine goes on from
the next multiple of 10 µs (R347), and fusion and GNSS epochs go on at their next instants. -/
def tbStep (h : Hw) (o : Int) : Hw :=
  let tb := shiftT o h.wgl.tb
  let w := h.wgl
  let per (n : Nat) : Nat := tb / n + 1
  let cyc := 1000000 * h.get F.FUS_TIMING_CYCLE
  let h1 := { h with
    wgl := { w with tb := tb, last2 := shiftT (2 * o) w.last2, doms := w.doms.map (fun (i, x) => (i, shiftDom o x)) },
    sfe := { h.sfe with spd := h.sfe.spd.map (fun (k, t, p) => (k, shiftT o t, p)),
                        grid := h.sfe.grid.map (fun (k, t, n) => (k, shiftT o t, n)),
                        last := h.sfe.last.map (shiftEdges o) },
    ctl := { h.ctl with nextAt := (tb + 9999) / 10000 * 10000 },
    fus := { h.fus with step := per 500000, cyc := per cyc },
    gns := { h.gns with stepAt := some tb, lastSec := none, stepped := [(0, true), (1, true)],
                        lastEpoch := tb - tb % 20000000 } }
  (h1.put F.WGL_STATUS_STEPPED 1).log 0x0204

/-- A solution comes into force; the first since reset steps the timebase where R66 allows it. An offset that is no whole number of ns
is rounded either way. -/
def clkTake (h : Hw) (d : List Byte) : Hw :=
  let h1 := { h with gns := { h.gns with sol := some d } }.put F.GNS_CLK_STATUS_IN_FORCE 1
  if h.wgl.firstSol then ppsJudge h1
  else
    let h2 := { h1 with wgl := { h1.wgl with firstSol := true } }
    let off := qsub (mkQ (h.get F.GNS_CABLE_DELAY) 2) (clkAt d h.wgl.tb)
    let big := qlt (qi 1000) off || qlt off (qi (-1000))
    if h.flag F.WGL_CTRL_STEP_ALLOW && big && h.wgl.slots.isEmpty && !h.flag F.WGL_STATUS_STEPPED then
      let (o, h3) := h2.openRound off
      ppsJudge (tbStep h3 o)
    else ppsJudge h2

/-! ## Foragers (R579 to R589) -/

/-- The number of a Forager among both antennas. -/
def forNo (ant f : Nat) : Nat := ant * 64 + f
/-- A Forager. -/
def Hw.forager (h : Hw) (n : Nat) : Option Forager := mget h.gns.fors n
/-- Replaces a Forager. -/
def Hw.setForager (h : Hw) (n : Nat) (x : Forager) : Hw := { h with gns := { h.gns with fors := mset h.gns.fors n x } }
/-- A band, 0 for band 1 and 1 for band 5. -/
def Hw.gband (h : Hw) (n b : Nat) : GBand := mgetD h.gns.bands (2 * n + b) {}
/-- Replaces a band. -/
def Hw.setGband (h : Hw) (n b : Nat) (x : GBand) : Hw := { h with gns := { h.gns with bands := mset h.gns.bands (2 * n + b) x } }
/-- The state of a band (Table 13.3). -/
def bandState (h : Hw) (n b : Nat) : Nat := h.get (if b = 0 then F.GNS_FOR_STATUS_B1 else F.GNS_FOR_STATUS_B5) n
/-- Sets the state of a band; symbols held are left over when it leaves TRACK (R600). -/
def setBand (h : Hw) (n b st : Nat) : Hw :=
  let x := h.gband n b
  let h1 := if bandState h n b = 3 ∧ st ≠ 3 then h.setGband n b { x with left := x.sync, sync := false } else h
  h1.put (if b = 0 then F.GNS_FOR_STATUS_B1 else F.GNS_FOR_STATUS_B5) st n

/-- SYS of a CHAN. -/
def chSys (d : List Byte) : Nat := fld d 2 1 % 4
/-- A bit of byte 2 of a CHAN: 2 B1EN, 3 B5EN, 4 L1C, 5 CORR_EN, 6 NAV_EN, 7 REACQ. -/
def chBit (d : List Byte) (i : Nat) : Bool := bit (fld d 2 1) i
/-- PRN. -/
def chPrn (d : List Byte) : Nat := fld d 3 1 % 64

/-- The integrations listed for a band (Table 13.2). -/
def tintList (d : List Byte) (b : Nat) : List Nat :=
  if b = 1 then (List.range 20).map (· + 1)
  else match chSys d with
    | 0 => if chBit d 4 then [10, 20] else [1, 2, 4, 5, 10, 20]
    | 1 => [4, 8, 12, 16, 20]
    | _ => [10, 20]

/-- The integration in use: the largest listed value that does not exceed the commanded one, or else the smallest (R580). -/
def tintUse (d : List Byte) (b : Nat) : Nat :=
  let l := tintList d b
  ((l.filter (fun x => decide (x ≤ fld d 6 1 % 32))).getLast?).getD (l.headD 0)

/-- The integration of a band: one primary code period until it is synchronised, then the one in use (R581). -/
def tintNow (h : Hw) (n b : Nat) (d : List Byte) : Nat := if (h.gband n b).sync then tintUse d b else (tintList d b).headD 0

/-- A pilot is tracked: every signal but L1 C/A (R581). -/
def pilot (d : List Byte) (b : Nat) : Bool := b == 1 || chSys d != 0 || chBit d 4

/-- Returns a Forager to IDLE; a pending CHAN ends with a status. -/
def forIdle (h : Hw) (n st : Nat) : Hw :=
  match h.forager n with
  | none => h
  | some x =>
    let h1 := if x.pending then h.finishId x.op st h.tb else h
    let h2 := setBand (setBand h1 n 0 0) n 1 0
    { h2 with gns := { h2.gns with fors := mdel h2.gns.fors n } }.setReg (F.GNS_FOR_STATUS_B1.at n 0) 0

/-- Foragers of an antenna. -/
def antFors (h : Hw) (a : Nat) : List (Nat × Forager) := h.gns.fors.filter (fun (n, _) => n / 64 == a)

/-- The Foragers whose band 1 the acquisition engine serves: the first 16 in search, in fetch order (R585). -/
def served (h : Hw) (a : Nat) : List Nat :=
  ((sortBy (fun (x y : Nat × Forager) => decide (x.2.op ≤ y.2.op))
    ((antFors h a).filter (fun (n, _) => bandState h n 0 == 1))).take 16).map (·.1)

/-- The owner of antennas stops: their Foragers return to IDLE, and with GNSS_A the clock solution goes (R595). -/
def gnsStop (h : Hw) (p : Nat) : Hw :=
  let h1 := [0, 1].foldl (fun g a => if g.ownsPort p (324 + a)
    then (antFors g a).foldl (fun g (n, _) => forIdle g n ST_GNS_STOPPED) g else g) h
  if h.ownsPort p 324 then ppsJudge ({ h1 with gns := { h1.gns with sol := none } }.put F.GNS_CLK_STATUS_IN_FORCE 0) else h1

end Sys2Proof.Machine
end

