-- ==== Sys2Proof/Machine/Gnss.lean ====
section
/-!
DEFINITION. The commands of the GNSS baseband (chapter 13). Readings: log entry 30.
-/
namespace Sys2Proof.Machine

/-! ## Antennas (R577, R578, R612) -/

/-- The epoch rates (GNS_OBS_CFG). -/
def rateOk (r : Nat) : Bool := [1, 2, 5, 10, 20, 50].contains r

/-- The length of an epoch in ns. -/
def epochNs (h : Hw) : Nat := 1000000000 / max 1 (h.get F.GNS_OBS_CFG_RATE)

/-- A write to GNS_ANT_CFG of an antenna. Disabling the input returns its Foragers to IDLE and closes its buffers. -/
def gnsAntWrite (h : Hw) (a v : Nat) : Hw :=
  let on := h.flag F.GNS_ANT_CFG_EN a
  let bias := h.flag F.GNS_ANT_CFG_BIAS_EN a
  let h1 := h.setReg (F.GNS_ANT_CFG_EN.at a 0) (BitVec.ofNat 32 (v % 4))
  let h2 := if bit v 1 = bias then h1 else h1.put F.GNS_ANT_STATUS_BIAS (b2n (bit v 1)) a
  if bit v 0 = on then h2
  else if bit v 0 then
    { h2 with gns := { h2.gns with epochs := mset h2.gns.epochs a 0, stepped := mset h2.gns.stepped a false,
                                   lastEpoch := h.tb - h.tb % epochNs h } }.put F.GNS_ANT_STATUS_ERR ST_OK a
  else
    let h3 := (antFors h2 a).foldl (fun g (n, _) => forIdle g n ST_GNS_STOPPED) h2
    [0, 1, 2].foldl (fun g k => bufCloseAll g (qKey (9 + k) a) ST_STREAM_OFF) h3

/-- GNS_ANT_ENABLE: the owner of an antenna's port writes GNS_ANT_CFG with EN = 1. -/
def execGnsAntEnable (dt : Nat) (hart : Fin 19) (a : Fin 2) (v : Word) (s : State) : Out :=
  run dt s fun h => if h.byOwner hart (324 + a) then gnsAntWrite h a (v ||| 1).toNat else h

/-- BIAS_FAULT: the bias current has been below 2 mA for 100 ms, or above 100 mA for 1 ms (Table 13.1). -/
def execBiasFault (dt : Nat) (a : Fin 2) (short : Bool) (s : State) : Out :=
  run dt s fun h =>
    let st := h.get F.GNS_ANT_STATUS_BIAS a
    if short then
      if st = 1 ∨ st = 2 then
        ({ h with gns := { h.gns with biasAt := mset h.gns.biasAt a h.now } }.put F.GNS_ANT_STATUS_BIAS 3 a).log 0x0D01 a
      else h
    else if st = 1 then (h.put F.GNS_ANT_STATUS_BIAS 2 a).log 0x0D01 a else h

/-- BIAS_RETRY: 1 s after the last try the bias of a shorted antenna is tried again; `still` says that it is still short. -/
def execBiasRetry (dt : Nat) (a : Fin 2) (still : Bool) (s : State) : Out :=
  run dt s fun h =>
    if h.get F.GNS_ANT_STATUS_BIAS a = 3 ∧ mgetD h.gns.biasAt a 0 + 1000000000 ≤ h.now then
      if still then { h with gns := { h.gns with biasAt := mset h.gns.biasAt a h.now } } else h.put F.GNS_ANT_STATUS_BIAS 1 a
    else h

/-- ANTENNA_BIAS_RECOVERY: an open antenna draws 2 to 100 mA again (Table 13.1). -/
def execAntennaBiasRecovery (dt : Nat) (a : Fin 2) (s : State) : Out :=
  run dt s fun h => if h.get F.GNS_ANT_STATUS_BIAS a = 2 then h.put F.GNS_ANT_STATUS_BIAS 1 a else h

/-! ## Descriptors (R590 to R602) -/

/-- The antenna a descriptor names. -/
def gAnt (d : List Byte) : Nat := b2n (bit (fld d 0 1) 4)

/-- CHAN: assigns a Forager and starts its search (R585, R592). -/
def execChan (dt id : Nat) (s : State) : Out :=
  run dt s fun h => h.onOp id 10 1 fun f =>
    let d := f.desc
    let n := forNo (gAnt d) (fld d 1 1 % 64)
    if (h.forager n).isSome then h
    else
      let h1 := (h.setForager n ⟨id, true, d, f.since⟩).setReg (F.GNS_FOR_STATUS_B1.at n 0) 0
      let h2 := (((h1.put F.GNS_FOR_STATUS_SYS (chSys d) n).put F.GNS_FOR_STATUS_PRN (chPrn d) n).put F.GNS_FOR_STATUS_TINT
        (tintUse d 0) n).setGband n 0 {}
      (h2.setGband n 1 {}).put F.GNS_FOR_STATUS_B1 1 n

/-- STOP: the named Foragers return to IDLE; their pending CHANs end first (R593). -/
def execGnssStop (dt id : Nat) (s : State) : Out :=
  run dt s fun h => h.onOp id 10 2 fun f =>
    let mask := fld f.desc 8 8
    let h1 := ((List.range 64).filter (bit mask)).foldl (fun g i => forIdle g (forNo (gAnt f.desc) i) ST_GNS_STOPPED) h
    h1.finish f ST_OK h1.tb

/-- OBSBUF: the buffer joins the antenna's queue of its stream. -/
def execObsbuf (dt id : Nat) (s : State) : Out :=
  run dt s fun h => h.onOp id 10 3 fun f => bufPost h (qKey (9 + fld f.desc 1 1 % 4) (gAnt f.desc)) f

/-- Why a CLOCK is refused, or ST_OK (R602). -/
def clkCheck (h : Hw) (f : Flight) : Nat :=
  let d := f.desc
  let t := clkTov d
  firstBad [(bit (fld d 1 1) 0, ST_BAD_DESCRIPTOR),
    ((match h.gns.sol with | some o => decide (clkTov o < t) | none => true)
      && (match h.gns.stepAt with | some u => decide (u ≤ t) | none => true)
      && decide (f.cpl.tov ≤ t + 1000000 * h.get F.GNS_CLK_CFG_STALE), ST_GNS_STALE)]

/-- CLOCK: replaces the solution in force or is refused; the first one may step the timebase (R602, R66, R67). -/
def execClock (dt id : Nat) (s : State) : Out :=
  run dt s fun h => h.onOp id 10 4 fun f =>
    let st := clkCheck h f
    let h1 := if st = ST_OK then clkTake h f.desc else h.bump F.GNS_CNT_COUNT 2
    h1.finish f st h1.tb

/-! ## Searches and locks (R584 to R589) -/

/-- ACQUISITION_PEAK: a served search finds a peak of a C/N0 at or above ACQ_CN0 (R585). -/
def execAcquisitionPeak (dt : Nat) (a : Fin 2) (i : Fin 64) (cn0 : BitVec 16) (s : State) : Out :=
  run dt s fun h =>
    let n := forNo a i
    match h.forager n with
    | some x =>
      if (served h a).contains n && decide (fld x.desc 20 2 ≤ cn0.toNat) then
        setBand (h.setGband n 0 { h.gband n 0 with peakAt := h.now }) n 0 2
      else h
    | none => h

/-- A band enters TRACK. -/
def bandTrack (h : Hw) (n b : Nat) : Hw :=
  setBand (h.setGband n b { h.gband n b with lockAt := h.now, restart := true, sync := false, left := false }) n b 3

/-- TRACK_REACHED: a band in PULL_IN locks code and carrier, band 1 within 500 ms of its peak; a pending CHAN completes with the
Doppler and code phase found, and band 5 starts to pull in (R585, R588, R594). -/
def execTrackReached (dt : Nat) (a : Fin 2) (i : Fin 64) (b5 : Bool) (doppler code : Word) (s : State) : Out :=
  run dt s fun h =>
    let n := forNo a i
    match h.forager n with
    | some x =>
      if bandState h n (b2n b5) ≠ 2 then h
      else if b5 then bandTrack h n 1
      else if (h.gband n 0).peakAt + 500000000 < h.now then h
      else
        let h1 := bandTrack h n 0
        let h2 := if x.pending then (h1.finishId x.op ST_OK h1.tb doppler.toNat code.toNat).setForager n { x with pending := false } else h1
        if chBit x.desc 3 && bandState h2 n 1 != 3 then setBand h2 n 1 2 else h2
    | none => h

/-- PULL_IN_TIMEOUT: band 1 has not reached TRACK 500 ms after its peak (R586). -/
def execPullInTimeout (dt : Nat) (a : Fin 2) (i : Fin 64) (s : State) : Out :=
  run dt s fun h =>
    let n := forNo a i
    if bandState h n 0 = 2 ∧ (h.gband n 0).peakAt + 500000000 ≤ h.now then setBand h n 0 1 else h

/-- SEARCH_TIMEOUT: TIMEOUT has passed since the CHAN was fetched, and its search goes on (R587). -/
def execSearchTimeout (dt : Nat) (a : Fin 2) (i : Fin 64) (s : State) : Out :=
  run dt s fun h =>
    let n := forNo a i
    match h.forager n with
    | some x =>
      if x.pending && bandState h n 0 == 1 && decide (x.since + 1000000000 * fld x.desc 30 2 ≤ h.now) then forIdle h n ST_GNS_NOT_FOUND
      else h
    | none => h

/-- LOSS_OF_LOCK: C/N0 of a band in TRACK has stayed below LOSS_CN0 for 1 s (R589). -/
def execLossOfLock (dt : Nat) (a : Fin 2) (i : Fin 64) (b5 : Bool) (s : State) : Out :=
  run dt s fun h =>
    let n := forNo a i
    match h.forager n with
    | some x =>
      if bandState h n (b2n b5) ≠ 3 then h
      else
        let h1 := (h.bump F.GNS_CNT_COUNT 1).log 0x0D02 a true
        let st := if b5 then (if bandState h n 0 = 3 then 2 else 4) else if chBit x.desc 7 then 1 else 4
        setBand h1 n (b2n b5) st
    | none => h

/-! ## Records (R596 to R600) -/

/-- Writes a record to a stream of an antenna; a drop is counted (R597). -/
def gnsPut (h : Hw) (k a : Nat) (bs : List Byte) (tov : Nat) : Hw :=
  let (h1, ok) := bufPut h true (qKey (9 + k) a) bs tov
  if ok then h1 else (h1.bump F.GNS_CNT_COUNT 0).log 0x0D04 a true

/-- Bytes 32 to 34 of an entry: Forager, antenna, system, band, L1C, PRN (Table 13.6). -/
def bandId (n b : Nat) (d : List Byte) : List Byte :=
  [BitVec.ofNat 8 (n % 64 + 64 * (n / 64)), BitVec.ofNat 8 (chSys d + 4 * b + 8 * b2n (chBit d 4)), BitVec.ofNat 8 (chPrn d)]

/-- An observable entry; what the loops measured and no operand gives is open (Table 13.6, R598). -/
def obsEntry (h : Hw) (n b : Nat) (d : List Byte) (t : Nat) (m : Option GnsMeas) : List Byte × Hw :=
  let g := h.gband n b
  let st := bandState h n b
  let lock := if st = 3 then satN 16 ((h.now - g.lockAt) / 10000000) else 0
  let (code, per, adr, dop, cn0, slip, tc, h1) := match m with
    | some x => (leBytes 4 x.code.toNat, leBytes 4 x.periods.toNat, leBytes 8 x.adr.toNat, leBytes 4 x.doppler.toNat,
        leBytes 2 x.cn0.toNat, x.slip, x.tintChanged, h)
    | none =>
      (let (r, g1) := h.freshBytes 24
       (slice r 0 4, slice r 4 4, slice r 8 8, slice r 16 4, slice r 20 2, bit (fld r 22 1) 0, bit (fld r 23 1) 0, g1))
  let fl := 1 + 2 * b2n (st == 3) + 4 * b2n (st == 3 && pilot d b) + 8 * b2n (slip || g.restart) + 16 * b2n tc
  let h2 := h1.setGband n b { g with restart := false }
  let h3 := if b = 0 then h2.put F.GNS_FOR_STATUS_CN0 (satN 13 (leNat cn0)) n else h2
  (leBytes 8 t ++ code ++ per ++ adr ++ dop ++ cn0 ++ leBytes 2 lock ++ bandId n b d ++ [BitVec.ofNat 8 fl] ++ zeros 28, h3)

/-- The epoch of one antenna. -/
def antEpoch (h : Hw) (a t : Nat) (ms : List GnsMeas) : Hw :=
  if !h.flag F.GNS_ANT_CFG_EN a then h else
    let bands := (antFors h a).flatMap (fun (n, x) => ([0, 1].filter (fun b => bandState h n b == 2 || bandState h n b == 3)).map
      (fun b => (n, b, x.desc)))
    let e := mgetD h.gns.epochs a 0
    let fl := b2n (mgetD h.gns.stepped a false) + 2 * b2n h.gns.sol.isSome
    let head := leBytes 8 t ++ leBytes 4 e ++ leBytes 4 bands.length ++ zeros 16 ++ [BitVec.ofNat 8 (64 * a), 0, 0, BitVec.ofNat 8 fl]
      ++ zeros 27 ++ [1]
    let h1 := { h with gns := { h.gns with epochs := mset h.gns.epochs a (e + 1), stepped := mset h.gns.stepped a false } }
    bands.foldl (fun g (n, b, d) =>
      let m := ms.find? (fun x => x.ant.val == a && x.f.val == n % 64 && x.b5 == (b == 1))
      let (bs, g1) := obsEntry g n b d t m
      gnsPut g1 0 a bs t) (gnsPut h1 0 a head t)

/-- OBSERVABLE_EPOCH: the newest epoch instant, once it has come; the operand gives what the loops measured (R596, R597). -/
def execObservableEpoch (dt : Nat) (ms : List GnsMeas) (s : State) : Out :=
  run dt s fun h =>
    let t := h.tb - h.tb % epochNs h
    if (h.flag F.GNS_ANT_CFG_EN 0 || h.flag F.GNS_ANT_CFG_EN 1) && decide (h.gns.lastEpoch < t) then
      antEpoch (antEpoch { h with gns := { h.gns with lastEpoch := t } } 0 t ms) 1 t ms
    else h

/-- INTEGRATION_END: an integration of a band ends with the I and Q of its five correlators; `sync` says that bit or
secondary-code synchronisation has been reached (R581, R599). -/
def execIntegrationEnd (dt : Nat) (a : Fin 2) (i : Fin 64) (b5 : Bool) (iq : List Word) (sync : Bool) (s : State) : Out :=
  run dt s fun h =>
    let n := forNo a i
    let b := b2n b5
    match h.forager n with
    | some x =>
      let st := bandState h n b
      if (st = 2 ∨ st = 3) then
        let rec_ := leBytes 8 h.tb ++ (padTo 40 (iq.flatMap (fun w => leBytes 4 w.toNat))) ++ bandId n b x.desc
          ++ [BitVec.ofNat 8 (tintNow h n b x.desc)] ++ zeros 11 ++ [2]
        let h1 := if chBit x.desc 5 then gnsPut h 1 a rec_ h.tb else h
        h1.setGband n b { h1.gband n b with sync := sync || (h1.gband n b).sync }
      else h
    | none => h

/-- NAV_SYMBOL_RECORD: 255 symbols are held, or the band has left TRACK with fewer; `age` is the time since the start of the first
symbol (R600). -/
def execNavSymbolRecord (dt : Nat) (a : Fin 2) (i : Fin 64) (b5 : Bool) (age : Nat) (syms : List Bool) (s : State) : Out :=
  run dt s fun h =>
    let n := forNo a i
    let b := b2n b5
    match h.forager n with
    | some x =>
      let g := h.gband n b
      let k := syms.length
      let full := k == 255 && bandState h n b == 3 && g.sync
      if chBit x.desc 6 && (full || (g.left && decide (1 ≤ k) && decide (k ≤ 255))) then
        let t := h.tb - age
        let val := (syms.zipIdx.map (fun (v, j) => b2n v * 2 ^ j)).sum
        let rec_ := leBytes 8 t ++ bandId n b x.desc ++ [BitVec.ofNat 8 k] ++ zeros 4 ++ leBytes 32 val ++ zeros 15 ++ [3]
        gnsPut (if full then h else h.setGband n b { g with left := false }) 2 a rec_ t
      else h
    | none => h

/-! ## PPS (R604, R609) -/

/-- INTERNAL_PPS_INVALID: a condition of R604 no longer holds. -/
def execInternalPpsInvalid (dt : Nat) (s : State) : Out :=
  run dt s fun h => if h.flag F.GNS_CLK_STATUS_PPS_VALID then ppsJudge h else h

/-- PPS_OUT may pulse: always, or with LOCKED_ONLY while locked or in a holdover of at most 1,000 ns (R609). -/
def ppsOutMay (h : Hw) : Bool :=
  !h.flag F.GNS_PPS_OUT_LOCKED_ONLY || h.get F.WGL_STATUS_DISC == 2 || (h.get F.WGL_STATUS_DISC == 3 && qle (holdEst h) (qi 1000))

/-- The whole seconds whose pulse instant has passed. -/
def ppsSecond (h : Hw) : Nat := (h.tb + 1000000000 - h.get F.GNS_PPS_OUT_OFFSET) / 1000000000

/-- PPS_OUT_PULSE: the contact falls WIDTH after its rise, or rises when the timebase passes a whole second plus OFFSET (R609). -/
def execPpsOutPulse (dt : Nat) (s : State) : Out :=
  run dt s fun h =>
    let g := h.gns
    let width := 1000000 * h.get F.GNS_PPS_OUT_WIDTH
    if g.pps then (if g.ppsAt + width ≤ h.now ∨ !h.flag F.GNS_PPS_OUT_EN then { h with gns := { g with pps := false } } else h)
    else if h.flag F.GNS_PPS_OUT_EN && decide (g.ppsSec < ppsSecond h) then
      let late := (h.tb + 1000000000 - h.get F.GNS_PPS_OUT_OFFSET) % 1000000000
      let g1 := { g with ppsSec := ppsSecond h }
      { h with gns := if ppsOutMay h && decide (late < width) then { g1 with pps := true, ppsAt := h.now - late } else g1 }
    else h

/-- A write to GNS_PPS_OUT; values of WIDTH outside 1 to 200 make it fail, and an OFFSET above 999,999 is stored as that (R612). -/
def ppsOutWrite (h : Hw) (v : Nat) : Hw :=
  if !(decide (1 ≤ bits v 9 2) && decide (bits v 9 2 ≤ 200)) then
    (h.put F.GNS_ANT_STATUS_ERR ST_GNS_CONFIG 0).put F.GNS_ANT_STATUS_ERR ST_GNS_CONFIG 1
  else
    let h1 := h.setReg (F.GNS_PPS_OUT_EN.at 0 0) (BitVec.ofNat 32 (v % 1024 + min (v / 1024) 999999 * 1024))
    { h1 with gns := { h1.gns with ppsSec := ppsSecond h1, pps := h1.gns.pps && bit v 0 } }

end Sys2Proof.Machine
end

