-- ==== Sys2Proof/Machine/Components.lean ====
section
/-!
DEFINITION. The image banks of Guard and what a start loads from them (Table 18.4, R801 to R803), and the configuration record
(R906). Readings: log entry 38.
-/
namespace Sys2Proof.Machine

/-- An image bank. -/
def bankOf (h : Hw) (b : Nat) : List Image := if b = 0 then h.grd.bank0 else h.grd.bank1

/-- Replaces an image bank. -/
def setBank (h : Hw) (b : Nat) (l : List Image) : Hw :=
  { h with grd := if b = 0 then { h.grd with bank0 := l } else { h.grd with bank1 := l } }

/-- GRD_SESSION.STATE (Table 18.5). -/
def sesState (h : Hw) : Nat := h.get F.GRD_SESSION_STATE

/-- The bank whose set a partition runs: the trial set within its scope, otherwise the confirmed set (R789, R791). -/
def runBank (h : Hw) (p : Nat) : Nat :=
  let b := h.get F.GRD_SET_BANK
  if h.flag F.GRD_SET_TRIAL && (h.flag F.GRD_SESSION_SCOPE || h.get F.GRD_SESSION_PART == p) then 1 - b else b

/-- An image in a bank. -/
def imageOf (l : List Image) (kind inst : Nat) : Option Image := l.find? (fun m => m.kind == kind && m.inst == inst)

/-- An image still is what its manifest gave as RESULT. -/
def imageOk (m : Image) : Bool := sha384 m.bytes == m.result

/-- The component belongs to what a partition loads when it starts: kind 3 for the pairs that run it, kinds 4 and 7 of its number, and
the layout image for partition 0 (Table 18.4). -/
def loadsFor (p : Nat) (m : Image) : Bool :=
  match m.kind with
  | 3 => if p = 0 then m.inst == 0 else p == 1 && (m.inst == 1 || m.inst == 2)
  | 4 => m.inst == p
  | 7 => m.inst == p
  | 5 => p == 0
  | _ => false

/-- Guard reads and writes with tag 8 through its stop. -/
def grdWho : Who := ⟨8, 62, false⟩

/-- Places one component: a safety-pair image in the TCM of its pair, another at LOAD (Table 18.4). -/
def placeImage (h : Hw) (m : Image) : Hw :=
  h.wr (if m.kind = 3 then 0xE10000000 + m.inst * 0x100000 else m.load) m.bytes grdWho

/-- An image fails its verification (R802, R803). -/
def imageFailed (h : Hw) : Hw := (h.bump F.GRD_CNT_COUNT 3).log 0x1205

/-- Loads a partition's components from the set it runs, checking each RESULT; whether every check passed (R802). -/
def loadComponents (h : Hw) (p : Nat) : Hw × Bool :=
  let ms := (bankOf h (runBank h p)).filter (loadsFor p)
  if ms.all imageOk then (ms.foldl placeImage h, true) else (imageFailed h, false)

/-! ## Configuration record -/

/-- The numbers of the bits set in bytes. -/
def bitList (bs : List Byte) : List Nat := (List.range (8 * bs.length)).filter (fun i => bit (bs.getD (i / 8) 0).toNat (i % 8))

/-- The entries of LINK: IDE, identifier and mask. -/
def cfgLink (bs : List Byte) (n : Nat) : List (Bool × Nat × Nat) :=
  (List.range n).map (fun i =>
    let e := fld bs (256 + 8 * i) 8
    (bit e 29, e % 2 ^ 29, bits e 60 32))

/-- The entries of IDENT: identifier, class and public key. -/
def cfgIdent (bs : List Byte) (n : Nat) : List (Nat × Nat × List Byte) :=
  (List.range n).map (fun i =>
    let a := 512 + 72 * i
    (beNat (slice bs a 3), fld bs (a + 3) 1, slice bs (a + 8) 64))

/-- The fields of a configuration record (Table 04.10), or none where it breaks the table (R906). -/
def parseCfg (bs : List Byte) : Option CfgRec :=
  let nid := fld bs 3 1
  let nl := fld bs 4 1
  let linkOk := (List.range nl).all (fun i =>
    let e := fld bs (256 + 8 * i) 8
    bits e 31 30 == 0 && bits e 63 61 == 0)
  let idOk := (List.range nid).all (fun i => decide (fld bs (515 + 72 * i) 1 ≤ 1) && allZero (slice bs (516 + 72 * i) 4))
  let hdr := bitList (slice bs 8 64)
  let raise := bitList (slice bs 72 64)
  if bs.length == 2816 && fld bs 0 2 == 1 && decide (fld bs 2 1 ≤ 1) && decide (nid ≤ 32) && decide (nl ≤ 32)
      && allZero (slice bs 5 3) && raise.all (fun i => hdr.contains i) && allZero (slice bs 152 104)
      && linkOk && allZero (slice bs (256 + 8 * nl) (256 - 8 * nl)) && idOk && allZero (slice bs (512 + 72 * nid) (2304 - 72 * nid)) then
    some { mode := fld bs 2 1, hdrPorts := hdr, raisePorts := raise, cmdMb := bitList (slice bs 136 16),
           link := cfgLink bs nl, ident := cfgIdent bs nid }
  else none

/-- A bank passes the checks of R801: the images of kinds 1, 2, 5 and 6 are whole and the configuration record keeps to its table. -/
def bankOk (l : List Image) : Bool :=
  (l.filter (fun m => m.kind == 1 || m.kind == 2 || m.kind == 5 || m.kind == 6)).all imageOk
    && (match imageOf l 6 0 with | some m => (parseCfg m.bytes).isSome | none => true)

/-- The configuration record of a bank takes effect (R204, R906). -/
def bootCfg (h : Hw) (b : Nat) : Hw :=
  match imageOf (bankOf h b) 6 0 with
  | some m =>
    match parseCfg m.bytes with
    | some c => { h with prp := { h.prp with cfg := c } }.put F.PRP_HDR_CFG_MODE c.mode
    | none => h
  | none => h

end Sys2Proof.Machine
end

