-- ==== Sys2Proof/Machine/ImagingCore.lean ====
section
/-!
DEFINITION. Cameras and image pipelines (chapter 05): frame records, holes, profiles, pipeline stages and the checks on imaging
descriptors. Readings: log entry 20.
-/
namespace Sys2Proof.Machine

/-- A camera's own state. -/
def Hw.cam (h : Hw) (c : Nat) : Cam := mgetD h.img.cams c {}
/-- Replaces a camera's own state. -/
def Hw.setCam (h : Hw) (c : Nat) (x : Cam) : Hw := { h with img := { h.img with cams := mset h.img.cams c x } }
/-- A memory-fed pipeline. -/
def Hw.pipe (h : Hw) (k : Nat) : Pipe := mgetD h.img.pipes k {}
/-- Replaces a memory-fed pipeline. -/
def Hw.setPipe (h : Hw) (k : Nat) (x : Pipe) : Hw := { h with img := { h.img with pipes := mset h.img.pipes k x } }

/-- Width of a camera's frame. -/
def Hw.camW (h : Hw) (c : Nat) : Nat := h.get F.IMG_CAM_GEOM_WIDTH c
/-- Height of a camera's frame. -/
def Hw.camH (h : Hw) (c : Nat) : Nat := h.get F.IMG_CAM_GEOM_HEIGHT c
/-- Pixels of a camera's frame. -/
def Hw.camPix (h : Hw) (c : Nat) : Nat := h.camW c * h.camH c
/-- The camera is enabled. -/
def Hw.camOn (h : Hw) (c : Nat) : Bool := h.flag F.IMG_CAM_CFG_ENABLE c

/-! ## Completions of frames -/

/-- The engine-specific bytes 28 to 30 of a frame completion (Table 05.9). -/
def frameD28 (cam cause : Nat) (raw out met taps late catchup : Bool) (dom : Nat) : Nat :=
  cam + 16 * cause + 2 ^ 8 * (b2n raw + 2 * b2n out + 4 * b2n met + 8 * b2n taps + 16 * b2n late + 32 * b2n catchup)
    + 2 ^ 16 * dom

/-- A frame's time of validity: its crossing plus half its exposure (R237). -/
def FrameRec.tov (r : FrameRec) : Nat := r.cross + 50 * r.expo

/-- Counts a hole and logs it at most once per second for its camera (R269). -/
def countHole (h : Hw) (c : Nat) : Hw := (h.bump F.IMG_CAM_CNT_COUNT c 1).log 0x0503 c true

/-- An open record becomes a hole with a cause (R265); a frame of it that has not started yet is still to be discarded
(R241). -/
def holeRec (h : Hw) (c : Nat) (r : FrameRec) (cause : Nat) (raw : Bool) : Hw :=
  let x := h.cam c
  let x1 := { x with recs := x.recs.filter (fun q => q.seq != r.seq),
                     dead := if r.started then x.dead else x.dead ++ [r.cross],
                     incoming := if x.incoming = some (some r.seq) then some none else x.incoming }
  (countHole (h.setCam c x1) c).finishId r.op ST_HOLE r.tov (ux 64 r.pos) r.seq
    (frameD28 c cause raw false false false r.late r.catchup r.dom)

/-- Makes a hole of every open record that satisfies a test, in trigger order. -/
def holeAll (h : Hw) (c cause : Nat) (t : FrameRec → Bool) : Hw :=
  ((h.cam c).recs.filter t).foldl (fun g r => holeRec g c r cause false) h

/-- A trigger that finds no posted buffer: an unreserved hole on the completion ring of the ring that last posted for the
camera, or only counted (R238, R268). -/
def holeNoBuffer (h : Hw) (c : Nat) (seq cross expo dom : Nat) (pos : Int) (late catchup : Bool) : Hw :=
  let x := h.cam c
  let h1 := countHole (h.setCam c { x with dead := x.dead ++ [cross] }) c
  match x.lastRing with
  | some r => h1.unreserved (h.get F.RNG_CFG_CPL_RING r) (h.get F.RNG_BIND_PARTITION r)
      { tov := cross + 50 * expo, d8 := ux 64 pos, d20 := seq, index := 0xFFFF, status := ST_HOLE,
        d28 := frameD28 c 1 false false false false late catchup dom }
  | none => h1

/-- ACTION 1 of a Waggle slot: drives the trigger and strobe lines (R234), opens a frame record and gives it the oldest
posted buffer (R238). A camera that is not enabled has no effect. -/
def imgExpose (h : Hw) (f : Fire) : Hw × Option Nat :=
  let c := sTarget f.raw
  if !h.camOn c then (h, some ST_OK) else
    let x := h.cam c
    let expo := sParam f.raw % 2 ^ 16
    let strobe := sParam f.raw / 2 ^ 16
    let issue := h.wgl.tb
    let dom := sDomain f.raw
    let x1 := { x with seq := (x.seq + 1) % 2 ^ 32,
                       line0 := (issue, issue + 100 * expo),
                       line1 := if strobe = 0 then (0, 0) else (f.tov, f.tov + 100 * strobe) }
    match x.posted with
    | [] => (holeNoBuffer (h.setCam c x1) c x.seq f.tov expo dom f.pos f.late f.catchup, some ST_OK)
    | op :: rest =>
      let r : FrameRec := ⟨x.seq, f.tov, f.pos, expo, dom, f.catchup, f.late, op, false, false, false, [],
        f.tov + 10000 * h.get F.IMG_CAM_DEADLINE_ARRIVAL c, f.tov + 10000 * h.get F.IMG_CAM_DEADLINE_PROC c⟩
      (h.setCam c { x1 with posted := rest, recs := x.recs ++ [r] }, some ST_OK)

/-! ## Profiles (Table 05.6) -/

/-- The length of a profile block. -/
abbrev profLen : Nat := 27328

/-- Crop window of a profile: X0, Y0, W, H. -/
def profCrop (b : List Byte) : Nat × Nat × Nat × Nat := (fld b 48 2, fld b 50 2, fld b 52 2, fld b 54 2)

/-- The output size: OUT_W and OUT_H with SCALE enabled, otherwise the crop window. -/
def profOut (b : List Byte) : Nat × Nat :=
  if bit (fld b 3 1) 6 then (fld b 56 2, fld b 58 2) else (fld b 52 2, fld b 54 2)

/-- Bytes of the output image of a profile (OUT_FMT). -/
def profOutBytes (b : List Byte) : Nat :=
  let n := (profOut b).1 * (profOut b).2
  match fld b 60 1 with
  | 0 => 3 * n
  | 1 => 3 * n
  | 2 => 6 * n
  | _ => n

/-- Entries of the static defect list rise by y, then x, and each lies in the frame. -/
def defectsOk (b : List Byte) (w hh : Nat) : Nat → Nat → Bool
  | 0, _ => true
  | n + 1, i =>
    let x := fld b (10944 + 4 * i) 2
    let y := fld b (10946 + 4 * i) 2
    decide (x < w) && decide (y < hh)
      && (i == 0 || decide (fld b (10942 + 4 * i) 2 * 65536 + fld b (10940 + 4 * i) 2 < y * 65536 + x))
      && defectsOk b w hh n (i + 1)

/-- A profile block keeps to Table 05.6 and its window fits the camera's geometry (R250). -/
def profOk (b : List Byte) (w hh : Nat) : Bool :=
  let (x0, y0, cw, ch) := profCrop b
  b.length == profLen && fld b 0 2 == 1 && decide (fld b 2 1 ≤ 4) && decide (fld b 3 1 < 128)
    && decide (fld b 46 2 ≤ 4096) && cw % 2 == 0 && ch % 2 == 0 && decide (1 ≤ cw) && decide (1 ≤ ch)
    && decide (x0 + cw ≤ w) && decide (y0 + ch ≤ hh)
    && (!bit (fld b 3 1) 6 || (decide (fld b 56 2 ≤ cw) && decide (fld b 58 2 ≤ ch)
        && decide (1 ≤ fld b 56 2) && decide (1 ≤ fld b 58 2)
        && decide (cw ≤ 16 * fld b 56 2) && decide (ch ≤ 16 * fld b 58 2)))
    && decide (fld b 60 1 ≤ 3) && fld b 61 1 == 0 && decide (1 ≤ fld b 62 1) && decide (fld b 62 1 ≤ 32)
    && decide (1 ≤ fld b 63 1) && decide (fld b 63 1 ≤ 32) && allZero (slice b 66 62) && allZero (slice b 8840 56)
    && defectsOk b w hh (fld b 46 2) 0

/-! ## Pipeline stages (R249) -/

/-- S1: subtracts the black level of a sample's CFA position, clamped at 0. -/
def blackLevel (b : List Byte) (w : Nat) (xs : List Nat) : List Nat :=
  if bit (fld b 3 1) 0 then
    xs.zipIdx.map (fun (v, i) => v - fld b (4 + 2 * (i % w % 2 + 2 * (i / w % 2))) 2)
  else xs

/-- The stages S2, S3, S4, S6, S7 and S8 pass their input unchanged and S5 passes a mono frame: the result is S1's. Where one
of them acts, Table 05.6 leaves its rounding, its borders or its weights open, and the values stay open. -/
def exactPath (b : List Byte) : Bool := fld b 2 1 == 4 && decide (fld b 3 1 < 2)

/-- n open 16-bit values drawn from a number on. -/
def openPlane (k n : Nat) : List Nat := (List.range n).map (fun i => Config.freeNat (k + i) % 65536)

/-- The samples of a rectangle of a frame, in row order. -/
def cropPlane (w x0 y0 cw ch : Nat) (xs : List Nat) : List Nat :=
  (List.range ch).flatMap (fun y => (xs.drop ((y0 + y) * w + x0)).take cw)

/-- S9 on one plane in an 8-bit format: the top 8 bits. -/
def top8 (xs : List Nat) : List Byte := xs.map (fun v => BitVec.ofNat 8 (v / 256))

/-- The output image of a pass. -/
def outImage (b : List Byte) (w : Nat) (xs : List Nat) (k : Nat) : List Byte :=
  let (x0, y0, cw, ch) := profCrop b
  if exactPath b && fld b 60 1 == 3 then top8 (cropPlane w x0 y0 cw ch (blackLevel b w xs))
  else (List.range (profOutBytes b)).map (fun i => BitVec.ofNat 8 (Config.freeNat (k + i)))

/-- A tap plane: exact at point 0, and at the later points where the stages before them are exact (Table 05.8). -/
def tapPlane (b : List Byte) (w : Nat) (xs : List Nat) (point k : Nat) : List Nat :=
  if point = 0 then xs
  else if (if point ≤ 2 then decide (fld b 3 1 % 16 < 2) else exactPath b) then blackLevel b w xs
  else openPlane k xs.length

/-- The histogram of a plane: 256 bins of the value >> 8 (R261). -/
def histogram (xs : List Nat) : List Byte :=
  (List.range 256).flatMap (fun v => leBytes 4 ((xs.filter (fun x => x / 256 == v)).length))

/-- The statistics after the META block's 64 bytes (R261, R262): for an exact mono frame R, G, B and Y are equal; zone means,
whose rounding is not given, and every figure of other frames are open. -/
def statBytes (b : List Byte) (w : Nat) (xs : List Nat) (k : Nat) : List Byte :=
  let (x0, y0, cw, ch) := profCrop b
  let zones := 8 * fld b 62 1 * fld b 63 1
  if exactPath b then
    let hs := histogram (cropPlane w x0 y0 cw ch (blackLevel b w xs))
    hs ++ hs ++ hs ++ hs ++ (List.range zones).map (fun i => BitVec.ofNat 8 (Config.freeNat (k + i)))
  else (List.range (4096 + zones)).map (fun i => BitVec.ofNat 8 (Config.freeNat (k + i)))

/-! ## Descriptors (Tables 05.4 and 05.5) -/

/-- CAMERA of an imaging descriptor. -/
def iCam (d : List Byte) : Nat := fld d 1 1 % 16
/-- PROFILE of an imaging descriptor. -/
def iProf (d : List Byte) : Nat := fld d 2 1 % 4

/-- The pieces of a direct buffer or a list. -/
def bufPieces (h : Hw) (sg : Bool) (a n len : Nat) : List (Nat × Nat) := if sg then sgPieces h a n else [(a, len)]

/-- The checks on a buffer that is direct or a list (R145, Table 03.3). -/
def bufCheck (h : Hw) (p : Nat) (sg : Bool) (a n len : Nat) : Nat :=
  if sg then sgCheck h p a n len
  else firstBad [(n == 0, ST_BAD_DESCRIPTOR), (h.owns p a len, ST_BUFFER_NOT_OWNED)]

/-- The raw buffer's pieces. -/
def rawPieces (h : Hw) (d : List Byte) : List (Nat × Nat) :=
  bufPieces h (bit (fld d 0 1) 4) (fld d 8 8) (fld d 4 2) (fld d 40 4)
/-- The output buffer's pieces. -/
def outPieces (h : Hw) (d : List Byte) : List (Nat × Nat) :=
  bufPieces h (bit (fld d 0 1) 5) (fld d 16 8) (fld d 6 2) (fld d 44 4)

/-- The enabled tap entries of a descriptor: ADDR, LEN, N, POINT and PLANE byte, and whether reserved bits are 0. -/
def tapList (h : Hw) (d : List Byte) : List (Nat × Nat × Nat × Nat × Bool) :=
  ((List.range 4).filter (fun i => bit (fld d 3 1) i)).map (fun i =>
    let a := fld d 32 8 + 16 * i
    (h.rdN a 8, h.rdN (a + 8) 4 % 2 ^ 25, h.rdN (a + 12) 2, h.rdN (a + 14) 1,
      h.rdN (a + 8) 4 / 2 ^ 25 == 0 && h.rdN (a + 15) 1 == 0 && decide (h.rdN (a + 14) 1 < 32)))

/-- Bytes of the META block of a descriptor (R262). -/
def metaLen (b : List Byte) (stats : Bool) : Nat := if stats then 4160 + 8 * fld b 62 1 * fld b 63 1 else 64

/-- The checks on a tap (R244, R247). -/
def tapCheck (h : Hw) (p need : Nat) (t : Nat × Nat × Nat × Nat × Bool) : Nat :=
  let (a, len, n, pt, ok) := t
  firstBad [(ok && decide (pt % 8 ≤ 5) && decide (pt / 8 ≤ 2) && a % 64 == 0 && decide (need ≤ len), ST_BAD_DESCRIPTOR),
    (decide (len ≤ maxTransfer), ST_TOO_LARGE), (bufCheck h p (n != 0) a n len == ST_OK, bufCheck h p (n != 0) a n len)]

/-- The first status of a list that is not ST_OK. -/
def firstSt (l : List Nat) : Nat := (l.find? (· != ST_OK)).getD ST_OK

/-- The checks of R247 on a POST or REPROCESS. -/
def frameCheck (h : Hw) (p : Nat) (d : List Byte) : Nat :=
  let c := iCam d
  let prof := mgetD (h.cam c).profs (iProf d) []
  let need := 2 * h.camPix c
  let stats := bit (fld d 3 1) 4
  let raw := fld d 8 8
  let out := fld d 16 8
  let op := fld d 0 1 % 16
  let st1 := firstBad [
    (decide (fld d 0 1 < 64) && decide (fld d 1 1 < 16) && decide (fld d 2 1 < 4) && decide (fld d 3 1 < 32)
      && fld d 24 8 % 64 == 0 && (fld d 3 1 % 16 == 0 || fld d 32 8 % 64 == 0)
      && h.ownsPort p (296 + c) && h.camOn c && bit (h.get F.IMG_CAM_STATUS_PROF_OK c) (iProf d)
      && (raw != 0 || (op == 1 && c == 0 && h.get F.IMG_CAM_CFG_PIPE c == 0))
      && (raw == 0 || decide (need ≤ fld d 40 4)) && (out == 0 || decide (profOutBytes prof ≤ fld d 44 4))
      && (op == 1 || out != 0), ST_BAD_DESCRIPTOR),
    (decide (fld d 40 4 ≤ maxTransfer) && decide (fld d 44 4 ≤ maxTransfer) && decide (need ≤ maxTransfer)
      && decide (profOutBytes prof ≤ maxTransfer), ST_TOO_LARGE)]
  if st1 ≠ ST_OK then st1 else
    firstSt ([if raw = 0 then ST_OK else bufCheck h p (bit (fld d 0 1) 4) raw (fld d 4 2) (fld d 40 4),
      if out = 0 then ST_OK else bufCheck h p (bit (fld d 0 1) 5) out (fld d 6 2) (fld d 44 4),
      if fld d 24 8 = 0 then ST_OK else bufCheck h p false (fld d 24 8) 0 (metaLen prof stats),
      if fld d 3 1 % 16 = 0 then ST_OK else bufCheck h p false (fld d 32 8) 0 64]
      ++ (tapList h d).map (tapCheck h p need))

/-- The checks at fetch of an imaging descriptor (R242 to R247). -/
def imgCheck (h : Hw) (p : Nat) (d : List Byte) : Nat :=
  let c := iCam d
  match fld d 0 1 % 16 with
  | 1 => frameCheck h p d
  | 2 => frameCheck h p d
  | 3 => firstBad [(decide (fld d 0 1 < 16) && decide (fld d 1 1 < 16) && decide (fld d 2 1 < 4) && allZero (slice d 3 5)
      && allZero (slice d 16 32) && h.ownsPort p (296 + c), ST_BAD_DESCRIPTOR),
      (h.owns p (fld d 8 8) profLen, ST_BUFFER_NOT_OWNED)]
  | 4 => firstBad [(decide (fld d 0 1 < 16) && decide (fld d 1 1 < 16) && decide (fld d 2 1 < 128) && decide (fld d 3 1 ≤ 32)
      && decide (fld d 4 1 ≤ 32) && (fld d 3 1 != 0 || fld d 4 1 != 0) && allZero (slice d 5 3)
      && h.ownsPort p (296 + c), ST_BAD_DESCRIPTOR),
      (h.owns p (fld d 8 8) (fld d 4 1), ST_BUFFER_NOT_OWNED)]
  | _ => ST_BAD_DESCRIPTOR

end Sys2Proof.Machine
end

