-- ==== Sys2Proof/Machine/StoreCore.lean ====
section
/-!
DEFINITION. The keep-alive clocks (R830) and the event recorder's and season store's shared operations (chapter 17). Readings:
log entries 36 and 37.
-/
namespace Sys2Proof.Machine

/-! ## Keep-alive clocks -/

/-- The real-time clock in units of 1/32,768 s (R830). -/
def Hw.rtcTicks (h : Hw) : Nat := h.pwr.rtc + (h.now - h.pwr.rtcAt) * 32768 / 1000000000

/-- PWR_RTC: whole seconds (R830). -/
def Hw.rtcSec (h : Hw) : Nat := h.rtcTicks / 32768 % 2 ^ 32

/-- The ns the logic domain has been ON (R830). -/
def Hw.opNs (h : Hw) : Nat := if h.pwr.state = .on then h.pwr.op + (h.now - h.pwr.opAt) else h.pwr.op

/-- PWR_OPTIME: the operating-time counter (R830). -/
def Hw.opTime (h : Hw) : Nat := h.opNs / 1000000000 % 2 ^ 32

/-! ## Recorder areas -/

/-- Bytes a record occupies (R760). -/
def recSize (bs : List Byte) : Nat := (bs.length + 31) / 32 * 32

/-- Bytes of an area: 0 general, 1 safety (R757). -/
def areaCap (a : Nat) : Nat := if a = 1 then 8 * 2 ^ 20 else 120 * 2 ^ 20

/-- Takes records from the front of an area until those left fit: the records, the bytes they occupy, and the numbers of the
records taken. -/
def areaTrim (cap : Nat) : List EvRec → Nat → List Nat → EvArea
  | [], u, l => ⟨[], u, l⟩
  | r :: rs, u, l => if u ≤ cap then ⟨r :: rs, u, l⟩ else areaTrim cap rs (u - recSize r.bytes) (l ++ [r.seq])

/-- Adds a record to an area, overwriting its oldest (R757). -/
def areaAdd (cap : Nat) (a : EvArea) (r : EvRec) : EvArea := areaTrim cap (a.recs ++ [r]) (a.used + recSize r.bytes) a.lost

/-- The bytes of a record (Table 17.3). -/
def evrBytes (ty flags seq time op pc : Nat) (pay : List Byte) : List Byte :=
  let hd := leBytes 2 (40 + pay.length) ++ leBytes 2 ty ++ leBytes 1 flags ++ zeros 3 ++ leBytes 8 seq ++ leBytes 8 time
    ++ leBytes 4 op ++ leBytes 4 pc
  hd ++ leBytes 4 (crc32 (hd ++ pay)) ++ zeros 4 ++ pay

/-- Writes a record to an area (R757, R760). -/
def evrPut (h : Hw) (area ty flags : Nat) (pay : List Byte) : Hw :=
  let q := h.evr.seq
  let r : EvRec := ⟨q, evrBytes ty flags q h.tb h.opTime (h.get F.PWR_PCYCLE_VALUE) pay⟩
  let e := { h.evr with seq := (q + 1) % 2 ^ 64 }
  let e1 := if area = 1 then { e with saf := areaAdd (areaCap 1) e.saf r } else { e with gen := areaAdd (areaCap 0) e.gen r }
  { h with evr := e1 }.put64 F.EVR_SEQ_LO_SEQ e1.seq

/-- A module-logged event is a safety record (R758). -/
def safetyType (ty : Nat) : Bool := (decide (0x0700 ≤ ty) && decide (ty ≤ 0x0CFF)) || ty == 0x1002

/-- Writes a module event with its instance and the occurrences it carries (R759). -/
def evrModule (h : Hw) (ty inst n : Nat) : Hw :=
  let s := safetyType ty
  evrPut h (b2n s) ty (8 + 16 * b2n s) (leBytes 2 inst ++ leBytes 2 (satN 16 n) ++ zeros 4)

/-- The key of a rate-limited event. -/
def rateKey (ty inst : Nat) : Nat := ty * 65536 + inst

/-- Records one occurrence, or holds it (R904). -/
def diagOne (h : Hw) (o : DiagOcc) : Hw :=
  if !o.limited then evrModule h o.ty o.inst 1 else
    let k := rateKey o.ty o.inst
    match mget h.evr.rates k with
    | some (t, held) =>
      if h.now < t + 1000000000 ∨ held ≠ 0 then { h with evr := { h.evr with rates := mset h.evr.rates k (t, held + 1) } }
      else evrModule { h with evr := { h.evr with rates := mset h.evr.rates k (h.now, 0) } } o.ty o.inst 1
    | none => evrModule { h with evr := { h.evr with rates := mset h.evr.rates k (h.now, 0) } } o.ty o.inst 1

/-- Records every occurrence that waits, in order; those beyond 256 held at start-up are counted instead (R762). -/
def diagAll (h : Hw) (most : Nat) : Hw :=
  let occ := h.diag.take most
  let lost := h.diag.length - occ.length
  occ.foldl diagOne ({ h with diag := [] }.bump F.EVR_CNT_COUNT 2 0 lost)

/-- Records what waits before the logic domain goes off or is reset. -/
def diagFlush (h : Hw) : Hw := if h.flag F.EVR_STATUS_READY then diagAll h h.diag.length else h

/-! ## Season store -/

/-- The key of a block. -/
def blkKey (r b : Nat) : Nat := r * 2 ^ 36 + b

/-- Blocks mapped in a region. -/
def regBlocks (h : Hw) (r : Nat) : Nat := (h.sto.blks.filter (fun (k, _) => k / 2 ^ 36 == r)).length

/-- Shows STO_REG_USED: mapped blocks in MiB, rounded up. -/
def showUsed (h : Hw) (r : Nat) : Hw := h.put F.STO_REG_USED_MIB ((regBlocks h r + 255) / 256) r

/-- The dies available (R732). -/
def diesUp (h : Hw) : Nat :=
  ((List.range 128).filter (fun d => !h.flag F.STO_DIE_SLOW d && !h.flag F.STO_DIE_RETIRED d)).length

/-- Shows STO_STATUS.AVAIL. -/
def showDies (h : Hw) : Hw := h.put F.STO_STATUS_AVAIL (diesUp h)

/-- STO_LOAD: the writes of the last second against the sustained rate of the dies now available, in 0.1 %, saturating. -/
def stoLoad (h : Hw) : Nat :=
  let n := ((h.sto.writes.filter (fun (t, _) => decide (h.now < t + 1000000000))).map (·.2)).sum
  let a := diesUp h
  if n = 0 then 0 else if a = 0 then 65535 else satN 16 (n * 1000 * 128 / (12000000000 * a))

/-- The store enters READ_ONLY once its spare pool is below 40 GB (R754, R755). -/
def readOnlyJudge (h : Hw) : Hw :=
  if h.get F.STO_SPARE_GB < 40 && !h.flag F.STO_STATUS_READ_ONLY then
    ({ h with sto := { h.sto with roAt := some h.now } }.put F.STO_STATUS_READ_ONLY 1).log 0x1103
  else h

/-- Blocks retired take GB from the spare pool (R731, R753). -/
def spareTake (h : Hw) (gb : Nat) : Hw := readOnlyJudge (h.put F.STO_SPARE_GB (h.get F.STO_SPARE_GB - gb))

/-- A region of the season store is created, enabled and a partition's (R738, R740). -/
def regOk (h : Hw) (r p : Nat) : Bool :=
  h.flag F.STO_REG_CFG_CREATED r && h.flag F.STO_REG_CFG_EN r && h.get F.STO_REG_CFG_OWNER r == p

/-- The fields of a season store descriptor (Table 17.1). -/
def sReg (d : List Byte) : Nat := fld d 1 1 % 16
/-- LENGTH in blocks. -/
def sBlks (d : List Byte) : Nat := fld d 4 4 / 4096
/-- First logical block. -/
def sLba (d : List Byte) : Nat := fld d 8 8

/-- The pieces of memory a season store or Guard descriptor names, given where ADDR stands. -/
def dPieces (h : Hw) (d : List Byte) (addr : Nat) : List (Nat × Nat) :=
  if bit (fld d 0 1) 4 then sgPieces h addr (fld d 2 2) else [(addr, fld d 4 4)]

/-- Cuts bytes into blocks of 4,096. -/
def cutBlocks : Nat → List Byte → List (List Byte)
  | 0, _ => []
  | n + 1, bs => bs.take 4096 :: cutBlocks n (bs.drop 4096)

/-- Stores blocks from a logical block on; a block of zeros stays mapped. -/
def putBlocks (m : Map (List Byte)) (r : Nat) : Nat → List (List Byte) → Map (List Byte)
  | _, [] => m
  | b, x :: xs => putBlocks (mset m (blkKey r b) x) r (b + 1) xs

/-- A write that has not completed when the supplies are lost leaves each of its blocks old or new, left open (R742). -/
def tornWrite (h : Hw) (f : Flight) : Hw :=
  let d := f.desc
  let bs := cutBlocks (sBlks d) (gather h (dPieces h d (fld d 16 8)))
  bs.zipIdx.foldl (fun g (x, i) =>
    let (v, g1) := g.fresh
    if v % 2 = 0 then g1 else { g1 with sto := { g1.sto with blks := mset g1.sto.blks (blkKey (sReg d) (sLba d + i)) x } }) h

/-- Every write in flight is cut off by a loss of the supplies or a reset. -/
def tornWrites (h : Hw) : Hw :=
  let h1 := (h.rng.flights.filter (fun f => f.eng == 2 && f.stage == 1 && fld f.desc 0 1 % 16 == 1)).foldl tornWrite h
  (List.range 16).foldl showUsed h1

/-- A WRITE was fetched before the store entered READ_ONLY, or the store has not (R754). -/
def beforeRo (h : Hw) (f : Flight) : Bool :=
  !h.flag F.STO_STATUS_READ_ONLY || (match h.sto.roAt with | some t => decide (f.since < t) | none => false)

/-- Shows the yield reserve in GB. -/
def showReserve (h : Hw) : Hw := h.put F.STO_STATUS_RESERVE (h.sto.reserve * 4096 / 1000000000)

/-- A WRITE's blocks become durable and it completes; blocks retired for it take GB from the spare pool. In READ_ONLY the blocks come
from the yield reserve, or the write is rejected (R741, R744, R754, R756). -/
def stoWriteDo (h : Hw) (f : Flight) (gb : Nat) : Hw :=
  let d := f.desc
  let n := sBlks d
  let res := !beforeRo h f
  if res && decide (h.sto.reserve < n) then (h.finish f ST_STO_FULL h.tb).log 0x1104 0xFFFF true
  else
    let ps := dPieces h d (fld d 16 8)
    h.engRead f ps fun g =>
      let s1 := { g.sto with blks := putBlocks g.sto.blks (sReg d) (sLba d) (cutBlocks n (gather g ps)),
                             reserve := if res then g.sto.reserve - n else g.sto.reserve,
                             writes := (g.sto.writes.filter (fun (t, _) => decide (g.now < t + 1000000000))) ++ [(g.now, 4096 * n)] }
      spareTake (showReserve (showUsed ({ g with sto := s1 }.finish f ST_OK g.tb n (4096 * n)) (sReg d))) gb

/-- WRITE operations in flight, in fetch order. -/
def stoWrites (h : Hw) : List Flight :=
  h.rng.flights.filter (fun f => f.eng == 2 && f.stage == 1 && fld f.desc 0 1 % 16 == 1)

/-- Completes every write in flight, in fetch order (R833). -/
def finishWrites (h : Hw) : Hw := (stoWrites h).foldl (fun g f => stoWriteDo g f 0) h

end Sys2Proof.Machine
end

