-- ==== Sys2Proof/Machine/DescChecks.lean ====
section
/-!
DEFINITION. What each engine checks when it fetches a descriptor (R141, Table 03.3): an operation code that is defined, fields
within their tables, reserved bytes 0, ownership of the target and of the memory named, and the statuses of the engine's own
list in its order. Readings: log entry 17.
-/
namespace Sys2Proof.Machine

/-- Bytes 0 to 47 of a descriptor are 0 but for the named ranges (offset, length). -/
def onlyBytes (used : List (Nat × Nat)) (d : List Byte) : Bool :=
  (List.range 48).all (fun i => used.any (fun (a, n) => decide (a ≤ i) && decide (i < a + n)) || (slice d i 1).all (· == 0))

/-- The operation code. -/
def dOp (d : List Byte) : Nat := fld d 0 1 % 16

/-- Byte 0 holds the operation code and at most the flag bits allowed. -/
def head0 (d : List Byte) (flags : Nat) : Bool := (fld d 0 1 / 16 * 16 &&& flags) == fld d 0 1 / 16 * 16

/-- The list count of a descriptor fits its SG bit: 0 without, 1 to 4,096 with a list. -/
def sgCount (sg : Bool) (n : Nat) : Bool := if sg then decide (1 ≤ n) else n == 0

/-- A buffer named directly or by a list lies in memory of the partition (R144, R145). -/
def memCheck (h : Hw) (p : Nat) (sg : Bool) (a n len : Nat) : Nat :=
  if maxTransfer < len then ST_TOO_LARGE
  else if sg then sgCheck h p a n len
  else firstBad [(h.owns p a len, ST_BUFFER_NOT_OWNED)]

/-- A record buffer descriptor as Table 06.4 gives it, of at least a capacity, whose stream and port are allowed: a wrong target ends
with `st` (R291 and others). -/
def recbufCheck (h : Hw) (p : Nat) (d : List Byte) (flags least : Nat) (shape mine : Bool) (st : Nat) : Nat :=
  let sg := bit (fld d 0 1) 4 && bit flags 4
  firstBad [(head0 d flags && shape && sgCount sg (fld d 4 2) && bufDescOk sg least d, ST_BAD_DESCRIPTOR), (mine, st),
    (bufMemCheck h p sg d == ST_OK, bufMemCheck h p sg d)]

/-! ## Engine 0: block movers (R146, R147) -/

/-- The checks of a block mover descriptor. -/
def bmCheck (h : Hw) (p : Nat) (d : List Byte) : Nat :=
  let copy := dOp d == 1
  let ssg := bit (fld d 0 1) 4
  let dsg := bit (fld d 0 1) 5
  let n := fld d 4 4
  let ok := (dOp d == 1 || dOp d == 2) && head0 d 0x30 && (copy || !ssg) && onlyBytes [(0, 1), (4, 24)] d && decide (1 ≤ n)
    && sgCount ssg (fld d 24 2) && sgCount dsg (fld d 26 2)
    && (!copy || ssg || dsg || !overlap [(fld d 8 8, n)] [(fld d 16 8, n)])
  firstBad [(ok, ST_BAD_DESCRIPTOR), (decide (n ≤ maxTransfer), ST_TOO_LARGE),
    (!copy || memCheck h p ssg (fld d 8 8) (fld d 24 2) n == ST_OK, memCheck h p ssg (fld d 8 8) (fld d 24 2) n),
    (memCheck h p dsg (fld d 16 8) (fld d 26 2) n == ST_OK, memCheck h p dsg (fld d 16 8) (fld d 26 2) n)]

/-! ## Engine 1: Waggle -/

/-- A Waggle descriptor holds a slot record in bytes 0 to 31, the slot number and the operation, 1 to arm and 2 to disarm (R98). -/
def wglCheck (d : List Byte) : Nat :=
  let op := fld d 34 1
  firstBad [((op == 1 || op == 2) && allZero (slice d 35 13), ST_BAD_DESCRIPTOR)]

/-! ## Engine 2: season store (R739, R740, R754, R756) -/

/-- The checks of a season store descriptor. -/
def stoCheck (h : Hw) (p : Nat) (d : List Byte) : Nat :=
  let op := dOp d
  let sg := bit (fld d 0 1) 4
  let res := bit (fld d 0 1) 5
  let r := sReg d
  let n := fld d 4 4
  let ok := decide (1 ≤ op) && decide (op ≤ 3) && decide (fld d 0 1 < 64) && decide (fld d 1 1 < 16) && sgCount sg (fld d 2 2)
    && n % 4096 == 0 && decide (4096 ≤ n) && allZero (slice d 24 24)
  firstBad [(ok, ST_BAD_DESCRIPTOR), (decide (n ≤ maxTransfer), ST_TOO_LARGE), (regOk h r p, ST_STO_REGION),
    (decide (sLba d + n / 4096 ≤ h.get F.STO_REG_SIZE_MIB r * 256), ST_STO_RANGE),
    (!res || (op == 1 && h.flag F.STO_REG_CFG_YRES r), ST_BAD_DESCRIPTOR),
    (op != 1 || res || !h.flag F.STO_STATUS_READ_ONLY, ST_STO_READ_ONLY),
    (op == 3 || memCheck h p sg (fld d 16 8) (fld d 2 2) n == ST_OK, memCheck h p sg (fld d 16 8) (fld d 2 2) n)]

/-! ## Engine 3: Ethernet (R664, R665) -/

/-- The checks of an Ethernet descriptor. -/
def ethDescCheck (h : Hw) (p : Nat) (d : List Byte) : Nat :=
  let n := fld d 1 1
  match dOp d with
  | 1 =>
    let sg := bit (fld d 0 1) 4
    let len := fld d 6 2
    firstBad [(decide (n ≤ 11) && head0 d 0x10 && decide (fld d 2 1 < 8) && fld d 3 1 == 0 && sgCount sg (fld d 4 2)
        && decide (14 ≤ len) && decide (len ≤ 9212) && allZero (slice d 24 24), ST_BAD_DESCRIPTOR),
      (h.ownsPort p (312 + n), ST_TARGET_NOT_OWNED),
      (memCheck h p sg (fld d 8 8) (fld d 4 2) len == ST_OK, memCheck h p sg (fld d 8 8) (fld d 4 2) len)]
  | 2 =>
    let port := fld d 2 2
    recbufCheck h p d 0x10 128 (decide (n < 8) && decide (312 ≤ port) && decide (port ≤ 323)) (h.ownsPort p port) ST_TARGET_NOT_OWNED
  | 3 =>
    firstBad [(decide (n ≤ 11) && head0 d 0 && onlyBytes [(0, 2), (8, 8)] d, ST_BAD_DESCRIPTOR),
      (h.ownsPort p (312 + n), ST_TARGET_NOT_OWNED), (h.owns p (fld d 8 8) 16, ST_BUFFER_NOT_OWNED)]
  | _ => ST_BAD_DESCRIPTOR

/-! ## Engine 5: CAN and LIN (R640, R641) -/

/-- The checks of OP 1 to 3 on a transmit buffer. -/
def canTxCheck (h : Hw) (p : Nat) (d : List Byte) (shape : Bool) : Nat :=
  let n := fld d 1 1
  let b := fld d 2 1
  firstBad [(decide (n < 16) && decide (b < 128) && head0 d 0 && shape, ST_BAD_DESCRIPTOR),
    (h.ownsPort p (280 + n), ST_TARGET_NOT_OWNED), (h.flag F.CAN_CTRL_EN n && canTxOk h n b, ST_CAN_NOT_TX)]

/-- The checks of a CAN or LIN descriptor. -/
def canDescCheck (h : Hw) (p : Nat) (d : List Byte) : Nat :=
  let n := fld d 1 1
  match dOp d with
  | 1 =>
    let w := fld d 4 4
    let fd := frameFdf w
    let rtr := bit (fld d 3 1) 4
    let len := if rtr && !fd then 0 else dlcLen fd (fld d 3 1 % 16)
    let a := fld d 8 8
    let st := canTxCheck h p d (decide (fld d 3 1 < 64) && onlyBytes [(0, 16)] d && a % 64 == 0)
    firstBad [(st == ST_OK, st),
      (h.flag F.CAN_CTRL_FD_EN n || (!bit w 30 && !bit w 31), ST_BAD_DESCRIPTOR),
      (a == 0 || h.owns p a len, ST_BUFFER_NOT_OWNED)]
  | 2 => canTxCheck h p d (onlyBytes [(0, 3)] d)
  | 3 => canTxCheck h p d (onlyBytes [(0, 3)] d)
  | 4 =>
    let port := fld d 2 2
    recbufCheck h p d 0x10 (if n = 0 then 128 else 64)
      ((n == 0 && decide (280 ≤ port) && decide (port < 296)) || (n == 1 && (port == 510 || port == 511)))
      (h.ownsPort p port) ST_TARGET_NOT_OWNED
  | 5 =>
    let cnt := clampN (h.rdN (fld d 8 8 + 2) 2) 1 64
    firstBad [(decide (n < 2) && head0 d 0 && onlyBytes [(0, 2), (8, 8)] d, ST_BAD_DESCRIPTOR),
      (h.ownsPort p (510 + n), ST_TARGET_NOT_OWNED), (h.owns p (fld d 8 8) (16 + 16 * cnt), ST_BUFFER_NOT_OWNED)]
  | 6 => firstBad [(decide (n < 2) && head0 d 0 && decide (fld d 2 1 < 64) && onlyBytes [(0, 3), (8, 8)] d, ST_BAD_DESCRIPTOR),
      (h.ownsPort p (510 + n), ST_TARGET_NOT_OWNED)]
  | _ => ST_BAD_DESCRIPTOR

/-! ## Engine 6: control engine (R378 to R393) -/

/-- The entries in use of a descriptor of up to five 8-byte entries; the unused ones are 0. -/
def ent5 (d : List Byte) : List Nat := (List.range (fld d 1 1)).map (fun i => fld d (8 + 8 * i) 8)

/-- The count and the unused bytes of a descriptor of up to five entries. -/
def five (d : List Byte) : Bool :=
  let n := fld d 1 1
  decide (1 ≤ n) && decide (n ≤ 5) && onlyBytes [(0, 2), (8, 8 * n)] d

/-- The checks of a control engine descriptor. -/
def ctlDescCheck (h : Hw) (p : Nat) (d : List Byte) : Nat :=
  let bad (ok : Bool) : Nat := firstBad [(ok && head0 d 0, ST_BAD_DESCRIPTOR)]
  match dOp d with
  | 1 => bad (five d && (ent5 d).all (fun e => bits e 31 8 == 0))
  | 2 => bad (five d && (ent5 d).all (fun e => bits e 7 6 == 0 && bits e 31 9 == 0))
  | 3 => bad (five d && (ent5 d).all (fun e => decide (bits e 10 8 ≤ 4) && !bit e 11 && decide (bits e 13 12 ≤ 2) && bits e 31 14 == 0))
  | 4 =>
    let a := fld d 8 8
    let cnt := clampN (h.rdN (a + 2) 2) 1 256
    let st := bad (onlyBytes [(0, 1), (8, 8)] d && a % 64 == 0)
    firstBad [(st == ST_OK, st), (h.owns p a (16 + 128 * cnt), ST_BUFFER_NOT_OWNED)]
  | 5 =>
    let wave := fld d 2 1 / 2
    bad (onlyBytes [(0, 22), (24, 8)] d && decide (1 ≤ wave) && decide (wave ≤ 3) && decide (fld d 3 1 ≤ 5) && decide (1 ≤ fld d 4 4)
      && decide (fld d 4 4 < 2 ^ 31) && (wave != 2 || decide (1 ≤ fld d 20 2)))
  | 6 => bad (onlyBytes [(0, 6), (8, 17)] d && decide (1 ≤ fld d 1 1) && decide (fld d 1 1 ≤ 4) && decide (1 ≤ fld d 8 4)
      && decide (fld d 8 4 ≤ 65536) && decide (1 ≤ fld d 12 4) && decide (fld d 12 4 ≤ 65535) && decide (fld d 24 1 ≤ 1))
  | 7 =>
    let n := fld d 16 4
    let st := bad (onlyBytes [(0, 1), (4, 16)] d && fld d 8 8 % 64 == 0 && decide (1 ≤ n) && decide (fld d 4 4 + n ≤ 65536))
    firstBad [(st == ST_OK, st), (h.owns p (fld d 8 8) (32 * n), ST_BUFFER_NOT_OWNED)]
  | _ => ST_BAD_DESCRIPTOR

/-! ## Engine 7: Guard (R783, R794, R808) -/

/-- The component of the session's manifest with an index. -/
def grdComp (h : Hw) (i : Nat) : Option Comp := h.grd.man.bind (fun m => m.comps[i]?)

/-- The checks of a Guard descriptor. -/
def grdDescCheck (h : Hw) (p : Nat) (d : List Byte) : Nat :=
  let op := dOp d
  let sg := bit (fld d 0 1) 4
  let src := decide (8 ≤ op) || p == 0 || (op == 5 && sesState h == 5 && !h.flag F.GRD_SESSION_SCOPE && h.get F.GRD_SESSION_PART == p)
  let shape := match op with
    | 1 => head0 d 0 && onlyBytes [(0, 1), (8, 12)] d
    | 2 => head0 d 0x10 && onlyBytes [(0, 24)] d && sgCount sg (fld d 2 2) && decide (1 ≤ fld d 4 4)
    | 7 => head0 d 0 && onlyBytes [(0, 1), (8, 12)] d
    | 8 => head0 d 0 && onlyBytes [(0, 1), (8, 12)] d && decide (4096 ≤ fld d 16 4)
    | 9 => head0 d 0x10 && onlyBytes [(0, 24)] d && decide (fld d 1 1 ≤ 1) && sgCount sg (fld d 2 2) && decide (1 ≤ fld d 4 4)
    | 10 => head0 d 0 && onlyBytes [(0, 1), (8, 12)] d && decide (1 ≤ fld d 16 4) && decide (fld d 16 4 ≤ 4096)
    | 11 => head0 d 0 && onlyBytes [(0, 1), (8, 40)] d
    | k => decide (3 ≤ k) && decide (k ≤ 6) && head0 d 0 && onlyBytes [(0, 1)] d
  let put := if op = 2 then
      (if sesState h ≠ 1 then ST_GRD_NOT_READY
       else match grdComp h (fld d 1 1) with
         | none => ST_BAD_DESCRIPTOR
         | some c => if c.plen < fld d 16 8 + fld d 4 4 then ST_BAD_DESCRIPTOR else ST_OK)
    else ST_OK
  let mem := match op with
    | 1 => memCheck h p false (fld d 8 8) 0 (fld d 16 4)
    | 2 => memCheck h p sg (fld d 8 8) (fld d 2 2) (fld d 4 4)
    | 7 => memCheck h p false (fld d 8 8) 0 (fld d 16 4)
    | 8 => memCheck h p false (fld d 8 8) 0 (fld d 16 4)
    | 9 => firstBad [(memCheck h p sg (fld d 8 8) (fld d 2 2) (fld d 4 4) == ST_OK, memCheck h p sg (fld d 8 8) (fld d 2 2) (fld d 4 4)),
        (h.owns p (fld d 16 8) 64, ST_BUFFER_NOT_OWNED)]
    | 10 => firstBad [(h.owns p (fld d 8 8) (fld d 16 4), ST_BUFFER_NOT_OWNED)]
    | 11 => firstBad [(h.owns p (fld d 40 8) 64, ST_BUFFER_NOT_OWNED)]
    | _ => ST_OK
  firstBad [(shape, ST_BAD_DESCRIPTOR), (src, ST_TARGET_NOT_OWNED), (put == ST_OK, put), (mem == ST_OK, mem)]

/-! ## Engine 8: recorder (R763, R764) -/

/-- The checks of a recorder descriptor. -/
def evrDescCheck (h : Hw) (p : Nat) (d : List Byte) : Nat :=
  match dOp d with
  | 1 =>
    firstBad [(head0 d 0 && decide (fld d 1 1 ≤ 1) && onlyBytes [(0, 6), (8, 8)] d, ST_BAD_DESCRIPTOR),
      (fld d 1 1 == 0 || decide (p ≤ 1), ST_TARGET_NOT_OWNED), (decide (fld d 4 2 ≤ 4056), ST_EVR_TOO_LARGE),
      (h.owns p (fld d 8 8) (fld d 4 2), ST_BUFFER_NOT_OWNED)]
  | 2 =>
    let n := fld d 24 4
    firstBad [(head0 d 0 && decide (fld d 1 1 ≤ 1) && onlyBytes [(0, 2), (8, 20)] d && fld d 16 8 % 64 == 0 && n % 64 == 0,
        ST_BAD_DESCRIPTOR), (decide (n ≤ maxTransfer), ST_TOO_LARGE), (h.owns p (fld d 16 8) n, ST_BUFFER_NOT_OWNED)]
  | _ => ST_BAD_DESCRIPTOR

/-! ## Engine 9: fusion (R526 to R529) -/

/-- A time of validity lies within 1 ms after and 1,000 ms before the fetch (R529). -/
def fusTovOk (h : Hw) (t : Nat) : Bool := decide (t ≤ h.tb + 1000000) && decide (h.tb ≤ t + 1000000000)

/-- The checks of a fusion descriptor. -/
def fusDescCheck (h : Hw) (p : Nat) (d : List Byte) : Nat :=
  let owner := p == h.get F.FUS_OWNER_OWNER
  match dOp d with
  | 1 =>
    let s := fld d 1 1
    let sg := bit (fld d 0 1) 4
    let n := fld d 2 2
    firstBad [(decide (s < 16) && head0 d 0x10 && onlyBytes [(0, 6), (8, 16)] d && sgCount sg (fld d 4 2) && decide (1 ≤ n),
        ST_BAD_DESCRIPTOR),
      (p == h.get F.FUS_SRC_PART s, ST_TARGET_NOT_OWNED), (h.flag F.FUS_SRC_EN s, ST_BAD_DESCRIPTOR),
      (fusTovOk h (fld d 8 8), ST_FUS_TOV), (decide (n ≤ 4096), ST_TOO_LARGE),
      (memCheck h p sg (fld d 16 8) (fld d 4 2) (64 * n) == ST_OK, memCheck h p sg (fld d 16 8) (fld d 4 2) (64 * n))]
  | 2 =>
    firstBad [(owner, ST_TARGET_NOT_OWNED),
      (head0 d 0 && decide (1 ≤ fld d 1 1) && decide (fld d 1 1 < 16) && onlyBytes [(0, 2), (4, 30), (36, 8)] d, ST_BAD_DESCRIPTOR),
      (fusTovOk h (fld d 8 8), ST_FUS_TOV), (h.flag F.FUS_CTRL_EN && h.get F.FUS_STATUS_EGO == 1, ST_FUS_NOT_ALIGNED)]
  | 3 => firstBad [(owner, ST_TARGET_NOT_OWNED), (head0 d 0 && onlyBytes [(0, 1), (4, 20)] d, ST_BAD_DESCRIPTOR)]
  | 4 =>
    recbufCheck h p d 0x10 64 (decide (fld d 1 1 ≤ 1) && fld d 2 2 == 0) (bit (h.get F.FUS_OWNER_READERS) p) ST_TARGET_NOT_OWNED
  | _ => ST_BAD_DESCRIPTOR

/-! ## Engine 10: GNSS (R590 to R592, R601) -/

/-- The fields of a CHAN descriptor (Table 13.5). -/
def chanOk (d : List Byte) : Bool :=
  let s := fld d 2 1
  let sys := s % 4
  let prn := fld d 3 1
  let most := match sys with | 0 => 32 | 1 => 36 | _ => 63
  let rng (i n lo hi : Nat) : Bool := decide (lo ≤ fld d i n) && decide (fld d i n ≤ hi)
  head0 d 0x10 && onlyBytes [(0, 15), (16, 16)] d && decide (fld d 1 1 < 64) && sys != 3 && bit s 2 && (!bit s 4 || sys == 0)
    && decide (1 ≤ prn) && decide (prn ≤ most) && rng 4 1 1 32 && rng 5 1 (fld d 4 1) 32 && rng 6 1 1 20 && rng 7 1 1 20
    && rng 12 2 0 50000 && rng 14 1 1 64 && rng 16 2 10 400 && rng 18 2 1 1000 && rng 30 2 1 600

/-- A CHAN in flight, not yet taken up, names a Forager of the antenna for which a test holds. -/
def chanWaits (h : Hw) (a : Nat) (t : List Byte → Bool) : Bool :=
  h.rng.flights.any (fun f => f.eng == 10 && decide (f.stage ≤ 1) && dOp f.desc == 1 && fld f.desc 0 1 / 16 % 2 == a && t f.desc)

/-- The checks of a GNSS descriptor. -/
def gnsDescCheck (h : Hw) (p : Nat) (d : List Byte) : Nat :=
  let a := fld d 0 1 / 16 % 2
  let own := h.ownsPort p (324 + a)
  let sat (e : List Byte) : Bool := fld e 2 1 % 4 == fld d 2 1 % 4 && fld e 3 1 == fld d 3 1
  match dOp d with
  | 1 =>
    let k := a * 64 + fld d 1 1
    firstBad [(own, ST_TARGET_NOT_OWNED), (chanOk d, ST_BAD_DESCRIPTOR),
      ((mget h.gns.fors k).isNone && !h.gns.fors.any (fun (n, x) => n / 64 == a && sat x.desc)
        && !chanWaits h a (fun e => fld e 1 1 == fld d 1 1 || sat e), ST_GNS_BUSY)]
  | 2 => firstBad [(own, ST_TARGET_NOT_OWNED), (head0 d 0x10 && onlyBytes [(0, 1), (8, 8)] d, ST_BAD_DESCRIPTOR)]
  | 3 =>
    let st := recbufCheck h p d 0x10 64 (decide (fld d 1 1 ≤ 2) && fld d 2 2 == 0) true ST_OK
    firstBad [(own, ST_TARGET_NOT_OWNED), (st == ST_OK, st)]
  | 4 => firstBad [(h.ownsPort p 324, ST_TARGET_NOT_OWNED),
      (head0 d 0 && onlyBytes [(0, 24)] d && decide (fld d 1 1 < 4), ST_BAD_DESCRIPTOR)]
  | _ => ST_BAD_DESCRIPTOR

/-! ## Engine 11: sensor front-end (R289, R291, R315, R317, R335, R337) -/

/-- The checks of a sensor front-end descriptor. -/
def sfeDescCheck (h : Hw) (p : Nat) (d : List Byte) : Nat :=
  let mine := yldOwner h == some p
  match dOp d with
  | 1 =>
    let st := fld d 1 1
    let port := fld d 2 2
    let ok := if st = 0 then port == imuPort || (decide (326 ≤ port) && decide (port < 510) && h.ownsPort p port)
      else decide (st ≤ 5) && port == 0 && ((st != 3 && st != 4) || mine)
    recbufCheck h p d 0x10 (if st = 0 ∨ st = 5 then 128 else 64) ok true ST_OK
  | 2 =>
    let n := fld d 1 1
    firstBad [(mine && head0 d 0 && decide (1 ≤ n) && decide (n ≤ 3) && onlyBytes [(0, 2), (8, 12 * n)] d
      && (List.range n).all (fun i => decide (fld d (16 + 12 * i) 2 ≤ 10000)), ST_BAD_DESCRIPTOR)]
  | 3 => firstBad [(mine && head0 d 0 && onlyBytes [(0, 1), (8, 8)] d, ST_BAD_DESCRIPTOR), (h.owns p (fld d 8 8) 160, ST_BUFFER_NOT_OWNED)]
  | 4 => firstBad [(mine && head0 d 0 && onlyBytes [(0, 1), (8, 10)] d, ST_BAD_DESCRIPTOR)]
  | 5 =>
    let n := fld d 4 4
    let ssg := bit (fld d 0 1) 4
    let dsg := bit (fld d 0 1) 5
    firstBad [(mine && head0 d 0x30 && onlyBytes [(0, 1), (4, 24)] d && decide (1 ≤ n) && decide (n ≤ 262144)
        && sgCount ssg (fld d 24 2) && sgCount dsg (fld d 26 2), ST_BAD_DESCRIPTOR),
      (memCheck h p ssg (fld d 8 8) (fld d 24 2) (32 * n) == ST_OK, memCheck h p ssg (fld d 8 8) (fld d 24 2) (32 * n)),
      (memCheck h p dsg (fld d 16 8) (fld d 26 2) (64 * n) == ST_OK, memCheck h p dsg (fld d 16 8) (fld d 26 2) (64 * n))]
  | _ => ST_BAD_DESCRIPTOR

/-! ## Engine 12: power-tile hub (R420 to R423, R459, R460, R474, R491, R494, R507 to R509) -/

/-- A descriptor of 4-byte set entries: their number and the unused bytes. -/
def setShape (d : List Byte) (most : Nat) : Bool :=
  let n := fld d 1 1
  head0 d 0 && decide (1 ≤ n) && decide (n ≤ most) && onlyBytes [(0, 2), (8, 4 * n)] d

/-- The entries of a set descriptor. -/
def setEnts (d : List Byte) : List Nat := (List.range (fld d 1 1)).map (fun i => fld d (8 + 4 * i) 4)

/-- The checks of a power-tile hub descriptor. -/
def pthDescCheck (h : Hw) (p : Nat) (d : List Byte) : Nat :=
  let es := setEnts d
  match dOp d with
  | 1 => firstBad [(head0 d 0 && onlyBytes [(0, 1), (8, 12)] d && fld d 8 8 % 64 == 0, ST_BAD_DESCRIPTOR),
      (decide (fld d 16 4 ≤ maxTransfer), ST_TOO_LARGE), (h.owns p (fld d 8 8) (fld d 16 4), ST_BUFFER_NOT_OWNED)]
  | 2 => firstBad [(setShape d 10 && es.all (fun e => decide (e < 2 ^ 20) && decide (e % 256 < 48)), ST_BAD_DESCRIPTOR),
      (es.all (fun e => h.ownsPort p (e % 256)), ST_TARGET_NOT_OWNED),
      (es.all (fun e => h.flag F.SOL_CFG_ENABLE (e % 256) && h.get F.SOL_CFG_MODE (e % 256) == 2), ST_SOL_MODE)]
  | 3 => firstBad [(setShape d 10 && es.all (fun e => (e &&& 0x17F) == e && decide (e % 128 < 96)), ST_BAD_DESCRIPTOR),
      (es.all (fun e => h.ownsPort p (48 + e % 128)), ST_TARGET_NOT_OWNED),
      (es.all (fun e => h.flag F.LSW_CFG_ENABLE (e % 128) && h.get F.LSW_CFG_MODE (e % 128) == 1), ST_LSW_MODE)]
  | 4 => firstBad [(head0 d 0 && onlyBytes [(0, 1), (4, 4)] d, ST_BAD_DESCRIPTOR), (p == 0, ST_TARGET_NOT_OWNED)]
  | 5 => firstBad [(setShape d 10 && es.all (fun e => (e &&& 0x17F) == e), ST_BAD_DESCRIPTOR),
      (es.all (fun e => h.ownsPort p (144 + e % 128)), ST_TARGET_NOT_OWNED),
      (es.all (fun e => h.flag F.DIO_CFG_ENABLE (e % 128) && h.flag F.DIO_CFG_DIR (e % 128) && h.get F.DIO_CFG_MODE (e % 128) == 1),
        ST_DIO_MODE)]
  | 6 => recbufCheck h p d 0x10 64 (fld d 1 1 == 0 && fld d 2 2 == 0) true ST_OK
  | 7 => firstBad [(setShape d 8 && es.all (fun e => e % 65536 < 8), ST_BAD_DESCRIPTOR),
      (es.all (fun e => h.ownsPort p (272 + e % 8)), ST_TARGET_NOT_OWNED),
      (es.all (fun e => h.flag F.FAN_CFG_ENABLE (e % 8) && h.get F.FAN_CFG_MODE (e % 8) == 1), ST_FAN_MODE)]
  | 8 => firstBad [(head0 d 0 && decide (fld d 1 1 < 8) && onlyBytes [(0, 2), (8, 8)] d, ST_BAD_DESCRIPTOR),
      (h.ownsPort p (272 + fld d 1 1), ST_TARGET_NOT_OWNED), (h.owns p (fld d 8 8) 64, ST_BUFFER_NOT_OWNED)]
  | _ => ST_BAD_DESCRIPTOR

/-- The checks of an engine on a descriptor of a partition (R141). -/
def descCheck (h : Hw) (eng p : Nat) (d : List Byte) : Nat :=
  match eng with
  | 0 => bmCheck h p d
  | 1 => wglCheck d
  | 2 => stoCheck h p d
  | 3 => ethDescCheck h p d
  | 4 => imgCheck h p d
  | 5 => canDescCheck h p d
  | 6 => ctlDescCheck h p d
  | 7 => grdDescCheck h p d
  | 8 => evrDescCheck h p d
  | 9 => fusDescCheck h p d
  | 10 => gnsDescCheck h p d
  | 11 => sfeDescCheck h p d
  | _ => pthDescCheck h p d

end Sys2Proof.Machine
end

