-- ==== Sys2Proof/Machine/Layout.lean ====
section
/-!
DEFINITION. Layout images and their checks (R185 to R188), and the booking of Comb links (R13, R37, R44, R45). Readings: log
entry 18.
-/
namespace Sys2Proof.Machine

/-- The reserved bits and ranges of a layout entry (Table 04.4). -/
def entOk (e : LEnt) : Bool :=
  match e.ty with
  | 1 => decide (e.a < 2 ^ 16) && (e.a != 0 || decide (e.part ≤ 1))
  | 2 => decide (1 ≤ e.b % 2 ^ 32) && decide (e.a + e.b % 2 ^ 32 ≤ 28704) && decide (e.b < 2 ^ 40)
  | 3 => decide (e.a ≤ 96) && e.b == 0
  | 4 => bits e.a 7 6 == 0 && bits e.a 15 14 == 0 && decide (e.a < 2 ^ 24) && decide (bits e.a 17 16 ≤ 1)
    && decide (1 ≤ bits e.a 23 18) && decide (bits e.a 23 18 ≤ 48) && e.b == 0
  | 5 => decide (e.a < 2 ^ 15) && decide (e.b < 2 ^ 32)
    && (if bit e.a 14 then bits e.a 13 10 == 0 && e.b == 0
        else decide (bits e.a 13 10 ≤ 12) && decide (bits e.b 15 0 ≤ 32768) && decide (bits e.b 31 16 ≤ 32768))
  | 6 => decide (e.a ≤ 4095) && decide (e.b ≤ 4096)
  | 7 => decide (e.a ≤ 511) && decide (1 ≤ e.b) && decide (e.b < 2 ^ 32) && decide (e.a + e.b ≤ 512)
  | _ => false

/-- Two entries claim a resource in common, or break a rule that holds between two entries (R187). -/
def entClash (e f : LEnt) : Bool :=
  if e.ty ≠ f.ty then false else
    match e.ty with
    | 1 => e.part == f.part || (e.a &&& f.a) != 0
    | 2 => decide (e.a < f.a + f.b % 2 ^ 32) && decide (f.a < e.a + e.b % 2 ^ 32)
    | 3 => e.part == f.part
    | 4 => e.part == f.part && e.a % 2 ^ 18 == f.a % 2 ^ 18
    | 5 => e.a % 2 ^ 10 == f.a % 2 ^ 10
    | 6 => e.part == f.part || (decide (e.a < f.a + f.b) && decide (f.a < e.a + e.b))
    | 7 => decide (e.a < f.a + f.b) && decide (f.a < e.a + e.b)
    | _ => false

/-- Some two entries clash. -/
def anyClash : List LEnt → Bool
  | [] => false
  | e :: es => es.any (entClash e) || anyClash es

/-- The sum of the reserves of a layout's submission rings on a pool (R163). -/
def layResv (l : List LEnt) (pool : Nat) : Nat :=
  ((l.filter (fun e => e.ty == 5 && !bit e.a 14 && poolOf (bits e.a 13 10) == pool)).map (fun e => bits e.b 15 0)).sum

/-- The owner a layout gives a port. -/
def layPort (l : List LEnt) (i : Nat) : Option Nat :=
  (l.find? (fun e => e.ty == 7 && decide (e.a ≤ i) && decide (i < e.a + e.b))).map (·.part)

/-- The rules of R187 on a set of entries, given the tiles active and spare and the header ports. -/
def layoutOk (l : List LEnt) (tiles : Nat) (hdrPorts : List Nat) : Bool :=
  l.all entOk && !anyClash l
    && l.all (fun e => e.part == 0 || l.any (fun f => f.ty == 1 && f.part == e.part))
    && l.all (fun e => e.ty != 6 || decide (e.a + e.b ≤ 4096))
    && decide (((l.filter (fun e => e.ty == 3)).map (·.a)).sum ≤ tiles)
    && l.all (fun e => !(e.ty == 5 && !bit e.a 14 && bits e.a 13 10 == 6) || e.part == 1)
    && (List.range 8).all (fun k => decide (layResv l k ≤ poolLimit k))
    && hdrPorts.all (fun i => layPort l i == some 1)

/-- The links of the fixed route between two stops, along X first and then along Y, each as a pair of stops (R13, R37);
the fuel is the greatest number of hops. -/
def routeAux : Nat → Nat → Nat → List (Nat × Nat)
  | 0, _, _ => []
  | n + 1, s, d =>
    if s = d then []
    else
      let s' := if s % 8 < d % 8 then s + 1 else if d % 8 < s % 8 then s - 1 else if s < d then s + 8 else s - 8
      (s, s') :: routeAux n s' d

/-- The route from one stop to another (R37). -/
def route (s d : Nat) : List (Nat × Nat) := routeAux 14 s d

/-- The links a reservation books: those of its data route and of its request route (R44). -/
def resvLinks (r : Resv) : List (Nat × Nat) := route r.src r.dst ++ route r.dst r.src

/-- Slots booked on a link by reservations that satisfy a test. -/
def booked (rs : List Resv) (t : Resv → Bool) (k : Nat × Nat) : Nat :=
  ((rs.filter (fun r => t r && (resvLinks r).contains k)).map (·.n)).sum

/-- No link is booked beyond 8 guaranteed slots or 48 slots in all (Table 01.6, R45). -/
def bookingOk (rs : List Resv) : Bool :=
  (rs.flatMap resvLinks).all (fun k => decide (booked rs (fun r => r.cls == 0) k ≤ 8) && decide (booked rs (fun _ => true) k ≤ 48))

/-- The reservations a layout names for its partitions, not yet in force (R59). -/
def layResvs (l : List LEnt) : List Resv :=
  (l.filter (fun e => e.ty == 4)).map (fun e =>
    ⟨e.part, bits e.a 5 0, bits e.a 13 8, bits e.a 17 16, bits e.a 23 18, false, false⟩)

/-- A layout image in memory: its entries, or none when its header or an entry's own fields break R185 or R186. -/
def readImage (h : Hw) (a : Nat) : Option (List LEnt) :=
  let n := h.rdN (a + 2) 2
  if h.rdN a 2 = 1 ∧ 1 ≤ n ∧ n ≤ 4096 ∧ allZero (h.rd (a + 4) 12) then
    let es := (List.range n).map (fun i =>
      let b := a + 16 + 16 * i
      (h.rdN (b + 2) 2, (⟨h.rdN b 1, h.rdN (b + 1) 1, h.rdN (b + 4) 4, h.rdN (b + 8) 8⟩ : LEnt)))
    if es.all (fun (z, e) => z == 0 && decide (e.part ≤ 7)) then some (es.map (·.2)) else none
  else none

end Sys2Proof.Machine
end

