-- ==== Sys2Proof/Machine/Imaging.lean ====
section
/-!
DEFINITION. The commands of the imaging engine (chapter 05). Readings: log entry 20.
-/
namespace Sys2Proof.Machine

/-- The SHARE sum of the enabled cameras of a memory-fed pipeline. -/
def shareSum (h : Hw) (k : Nat) : Nat :=
  (((List.range 16).filter (fun c => h.camOn c && h.get F.IMG_CAM_CFG_PIPE c == k + 1)).map
    (fun c => h.get F.IMG_CAM_SHARE_SHARE c)).sum

/-- Reports the SHARE sums (IMG_PIPE_STATUS). -/
def showShares (h : Hw) : Hw :=
  (h.put F.IMG_PIPE_STATUS_SHARE_SUM (shareSum h 0) 0).put F.IMG_PIPE_STATUS_SHARE_SUM (shareSum h 1) 1

/-- The checks of an enable (R280, R236, R260). -/
def camCheck (h : Hw) (c : Nat) : Nat :=
  let w := h.camW c
  let hh := h.camH c
  let pipe := h.get F.IMG_CAM_CFG_PIPE c
  let gear := h.get F.IMG_CAM_CFG_GEAR c
  let arr := h.get F.IMG_CAM_DEADLINE_ARRIVAL c
  firstBad [
    (decide (1 ≤ gear) && decide (gear ≤ 5) && decide (h.get F.IMG_CAM_CFG_FMT c ≤ 4) && decide (pipe ≤ 2)
      && decide (16 ≤ w) && decide (w ≤ 8192) && w % 16 == 0 && decide (2 ≤ hh) && decide (hh ≤ 8192) && hh % 2 == 0
      && decide (w * hh ≤ 8388608) && decide (1 ≤ arr) && decide (h.get F.IMG_CAM_SHARE_SHARE c ≤ 2000)
      && (pipe != 0 || c == 0) && (pipe == 0 || decide (arr ≤ h.get F.IMG_CAM_DEADLINE_PROC c))
      && (!h.flag F.IMG_CAM_TRIG_STROBE_EN c
        || ((h.portOwner (296 + c)).isSome
            && h.portOwner (144 + h.get F.IMG_CAM_TRIG_STROBE_DIO c) == h.portOwner (296 + c))), ST_IMG_CONFIG),
    (pipe == 0 || decide (shareSum h (pipe - 1) + h.get F.IMG_CAM_SHARE_SHARE c ≤ 2000), ST_IMG_SHARE)]

/-- Checks the settings of a camera and starts link training (R230, R280). -/
def camEnable (h : Hw) (c : Nat) : Hw :=
  if h.camOn c then h else
    let st := camCheck h c
    let h1 := h.put F.IMG_CAM_STATUS_ERR st c
    if st ≠ ST_OK then h1 else
      let x := h.cam c
      let h2 := h1.setCam c { x with seq := 0, lastRing := none, dead := [], incoming := none, bucketAt := h.now, linkAt := h.now }
      showShares ((h2.put F.IMG_CAM_CFG_ENABLE 1 c).put F.IMG_CAM_STATUS_LINK 1 c)

/-- CAMERA_ENABLE: the owner of the camera's port writes IMG_CAM_CFG with ENABLE = 1. -/
def execCameraEnable (dt : Nat) (hart : Fin 19) (c : Fin 16) (s : State) : Out :=
  run dt s fun h => if h.byOwner hart (296 + c) then camEnable h c else h

/-- The CCI operations of a camera that have not ended. -/
def cciOps (h : Hw) (c : Nat) : List Flight :=
  h.rng.flights.filter (fun f => f.eng == 4 && f.stage == 1 && fld f.desc 0 1 % 16 == 4 && iCam f.desc == c)

/-- Ends the CCI operations of a camera whose link is not up (R272, R273). -/
def endCci (h : Hw) (c : Nat) : Hw := (cciOps h c).foldl (fun g f => g.finish f ST_LINK_DOWN g.tb) h

/-- A posted buffer ends without a trigger (R272). -/
def dropPosted (h : Hw) (c : Nat) : Hw :=
  let x := h.cam c
  x.posted.foldl (fun g op => (countHole g c).finishId op ST_HOLE g.tb 0 0xFFFFFFFF (frameD28 c 7 false false false false false false 0))
    (h.setCam c { x with posted := [] })

/-- Disables a camera: open records, posted buffers and CCI operations end (R272). -/
def camDisable (h : Hw) (c : Nat) : Hw :=
  if !h.camOn c then h else
    let h1 := endCci (dropPosted (holeAll h c 7 (fun _ => true)) c) c
    let h2 := h1.setCam c { h1.cam c with dead := [], incoming := none }
    showShares (((h2.put F.IMG_CAM_CFG_ENABLE 0 c).put F.IMG_CAM_STATUS_LINK 0 c).put F.IMG_CAM_STATUS_GEAR 0 c)

/-- CAMERA_DISABLE: the owner writes IMG_CAM_CFG with ENABLE = 0. -/
def execCameraDisable (dt : Nat) (hart : Fin 19) (c : Fin 16) (s : State) : Out :=
  run dt s fun h => if h.byOwner hart (296 + c) then camDisable h c else h

/-- A write of IMG_CAM_GEOM, ignored while ENABLE is 1, invalidates the camera's profiles (R252, R278). -/
def camGeom (h : Hw) (c : Nat) (v : Word) : Hw :=
  if h.camOn c then h
  else ((h.setReg (F.IMG_CAM_GEOM_WIDTH.at c 0) v).put F.IMG_CAM_STATUS_PROF_OK 0 c).setCam c { h.cam c with profs := [] }

/-- CAMERA_GEOM_WRITE. -/
def execCameraGeomWrite (dt : Nat) (hart : Fin 19) (c : Fin 16) (v : Word) (s : State) : Out :=
  run dt s fun h => if h.byOwner hart (296 + c) then camGeom h c v else h

/-- CAMERA_LINK_UP: a link in training comes up at the configured gear (R231). -/
def execCameraLinkUp (dt : Nat) (c : Fin 16) (s : State) : Out :=
  run dt s fun h =>
    if h.get F.IMG_CAM_STATUS_LINK c = 1 then
      ((h.put F.IMG_CAM_STATUS_LINK 2 c).put F.IMG_CAM_STATUS_GEAR (h.get F.IMG_CAM_CFG_GEAR c) c).log 0x0502 c
    else h

/-- CAMERA_LINK_DOWN: a link that is up drops, or one that trains is not up within 100 ms: open records without their frame
become holes and CCI operations end (R230, Table 05.10, R273). -/
def execCameraLinkDown (dt : Nat) (c : Fin 16) (s : State) : Out :=
  run dt s fun h =>
    let l := h.get F.IMG_CAM_STATUS_LINK c
    if l = 2 ∨ (l = 1 ∧ (h.cam c).linkAt + 100000000 ≤ h.now) then
      let h1 := endCci (holeAll h c 5 (fun r => r.samples.isEmpty && !r.ready)) c
      let h2 := h1.setCam c { h1.cam c with linkAt := h.now, incoming := none }
      ((h2.put F.IMG_CAM_STATUS_LINK 3 c).put F.IMG_CAM_STATUS_GEAR 0 c).log 0x0501 c
    else h

/-- CAMERA_TRAINING_RETRY: a DOWN link trains again 500 ms later while the camera is enabled (R230). -/
def execCameraTrainingRetry (dt : Nat) (c : Fin 16) (s : State) : Out :=
  run dt s fun h =>
    if h.get F.IMG_CAM_STATUS_LINK c = 3 ∧ h.camOn c ∧ (h.cam c).linkAt + 500000000 ≤ h.now then
      (h.setCam c { h.cam c with linkAt := h.now }).put F.IMG_CAM_STATUS_LINK 1 c
    else h

/-- POST: the buffer set joins the camera's queue, up to 256 (R243, R248); a full queue keeps it waiting. -/
def execPost (dt id : Nat) (s : State) : Out :=
  run dt s fun h => h.onOp id 4 1 fun f =>
    let c := iCam f.desc
    let x := h.cam c
    if x.posted.contains id || x.recs.any (fun r => r.op == id) then h
    else if 256 ≤ x.posted.length then h.waitHead f
    else (h.goesOn f).setCam c { x with posted := x.posted ++ [id], lastRing := some f.ring }

/-- The pipeline a camera's passes run on: MF0 or MF1 as PIPE names it, MF0 for the in-line camera. -/
def camPipe (h : Hw) (c : Nat) : Nat := h.get F.IMG_CAM_CFG_PIPE c - 1

/-- REPROCESS: the stored frame waits for its camera's memory-fed pipeline (R243, R257). -/
def execReprocess (dt id : Nat) (s : State) : Out :=
  run dt s fun h => h.onOp id 4 2 fun f =>
    let k := camPipe h (iCam f.desc)
    let x := h.pipe k
    if x.reproc.contains id || (x.busy.map (·.op)) == some id then h
    else h.setPipe k { x with reproc := x.reproc ++ [id] }

/-- PROFILE: the block is checked and replaces the profile, or is refused (R245, R250). -/
def execProfile (dt id : Nat) (s : State) : Out :=
  run dt s fun h => h.onOp id 4 3 fun f =>
    let c := iCam f.desc
    h.engRead f [(fld f.desc 8 8, profLen)] fun h =>
    let b := h.rd (fld f.desc 8 8) profLen
    if profOk b (h.camW c) (h.camH c) then
      let x := h.cam c
      let ok := h.get F.IMG_CAM_STATUS_PROF_OK c ||| 2 ^ iProf f.desc
      ((h.setCam c { x with profs := mset x.profs (iProf f.desc) b }).put F.IMG_CAM_STATUS_PROF_OK ok c).finish f ST_OK h.tb
    else h.finish f ST_PROFILE_INVALID h.tb

/-- CCI: the I2C transaction ends, acknowledged or not, with the bytes read (R246, R273). -/
def execCci (dt id : Nat) (ack : Bool) (data : List Byte) (s : State) : Out :=
  run dt s fun h => h.onOp id 4 4 fun f =>
    if h.get F.IMG_CAM_STATUS_LINK (iCam f.desc) ≠ 2 then h.finish f ST_LINK_DOWN h.tb
    else if !ack then h.finish f ST_CCI_NACK h.tb
    else let n := fld f.desc 4 1
         (h.wr (fld f.desc 8 8) (padTo n data)).finish f ST_OK h.tb 0 n

/-- CCI_TIMEOUT: a CCI operation has not ended within 10 ms (R273). -/
def execCciTimeout (dt id : Nat) (s : State) : Out :=
  run dt s fun h => h.onOp id 4 4 fun f => if f.since + 10000000 ≤ h.now then h.finish f ST_CCI_TIMEOUT h.tb else h

/-- The newest of some records in trigger order. -/
def newest (rs : List FrameRec) : Option FrameRec := rs.getLast?

/-- FRAME_START: a frame start of the configured virtual channel and data type matches the newest eligible open record; older
ones without a frame become holes; otherwise the frame is untriggered, or belongs to a hole (R229, R239 to R241). -/
def execFrameStart (dt : Nat) (c : Fin 16) (vc : Fin 16) (fmt : Fin 8) (s : State) : Out :=
  run dt s fun h =>
    if h.get F.IMG_CAM_STATUS_LINK c ≠ 2 ∨ vc.val ≠ h.get F.IMG_CAM_CFG_VC c ∨ fmt.val ≠ h.get F.IMG_CAM_CFG_FMT c then h else
      let x := h.cam c
      let lim := 1000 * h.get F.IMG_CAM_TRIG_FS_MIN c
      match newest (x.recs.filter (fun r => !r.started && decide (r.cross + lim ≤ h.wgl.tb))) with
      | some r =>
        let h1 := holeAll h c 2 (fun q => !q.started && decide (q.cross ≤ r.cross) && q.seq != r.seq)
        let y := h1.cam c
        h1.setCam c { y with
          recs := y.recs.map (fun q => if q.seq = r.seq then { q with started := true } else q),
          dead := y.dead.filter (fun t => decide (r.cross < t)), incoming := some (some r.seq) }
      | none =>
        if x.dead.any (fun t => decide (t + lim ≤ h.wgl.tb)) then
          (h.setCam c { x with dead := x.dead.filter (fun t => decide (h.wgl.tb < t + lim)), incoming := some none }).bump
            F.IMG_CAM_CNT_COUNT c 3
        else ((h.setCam c { x with incoming := some none }).bump F.IMG_CAM_CNT_COUNT c 2).log 0x0504 c true

/-- The frame completes: its pass has been made or none was needed (R264). -/
def frameDone (h : Hw) (c : Nat) (r : FrameRec) (raw out met taps : Bool) : Hw :=
  let x := h.cam c
  ((h.setCam c { x with recs := x.recs.filter (fun q => q.seq != r.seq) }).bump F.IMG_CAM_CNT_COUNT c 0).finishId r.op ST_OK
    r.tov (ux 64 r.pos) r.seq (frameD28 c 0 raw out met taps r.late r.catchup r.dom)

/-- Writes what a pass with a profile produces from a frame's samples: output image, META block with statistics, and taps
(R249, R261 to R263). `stampT` and the position and sequence number go into the META block. -/
def passWrite (h : Hw) (d prof : List Byte) (c : Nat) (xs : List Nat) (stampT pos seq : Nat) : Hw :=
  let w := h.camW c
  let stats := bit (fld d 3 1) 4
  let k := h.freeCtr
  let out := outImage prof w xs k
  let k1 := k + out.length
  let h1 := if fld d 16 8 = 0 then h else scatter h (outPieces h d) out
  let st := if stats then statBytes prof w xs k1 else []
  let k2 := k1 + st.length
  let met := h.stamp (h.get F.IMG_CAM_CFG_BIND c) stampT ++ leBytes 8 pos ++ leBytes 4 seq
    ++ [BitVec.ofNat 8 (if stats then fld prof 62 1 else 0), BitVec.ofNat 8 (if stats then fld prof 63 1 else 0), 0, 0] ++ st
  let h2 := if fld d 24 8 = 0 then h1 else h1.wr (fld d 24 8) met
  let h3 := (tapList h d).foldl (fun g t =>
    let bs := (tapPlane prof w xs (t.2.2.2.1 % 8) k2).flatMap (fun v => leBytes 2 v)
    scatter g (bufPieces h (t.2.2.1 != 0) t.1 t.2.2.1 t.2.1) bs) h2
  { h3 with freeCtr := k2 + xs.length }

/-- Refills a camera's pixel bucket up to now: SHARE × 10^6 pixels per second, up to two frames, in thousandths (R256). -/
def bucketNow (h : Hw) (c : Nat) : Nat :=
  let x := h.cam c
  min (2000 * h.camPix c) (x.bucket + (h.now - x.bucketAt) * h.get F.IMG_CAM_SHARE_SHARE c)

/-- A frame's raw data are complete: they are written, and the frame completes, runs through the in-line pipeline, or becomes
ready for its memory-fed pass within share or not (R253, R255, R256). -/
def frameReady (h : Hw) (c : Nat) (r : FrameRec) (f : Flight) (xs : List Nat) : Hw :=
  let d := f.desc
  let n := 16 - (8 + 2 * h.get F.IMG_CAM_CFG_FMT c)
  let px := xs.map (fun v => v * 2 ^ n % 65536)
  let h1 := if fld d 8 8 = 0 then h else scatter h (rawPieces h d) (px.flatMap (fun v => leBytes 2 v))
  let raw := fld d 8 8 != 0
  if fld d 16 8 = 0 then frameDone h1 c r raw false false false
  else if h.get F.IMG_CAM_CFG_PIPE c = 0 then
    let prof := mgetD (h.cam c).profs (iProf d) []
    frameDone (passWrite h1 d prof c px r.tov (ux 64 r.pos) r.seq) c r raw true (fld d 24 8 != 0) (fld d 3 1 % 16 != 0)
  else
    let b := bucketNow h c
    let need := 1000 * h.camPix c
    let x := h1.cam c
    h1.setCam c { x with
      bucket := b - need, bucketAt := h.now,
      recs := x.recs.map (fun q => if q.seq = r.seq then { q with ready := true, inShare := decide (need ≤ b), samples := px } else q) }

/-- FRAME_END: the incoming frame ends with its samples in row order; a complete one is ready, one whose lines or samples
do not match the geometry is an INCOMPLETE hole, and one being discarded after its hole is counted
(R241, R255, Table 05.10). -/
def execFrameEnd (dt : Nat) (c : Fin 16) (intact : Bool) (xs : List Nat) (s : State) : Out :=
  run dt s fun h =>
    let x := h.cam c
    match x.incoming with
    | none => h
    | some none => h.setCam c { x with incoming := none }
    | some (some q) =>
      let h1 := h.setCam c { x with incoming := none }
      match x.recs.find? (fun r => r.seq == q) with
      | none => h1.bump F.IMG_CAM_CNT_COUNT c 3
      | some r =>
        if intact && xs.length == h.camPix c then
          match h.flight r.op with
          | some f => frameReady h1 c r f xs
          | none => h1
        else holeRec h1 c r 3 false

/-- ELASTIC_BUFFER_OVERFLOW: the in-line camera's incoming frame overflows the elastic buffer (R254). -/
def execElasticBufferOverflow (dt : Nat) (s : State) : Out :=
  run dt s fun h =>
    match (h.cam 0).incoming with
    | some (some q) =>
      if h.get F.IMG_CAM_CFG_PIPE 0 = 0 then
        match (h.cam 0).recs.find? (fun r => r.seq == q) with
        | some r => (holeRec h 0 r 4 false).log 0x0505
        | none => h
      else h
    | _ => h

/-- FRAME_CAPACITY_OVERRUN: data of the incoming frame would pass its buffer's capacity (R267). -/
def execFrameCapacityOverrun (dt : Nat) (c : Fin 16) (s : State) : Out :=
  run dt s fun h =>
    match (h.cam c).incoming with
    | some (some q) => match (h.cam c).recs.find? (fun r => r.seq == q) with
      | some r => holeRec h c r 3 false
      | none => h
    | _ => h

/-- ARRIVAL_DEADLINE: records of a camera past their arrival deadline become holes: NO_FRAME without a frame start,
INCOMPLETE without a frame end (R266, Table 05.10). -/
def execArrivalDeadline (dt : Nat) (c : Fin 16) (s : State) : Out :=
  run dt s fun h =>
    let late (r : FrameRec) := !r.ready && decide (r.arriveBy ≤ h.wgl.tb)
    holeAll (holeAll h c 2 (fun r => late r && !r.started)) c 3 (fun r => late r && r.started)

/-- The ready frames of the cameras on a pipeline that no pass has started. -/
def readyFrames (h : Hw) (k : Nat) : List (Nat × FrameRec) :=
  ((List.range 16).filter (fun c => h.camOn c && h.get F.IMG_CAM_CFG_PIPE c == k + 1)).flatMap
    (fun c => ((h.cam c).recs.filter (·.ready)).map (fun r => (c, r)))

/-- The frame with the earliest processing deadline. -/
def earliest : List (Nat × FrameRec) → Option (Nat × FrameRec)
  | [] => none
  | x :: xs => match earliest xs with
    | some y => if x.2.procBy ≤ y.2.procBy then some x else some y
    | none => some x

/-- PIPELINE_PASS_START: a free memory-fed pipeline starts the within-share frame with the earliest processing deadline, then
any other ready frame, then a REPROCESS in fetch order (R257); the pass keeps the profile it starts with (R251). -/
def execPipelinePassStart (dt : Nat) (k : Fin 2) (s : State) : Out :=
  run dt s fun h =>
    let x := h.pipe k
    if x.busy.isSome then h else
      let rs := readyFrames h k
      let prof (c op : Nat) := match h.flight op with
        | some f => mgetD (h.cam c).profs (iProf f.desc) []
        | none => []
      match (earliest (rs.filter (·.2.inShare))).or (earliest rs) with
      | some (c, r) => h.setPipe k { x with busy := some ⟨c, some r.seq, r.op, prof c r.op⟩ }
      | none => match x.reproc with
        | op :: rest =>
          match h.flight op with
          | some f => h.setPipe k { x with busy := some ⟨iCam f.desc, none, op, prof (iCam f.desc) op⟩, reproc := rest }
          | none => h.setPipe k { x with reproc := rest }
        | [] => h

/-- Adds a pass's pixels to IMG_PIPE_STATUS.LOAD, which reports the last whole second. -/
def countPass (h : Hw) (k n : Nat) : Hw :=
  let x := h.pipe k
  let sec := h.now / 1000000000
  if sec = x.sec then h.setPipe k { x with pix := x.pix + n }
  else (h.setPipe k { x with sec := sec, pix := n }).put F.IMG_PIPE_STATUS_LOAD
    (if sec = x.sec + 1 then min 4095 (x.pix / 1000000) else 0) k

/-- The 16-bit samples of a stored raw frame. -/
def rawSamples (h : Hw) (d : List Byte) (n : Nat) : List Nat :=
  let bs := (gather h (rawPieces h d)).take (2 * n)
  (List.range n).map (fun i => fld bs (2 * i) 2)

/-- PIPELINE_PASS_END: the running pass ends: its output, META block and taps are written and the frame or the REPROCESS
completes (R257, R264). -/
def execPipelinePassEnd (dt : Nat) (k : Fin 2) (s : State) : Out :=
  run dt s fun h =>
    let x := h.pipe k
    match x.busy with
    | none => h
    | some b =>
      let h1 := countPass (h.setPipe k { x with busy := none }) k (h.camPix b.cam)
      match h.flight b.op with
      | none => h1
      | some f =>
        let met := fld f.desc 24 8 != 0
        let taps := fld f.desc 3 1 % 16 != 0
        match b.seq with
        | some q => match (h.cam b.cam).recs.find? (fun r => r.seq == q) with
          | some r => frameDone (passWrite h1 f.desc b.prof b.cam r.samples r.tov (ux 64 r.pos) r.seq) b.cam r true true met taps
          | none => h1
        | none =>
          h1.engRead f (rawPieces h f.desc) fun h1 =>
          (passWrite h1 f.desc b.prof b.cam (rawSamples h1 f.desc (h1.camPix b.cam)) h1.tb 0 0).finish f ST_OK h1.tb 0 0
            (frameD28 b.cam 0 true true met taps false false 0)

/-- PROCESSING_DEADLINE: a frame of a camera whose pass has not finished by its processing deadline is abandoned
(R259). -/
def execProcessingDeadline (dt : Nat) (c : Fin 16) (s : State) : Out :=
  run dt s fun h =>
    ((h.cam c).recs.filter (fun r => r.ready && decide (r.procBy ≤ h.wgl.tb))).foldl (fun g r =>
      let k := camPipe h c
      let x := g.pipe k
      let g1 := match x.busy with
        | some b => if b.cam = c.val ∧ b.seq = some r.seq then g.setPipe k { x with busy := none } else g
        | none => g
      holeRec g1 c r 6 true) h

end Sys2Proof.Machine
end

