-- ==== Sys2Proof/Machine/Stops.lean ====
section
/-!
DEFINITION. What each engine does when a partition stops, once the partition's rings have ended (R197, R176): R371, R575, R595,
R639 and, for cameras and Ethernet ports, the end of operations that no longer exist. Readings: log entry 18.
-/
namespace Sys2Proof.Machine

/-- An operation still exists. -/
def opLive (h : Hw) (id : Nat) : Bool := h.rng.flights.any (fun f => f.id == id)

/-- A camera without the buffers and records whose operations have ended. -/
def camPurge (h : Hw) (x : Cam) : Cam :=
  let recs := x.recs.filter (fun r => opLive h r.op)
  let inc := match x.incoming with
    | some (some q) => if recs.any (fun r => r.seq == q) then some (some q) else some none
    | v => v
  { x with posted := x.posted.filter (opLive h), recs := recs, incoming := inc }

/-- Cameras and pipelines drop what belonged to operations that have ended. -/
def imgPurge (h : Hw) : Hw :=
  { h with img := { cams := h.img.cams.map (fun (c, x) => (c, camPurge h x)),
                    pipes := h.img.pipes.map (fun (k, x) =>
                      (k, { x with busy := match x.busy with | some b => (if opLive h b.op then some b else none) | none => none,
                                   reproc := x.reproc.filter (opLive h) })) } }

/-- The engines stop what they do for a partition (R371, R575, R595, R639). -/
def stopEngines (h : Hw) (p : Nat) : Hw :=
  let h1 := imgPurge h
  let h2 := (List.range 16).foldl (fun g n => if g.ownsPort p (280 + n) then canDisable g n else g) h1
  let h3 := (List.range 2).foldl (fun g c => if g.ownsPort p (510 + c) then linDisable g c else g) h2
  let h4 := if p = 1 then ctlStop h3 else h3
  let h5 := if h4.get F.FUS_OWNER_OWNER = p then fusStop h4 else h4
  ethStop (gnsStop h5 p) p

end Sys2Proof.Machine
end

