-- ==== Sys2Proof/Machine/Tiles.lean ====
section
/-!
DEFINITION. The vision tiles (R182, R849 to R853) and the power and clock of the vision array (R33, R34, R817, R883). Readings:
log entry 41.
-/
namespace Sys2Proof.Machine

/-- The state of a vision tile in SMK_VIS_MAP: 0 active, 1 spare, 2 failed, 3 under test. -/
def tileSt (h : Hw) (t : Nat) : Nat := h.get F.SMK_VIS_MAP_STATE (t / 16) / 4 ^ (t % 16) % 4

/-- Sets the state of a vision tile. -/
def setTileSt (h : Hw) (t st : Nat) : Hw :=
  let w := h.get F.SMK_VIS_MAP_STATE (t / 16)
  h.put F.SMK_VIS_MAP_STATE (w - tileSt h t * 4 ^ (t % 16) + st * 4 ^ (t % 16)) (t / 16)

/-- The tiles in a state. -/
def tilesIn (h : Hw) (st : Nat) : List Nat := (List.range 100).filter (fun t => tileSt h t == st)

/-- The active tiles a partition holds. -/
def partTiles (h : Hw) (p : Nat) : List Nat :=
  (h.smk.own.filter (fun (t, q) => q == p && tileSt h t == 0)).map (·.1)

/-- Shows the counts and the INT8 capacity A × 4,096 × 2 × f in 0.1 TOPS (R852); the nearest tenth. -/
def showVis (h : Hw) : Hw :=
  let a := (tilesIn h 0).length
  let cap := (2 * (a * 8192 * h.pwr.hz) + 100000000000) / 200000000000
  (((h.put F.SMK_VIS_CAP_ACTIVE a).put F.SMK_VIS_CAP_SPARE (tilesIn h 1).length).put F.SMK_VIS_CAP_FAILED
    (tilesIn h 2).length).put F.SMK_VIS_CAP_CAP cap

/-- Shows a partition's counts; the event is logged when its active count falls below its layout count (R852). -/
def showPartTiles (h : Hw) (p : Nat) : Hw :=
  let n := h.get F.SMK_PART_TILES_LAYOUT p
  let was := h.get F.SMK_PART_TILES_ACTIVE p
  let a := (partTiles h p).length
  let h1 := h.put F.SMK_PART_TILES_ACTIVE a p
  if a < n ∧ n ≤ was then h1.log 0x1407 p else h1

/-- Shows every count. -/
def showTiles (h : Hw) : Hw := (List.range 8).foldl showPartTiles (showVis h)

/-- Hands a partition n of the active tiles that nobody holds; which of them is open (R182). -/
def giveTiles (p : Nat) : Nat → Hw → Hw
  | 0, h => h
  | n + 1, h =>
    match (tilesIn h 0).filter (fun t => (mget h.smk.own t).isNone) with
    | [] => h
    | ts =>
      let (x, h1) := h.fresh
      giveTiles p n { h1 with smk := { h1.smk with own := mset h1.smk.own (ts.getD (x % ts.length) 0) p } }

/-- Ends the test of a tile without a result: the tile and its stand-in return to what they were (R851). -/
def endTileTest (h : Hw) : Hw :=
  match h.smk.tile with
  | none => h
  | some (t, st, stand) =>
    let h1 := setTileSt { h with smk := { h.smk with tile := none } } t st
    let h2 := match stand with
      | some u =>
        let g := setTileSt h1 u 1
        { g with smk := { g.smk with own := mdel g.smk.own u } }
      | none => h1
    showTiles h2

/-- Puts the tile count of a layout in force for a partition (type 3 of Table 04.4, R182). -/
def layTiles (h : Hw) (l : List LEnt) (p : Nat) : Hw :=
  let n := match l.find? (fun e => e.ty == 3 && e.part == p) with | some e => e.a | none => 0
  let h1 := endTileTest h
  let h2 := { h1 with smk := { h1.smk with own := h1.smk.own.filter (fun (_, q) => q != p) } }
  showPartTiles ((giveTiles p n h2).put F.SMK_PART_TILES_LAYOUT n p) p

/-- Judges the power cap of the vision array anew: the lower of what the supply voltage and the plate give, 0 while the supply has
halted the array. The clock that meets a lowered cap is open (R33, R34, R817, R883). -/
def visJudge (h : Hw) : Hw :=
  let t := h.getS F.PWR_ENV_PLATE
  let plate := if t ≤ 800 then 230000 else (230000 - 2300 * (t - 800)).toNat
  let cap := if h.flag F.PWR_STATUS_LOW_V then 0 else min h.pwr.vCap plate
  if cap = h.pwr.cap then h
  else if cap = 0 then showVis { h with pwr := { h.pwr with cap := 0, hz := 0 } }
  else if 230000 ≤ cap then showVis { h with pwr := { h.pwr with cap := cap, hz := 1050000000 } }
  else
    let (x, h1) := h.fresh
    showVis { h1 with pwr := { h1.pwr with cap := cap, hz := x % 1050000001 } }

/-- Shows the plate's state in PWR_ENV.THERM: 0 normal, 1 capped, 2 halted; 3 stays while the plate is above 100 °C (R883, R884). -/
def showTherm (h : Hw) : Hw :=
  let t := h.getS F.PWR_ENV_PLATE
  if h.get F.PWR_ENV_THERM = 3 ∧ 1000 < t then h
  else h.put F.PWR_ENV_THERM (if 900 ≤ t then 2 else if 800 < t then 1 else 0)

/-- Takes the two plate sensors' readings in 0.1 °C (R882, R883): the higher valid one counts; while neither is valid the plate is
taken as 90 °C for the cap. -/
def plateRead (h : Hw) (a b : Int) : Hw :=
  let ok (x : Int) : Bool := decide (-500 ≤ x) && decide (x ≤ 1500)
  let bad1 := h.flag F.PWR_ENV_SENS_A_BAD
  let bad2 := h.flag F.PWR_ENV_SENS_B_BAD
  let h1 := (h.put F.PWR_ENV_SENS_A_BAD (b2n !(ok a))).put F.PWR_ENV_SENS_B_BAD (b2n !(ok b))
  let h2 := if (!ok a && !bad1) then h1.log 0x1505 else h1
  let h3 := if (!ok b && !bad2) then h2.log 0x1505 else h2
  let live := ok a || ok b
  let t : Int := if ok a && ok b then max a b else if ok a then a else if ok b then b else 900
  let was := h.getS F.PWR_ENV_PLATE
  let h4 := h3.putS F.PWR_ENV_PLATE t
  let since (old : Option Nat) (lim : Int) : Option Nat :=
    if live && decide (lim < t) then (match old with | some s => some s | none => some h.now) else none
  let h5 := { h4 with pwr := { h4.pwr with hotAt := since h4.pwr.hotAt 1000, overAt := since h4.pwr.overAt 1100 } }
  let h6 := if 800 < t ∧ was ≤ 800 then h5.log 0x1501 else h5
  visJudge (showTherm h6)

end Sys2Proof.Machine
end

