-- ==== Sys2Proof/Machine/Partitions.lean ====
section
/-!
DEFINITION. Partitions (chapter 04): layout loads, partition commands, stopping and starting. Readings: log entry 18.
-/
namespace Sys2Proof.Machine

/-- The vision tiles active and spare now (R187). -/
def tilesLeft (h : Hw) : Nat := h.get F.SMK_VIS_CAP_ACTIVE + h.get F.SMK_VIS_CAP_SPARE

/-- The status of a set of entries: R187 first, then the booking of links (R45). -/
def layoutStatus (h : Hw) (l : List LEnt) : Nat :=
  firstBad [(layoutOk l (tilesLeft h) h.prp.cfg.hdrPorts, ST_LAYOUT_INVALID), (bookingOk (layResvs l), ST_COMB_OVERBOOKED)]

/-- Puts the ring entries of some partitions in force: bindings and quotas named by the layout, and every other ring
of those partitions unbound (R126, R163). -/
def applyRings (h : Hw) (l : List LEnt) (mine : Nat → Bool) : Hw :=
  let old := h.boundRings.filter (fun r => mine (h.get F.RNG_BIND_PARTITION r))
  let h1 := old.foldl (fun g r => (g.setReg (F.RNG_BIND_VALID.at r 0) 0).setReg (F.RNG_QUOTA_RESV.at r 0) 0) h
  (l.filter (fun e => e.ty == 5 && mine e.part)).foldl (fun g e =>
    let r := e.a % 2 ^ 10
    (g.setReg (F.RNG_BIND_VALID.at r 0) (BitVec.ofNat 32 (bits e.a 13 10 + e.part * 16 + 256))).setReg
      (F.RNG_QUOTA_RESV.at r 0) (BitVec.ofNat 32 e.b)) h1

/-- Puts the slot range of a partition in force (R87). -/
def applySlots (h : Hw) (l : List LEnt) (p : Nat) : Hw :=
  match l.find? (fun e => e.ty == 6 && e.part == p) with
  | some e => (h.put F.WGL_SLOT_RANGE_BASE e.a p).put F.WGL_SLOT_RANGE_COUNT e.b p
  | none => (h.put F.WGL_SLOT_RANGE_BASE 0 p).put F.WGL_SLOT_RANGE_COUNT 0 p

/-- Books reservations to take effect at the next frame boundary; those in force of the same partitions end there
(R59). -/
def applyResv (h : Hw) (l : List LEnt) (mine : Nat → Bool) : Hw :=
  let old := (h.prp.resv.filter (fun r => r.inForce || !mine r.part)).map
    (fun r => if mine r.part then { r with ending := true } else r)
  { h with prp := { h.prp with resv := old ++ (layResvs l).filter (fun r => mine r.part) } }

/-- A refusal or an acceptance is shown in PRP_PART_ST (R194, R195). -/
def partStatus (h : Hw) (st : Nat) : Hw := h.put F.PRP_PART_ST_STATUS st

/-- Puts a checked whole-module layout in force: a partition other than 0 is STOPPED when the layout gives it a type 1
entry and UNUSED otherwise (R187, R193). -/
def applyLayout (h : Hw) (l : List LEnt) : Hw :=
  let h1 := { h with prp := { h.prp with layout := l } }
  let h2 := applyResv (applyRings h1 l (fun _ => true)) l (fun _ => true)
  let h3 := (List.range 8).foldl (fun g p => applySlots g l p) h2
  let h4 := (List.range 7).foldl (fun g k =>
    g.put F.PRP_PART_STATUS_STATE (b2n (l.any (fun e => e.ty == 1 && e.part == k + 1))) (k + 1)) h3
  showWinOwners ((List.range 8).foldl (fun g p => layTiles g l p) h4)

/-- PRP_LAYOUT_CMD.LOAD (R187, R195): refused with ST_PARTITION_STATE while a command, a load or an activation is in
progress or a partition from 1 to 7 is neither UNUSED nor STOPPED. -/
def layoutLoad (h : Hw) : Hw :=
  if h.prp.cmd.isSome || h.flag F.PRP_PART_ST_BUSY || (List.range 7).any (fun k => decide (2 ≤ h.partState (k + 1))) then
    partStatus h ST_PARTITION_STATE
  else match readImage h (h.get64 F.PRP_LAYOUT_ADDR_LO_ADDR) with
    | none => partStatus h ST_LAYOUT_INVALID
    | some l => let st := layoutStatus h l
                if st = ST_OK then partStatus (applyLayout h l) ST_OK else partStatus h st

/-- LAYOUT_LOAD: partition 0 writes PRP_LAYOUT_CMD with LOAD = 1. -/
def execLayoutLoad (dt : Nat) (hart : Fin 19) (s : State) : Out :=
  run dt s fun h => if h.byP0 hart then layoutLoad h else h

/-- Begins a command in PRP_PART_ST: ST_OK and BUSY (R194). -/
def beginCmd (h : Hw) (kind p : Nat) : Hw :=
  ({ h with prp := { h.prp with cmd := some ⟨kind, p, false⟩ } }.put F.PRP_PART_ST_STATUS ST_OK).put F.PRP_PART_ST_BUSY 1

/-- Ends the command in progress. -/
def endCmd (h : Hw) : Hw := { h with prp := { h.prp with cmd := none } }.put F.PRP_PART_ST_BUSY 0

/-- A command to a partition is allowed: not partition 0, one of the states named for it, nothing in progress
(R195, R196). -/
def cmdOk (h : Hw) (p : Nat) (states : List Nat) : Bool :=
  p != 0 && states.contains (h.partState p) && h.prp.cmd.isNone && !h.flag F.PRP_PART_ST_BUSY

/-- Disarms every slot of a partition, without completions (R104). -/
def disarmPart (h : Hw) (p : Nat) : Hw :=
  { h with wgl := { h.wgl with slots := h.wgl.slots.filter (fun x => x.2.part != p) } }

/-- Steps 1 to 3 of R197: the harts are held, rings and slots end, outputs go to their fail-safe states. -/
def stopSteps (h : Hw) (p : Nat) : Hw :=
  stopOutputs (stopEngines ((disarmPart (h.endRings p) p).put F.PRP_PART_STATUS_STATE 1 p) p) p

/-- START moves a STOPPED partition to FILLING; its reservations are booked anew (R194, R59). -/
def startPart (h : Hw) (p : Nat) : Hw :=
  if cmdOk h p [1] then
    applyResv ((beginCmd h 1 p).put F.PRP_PART_STATUS_STATE 2 p) h.prp.layout (· == p)
  else partStatus h ST_PARTITION_STATE

/-- STOP of a RUNNING or PAUSED partition (R197). -/
def stopPart (h : Hw) (p : Nat) : Hw :=
  if cmdOk h p [3, 4] then stopSteps (beginCmd h 2 p) p else partStatus h ST_PARTITION_STATE

/-- RESTART: STOP and then START (R194); it ends the test of a vision tile (R851). -/
def restartPart (h : Hw) (p : Nat) : Hw :=
  if cmdOk h p [3, 4] then stopSteps (beginCmd (endTileTest h) 3 p) p else partStatus h ST_PARTITION_STATE

/-- RECONFIGURE: a layout image for one STOPPED partition, every entry naming it, replaces its entries; with the other
partitions' entries it must satisfy R187, so that it takes only from the partition's own set and the free pool
(R201 to R203). -/
def reconfigurePart (h : Hw) (p : Nat) : Hw :=
  if cmdOk h p [1] then
    match readImage h (h.get64 F.PRP_LAYOUT_ADDR_LO_ADDR) with
    | none => partStatus h ST_LAYOUT_INVALID
    | some es =>
      let l := h.prp.layout.filter (fun e => e.part != p) ++ es
      let st := if es.all (fun e => e.part == p) then layoutStatus h l else ST_LAYOUT_INVALID
      if st = ST_OK then
        let h1 := applyRings { h with prp := { h.prp with layout := l } } l (· == p)
        partStatus (showWinOwners (layTiles (applySlots (applyResv h1 l (· == p)) l p) l p)) ST_OK
      else partStatus h st
  else partStatus h ST_PARTITION_STATE

/-- START: partition 0 writes PRP_PART_CMD with OP 1. -/
def execStart (dt : Nat) (hart : Fin 19) (p : Fin 8) (s : State) : Out :=
  run dt s fun h => if h.byP0 hart then startPart h p else h

/-- STOP: partition 0 writes PRP_PART_CMD with OP 2. -/
def execStop (dt : Nat) (hart : Fin 19) (p : Fin 8) (s : State) : Out :=
  run dt s fun h => if h.byP0 hart then stopPart h p else h

/-- RESTART: partition 0 writes PRP_PART_CMD with OP 3. -/
def execRestart (dt : Nat) (hart : Fin 19) (p : Fin 8) (s : State) : Out :=
  run dt s fun h => if h.byP0 hart then restartPart h p else h

/-- RECONFIGURE: partition 0 writes PRP_PART_CMD with OP 4. -/
def execReconfigure (dt : Nat) (hart : Fin 19) (p : Fin 8) (s : State) : Out :=
  run dt s fun h => if h.byP0 hart then reconfigurePart h p else h

/-- A partition's reservations end at the next frame boundary (step 5 of R197, R59). -/
def endResv (h : Hw) (p : Nat) : Hw :=
  let rs := (h.prp.resv.filter (fun r => r.inForce || r.part != p)).map
    (fun r => if r.part = p then { r with ending := true } else r)
  { h with prp := { h.prp with resv := rs } }

/-- STOP_DRAIN_DONE: Comb holds no transaction with the partition's tag any more: a STOP ends, and a RESTART goes on to
FILLING (R197, R194). -/
def execStopDrainDone (dt : Nat) (s : State) : Out :=
  run dt s fun h =>
    match h.prp.cmd with
    | some c =>
      if c.kind = 2 then endCmd (endResv h c.part)
      else if c.kind = 3 ∧ !c.drained then
        let h1 := endResv h c.part
        let h2 := { h1 with prp := { h1.prp with cmd := some { c with drained := true } } }
        applyResv (h2.put F.PRP_PART_STATUS_STATE 2 c.part) h.prp.layout (· == c.part)
      else h
    | none => h

/-- Zero-fills every granule a partition owns (R199). -/
def fillPart (h : Hw) (p : Nat) : Hw :=
  { h with mem := (h.prp.layout.filter (fun e => e.ty == 2 && e.part == p)).foldl
             (fun m e => memZero m (e.a * 2097152) (e.b % 2 ^ 32 * 2097152)) h.mem,
           ecc := h.ecc.filter (fun (k, _) => h.granuleOwner (granule (8 * k)) != some p) }

/-- FILL_DONE_RELEASE: the zero-fill of a FILLING partition and the load of its components end, and its harts are
released at the boot entry (R199); a component that fails its check leaves the partition STOPPED (R802); a RESTART that completes is
counted and logged (R200). -/
def execFillDoneRelease (dt : Nat) (p : Fin 8) (s : State) : Out :=
  run dt s fun h =>
    if h.partState p = 2 then
      let (h0, ok) := loadComponents (fillPart h p) p
      let mine := match h.prp.cmd with | some c => c.part == p.val | none => false
      let kind := match h.prp.cmd with | some c => c.kind | none => 0
      if !ok then
        let h1 := partStatus (h0.put F.PRP_PART_STATUS_STATE 1 p) ST_GRD_HASH
        if mine then endCmd h1 else h1
      else
        let h1 := releaseOutputs (h0.put F.PRP_PART_STATUS_STATE 3 p) p
        if !mine then h1
        else if kind = 3 then ((endCmd h1).bump F.PRP_PART_STATUS_RESTARTS p).log 0x0402 p
        else endCmd h1
    else h

/-- RESERVATION_TAKES_EFFECT: a frame boundary: booked reservations of a partition come into force and ending ones are
released (R59). -/
def execReservationTakesEffect (dt : Nat) (p : Fin 8) (s : State) : Out :=
  run dt s fun h =>
    let rs := (h.prp.resv.filter (fun r => !(r.part == p.val && r.ending))).map
      (fun r => if r.part = p.val then { r with inForce := true } else r)
    { h with prp := { h.prp with resv := rs } }

end Sys2Proof.Machine
end

