-- ==== Sys2Proof/Machine/PowerCore.lean ====
section
/-!
DEFINITION. Switching the logic domain on and off, resets and what they keep (chapter 19, R769, R812), the wake comparators and
start-up (Sequence 19.1). Readings: log entry 40.
-/
namespace Sys2Proof.Machine

/-! ## Wake comparators (R830) -/

/-- A WAKE comparator with its 0.5 V hysteresis: polarity 0 is active above the threshold, 1 below. -/
def wakeCmp (was low : Bool) (thr mv : Nat) : Bool :=
  if low then decide (mv < thr) || (was && decide (mv < thr + 500)) else decide (thr < mv) || (was && decide (thr < mv + 500))

/-- The comparators' conditions as the inputs stand: bit 0 ignition, 1 CAN (while transceivers are held in standby, R647), 2 WAKE_A,
3 WAKE_B. -/
def cmpNow (h : Hw) (w : WakeIn) : Nat :=
  let can := match w.wup with | some n => bit (h.get F.CAN_WAKE_EN) n.val && h.pwr.state != .on | none => false
  let a := wakeCmp (bit h.pwr.cmp 2) (h.flag F.PWR_WAKE_CFG_A_POL) (50 * h.get F.PWR_WAKE_THR_THR 0) w.a
  let b := wakeCmp (bit h.pwr.cmp 3) (h.flag F.PWR_WAKE_CFG_B_POL) (50 * h.get F.PWR_WAKE_THR_THR 1) w.b
  b2n w.ign + 2 * b2n can + 4 * b2n a + 8 * b2n b

/-- Takes the wake inputs: comparators, the ignition level and since when it is low. -/
def takeWake (h : Hw) (w : WakeIn) : Hw :=
  let low := if w.ign then none else (match h.pwr.ignLow with | some t => some t | none => some h.now)
  { h with pwr := { h.pwr with cmp := cmpNow h w, ignLow := low } }.put F.PWR_STATUS_IGN (b2n w.ign)

/-- The comparators enabled in PWR_WAKE_CFG. -/
def wakeEn (h : Hw) : Nat :=
  h.get F.PWR_WAKE_CFG_IGN_EN + 2 * h.get F.PWR_WAKE_CFG_CAN_EN + 4 * h.get F.PWR_WAKE_CFG_A_EN + 8 * h.get F.PWR_WAKE_CFG_B_EN

/-- An enabled comparator is active. -/
def wakeActive (h : Hw) : Bool := (h.pwr.cmp &&& wakeEn h) != 0

/-- Writes the mirror of the kept values (R830). -/
def mirrorWrite (h : Hw) : Hw :=
  { h with pwr := { h.pwr with mirror := (h.rtcTicks, h.opNs, h.get F.PWR_PCYCLE_VALUE), mirrorAt := h.now } }

/-! ## Going off -/

/-- The tiles receive no frames any more: those in RUN enter SAFE, and the DIO outputs go off (R472, R496, R834). -/
def tilesLost (h : Hw) : Hw :=
  let h1 := { h with til := { h.til with hub := {}, silent := [6, 7] } }
  let h2 := (List.range 8).foldl (fun g t =>
    let g1 := g.put F.LSW_TILE_STATUS_FEED 0 t
    if g1.tileState t = 1 then forceTile (g1.put F.LSW_TILE_STATUS_STATE 0 t) t else g1) h1
  showTile (showTile h2 6) 7

/-- The logic domain goes off; operating time stops (R830). -/
def logicOff (h : Hw) : Hw :=
  let h1 := tilesLost (diagFlush h)
  { h1 with pwr := { h1.pwr with op := h1.opNs, opAt := h1.now, state := .sleep, up := false, failedAt := none, halted := false,
                                 tries := 0, trial := false, hotAt := none, overAt := none } }

/-! ## Reset (R827, R840) -/

/-- Registers whose whole contents a reset keeps (R769, R812, R827, R830, R858): region sizes and uses, the spare pool and the yield
reserve, record numbers, Guard's identity, keys, counters and confirmed sequence number, power cycles, fail-safe tables, and the map
of vision tiles. -/
def keptReg (a : Nat) : Bool :=
  let o := a % 0x10000
  match a / 0x10000 with
  | 7 => (decide (0x10 ≤ o) && decide (o < 0x210) && decide (0x10 ≤ o % 0x40) && decide (o % 0x40 < 0x24))
    || (decide (0x400 ≤ o) && decide (o < 0x4C0))
  | 15 => o == 4 || (decide (0x1000 ≤ o) && decide (o < 0x1100) && (o % 0x10 == 4 || o % 0x10 == 8))
  | 16 => o == 8 || o == 12
  | 17 => (decide (0x10 ≤ o) && decide (o < 0x54)) || o == 0xA0 || o == 0xA4 || (decide (0x100 ≤ o) && decide (o < 0x220))
  | 18 => o == 0x38
  | 19 => decide (0x08 ≤ o) && decide (o < 0x2C)
  | _ => false

/-- Puts what is kept of the season store into fresh registers: regions are created but not enabled, retired dies stay retired, and
READ_ONLY stays (R769). -/
def keepStore (old h : Hw) : Hw :=
  let h1 := (List.range 16).foldl (fun g r =>
    ((g.put F.STO_REG_CFG_CREATED (old.get F.STO_REG_CFG_CREATED r) r).put F.STO_REG_CFG_OWNER (old.get F.STO_REG_CFG_OWNER r) r).put
      F.STO_REG_CFG_YRES (old.get F.STO_REG_CFG_YRES r) r) h
  let h2 := (List.range 128).foldl (fun g d => g.put F.STO_DIE_RETIRED (old.get F.STO_DIE_RETIRED d) d) h1
  showReserve (showDies (h2.put F.STO_STATUS_READ_ONLY (old.get F.STO_STATUS_READ_ONLY)))

/-- The tiles' own state after a reset: outputs stand as their fail-safe states left them (R469, R509). -/
def keepTil (t : Til) : Til :=
  { outs := t.outs.map (fun (p, x) => (p, { x with stay := true, cmd := false, pf := false, hf := false })), silent := [6, 7] }

/-- What Guard keeps through a reset (R812): a session is discarded, but for the trial set that a module-scope activation boots; a
trial in progress falls back and an open debug scope ends (R798, R799, R807). -/
def keepGuard (old h : Hw) (trial : Bool) : Hw :=
  let g := old.grd
  let was := old.flag F.GRD_SET_TRIAL
  let h1 := { h with grd := if trial then { g with stage := [], winEnd := none, nonce := false, dbgEnd := none }
                            else { g with man := none, stage := [], winEnd := none, nonce := false, dbgEnd := none } }
  let h2 := h1.put F.GRD_SET_BANK (old.get F.GRD_SET_BANK)
  let h3 := if trial then
      (h2.setReg (F.GRD_SESSION_STATE.at 0 0) (old.reg (F.GRD_SESSION_STATE.at 0 0))).put F.GRD_SET_TRIAL 1
    else if was then ((h2.bump F.GRD_CNT_COUNT 1).put F.GRD_SET_FELL_BACK 1).log 0x1204 else h2
  if old.grd.dbgEnd.isSome then h3.log 0x1208 else h3

/-- The memory the supervisor owns until a layout is loaded: granules 0 to 511 (R824). -/
def bootLayout : List LEnt := [⟨2, 0, 0, 512⟩]

/-- Returns the logic domain to its reset values, keeping what R827 names, with memory filled with zeros (R706); start-up is still
to run. `trial` boots the trial set of a module-scope activation (R791). -/
def moduleReset (old0 : Hw) (cause : Nat) (trial : Bool) : Hw :=
  let old := tilesLost (tornWrites (endTileTest (diagFlush old0)))
  let on := decide (cause ≤ 3)
  let p := old.pwr
  let pw : Pwr := { p with state := .on, up := false, opAt := old.now, op := old.opNs, trial := trial, tries := 0, failedAt := none,
                           halted := false, hotAt := none, overAt := none, brown := false, hot := false }
  let h : Hw := { rf := old.rf.filter (fun (a, _) => keptReg a), freeCtr := old.freeCtr, diag := old.diag,
                  wgl := { now := old.now }, til := keepTil old.til,
                  vlv := { chs := old.vlv.chs.map (fun (c, x) => (c, { out := x.out, base := x.base, temp := x.temp, k := x.k })) },
                  fans := old.fans, sto := { old.sto with writes := [], winAt := old.now, good := [] },
                  evr := { old.evr with apps := [] }, pwr := pw, prp := { layout := bootLayout } }
  let h1 := keepGuard old (keepStore old h) trial
  let h2 := (List.range 8).foldl (fun g t =>
    (g.put F.PWR_FEED_STATUS_FEED_UV (old.get F.PWR_FEED_STATUS_FEED_UV t) t).put F.PWR_FEED_STATUS_FEED_OV
      (old.get F.PWR_FEED_STATUS_FEED_OV t) t) h1
  let h3 := (List.range 8).foldl (fun g t => g.put F.LSW_TILE_STATUS_STATE (if old.tileState t = 2 then 2 else 0) t) h2
  let h4 := ((h3.put F.PWR_RST_CAUSE_CAUSE cause).put F.PWR_RST_CAUSE_WAKE p.cmp).put F.PWR_STATUS_IGN (b2n p.ignLow.isNone)
  let pc := old.get F.PWR_PCYCLE_VALUE
  if p.kaLost && on then
    let q := { h4 with pwr := { h4.pwr with rtc := p.mirror.1, rtcAt := old.now, op := p.mirror.2.1, kaLost := false } }
    ((q.put F.PWR_PCYCLE_VALUE (p.mirror.2.2 + 1)).put F.PWR_STATUS_RTC_LOST 1).log 0x1304
  else if on then h4.put F.PWR_PCYCLE_VALUE (pc + 1) else h4

/-! ## Start-up (Sequence 19.1) -/

/-- The timebase that a real-time clock of some ticks of 1/32,768 s gives (R62). -/
def rtcTimebase (t : Nat) : Nat := t / 32768 * 1000000000 + t % 32768 * 1000000000 / 32768

/-- Guard enters recovery (R803, R804). -/
def enterRecovery (h : Hw) : Hw :=
  (({ h with pwr := { h.pwr with up := true, trial := false } }.put F.GRD_SET_RECOVERY 1).put F.PRP_PART_STATUS_STATE 1 0).log 0x1206

/-- Boots a bank: configuration record, partition 0's components and layout image, and the release of safety pair 0 (steps 4 and 5). -/
def bootBank (h : Hw) (b : Nat) : Hw :=
  let (h1, ok) := loadComponents (bootCfg h b) 0
  let h2 := if h1.pwr.trial then h1.put F.GRD_SESSION_STATE 5 else h1
  let h3 := { h2 with pwr := { h2.pwr with up := true } }
  if ok then h3.put F.PRP_PART_STATUS_STATE 3 0 else partStatus (h3.put F.PRP_PART_STATUS_STATE 1 0) ST_GRD_HASH

/-- Verification and boot (R801, R803): the trial set where a module-scope activation boots it, otherwise the confirmed set; a set that
fails gives way to the other bank where that holds a confirmed set. -/
def secureBoot (h : Hw) (x : StartIn) : Hw :=
  let c := h.get F.GRD_SET_BANK
  let good (b : Nat) : Bool := bankOk (bankOf h b) && !(if b = 0 then x.bad0 else x.bad1)
  let first := if h.pwr.trial then 1 - c else c
  if x.bootSel && decide (h.get F.PWR_RST_CAUSE_CAUSE ≤ 3) then enterRecovery h
  else if good first then bootBank h first
  else
    let h1 := imageFailed h
    if h.pwr.trial then
      let h2 := { h1 with pwr := { h1.pwr with trial := false }, grd := { h1.grd with man := none } }
      let h3 := ((h2.setReg (F.GRD_SESSION_STATE.at 0 0) 0).put F.GRD_SET_TRIAL 0).put F.GRD_SET_FELL_BACK 1
      if good c then bootBank h3 c else enterRecovery (imageFailed h3)
    else if h.grd.earlier && good (1 - c) then
      bootBank ((h1.put F.GRD_SET_BANK (1 - c)).put F.GRD_SET_FELL_BACK 1) (1 - c)
    else enterRecovery h1

/-- Steps 3 to 5 of start-up: the timebase is loaded, memory trained and filled, the set verified and booted; a channel that fails
training stops the start-up (R62, R706, R707, R801, R825). -/
def startUp (h : Hw) (x : StartIn) : Hw :=
  let t := rtcTimebase h.rtcTicks
  let h1 := { h with wgl := { h.wgl with tb := t, tbFrac := 0 } }
  match x.fails with
  | some ch =>
    let n := h.pwr.tries
    let h2 := evrModule h1 0x1307 ch.val 1
    if 3 ≤ n then { h2 with pwr := { h2.pwr with halted := true, failedAt := none } }
    else { h2 with pwr := { h2.pwr with tries := n + 1, failedAt := some h.now } }
  | none =>
    let h2 := { h1 with pwr := { h1.pwr with tries := 0, failedAt := none } }
    showTiles (secureBoot ((h2.put F.MEM_STATUS_FILL_DONE 1).put F.MEM_STATUS_FILL_TIME x.fillMs.val) x)

end Sys2Proof.Machine
end

