-- ==== Sys2Proof/Machine/GuardCore.lean ====
section
/-!
DEFINITION. What Guard's operations share (chapter 18): CBOR and COSE_Sign1, manifests, the park condition, deltas and
fallbacks. The spec names CBOR and COSE and does not restate them; their published formats are taken (log entry 13). Readings:
log entries 38 and 39.
-/
namespace Sys2Proof.Machine

/-! ## CBOR items -/

/-- The head of an item: major type, argument and the bytes behind. Lengths that are not given in the head are not accepted. -/
def cborHead : List Byte → Option (Nat × Nat × List Byte)
  | [] => none
  | b :: bs =>
    let m := b.toNat / 32
    let a := b.toNat % 32
    if a < 24 then some (m, a, bs)
    else
      let n := match a with | 24 => 1 | 25 => 2 | 26 => 4 | 27 => 8 | _ => 0
      if n = 0 ∨ bs.length < n then none else some (m, beNat (bs.take n), bs.drop n)

/-- Passes over a number of items, with what they contain; the first number bounds the heads passed. -/
def cborSkip : Nat → Nat → List Byte → Option (List Byte)
  | _, 0, bs => some bs
  | 0, _, _ => none
  | k + 1, n + 1, bs =>
    match cborHead bs with
    | none => none
    | some (m, a, r) =>
      match m with
      | 2 => if r.length < a then none else cborSkip k n (r.drop a)
      | 3 => if r.length < a then none else cborSkip k n (r.drop a)
      | 4 => if r.length < a then none else cborSkip k (n + a) r
      | 5 => if r.length < a then none else cborSkip k (n + 2 * a) r
      | 6 => cborSkip k (n + 1) r
      | _ => cborSkip k n r

/-- The first item of bytes, and the bytes behind it. -/
def cborItem (bs : List Byte) : Option (List Byte × List Byte) :=
  (cborSkip bs.length 1 bs).map (fun r => (bs.take (bs.length - r.length), r))

/-- A number of items, and the bytes behind them. -/
def cborItems : Nat → List Byte → Option (List (List Byte) × List Byte)
  | 0, bs => some ([], bs)
  | n + 1, bs =>
    match cborItem bs with
    | none => none
    | some (x, r) => (cborItems n r).map (fun (xs, r2) => (x :: xs, r2))

/-- An item that is an unsigned integer. -/
def cborUint (x : List Byte) : Option Nat :=
  match cborHead x with
  | some (0, a, []) => some a
  | _ => none

/-- An item that is a byte string. -/
def cborBytes (x : List Byte) : Option (List Byte) :=
  match cborHead x with
  | some (2, a, r) => if r.length = a then some r else none
  | _ => none

/-- An item that is an array. -/
def cborArr (x : List Byte) : Option (List (List Byte)) :=
  match cborHead x with
  | some (4, a, r) => match (if r.length < a then none else cborItems a r) with | some (xs, []) => some xs | _ => none
  | _ => none

/-- Items taken two by two. -/
def pairUp : List (List Byte) → List (List Byte × List Byte)
  | a :: b :: r => (a, b) :: pairUp r
  | _ => []

/-- An item that is a map. -/
def cborMap (x : List Byte) : Option (List (List Byte × List Byte)) :=
  match cborHead x with
  | some (5, a, r) =>
    match (if r.length < 2 * a then none else cborItems (2 * a) r) with | some (xs, []) => some (pairUp xs) | _ => none
  | _ => none

/-- No value stands twice in a list. -/
def noTwice : List Nat → Bool
  | [] => true
  | x :: xs => !xs.contains x && noTwice xs

/-- A map with unsigned integer keys, each at most once and all among those allowed (R778). -/
def uintMap (allowed : List Nat) (x : List Byte) : Option (Map (List Byte)) :=
  match cborMap x with
  | none => none
  | some ps =>
    match ps.mapM (fun (k, v) => (cborUint k).map (fun n => (n, v))) with
    | none => none
    | some l => if l.all (fun e => allowed.contains e.1) && noTwice (l.map (·.1)) then some l else none

/-- The integer under a key. -/
def mapUint (m : Map (List Byte)) (k : Nat) : Option Nat := (mget m k).bind cborUint

/-- The byte string of n bytes under a key. -/
def mapBytes (m : Map (List Byte)) (k n : Nat) : Option (List Byte) :=
  ((mget m k).bind cborBytes).bind (fun b => if b.length = n then some b else none)

/-! ## COSE_Sign1 (R777, R805) -/

/-- A tagged COSE_Sign1 structure: the slot its kid names, its payload, the bytes that are signed and the signature. -/
structure Sign1 where
  kid : Nat
  payload : List Byte
  tbs : List Byte
  sig : List Byte
  deriving DecidableEq, Repr

/-- The head of a byte string of n bytes, n below 65,536. -/
def bstrHead (n : Nat) : List Byte :=
  if n < 24 then [BitVec.ofNat 8 (64 + n)] else if n < 256 then [0x58, BitVec.ofNat 8 n]
  else [0x59, BitVec.ofNat 8 (n / 256), BitVec.ofNat 8 n]

/-- The bytes that a signature of COSE_Sign1 covers: the array of the context "Signature1", the protected header, empty additional
data and the payload. -/
def sigStructure (prot payload : List Byte) : List Byte :=
  [0x84, 0x6A, 0x53, 0x69, 0x67, 0x6E, 0x61, 0x74, 0x75, 0x72, 0x65, 0x31] ++ bstrHead prot.length ++ prot ++ [0x40]
    ++ bstrHead payload.length ++ payload

/-- A protected header with alg −7 and a kid of one byte, in either order: the slot (R777). -/
def protKid (prot : List Byte) : Option Nat :=
  match cborMap prot with
  | some ps =>
    match ps.find? (fun e => e.1 == [0x01]), ps.find? (fun e => e.1 == [0x04]) with
    | some (_, [0x26]), some (_, [0x41, k]) => if ps.length = 2 then some k.toNat else none
    | _, _ => none
  | none => none

/-- A COSE_Sign1 structure with tag 18 and an embedded payload. -/
def parseSign1 (bs : List Byte) : Option Sign1 :=
  match bs with
  | 0xD2 :: r =>
    match cborArr r with
    | some [p, u, l, g] =>
      match cborBytes p, cborMap u, cborBytes l, cborBytes g with
      | some prot, some _, some pay, some sig => (protKid prot).map (fun k => ⟨k, pay, sigStructure prot pay, sig⟩)
      | _, _, _, _ => none
    | _ => none
  | _ => none

/-- The signing slot holds a key and the signature verifies (R782). -/
def sigOk (h : Hw) (x : Sign1) : Bool :=
  decide (x.kid < 8) && h.flag F.GRD_KEY_PERM_VALID x.kid && x.sig.length == 64
    && Config.ecdsaP256Verify (mgetD h.grd.keys x.kid []) (sha256 x.tbs) x.sig

/-! ## Manifests (R778, R779) -/

/-- The instances a kind has (Table 18.4). -/
def kindInsts (k : Nat) : Nat := match k with | 2 => 13 | 3 => 3 | 4 => 8 | 7 => 8 | _ => 1

/-- A component map (Table 18.3). -/
def parseComp (x : List Byte) : Option Comp :=
  match uintMap [1, 2, 3, 4, 5, 6, 7, 8, 9, 10, 11] x with
  | none => none
  | some m =>
    match mapUint m 1, mapUint m 2, mapUint m 3, mapBytes m 5 48, mapUint m 6, mapUint m 7, mapBytes m 8 48 with
    | some k, some i, some v, some res, some rl, some pl, some ph =>
      let base := mapBytes m 4 48
      let ctr := mapUint m 9
      let svn := mapUint m 10
      let load := mapUint m 11
      let loads := k == 4 || k == 5 || k == 7
      if decide (1 ≤ k) && decide (k ≤ 8) && decide (i < kindInsts k) && decide (1 ≤ rl) && decide (rl ≤ 2 ^ 31) && decide (1 ≤ pl)
          && decide (pl ≤ 2 ^ 31) && ((mget m 4).isSome == base.isSome) && ((mget m 9).isSome == ctr.isSome)
          && ((mget m 10).isSome == svn.isSome) && (ctr.isSome == svn.isSome) && decide (ctr.getD 0 ≤ 31) && decide (svn.getD 0 ≤ 1023)
          && ((mget m 11).isSome == load.isSome) && (load.isSome == loads) && load.getD 0 % 4096 == 0 then
        some ⟨k, i, v, base, res, rl, pl, ph, ctr.map (fun c => (c, svn.getD 0)), load.getD 0⟩
      else none
    | _, _, _, _, _, _, _ => none

/-- A manifest payload (Table 18.2). -/
def parseManif (x : List Byte) : Option Manif :=
  match uintMap [1, 2, 3, 4, 5, 6, 7, 8, 9] x with
  | none => none
  | some m =>
    match mapUint m 1, mapUint m 2, mapUint m 3, mapUint m 4, mapUint m 6, ((mget m 9).bind cborArr).bind (fun l => l.mapM parseComp) with
    | some ver, some sq, some hw, some mask, some scope, some comps =>
      let unit := mapBytes m 5 32
      let part := mapUint m 7
      let win := mapUint m 8
      if ver == 1 && decide (1 ≤ sq) && decide (scope ≤ 1) && ((mget m 5).isSome == unit.isSome) && ((mget m 7).isSome == part.isSome)
          && (part.isSome == (scope == 0)) && decide (part.getD 0 ≤ 7) && ((mget m 8).isSome == win.isSome)
          && decide (10 ≤ win.getD 10) && decide (win.getD 10 ≤ 3600) && decide (1 ≤ comps.length) && decide (comps.length ≤ 64)
          && noTwice (comps.map (fun c => c.kind * 16 + c.inst)) then
        some ⟨sq, hw, mask, unit, scope, part.getD 0, win, comps⟩
      else none
    | _, _, _, _, _, _ => none

/-- The components of the confirmed set that a manifest does not name pass unchanged into the new set. -/
def keptImages (h : Hw) (m : Manif) : List Image :=
  (bankOf h (h.get F.GRD_SET_BANK)).filter (fun i => !m.comps.any (fun c => c.kind == i.kind && c.inst == i.inst))

/-- The new set fits a bank and the payloads fit the staging area (R782). -/
def setFits (h : Hw) (m : Manif) : Bool :=
  decide ((m.comps.map (·.rlen)).sum + ((keptImages h m).map (fun i => i.bytes.length)).sum ≤ 2 ^ 32)
    && decide ((m.comps.map (·.plen)).sum ≤ 2 ^ 31)

/-- A slot's permissions and the manifest's scope allow a component (Table 18.4). -/
def compAllowed (h : Hw) (slot : Nat) (m : Manif) (c : Comp) : Bool :=
  let ox := h.flag F.GRD_KEY_PERM_P_OXSEL slot
  let md := h.flag F.GRD_KEY_PERM_P_MODULE slot
  let pt (p : Nat) : Bool := bit (h.get F.GRD_KEY_PERM_PART slot) p
  let whole := m.scope == 1
  match c.kind with
  | 1 => ox && whole
  | 2 => ox && whole
  | 8 => ox && whole
  | 3 => if c.inst = 0 then md && whole else (md || pt 1) && (whole || m.part == 1)
  | 4 => if c.inst = 0 then md && whole else (md || pt c.inst) && (whole || m.part == c.inst)
  | 7 => if c.inst = 0 then md && whole else (md || pt c.inst) && (whole || m.part == c.inst)
  | _ => md && whole

/-- The unit key hash (R773). -/
def keyHash (h : Hw) : List Byte := sha256 ((4 : Byte) :: h.grd.pub)

/-- The checks of a STAGE in their order, with the manifest where they all pass (R782). -/
def stageCheck (h : Hw) (bs : List Byte) : Nat × Option Manif :=
  let bad : Nat × Option Manif := (ST_GRD_MANIFEST, none)
  if sesState h ≠ 0 then (ST_GRD_BUSY, none)
  else if 16384 < bs.length then bad
  else match parseSign1 bs with
    | none => bad
    | some x =>
      match parseManif x.payload with
      | none => bad
      | some m =>
        let loads := ((m.comps.filter (fun c => c.kind == 3 || c.kind == 4 || c.kind == 7)).map (·.rlen)).sum
        let st := firstBad [(setFits h m, ST_GRD_MANIFEST), (sigOk h x, ST_GRD_SIGNATURE),
          (m.comps.all (compAllowed h x.kid m) && (m.scope == 1 || m.part != 0), ST_GRD_PERMISSION),
          (((0x96000A03 ^^^ m.hwtype) &&& m.hwmask) == 0 && (m.unit.isNone || m.unit == some (keyHash h)), ST_GRD_BINDING),
          (decide (h.get64 F.GRD_MAN_SEQ_LO_SEQ < m.seq)
            && m.comps.all (fun c => match c.ctr with | some (k, v) => decide (h.get F.GRD_CTR_VALUE k ≤ v) | none => true),
            ST_GRD_ROLLBACK),
          (m.scope == 1 || decide (loads ≤ 512 * 2 ^ 20), ST_GRD_TOO_LARGE)]
        (st, if st = ST_OK then some m else none)

/-- Status of the last STAGE, APPLY or ACTIVATE in GRD_SESSION.ERR. -/
def sesErr (h : Hw) (st : Nat) : Hw := h.put F.GRD_SESSION_ERR st

/-- A STAGE opens a session, or is refused, counted and logged (R782). -/
def stageDo (h : Hw) (bs : List Byte) : Hw × Nat :=
  match stageCheck h bs with
  | (st, some m) =>
    let h1 := { h with grd := { h.grd with man := some m, stage := [] } }
    let h2 := (h1.put F.GRD_SESSION_STATE 1).put F.GRD_SESSION_SCOPE m.scope
    (sesErr ((h2.put F.GRD_SESSION_PART m.part).put F.GRD_SESSION_NCOMP m.comps.length) st, st)
  | (st, none) => (sesErr ((h.bump F.GRD_CNT_COUNT 0).log 0x1201) st, st)

/-- Stores payload bytes of a component from an offset on (R783). -/
def stagePut : Map Byte → Nat → List Byte → Map Byte
  | m, _, [] => m
  | m, i, b :: bs => stagePut (mset m i b) (i + 1) bs

/-- A PUT of bytes, where the session still takes them (R783). -/
def putDo (h : Hw) (i off : Nat) (bs : List Byte) : Hw × Nat :=
  if sesState h ≠ 1 ∨ (grdComp h i).isNone then (h, ST_GRD_NOT_READY)
  else ({ h with grd := { h.grd with stage := mmod h.grd.stage i [] (fun m => stagePut m off bs) } }, ST_OK)

/-! ## APPLY (R784, R785) -/

/-- The payload of a component as staged; a byte that no PUT has written is open. -/
def payloadOf (h : Hw) (i n : Nat) : List Byte × Hw :=
  let m := mgetD h.grd.stage i []
  (List.range n).foldr (fun k (bs, g) =>
    match mget m k with
    | some b => (b :: bs, g)
    | none => let (x, g1) := g.fresh; (BitVec.ofNat 8 x :: bs, g1)) ([], h)

/-- The output of a delta over a base image (Table 18.6); the first number bounds the records. -/
def deltaRun (base : List Byte) (rlen : Nat) : Nat → List Byte → List Byte → Option (List Byte)
  | 0, _, _ => none
  | k + 1, out, bs =>
    match bs with
    | [] => none
    | b :: r =>
      if b = 0 then (if r.isEmpty ∧ out.length = rlen then some out else none)
      else if b = 1 then
        let off := fld r 0 8
        let len := fld r 8 4
        if r.length < 12 ∨ base.length < off + len ∨ rlen < out.length + len then none
        else deltaRun base rlen k (out ++ slice base off len) (r.drop 12)
      else if b = 2 then
        let len := fld r 0 4
        if r.length < 4 + len ∨ rlen < out.length + len then none
        else deltaRun base rlen k (out ++ slice r 4 len) (r.drop (4 + len))
      else none

/-- Builds the image of one component: PHASH, BASE, the result and RESULT (R784). -/
def applyComp (h : Hw) (c : Comp) (payload : List Byte) : Nat × List Byte :=
  let good (bs : List Byte) : Nat × List Byte :=
    if bs.length = c.rlen ∧ sha384 bs = c.result then (ST_OK, bs) else (ST_GRD_HASH, bs)
  if sha384 payload ≠ c.phash then (ST_GRD_HASH, [])
  else match c.base with
    | none => good payload
    | some b =>
      match imageOf (bankOf h (h.get F.GRD_SET_BANK)) c.kind c.inst with
      | none => (ST_GRD_HASH, [])
      | some img =>
        if sha384 img.bytes ≠ b then (ST_GRD_HASH, [])
        else match deltaRun img.bytes c.rlen (payload.length + 1) [] payload with
          | none => (ST_GRD_DELTA, [])
          | some bs => good bs

/-- Builds components in index order: the images written, the status and the index at which it ended. -/
def applyComps (h : Hw) : Nat → List Comp → List Image → Hw × List Image × Nat × Nat
  | i, [], acc => (h, acc, ST_OK, i)
  | i, c :: cs, acc =>
    let (pay, h1) := payloadOf h i c.plen
    let (st, bs) := applyComp h1 c pay
    let acc1 := if bs.isEmpty then acc else acc ++ [⟨c.kind, c.inst, c.load, c.result, bs⟩]
    if st = ST_OK then applyComps h1 (i + 1) cs acc1 else (h1, acc1, st, i)

/-- APPLY builds the new set in the other bank: the session becomes READY, or STAGED again with the index of the component that failed
(R784). -/
def applyDo (h : Hw) : Hw × Nat × Nat :=
  match h.grd.man with
  | none => (h, ST_GRD_NOT_READY, 0)
  | some m =>
    let (h1, imgs, st, i) := applyComps h 0 m.comps []
    let full := if st = ST_OK then keptImages h m ++ imgs else imgs
    let h2 := setBank h1 (1 - h.get F.GRD_SET_BANK) full
    let h3 := { h2 with grd := { h2.grd with earlier := false } }
    (sesErr (h3.put F.GRD_SESSION_STATE (if st = ST_OK then 3 else 1)) st, st, if st = ST_OK then 0 else i)

/-! ## Activation, confirmation and fallback -/

/-- The module is parked (R786). -/
def grdParked (h : Hw) : Bool :=
  let d := h.flag F.GRD_PARK_DIO_EN
  let w := h.flag F.GRD_PARK_DOM_EN
  let st := h.get F.WGL_DOM_STATUS_STATE (h.get F.GRD_PARK_DOM)
  (d || w) && (!d || h.flag F.DIO_STATUS_LEVEL (h.get F.GRD_PARK_CH)) && (!w || st == 0 || st == 4)

/-- A partition owns a CAN port that sends heartbeats (R787). -/
def sendsHb (h : Hw) (p : Nat) : Bool := (List.range 16).any (fun n => h.ownsPort p (280 + n) && h.flag F.CAN_HB_TX_EN n)

/-- The checks of an ACTIVATE in their order (R787). -/
def activateCheck (h : Hw) : Nat :=
  let whole := h.flag F.GRD_SESSION_SCOPE
  let p := h.get F.GRD_SESSION_PART
  firstBad [(sesState h == 3, ST_GRD_NOT_READY),
    (h.prp.cmd.isNone && !h.flag F.PRP_PART_ST_BUSY && (whole || h.partState p == 3), ST_PARTITION_STATE),
    ((!whole && !sendsHb h p) || grdParked h, ST_GRD_NOT_PARKED)]

/-- Stops partitions 1 to 7 (R197). -/
def stopAll (h : Hw) : Hw :=
  (List.range 7).foldl (fun g k => if 2 ≤ g.partState (k + 1) then stopSteps g (k + 1) else g) h

/-- Steps 1 to 4 of a module-scope activation, to a trial set or back to the confirmed one (R791, R797). -/
def moduleSwitch (h : Hw) (trial : Bool) : Hw := moduleReset (stopAll h) 7 trial

/-- Steps 1 to 3 of a partition-scope activation (R788, R789). -/
def partPause (h : Hw) (p : Nat) : Hw :=
  ((h.put F.PRP_PART_STATUS_STATE 4 p).put F.GRD_SESSION_STATE 4).put F.PRP_PART_ST_BUSY 1

/-- The session ends. -/
def endSession (h : Hw) : Hw :=
  ({ h with grd := { h.grd with man := none, stage := [], winEnd := none } }.put F.GRD_SESSION_STATE 0).put F.GRD_SET_EXPIRED 0

/-- Loads a partition that is held from the set it is to run, and releases it; a component that fails its check leaves it STOPPED
(R789, R802). -/
def partSwitch (h : Hw) (p : Nat) : Hw × Bool :=
  let (h1, ok) := loadComponents h p
  if ok then (h1.put F.PRP_PART_STATUS_STATE 3 p, true) else (partStatus (stopSteps h1 p) ST_GRD_HASH, false)

/-- Starts the confirm window (R793). -/
def startWindow (h : Hw) : Hw :=
  let w := (h.grd.man.bind (·.window)).getD (h.get F.GRD_CONFIRM_WINDOW)
  ({ h with grd := { h.grd with winEnd := some (h.now + w * 1000000000) } }.put F.GRD_SESSION_STATE 5).log 0x1202

/-- A partition-scope fallback: the partition runs the confirmed set again (R796). -/
def partFallback (h : Hw) : Hw :=
  let p := h.get F.GRD_SESSION_PART
  let h1 := endSession (h.put F.GRD_SET_TRIAL 0)
  let h2 := if h1.partState p = 3 then (partSwitch (h1.put F.PRP_PART_STATUS_STATE 4 p) p).1 else h1
  (h2.bump F.GRD_CNT_COUNT 1).log 0x1204

/-- The fallback of a trial: at once for a partition, and for the module once it is parked (R796, R797, R799). -/
def fallBack (h : Hw) : Hw :=
  if !h.flag F.GRD_SESSION_SCOPE then partFallback h
  else if grdParked h then moduleSwitch h false
  else h.put F.GRD_SET_EXPIRED 1

/-- Puts a kind 8 component into the key table: slots 1 to 7, without P_OXSEL (R776). -/
def applyKeys (h : Hw) (bs : List Byte) : Hw :=
  (List.range 7).foldl (fun g k =>
    let s := k + 1
    let e := slice bs (72 * s) 72
    let perm := fld e 64 4 &&& 0xFF0D
    if bit perm 0 then
      { g with grd := { g.grd with keys := mset g.grd.keys s (slice e 0 64) } }.setReg (F.GRD_KEY_PERM_VALID.at s 0) (BitVec.ofNat 32 perm)
    else { g with grd := { g.grd with keys := mdel g.grd.keys s } }.setReg (F.GRD_KEY_PERM_VALID.at s 0) 0) h

/-- The trial set becomes the confirmed set (R794, R800). -/
def confirmSet (h : Hw) : Hw :=
  match h.grd.man with
  | none => h
  | some m =>
    let b := 1 - h.get F.GRD_SET_BANK
    let h1 := (h.put F.GRD_SET_BANK b).put F.GRD_SET_TRIAL 0
    let h2 := m.comps.foldl (fun g c =>
      match c.ctr with
      | some (k, v) => if g.get F.GRD_CTR_VALUE k < v then g.put F.GRD_CTR_VALUE v k else g
      | none => g) h1
    let h3 := h2.put64 F.GRD_MAN_SEQ_LO_SEQ m.seq
    let h4 := match imageOf (bankOf h3 b) 8 0 with
      | some i => if m.comps.any (fun c => c.kind == 8) && i.bytes.length == 576 then applyKeys h3 i.bytes else h3
      | none => h3
    (endSession { h4 with grd := { h4.grd with earlier := true } }).log 0x1203

/-- An ABORT: what it does and its status (R799). -/
def abortDo (h : Hw) : Hw × Nat :=
  match sesState h with
  | 0 => (h, ST_GRD_NO_SESSION)
  | 1 => (endSession h, ST_OK)
  | 3 => (endSession h, ST_OK)
  | 5 => (fallBack h, ST_OK)
  | _ => (h, ST_GRD_BUSY)

/-! ## Identity and debug -/

/-- The identity record (Table 18.1). -/
def idRecord (h : Hw) : List Byte :=
  let dev := h.grd.devCert
  let hd := [0x58, 0x4E, 0x39, 0x36, 0x30, 0x30, 0x2D, 0x41] ++ zeros 8 ++ [3, 0x42, 0x31, 0] ++ leBytes 4 0x96000A03
    ++ (leBytes 20 h.grd.serial).reverse ++ keyHash h ++ padTo 64 h.grd.pub ++ leBytes 8 (h.get64 F.GRD_MAN_SEQ_LO_SEQ)
    ++ leBytes 2 dev.length ++ leBytes 2 h.grd.intCert.length ++ zeros 104
  hd ++ dev ++ zeros ((64 - dev.length % 64) % 64) ++ h.grd.intCert

/-- The nonce in GRD_DBG_NONCE. -/
def dbgNonce (h : Hw) : List Byte := (List.range 4).flatMap (fun i => leBytes 4 (h.get F.GRD_DBG_NONCE_NONCE i))

/-- The nonce is used up: GRD_DBG_NONCE reads 0 (R806). -/
def dropNonce (h : Hw) : Hw :=
  (List.range 4).foldl (fun g i => g.put F.GRD_DBG_NONCE_NONCE 0 i) { h with grd := { h.grd with nonce := false } }

/-- A token keeps to R805: its scope and its duration in s. -/
def tokenOk (h : Hw) (bs : List Byte) : Option (Nat × Nat) :=
  if 1024 < bs.length then none
  else match parseSign1 bs with
    | none => none
    | some x =>
      match uintMap [1, 2, 3, 4] x.payload with
      | none => none
      | some m =>
        match mapBytes m 1 32, mapBytes m 2 16, mapUint m 3, mapUint m 4 with
        | some k, some n, some sc, some d =>
          if sigOk h x && h.flag F.GRD_KEY_PERM_P_DEBUG x.kid && k == keyHash h && h.grd.nonce && n == dbgNonce h
              && decide (sc < 16) && decide (60 ≤ d) && decide (d ≤ 28800) then some (sc, d) else none
        | _, _, _, _ => none

/-- An open debug scope ends: contacts are no longer driven (R807, R855). -/
def endUnlock (h : Hw) : Hw :=
  if h.grd.dbgEnd.isSome then
    ({ h with grd := { h.grd with dbgEnd := none }, smk := { h.smk with drives := false } }.put F.GRD_DBG_STATUS_SCOPE 0).log 0x1208
  else h

end Sys2Proof.Machine
end

