-- ==== Sys2Proof/Machine/Guard.lean ====
section
/-!
DEFINITION. The commands of Guard (chapter 18). Readings: log entries 38 and 39.
-/
namespace Sys2Proof.Machine

/-! ## Update sessions -/

/-- STAGE: a manifest is checked and opens a session (R782). -/
def execStage (dt : Nat) (id : Nat) (s : State) : Out :=
  run dt s fun h => h.onOp id 7 1 fun f =>
    let a := fld f.desc 8 8
    let n := min (fld f.desc 16 4) 16385
    h.engRead f [(a, n)] fun g =>
      let (g1, st) := stageDo g (g.rd a n)
      g1.finish f st g1.tb

/-- PUT: payload bytes go into the staging area (R783). -/
def execPut (dt : Nat) (id : Nat) (s : State) : Out :=
  run dt s fun h => h.onOp id 7 2 fun f =>
    let ps := dPieces h f.desc (fld f.desc 8 8)
    h.engRead f ps fun g =>
      let (g1, st) := putDo g (fld f.desc 1 1) (fld f.desc 16 8) (gather g ps)
      g1.finish f st g1.tb

/-- An earlier APPLY still runs. -/
def applyBehind (h : Hw) (f : Flight) : Bool :=
  h.rng.flights.any (fun g => g.eng == 7 && g.stage == 1 && dOp g.desc == 3 && decide (g.id < f.id))

/-- APPLY: the new set is built and checked in the other bank (R784). -/
def execApply (dt : Nat) (id : Nat) (s : State) : Out :=
  run dt s fun h => h.onOp id 7 3 fun f =>
    if applyBehind h f then h
    else if sesState h = 1 ∨ sesState h = 2 then
      let (h1, st, i) := applyDo h
      h1.finish f st h1.tb i
    else (sesErr h ST_GRD_NOT_READY).finish f ST_GRD_NOT_READY h.tb

/-- ACTIVATE: a partition is paused, or the module resets to boot the new set (R787 to R791). -/
def execActivate (dt : Nat) (id : Nat) (s : State) : Out :=
  run dt s fun h => h.onOp id 7 4 fun f =>
    let st := activateCheck h
    let h1 := (sesErr h st).finish f st h.tb
    if st ≠ ST_OK then h1
    else if h.flag F.GRD_SESSION_SCOPE then moduleSwitch h1 true
    else partPause h1 (h.get F.GRD_SESSION_PART)

/-- ACTIVATION_COMPLETE: step 5 of R789 or R791: the partition or the module runs the new set, and the confirm window starts (R793). A
component that fails its check leaves the partition STOPPED and ends the session (R802). -/
def execActivationComplete (dt : Nat) (s : State) : Out :=
  run dt s fun h =>
    if h.pwr.trial then startWindow { h with pwr := { h.pwr with trial := false } }
    else if sesState h = 4 ∧ !h.flag F.GRD_SESSION_SCOPE then
      let (h1, ok) := partSwitch (h.put F.GRD_SET_TRIAL 1) (h.get F.GRD_SESSION_PART)
      let h2 := h1.put F.PRP_PART_ST_BUSY 0
      if ok then startWindow h2 else endSession (h2.put F.GRD_SET_TRIAL 0)
    else h

/-- CONFIRM: the trial set becomes the confirmed set, if the confirm window had not ended when the descriptor was fetched (R794, R795). -/
def execConfirm (dt : Nat) (id : Nat) (s : State) : Out :=
  run dt s fun h => h.onOp id 7 5 fun f =>
    if sesState h ≠ 5 then h.finish f ST_GRD_NO_SESSION h.tb
    else
      let late := match h.grd.winEnd with | some t => decide (t ≤ f.since) | none => false
      if late || h.flag F.GRD_SET_EXPIRED then h.finish f ST_GRD_EXPIRED h.tb
      else (confirmSet h).finish f ST_OK h.tb

/-- GRD_ABORT: a session is discarded, or a trial falls back (R799). -/
def execGrdAbort (dt : Nat) (id : Nat) (s : State) : Out :=
  run dt s fun h => h.onOp id 7 6 fun f =>
    let (h1, st) := abortDo h
    h1.finish f st h.tb

/-- CONFIRM_WINDOW_EXPIRY: the confirm window ends without a confirmation (R796, R797). -/
def execConfirmWindowExpiry (dt : Nat) (s : State) : Out :=
  run dt s fun h =>
    match h.grd.winEnd with
    | some t => if sesState h = 5 ∧ t ≤ h.now ∧ !h.flag F.GRD_SET_EXPIRED then fallBack h else h
    | none => h

/-- PARKED_FALLBACK: an expired module-scope trial falls back as the module becomes parked (R797). -/
def execParkedFallback (dt : Nat) (s : State) : Out :=
  run dt s fun h => if sesState h = 5 ∧ h.flag F.GRD_SET_EXPIRED ∧ grdParked h then moduleSwitch h false else h

/-! ## Recovery (R804) -/

/-- The operation of a recovery datagram on its descriptor and data: its status, the index of a failing component and further bytes of
the answer. An activation is of module scope, and the park condition is taken as met. -/
def recoveryOp (h : Hw) (d data : List Byte) : Hw × Nat × Nat × List Byte :=
  let bad : Hw × Nat × Nat × List Byte := (h, ST_BAD_DESCRIPTOR, 0, [])
  if !commonOk d || 16384 < data.length then bad
  else match dOp d with
    | 1 =>
      if head0 d 0 && onlyBytes [(0, 1), (8, 12)] d && decide (fld d 16 4 ≤ data.length) then
        let (h1, st) := stageDo h (data.take (fld d 16 4))
        (h1, st, 0, [])
      else bad
    | 2 =>
      if head0 d 0 && onlyBytes [(0, 2), (4, 20)] d && decide (1 ≤ fld d 4 4) && decide (fld d 4 4 ≤ data.length) then
        (if sesState h ≠ 1 then (h, ST_GRD_NOT_READY, 0, [])
         else match grdComp h (fld d 1 1) with
           | none => bad
           | some c =>
             if c.plen < fld d 16 8 + fld d 4 4 then bad
             else
               let (h1, st) := putDo h (fld d 1 1) (fld d 16 8) (data.take (fld d 4 4))
               (h1, st, 0, []))
      else bad
    | 3 =>
      if head0 d 0 && onlyBytes [(0, 1)] d then
        (if sesState h = 1 then
          let (h1, st, i) := applyDo h
          (h1, st, i, [])
         else (sesErr h ST_GRD_NOT_READY, ST_GRD_NOT_READY, 0, []))
      else bad
    | 4 =>
      if head0 d 0 && onlyBytes [(0, 1)] d then
        (if sesState h = 3 then (moduleSwitch ((sesErr h ST_OK).put F.GRD_SESSION_SCOPE 1) true, ST_OK, 0, [])
         else (sesErr h ST_GRD_NOT_READY, ST_GRD_NOT_READY, 0, []))
      else bad
    | 6 =>
      if head0 d 0 && onlyBytes [(0, 1)] d then
        let (h1, st) := abortDo h
        (h1, st, 0, [])
      else bad
    | 8 => if head0 d 0 && onlyBytes [(0, 1), (8, 12)] d && decide (4096 ≤ fld d 16 4) then (h, ST_OK, 0, idRecord h) else bad
    | _ => bad

/-- RECOVERY_DATAGRAM: in recovery Guard performs the operation of a UDP datagram and answers with its completion, whose INDEX and
PHASE are open; GETID's record follows it (R804). -/
def execRecoveryDatagram (dt : Nat) (bytes : List Byte) (s : State) : Out :=
  run dt s fun h =>
    if h.flag F.GRD_SET_RECOVERY && decide (64 ≤ bytes.length) then
      let d := bytes.take 64
      let (h1, st, i, more) := recoveryOp h d (bytes.drop 64)
      let (x, h2) := h1.fresh
      let c : Cpl := { tov := h.tb, d8 := i, user := dUser d, index := x / 2 % 65536, status := st }
      { h2 with grd := { h2.grd with answer := cplBytes c (x % 2) ++ more } }
    else h

/-! ## Debug unlock -/

/-- UNLOCK: the nonce is consumed; an accepted token opens its scope (R805 to R807). -/
def execUnlock (dt : Nat) (id : Nat) (s : State) : Out :=
  run dt s fun h => h.onOp id 7 7 fun f =>
    let a := fld f.desc 8 8
    let n := min (fld f.desc 16 4) 1025
    h.engRead f [(a, n)] fun g =>
      let g1 := dropNonce g
      match tokenOk g (g.rd a n) with
      | none => (g1.bump F.GRD_CNT_COUNT 2).finish f ST_GRD_TOKEN g.tb
      | some (sc, d) =>
        if 2 ≤ sc ∧ !grdParked g then g1.finish f ST_GRD_NOT_PARKED g.tb
        else
          let g2 := { g1 with grd := { g1.grd with dbgEnd := some (g1.now + d * 1000000000) },
                              smk := { g1.smk with drives := g1.smk.ir == 3 && bit sc 2 } }
          ((g2.put F.GRD_DBG_STATUS_SCOPE sc).log 0x1207).finish f ST_OK g.tb

/-- UNLOCK_EXPIRY: the duration of a debug unlock ends (R807). -/
def execUnlockExpiry (dt : Nat) (s : State) : Out :=
  run dt s fun h =>
    match h.grd.dbgEnd with
    | some t => if t ≤ h.now then endUnlock h else h
    | none => h

/-- Draws a new debug nonce. -/
def newNonce (h : Hw) : Hw :=
  let (bs, h1) := h.freshBytes 16
  (List.range 4).foldl (fun g i => g.put F.GRD_DBG_NONCE_NONCE (fld bs (4 * i) 4) i) { h1 with grd := { h1.grd with nonce := true } }

/-- NEW_NONCE: partition 0 writes GRD_DBG_CTRL with NEW_NONCE = 1 (R806). -/
def execNewNonce (dt : Nat) (hart : Fin 19) (s : State) : Out := run dt s fun h => if h.byP0 hart then newNonce h else h

/-- LOCK: partition 0 writes GRD_DBG_CTRL with LOCK = 1 (R807). -/
def execLock (dt : Nat) (hart : Fin 19) (s : State) : Out := run dt s fun h => if h.byP0 hart then endUnlock h else h

/-! ## Identity, hashes, random numbers, signatures -/

/-- GETID: the identity record goes to memory (R775). -/
def execGetid (dt : Nat) (id : Nat) (s : State) : Out :=
  run dt s fun h => h.onOp id 7 8 fun f =>
    let (w, h1) := engWho h 7 f.part
    let h2 := h1.wr (fld f.desc 8 8) (idRecord h) w
    h2.finish f ST_OK h2.tb

/-- HASH: a SHA-256 or SHA-384 digest goes to the first bytes of its 64-byte destination; what its other bytes then hold is open (R808). -/
def execHash (dt : Nat) (id : Nat) (s : State) : Out :=
  run dt s fun h => h.onOp id 7 9 fun f =>
    let ps := dPieces h f.desc (fld f.desc 8 8)
    h.engRead f ps fun g =>
      let bs := gather g ps
      let dig := if fld f.desc 1 1 = 0 then sha256 bs else sha384 bs
      let (rest, g1) := g.freshBytes (64 - dig.length)
      let (w, g2) := engWho g1 7 f.part
      let g3 := g2.wr (fld f.desc 16 8) (dig ++ rest) w
      g3.finish f ST_OK g3.tb

/-- RANDOM: bytes of the TRNG go to memory (R808). -/
def execRandom (dt : Nat) (id : Nat) (s : State) : Out :=
  run dt s fun h => h.onOp id 7 10 fun f =>
    let (bs, h1) := h.freshBytes (fld f.desc 16 4)
    let (w, h2) := engWho h1 7 f.part
    let h3 := h2.wr (fld f.desc 8 8) bs w
    h3.finish f ST_OK h3.tb

/-- What SIGN signs: SHA-256 over "OXSEL-ATTEST", the partition and the digest (R809). -/
def attestDigest (p : Nat) (dig : List Byte) : List Byte :=
  sha256 ([0x4F, 0x58, 0x53, 0x45, 0x4C, 0x2D, 0x41, 0x54, 0x54, 0x45, 0x53, 0x54] ++ [BitVec.ofNat 8 p] ++ dig)

/-- SIGN: the 64 bytes of a signature of the device key over the attestation digest go to memory. The device's private key is given
nowhere, so their value is open: it depends on the public key, the digest and a fresh number (R771, R809, log entry 13). -/
def execSign (dt : Nat) (id : Nat) (s : State) : Out :=
  run dt s fun h => h.onOp id 7 11 fun f =>
    let (x, h1) := h.fresh
    let sig := padTo 64 (Config.published 3 (h.grd.pub ++ attestDigest f.part (slice f.desc 8 32) ++ leBytes 8 x))
    let (w, h2) := engWho h1 7 f.part
    let h3 := h2.wr (fld f.desc 40 8) sig w
    h3.finish f ST_OK h3.tb

end Sys2Proof.Machine
end

