-- ==== Sys2Proof/Machine/LoadSwitch.lean ====
section
/-!
DEFINITION. The commands of the load switches and of the power tiles (chapter 09), apart from the watchdog's. Readings: log
entry 25.
-/
namespace Sys2Proof.Machine

/-! ## Load switches -/

/-- A write to LSW_CFG, with the checks of an enable (R482). A switch that is enabled waits for its next command. -/
def lsCfgWrite (h : Hw) (c v : Nat) : Hw :=
  let f := F.LSW_CFG_ENABLE.at c 0
  let old := (h.reg f).toNat
  let new := v % 2 ^ 7 + bits v 15 8 * 2 ^ 8
  if old % 2 = 1 then
    showLs (h.setReg f (BitVec.ofNat 32 (new - bits new 1 1 * 2 + bits old 1 1 * 2))) c
  else if v % 2 = 0 then showLs (h.setReg f (BitVec.ofNat 32 new)) c
  else
    let st := firstBad [(bits new 15 8 != 0 && bits v 7 7 == 0 && bits v 31 16 == 0, ST_LSW_CONFIG)]
    let h1 := (h.setReg f (BitVec.ofNat 32 (if st = ST_OK then new else new - 1))).put F.LSW_STATUS_ERR st c
    showLs (if st = ST_OK then h1.setOut (48 + c) { h1.out (48 + c) with cmd := false } else h1) c

/-- LSW_ENABLE: the owner of the port writes LSW_CFG with ENABLE = 1. -/
def execLswEnable (dt : Nat) (hart : Fin 19) (c : Fin 96) (v : Word) (s : State) : Out :=
  run dt s fun h => if h.byOwner hart (48 + c) then lsCfgWrite h c (v ||| 1).toNat else h

/-- LSWSET: all entries take effect together (R459). -/
def execLswset (dt id : Nat) (s : State) : Out :=
  run dt s fun h => h.onOp id 12 3 fun f =>
    let h1 := (setEntries f.desc).foldl (fun g e =>
      let c := e % 128
      if g.flag F.LSW_CFG_ENABLE c && g.get F.LSW_CFG_MODE c == 1 then lsCommand g c (bit e 8) else g) h
    h1.finish f ST_OK h1.tb

/-- A switch goes off for a cause that firmware must clear; what was commanded is forgotten (R461). -/
def lsLatch (h : Hw) (c : Nat) : Hw :=
  showLs (h.setOut (48 + c) { h.out (48 + c) with cmd := false }) c

/-- CURRENT_LIMIT_TIMEOUT: a switch has been in current limit for a time in ns (R453). -/
def execCurrentLimitTimeout (dt : Nat) (c : Fin 96) (dur : Nat) (s : State) : Out :=
  run dt s fun h =>
    if lsOn h c && decide (100000 * h.get F.LSW_CFG_LIMIT_T c < dur) then
      lsLatch ((h.put F.LSW_FAULT_SHORT 1 c).log 0x0901 c) c
    else h

/-- OPEN_ON: the current of a switch that is on has been below its threshold for 10 ms (R454). -/
def execOpenOn (dt : Nat) (c : Fin 96) (s : State) : Out :=
  run dt s fun h => if lsOn h c then (h.put F.LSW_FAULT_OPEN_ON 1 c).log 0x0902 c true else h

/-- OFF_HIGH: the output of a switch that is off has stayed above 3.0 V for 10 ms (R454). -/
def execOffHigh (dt : Nat) (c : Fin 96) (s : State) : Out :=
  run dt s fun h =>
    if !lsOn h c && h.flag F.LSW_CFG_OL_OFF c then (h.put F.LSW_FAULT_OFF_HIGH 1 c).log 0x0902 c true else h

/-- OVERTEMP: a switch's junction reaches 170 °C (R455). -/
def execOvertemp (dt : Nat) (c : Fin 96) (s : State) : Out :=
  run dt s fun h =>
    let x := h.out (48 + c)
    if x.ot then h
    else
      let latch := h.flag F.LSW_CFG_OT_MODE c
      showLs (((h.setOut (48 + c) { x with ot := true, otLatch := latch, cmd := x.cmd && !latch }).put F.LSW_FAULT_OVERTEMP 1 c).log
        0x0903 c) c

/-- OVERTEMP_RESTART: the junction of a restart-mode switch has cooled below 150 °C (R455). -/
def execOvertempRestart (dt : Nat) (c : Fin 96) (s : State) : Out :=
  run dt s fun h =>
    let x := h.out (48 + c)
    if x.ot && !x.otLatch then showLs (h.setOut (48 + c) { x with ot := false }) c else h

/-- Clears bits of LSW_FAULT; a latched OVERTEMP stays while the junction is at or above 150 °C (R456, R461). -/
def lsFaultClear (h : Hw) (c v : Nat) (stillHot : Bool) : Hw :=
  let x := h.out (48 + c)
  let keepOt := x.ot && x.otLatch && stillHot
  let clear := if keepOt then v % 32 - bits v 3 3 * 8 else v % 32
  let old := (h.reg (F.LSW_FAULT_SHORT.at c 0)).toNat
  let h1 := h.setReg (F.LSW_FAULT_SHORT.at c 0) (BitVec.ofNat 32 (old - (old &&& clear)))
  let ends := (bit old 0 && bit clear 0) || (bit old 4 && bit clear 4)
  let endsOt := x.ot && x.otLatch && bit clear 3
  let x1 := if endsOt then { x with ot := false, otLatch := false } else x
  let x2 := if (ends || endsOt) && !h.held (48 + c) then { x1 with cmd := false, fs := if x1.stay then 0 else x1.fs } else x1
  showLs (h1.setOut (48 + c) x2) c

/-- LSW_FAULT_CLEAR: the owner of the port writes LSW_FAULT; `stillHot` says whether the junction is at or above 150 °C. -/
def execLswFaultClear (dt : Nat) (hart : Fin 19) (c : Fin 96) (v : Word) (stillHot : Bool) (s : State) : Out :=
  run dt s fun h => if h.byOwner hart (48 + c) then lsFaultClear h c v.toNat stillHot else h

/-! ## Feed supervision -/

/-- The feed limit of a tile in mA (Table 09.1). -/
def feedLimit (t : Nat) : Nat := if t < 4 then 60000 else 50000

/-- The shed priority of an output channel that is on, 0 for one that is off (R463). -/
def shedPrio (h : Hw) (p : Nat) : Nat :=
  if p < 48 then (if h.get F.SOL_CURRENT_CODE p != 0 || (h.sol p).out == 3 then bits (h.sol p).cfg 11 10 else 0)
  else if p < 144 then (if lsOn h (p - 48) then h.get F.LSW_CFG_SHED (p - 48) else 0)
  else if p < 272 then (if dioOn h (p - 144) then h.get F.DIO_CFG_SHED (p - 144) else 0)
  else (if fanRequest h (p - 272) != 0 then h.get F.FAN_CFG_SHED (p - 272) else 0)

/-- The channel to shed next: highest priority, then highest number within its tile (R463). -/
def shedPick (h : Hw) (t : Nat) : Option Nat :=
  ((tilePorts t).filter (fun p => shedPrio h p != 0)).foldl (fun b p =>
    match b with
    | none => some p
    | some q =>
      if shedPrio h q < shedPrio h p ∨ (shedPrio h q = shedPrio h p ∧ fsEntry q < fsEntry p) then some p else b) none

/-- Sheds a channel (R464). -/
def shedCh (h : Hw) (t p : Nat) : Hw :=
  let h1 := h.bump F.LSW_TILE_SHED_COUNT t
  if p < 48 then solOff ((h1.put F.SOL_FAULT_SHED 1 p).log 0x0904 p true) p
  else if p < 144 then lsLatch ((h1.put F.LSW_FAULT_SHED 1 (p - 48)).log 0x0904 (p - 48) true) (p - 48)
  else if p < 272 then
    showDio ((h1.put F.DIO_FAULT_SHED 1 (p - 144)).setOut p { h1.out p with cmd := false }) (p - 144)
  else
    let h2 := fanAnchor h1 (p - 272)
    showFan (h2.put F.FAN_FAULT_SHED 1 (p - 272)) (p - 272)

/-- FEED_SHED: a tile's 1 ms update of the mean and instantaneous feed currents, in mA (R462). -/
def execFeedShed (dt : Nat) (t : Fin 8) (mean inst : Nat) (s : State) : Out :=
  run dt s fun h =>
    let ms := h.now / 1000000
    let h1 := h.put F.LSW_TILE_FEED_CURR (satN 16 (mean / 100)) t
    if mget h.til.shedMs t = some ms then h1
    else
      let h2 := { h1 with til := { h1.til with shedMs := mset h1.til.shedMs t ms } }
      if feedLimit t < mean ∧ 9 * feedLimit t ≤ 10 * inst then
        match shedPick h2 t with
        | some p => shedCh h2 t p
        | none => h2
      else h2

/-- FEED_TRIP: the instantaneous feed current, in mA, has stood at a value for a time in ns (R465). -/
def execFeedTrip (dt : Nat) (t : Fin 8) (inst dur : Nat) (s : State) : Out :=
  run dt s fun h =>
    if 2 * feedLimit t < inst ∧ 1000000 ≤ dur ∧ h.tileState t ≠ 2 then
      dropTile ((h.put F.LSW_TILE_STATUS_STATE 2 t).log 0x0905 t) t
    else h

/-! ## Frames and states -/

/-- A measurement of a tile reaches its registers and the control engine. -/
def takeMeas (t : Nat) (h : Hw) (m : Meas) : Hw :=
  match m with
  | .current p mA lim =>
    if tileOf p ≠ t then h
    else if p.val < 48 then (h.put F.SOL_CURRENT_MEAN mA.toNat p).keepSample p h.tb mA.toNat
    else ((h.put F.LSW_CURRENT_MEAN mA.toNat (p - 48)).put F.LSW_STATUS_LIMITING (b2n lim) (p - 48)).keepSample p h.tb mA.toNat
  | .fan n sp tc =>
    if tileOf (272 + n) ≠ t then h
    else
      let h1 := h.setFan n { h.fan n with temp := tc.toInt }
      let h2 := if h.get F.FAN_CFG_TYPE n = 2 then h1
        else (h1.putS F.FAN_SPEED_SPEED sp.toInt n).keepSample (272 + n) h.tb sp.toInt
      showFan (if (h.fan n).tmode ∨ (h.out (272 + n)).fs = 1 then fanAnchor h2 n else h2) n
  | .volt v => h.put F.LSW_TILE_FEED_VOLT v.toNat t

/-- TILE_FRAME: a tile receives a frame from the hub, and its measurements go the other way. A frame with a bad CRC is counted;
a valid one carries FEED as the hub has it (R472). -/
def execTileFrame (dt : Nat) (t : Fin 8) (crcOk : Bool) (meas : List Meas) (s : State) : Out :=
  run dt s fun h =>
    if !crcOk then h.bump F.LSW_TILE_STATUS_CRC_ERR t
    else
      let h1 := { h with til := { h.til with goodAt := mset h.til.goodAt t h.now,
                                             feedAt := if h.til.hub.feed then mset h.til.feedAt t h.now else h.til.feedAt } }
      let h2 := if h.til.hub.feed then h1.put F.LSW_TILE_STATUS_FEED 1 t else h1
      meas.foldl (takeMeas t) h2

/-- TILE_WATCHDOG_EXPIRY: a tile has received no valid frame with FEED for 100 µs (R472). -/
def execTileWatchdogExpiry (dt : Nat) (t : Fin 8) (s : State) : Out :=
  run dt s fun h =>
    if mgetD h.til.feedAt t 0 + 100000 ≤ h.now then
      let h1 := h.put F.LSW_TILE_STATUS_FEED 0 t
      if h.tileState t = 1 then forceTile ((h1.put F.LSW_TILE_STATUS_STATE 0 t).log 0x0906 t) t else h1
    else h

/-- LSW_TILE_CTRL.ARM: the tile enters RUN when the hub has set FEED through two complete watchdog periods, and in the module test mode
stays in SAFE (R477, R856). -/
def armTile (h : Hw) (t : Nat) : Hw :=
  if !h.flag F.SMK_TESTMODE_ACTIVE && h.til.hub.feed && decide (2 ≤ h.til.hub.done) && h.tileState t != 1 then
    let trip := h.tileState t == 2
    let h1 := { h with til := { h.til with silent := h.til.silent.filter (· != t) } }.put F.LSW_TILE_STATUS_STATE 1 t
    let h2 := if trip then ((tilePorts t).filter (fun p => (h.out p).pf || (h.out p).hf)).foldl forceCh h1 else h1
    showTile h2 t
  else h

/-- ARM: partition 0 writes LSW_TILE_CTRL.ARM = 1 (R477). -/
def execArm (dt : Nat) (hart : Fin 19) (t : Fin 8) (s : State) : Out :=
  run dt s fun h => if h.byP0 hart then armTile h t else h

/-- LSW_TILE_CTRL.FS_LOCK: the fail-safe entries of the tile are locked (R468). -/
def fsLock (h : Hw) (t : Nat) : Hw := (h.put F.LSW_TILE_CTRL_FS_LOCK 1 t).put F.LSW_TILE_STATUS_FS_LOCKED 1 t

/-- FS_LOCK: partition 0 writes LSW_TILE_CTRL.FS_LOCK = 1 (R468). -/
def execFsLock (dt : Nat) (hart : Fin 19) (t : Fin 8) (s : State) : Out :=
  run dt s fun h => if h.byP0 hart then fsLock h t else h

end Sys2Proof.Machine
end

