-- ==== Sys2Proof/Machine/MemCore.lean ====
section
/-!
DEFINITION. Memory (chapter 16): the coherency directory, scrubbers, and injection. Readings: log entry 35.
-/
namespace Sys2Proof.Machine

/-! ## Coherency (R717 to R725) -/

/-- The home slice of a line of main memory. -/
def lineHome (k : Nat) : Nat := 64 * k / 0x380000000

/-- The lines of the directory set of a line. -/
def dirSetOf (h : Hw) (k : Nat) : Map DLine :=
  h.dir.filter (fun (j, _) => lineHome j == lineHome k && Config.dirSet j % 8192 == Config.dirSet k % 8192)

/-- The least recently granted line of a set. -/
def oldest : Map DLine → Option Nat
  | [] => none
  | (k, x) :: r =>
    match oldest r with
    | none => some k
    | some j => match mget r j with | some y => if x.seq ≤ y.seq then some k else some j | none => some k

/-- Makes room for a line in its set of 16 ways: the least recently granted line is recalled (R717). -/
def dirRoom (h : Hw) (k : Nat) : Hw :=
  if (mget h.dir k).isSome then h
  else
    let s := dirSetOf h k
    if s.length < 16 then h else
      match oldest s with
      | some j => { h with dir := mdel h.dir j }
      | none => h

/-- A cluster reads a line of main memory: it holds it, exclusively where no other does; an owner's modified line is written back. -/
def dirRead (h : Hw) (k c : Nat) : Hw :=
  let h1 := dirRoom h k
  let x := match mget h1.dir k with
    | none => ⟨[c], some c, false, h1.dirSeq⟩
    | some y => if y.sh.contains c then { y with seq := h1.dirSeq } else ⟨c :: y.sh, none, false, h1.dirSeq⟩
  { h1 with dir := mset h1.dir k x, dirSeq := h1.dirSeq + 1 }

/-- A cluster is granted ownership of a line to store to it: every other copy is invalidated (R719, R724). -/
def dirOwn (h : Hw) (k c : Nat) : Hw :=
  let h1 := dirRoom h k
  { h1 with dir := mset h1.dir k ⟨[c], some c, true, h1.dirSeq⟩, dirSeq := h1.dirSeq + 1 }

/-- A line is recalled from every cache. -/
def dirRecall (h : Hw) (k : Nat) : Hw := { h with dir := mdel h.dir k }

/-- The line is modified in an L2. -/
def dirDirty (h : Hw) (k : Nat) : Bool := match mget h.dir k with | some x => x.dirty | none => false

/-! ## Scrubbers (R708 to R712) -/

/-- A scrubber. -/
def Hw.scrubber (h : Hw) (b i : Nat) : Scrub := mgetD h.scrubs (64 * b + i) {}
/-- Replaces a scrubber. -/
def Hw.setScrub (h : Hw) (b i : Nat) (x : Scrub) : Hw := { h with scrubs := mset h.scrubs (64 * b + i) x }

/-- The first address of storage whose data the model holds: main memory, the TCMs, the frame store. -/
def scrubBase (b i : Nat) : Option Nat :=
  if b < 4 then some (b * 0x380000000) else if b = 6 then some (0xE10000000 + i * 0x100000)
  else if b = 8 then some (0xE00000000 + i * 0x1000000) else none

/-- The words of an instance of a block's storage; the sizes of caches and engine SRAMs that the spec does not give count as one
word. -/
def scrubWords (b : Nat) : Nat :=
  if b < 4 then 0x380000000 / 8 else if b = 5 then 0x400000 / 8 else if b = 6 then 0x100000 / 8
  else if b = 7 then 0x200000 / 8 else if b = 8 then 0x1000000 / 8 else 1

/-- The instances of a block (Table 16.2; the frame store has one scrubber for each stop). -/
def scrubInsts (b : Nat) : Nat :=
  match b with | 0 | 1 | 2 | 3 => 1 | 4 => 4 | 5 => 4 | 6 => 3 | 7 => 100 | 8 => 4 | 9 => 1 | 10 => 1 | 12 => 64 | 13 => 64 | _ => 0

/-- The stop of a scrubber: its storage's own where Table 01.2 names one; for an L2 or a tile its stop, and for other blocks the
instance. -/
def scrubStop (b i : Nat) : Nat :=
  if b < 4 then [0, 7, 56, 63].getD b 0 else if b = 4 then [0, 7, 56, 63].getD i 0 else if b = 5 then [1, 3, 57, 59].getD i 0
  else if b = 6 then [5, 6, 61].getD i 0 else if b = 7 then 9 + 8 * (i / 4 / 5) + i / 4 % 5
  else if b = 8 then [32, 40, 14, 22].getD i 0 else if b = 9 ∨ b = 10 then 23 else i

/-- The pass period in ns. -/
def scrubPeriod (h : Hw) : Nat := 60000000000 * h.get F.MEM_SCRUB_CFG_PERIOD

/-- A bit of MEM_SCRUB_STATUS.BEHIND. -/
def setBehind (h : Hw) (b : Nat) (v : Bool) : Hw :=
  let x := h.get F.MEM_SCRUB_STATUS_BEHIND
  h.put F.MEM_SCRUB_STATUS_BEHIND (if bit x b = v then x else if v then x + 2 ^ b else x - 2 ^ b)

/-- A scrubber has dealt with its next word; at the end of a pass that ends in time BEHIND clears (R712). -/
def scrubNext (h : Hw) (b i : Nat) : Hw :=
  let x := h.scrubber b i
  if x.next + 1 < scrubWords b then h.setScrub b i { x with next := x.next + 1 }
  else
    let inTime := decide (10 * (h.now - x.since) ≤ 11 * scrubPeriod h)
    (if inTime then setBehind h b false else h).setScrub b i { next := 0, since := h.now }

/-- One word of a scrubber (R699, R700, R709, R711). -/
def scrubWord (h : Hw) (b i : Nat) (found : ScrubFind) : Hw :=
  let x := h.scrubber b i
  let w : Who := ⟨8, scrubStop b i, true⟩
  let h1 := match scrubBase b i with
    | some a =>
      if b < 4 ∧ dirDirty h ((a + 8 * x.next) / 8 / 8) then h else (h.scan w (a + 8 * x.next) 8).1
    | none =>
      let addr := i * 2 ^ 40 + 8 * x.next
      match found with
      | .clean => h
      | .fixed n =>
        let key := 2 ^ 60 + b * 2 ^ 52 + addr / 8
        let again := match mget h.eccAt key with | some t => decide (h.now < t + 1000000000) | none => false
        { h with eccAt := mset h.eccAt key h.now }.eccFixed b addr n w again
      | .lost => h.eccLost b addr w
  scrubNext h1 b i

/-! ## Injection (R713 to R715) -/

/-- MEM_INJ_ADDR names an aligned word of main memory or the frame store. -/
def injOk (h : Hw) : Bool :=
  let a := h.get64 F.MEM_INJ_ADDR_LO_ADDR
  a % 8 == 0 && (decide (a < 28672 * 2097152) || (decide (0xE00000000 ≤ a) && decide (a < 0xE04000000)))
    && !h.flag F.MEM_INJ_ST_BUSY

/-- Stores data and check bits as given (R713). -/
def injWrite (h : Hw) : Hw :=
  if !injOk h then h.put F.MEM_INJ_ST_STATUS ST_MEM_INJ else
    let a := h.get64 F.MEM_INJ_ADDR_LO_ADDR
    let d := h.get64 F.MEM_INJ_DATA_LO_DATA
    let x := h.get64 F.MEM_INJ_DFLIP_LO_DFLIP
    let c := h.get F.MEM_INJ_CHK_CFLIP
    let h1 := dirRecall h (a / 64)
    let ecc := if x = 0 ∧ c = 0 then mdel h1.ecc (a / 8) else mset h1.ecc (a / 8) ⟨x, c, false⟩
    { h1 with mem := memWrite h1.mem a (leBytes 8 (Nat.xor d x)), ecc := ecc }.put F.MEM_INJ_ST_STATUS ST_OK

/-- Reads stored data and check byte without correction (R714). -/
def injRead (h : Hw) : Hw :=
  if !injOk h then h.put F.MEM_INJ_ST_STATUS ST_MEM_INJ else
    let a := h.get64 F.MEM_INJ_ADDR_LO_ADDR
    let h1 := dirRecall h (a / 64)
    let raw := h1.rdN a 8
    let e := (mget h1.ecc (a / 8)).getD ⟨0, 0, false⟩
    let chk := Nat.xor (Config.eccCheck (Nat.xor raw e.dflip)).toNat e.cflip
    ((h1.put64 F.MEM_INJ_RAW_LO_RAW raw).put F.MEM_INJ_CHK_RAW chk).put F.MEM_INJ_ST_STATUS ST_OK

end Sys2Proof.Machine
end

