-- ==== Sys2Proof/Machine/Memory.lean ====
section
/-!
DEFINITION. The commands of Comb and the memory system (chapters 01 and 16). Readings: log entry 35.
-/
namespace Sys2Proof.Machine

/-! ## Coherency -/

/-- Rank of requests that reach a home slice in one cycle: clusters by number, then engines by stop (R722). -/
def agentRank : OwnAgent → Nat
  | .cluster c => c.val
  | .engine s => 4 + s.val

/-- OWNERSHIP_REQUEST: the requests for one line that reach its home slice in a cycle are granted one after another; a cluster then
holds the line alone and an engine's write leaves no copy (R719, R722, R724). -/
def execOwnershipRequest (dt : Nat) (line : BitVec 36) (who : List OwnAgent) (s : State) : Out :=
  run dt s fun h =>
    if !inMain (64 * line.toNat) 64 then h else
      (sortBy (fun x y => decide (agentRank x ≤ agentRank y)) who).foldl (fun g a =>
        match a with
        | .cluster c => dirOwn g line.toNat c.val
        | .engine _ => dirRecall g line.toNat) h

/-- LINE_WRITEBACK: the home slice accepts the writeback of a line by the cluster that owns it (R720). -/
def execLineWriteback (dt : Nat) (line : BitVec 36) (c : Fin 4) (s : State) : Out :=
  run dt s fun h =>
    match mget h.dir line.toNat with
    | some x => if x.own = some c.val then dirRecall h line.toNat else h
    | none => h

/-! ## Comb (R54 to R57) -/

/-- COMB_SINGLE_BIT_CORRECTED: a flit at a stop's link or buffer is corrected and forwarded; the error is counted and latched as of
block 11 (R54, R698). -/
def execCombSingleBitCorrected (dt : Nat) (stop : Fin 64) (off : BitVec 40) (b : Fin 72) (s : State) : Out :=
  run dt s fun h =>
    ((h.eccNote 0 11 (stop.val * 2 ^ 40 + off.toNat) b.val ⟨8, stop.val, false⟩ false).bump F.MEM_COMB_CNT_COUNT 0).log 0x0110

/-- Ends a Comb transaction at its requester: an engine operation with a status, a hart's access with a fault (R55, R56). -/
def combEnd (h : Hw) (r : Requester) (st : Nat) : Hw :=
  match r with
  | .op id => h.finishId id st h.tb
  | .hart t => { h with rdata := mset h.rdata t.val 0, rfault := mset h.rfault t.val true }

/-- COMB_UNCORRECTABLE: a flit is discarded and its transaction ends with ST_COMB_UNCORRECTABLE (R55). -/
def execCombUncorrectable (dt : Nat) (r : Requester) (s : State) : Out :=
  run dt s fun h => (combEnd (h.bump F.MEM_COMB_CNT_COUNT 1) r ST_COMB_UNCORRECTABLE).log 0x0111

/-- COMB_TIMEOUT: a request has had no response 10 µs after its issue (R56). -/
def execCombTimeout (dt : Nat) (r : Requester) (s : State) : Out :=
  run dt s fun h => (combEnd (h.bump F.MEM_COMB_CNT_COUNT 2) r ST_COMB_TIMEOUT).log 0x0112

/-- LATE_RESPONSE_DISCARD: a response after its request has timed out changes nothing (R57). -/
def execLateResponseDiscard (dt : Nat) (s : State) : Out := run dt s fun h => h

/-! ## Scrubbers and injection -/

/-- SCRUB_WORD: a scrubber takes the next word of its storage; `found` is what it finds where the model holds no data (R708). -/
def execScrubWord (dt : Nat) (b : Fin 14) (i : Nat) (found : ScrubFind) (s : State) : Out :=
  run dt s fun h => if i < scrubInsts b then scrubWord h b i found else h

/-- SCRUB_BEHIND: a pass has not been completed within 1.1 × PERIOD (R712). -/
def execScrubBehind (dt : Nat) (b : Fin 14) (i : Nat) (s : State) : Out :=
  run dt s fun h =>
    if i < scrubInsts b ∧ 11 * scrubPeriod h < 10 * (h.now - (h.scrubber b i).since) ∧ bit (h.get F.MEM_SCRUB_STATUS_BEHIND) b = false then
      (setBehind h b true).log 0x1003 b
    else h

/-- MEM_ERR_LATCH_CLEAR: partition 0 clears VALID in the uncorrectable latch, which ends the interrupt (R705). -/
def execMemErrLatchClear (dt : Nat) (hart : Fin 19) (s : State) : Out :=
  run dt s fun h => if h.byP0 hart then h.put F.MEM_ERR_INFO_VALID 0 1 else h

/-- WRITE: partition 0 writes MEM_INJ_CMD with OP 1 (R713). -/
def execWrite (dt : Nat) (hart : Fin 19) (s : State) : Out :=
  run dt s fun h => if h.byP0 hart then injWrite h else h

/-- READRAW: partition 0 writes MEM_INJ_CMD with OP 2 (R714). -/
def execReadraw (dt : Nat) (hart : Fin 19) (s : State) : Out :=
  run dt s fun h => if h.byP0 hart then injRead h else h

end Sys2Proof.Machine
end

