-- ==== Sys2Proof/Machine/Power.lean ====
section
/-!
DEFINITION. The commands of supplies, start-up, resets and sleep (chapter 19). Readings: log entry 40.
-/
namespace Sys2Proof.Machine

/-! ## Switching on and start-up -/

/-- Nothing keeps the logic domain off: a brown-out not yet over, or a plate not yet cool (R819, R885). -/
def mayPowerUp (h : Hw) : Bool := h.pwr.state != .on && !h.pwr.brown && !h.pwr.hot

/-- IGNITION_RISE: the filtered ignition input goes high; with its comparator enabled the logic domain is switched on, with cause
POWER_ON from OFF and WAKE from SLEEP (R822, R826). -/
def execIgnitionRise (dt : Nat) (s : State) : Out :=
  runAny dt s fun h =>
    let c := h.pwr.cmp ||| 1
    let h1 := { h with pwr := { h.pwr with cmp := c, ignLow := none } }.put F.PWR_STATUS_IGN 1
    if mayPowerUp h1 && h1.flag F.PWR_WAKE_CFG_IGN_EN then moduleReset h1 (if h.pwr.state = .off then 1 else 2) false else h1

/-- START_UP: steps 3 to 5 of Sequence 19.1 run (R822). -/
def execStartUp (dt : Nat) (x : StartIn) (s : State) : Out :=
  runAny dt s fun h =>
    if h.pwr.state = .on ∧ !h.pwr.up ∧ h.pwr.failedAt.isNone ∧ !h.pwr.halted then startUp h x else h

/-- TRAINING_RETRY: one second after a failed training the whole start-up is tried again (R825). -/
def execTrainingRetry (dt : Nat) (x : StartIn) (s : State) : Out :=
  runAny dt s fun h =>
    match h.pwr.failedAt with
    | some t => if h.pwr.state = .on ∧ t + 1000000000 ≤ h.now then startUp h x else h
    | none => h

/-! ## Logic supply -/

/-- Takes the logic supply voltage in 10 mV. -/
def takeVolt (h : Hw) (v : Nat) : Hw := h.put F.PWR_VOLT_LOGIC v

/-- LOW_SUPPLY_HALT: the logic supply, in 10 mV, has stayed below 18.0 V for 1 ms (R817). -/
def execLowSupplyHalt (dt : Nat) (v : BitVec 16) (s : State) : Out :=
  run dt s fun h =>
    let h1 := takeVolt h v.toNat
    if v.toNat < 1800 && !h.flag F.PWR_STATUS_LOW_V then visJudge ((h1.put F.PWR_STATUS_LOW_V 1).log 0x1302) else h1

/-- VISION_RESUME: the logic supply has stayed above 18.5 V for 100 ms (R817). -/
def execVisionResume (dt : Nat) (v : BitVec 16) (s : State) : Out :=
  run dt s fun h =>
    let h1 := takeVolt h v.toNat
    if 1850 < v.toNat && h.flag F.PWR_STATUS_LOW_V then visJudge (h1.put F.PWR_STATUS_LOW_V 0) else h1

/-- BROWNOUT: the logic supply has stayed below 10.0 V for more than 5 ms or below 18.0 V for more than 2 s: the event is recorded,
the kept values are mirrored and the logic domain goes off (R818, R830). -/
def execBrownout (dt : Nat) (v : BitVec 16) (s : State) : Out :=
  runAny dt s fun h =>
    if h.pwr.state = .on ∧ v.toNat < 1800 then
      let h1 := tornWrites (mirrorWrite (evrModule (diagFlush (takeVolt h v.toNat)) 0x1301 0xFFFF 1))
      let h2 := logicOff h1
      { h2 with pwr := { h2.pwr with brown := true } }
    else h

/-- BROWNOUT_RECOVERY: after a brown-out the logic supply has stayed at or above 18.0 V for 100 ms: the module starts up if an enabled
wake source is active, and otherwise enters SLEEP (R819). -/
def execBrownoutRecovery (dt : Nat) (v : BitVec 16) (w : WakeIn) (s : State) : Out :=
  runAny dt s fun h =>
    if h.pwr.brown ∧ 1800 ≤ v.toNat ∧ h.pwr.state ≠ .on then
      let h1 := takeWake { h with pwr := { h.pwr with brown := false } } w
      if wakeActive h1 && !h1.pwr.hot then moduleReset h1 3 false else { h1 with pwr := { h1.pwr with state := .sleep } }
    else h

/-! ## Tile feeds (R820) -/

/-- A tile's feed enters under-voltage or over-voltage: every output goes off. -/
def feedOut (h : Hw) (t : Nat) (now seen : Fld) : Hw :=
  if h.flag now t then h else
    let h1 := dropTile ((h.put now 1 t).put seen 1 t) t
    if h1.isOn then h1.log 0x1305 t true else h1

/-- FEED_UV: a feed, in 10 mV, has been below 12.0 V for 1 ms. -/
def execFeedUv (dt : Nat) (t : Fin 8) (v : BitVec 16) (s : State) : Out :=
  runAny dt s fun h => if v.toNat < 1200 then feedOut h t F.PWR_FEED_STATUS_FEED_UV F.PWR_FEED_STATUS_SEEN_UV else h

/-- FEED_OV: a feed, in 10 mV, has been above 36 V for 50 µs. -/
def execFeedOv (dt : Nat) (t : Fin 8) (v : BitVec 16) (s : State) : Out :=
  runAny dt s fun h => if 3600 < v.toNat then feedOut h t F.PWR_FEED_STATUS_FEED_OV F.PWR_FEED_STATUS_SEEN_OV else h

/-- FEED_RECOVERY: a feed, in 10 mV, has been above 13.0 V, or below 34 V, for 10 ms; each channel stays off until its source
commands it. -/
def execFeedRecovery (dt : Nat) (t : Fin 8) (v : BitVec 16) (s : State) : Out :=
  runAny dt s fun h =>
    let h1 := if 1300 < v.toNat then h.put F.PWR_FEED_STATUS_FEED_UV 0 t else h
    let h2 := if v.toNat < 3400 then h1.put F.PWR_FEED_STATUS_FEED_OV 0 t else h1
    showTile h2 t

/-- FEED_POWER_UP: a tile's feed powers up: its fail-safe table is cleared to OFF and unlocked, its fan tables are cleared, and it is
in SAFE (R469, R509, R476). -/
def execFeedPowerUp (dt : Nat) (t : Fin 8) (s : State) : Out :=
  runAny dt s fun h =>
    let h1 := (List.range 5).foldl (fun g i => g.put F.LSW_FS_ENTRY 0 t i) h
    let h2 := (((h1.put F.LSW_TILE_CTRL_FS_LOCK 0 t).put F.LSW_TILE_STATUS_FS_LOCKED 0 t).put F.LSW_TILE_STATUS_STATE 0 t).put
      F.LSW_TILE_STATUS_FEED 0 t
    let h3 := (List.range 8).foldl (fun g n => if tileOf (272 + n) = t then g.setFan n { g.fan n with table := none, tmode := false } else g) h2
    forceTile h3 t

/-! ## Resets -/

/-- A write to PWR_RESET: the key 0x6B5A resets the module (R826). -/
def resetKey (h : Hw) (v : Nat) : Hw := if v % 65536 = 0x6B5A then moduleReset h 4 false else h

/-- SOFTWARE_RESET: partition 0 writes PWR_RESET; the key 0x6B5A resets the module and any other value is ignored (R826, R827). -/
def execSoftwareReset (dt : Nat) (hart : Fin 19) (v : Word) (s : State) : Out :=
  run dt s fun h => if h.byP0 hart then resetKey h v.toNat else h

/-- Partition 1 is stopped under R197 without a command. -/
def stopUnasked (h : Hw) (p : Nat) : Hw :=
  if h.partState p < 2 then h
  else if h.prp.cmd.isSome || h.flag F.PRP_PART_ST_BUSY then endResv (stopSteps h p) p
  else
    let h1 := { h with prp := { h.prp with cmd := some ⟨2, p, false⟩ } }.put F.PRP_PART_ST_BUSY 1
    stopSteps h1 p

/-- LOCKSTEP_MISMATCH: safety pair 0 resets the module (R826); pair 1 or 2 stops partition 1 (R828). -/
def execLockstepMismatch (dt : Nat) (pair : Fin 3) (s : State) : Out :=
  run dt s fun h => if pair.val = 0 then moduleReset h 6 false else stopUnasked (h.log 0x1306 pair) 1

/-! ## Sleep -/

/-- Sleep entry (R833): partitions 1 to 7 stop, the season store completes the writes fetched, the event is recorded and the kept
values mirrored, partition 0's harts are held, and the logic domain goes off. -/
def sleepEntry (h : Hw) : Hw :=
  let h1 := (List.range 7).foldl (fun g k => if 2 ≤ g.partState (k + 1) then stopSteps g (k + 1) else g) (finishWrites h)
  logicOff (mirrorWrite (evrModule (diagFlush h1) 0x1303 0xFFFF 1))

/-- A Guard activation or a partition command is in progress (R831, R832). -/
def pwrBusy (h : Hw) : Bool := sesState h == 4 || h.flag F.PRP_PART_ST_BUSY

/-- PWR_SLEEP.GO, with the wake comparators as last taken (R831, R832). -/
def goCmd (h1 : Hw) : Hw :=
  if wakeActive h1 then h1.put F.PWR_SLEEP_STATUS ST_PWR_WAKE_ACTIVE
  else if pwrBusy h1 then h1.put F.PWR_SLEEP_STATUS ST_PWR_BUSY
  else sleepEntry (h1.put F.PWR_SLEEP_STATUS ST_OK)

/-- GO: partition 0 writes PWR_SLEEP.GO = 1; the wake inputs stand as given (R831 to R833). -/
def execGo (dt : Nat) (hart : Fin 19) (w : WakeIn) (s : State) : Out :=
  run dt s fun h => if h.byP0 hart then goCmd (takeWake h w) else h

/-- AUTO_SLEEP: ignition has been low for AUTO seconds with nothing that keeps the module awake (R831). -/
def execAutoSleep (dt : Nat) (w : WakeIn) (s : State) : Out :=
  run dt s fun h =>
    let h1 := takeWake h w
    let auto := h.get F.PWR_SLEEP_CFG_AUTO
    match h1.pwr.ignLow with
    | some t => if auto ≠ 0 ∧ t + 1000000000 * auto ≤ h1.now ∧ !wakeActive h1 ∧ !pwrBusy h1 then sleepEntry h1 else h1
    | none => h1

/-- WAKE: in SLEEP the wake inputs stand so; an enabled comparator that is active starts the module with cause WAKE (R826, R834). -/
def execWake (dt : Nat) (w : WakeIn) (s : State) : Out :=
  runAny dt s fun h =>
    if h.pwr.state = .sleep then
      let h1 := takeWake h w
      if wakeActive h1 && mayPowerUp h1 then moduleReset h1 2 false else h1
    else h

/-! ## Keep-alive domain -/

/-- KEEP_ALIVE_MIRROR: once per 60 s the kept values are mirrored, and while discipline is locked the clock is set from the timebase
(R830). -/
def execKeepAliveMirror (dt : Nat) (s : State) : Out :=
  runAny dt s fun h =>
    if h.pwr.state = .off ∨ h.now < h.pwr.mirrorAt + 60000000000 then h else
      let set := h.isOn && h.get F.WGL_STATUS_DISC == 2
      let h1 := if set then { h with pwr := { h.pwr with rtc := h.tb * 32768 / 1000000000, rtcAt := h.now } } else h
      mirrorWrite h1

/-- KA_LOSS: the keep-alive input falls below 6 V while the module is not ON: the values come from the mirror at the next start-up;
without the logic supply the module is OFF (R821, R830). -/
def execKaLoss (dt : Nat) (logic : Bool) (s : State) : Out :=
  runAny dt s fun h =>
    if h.pwr.state = .on then h
    else { h with pwr := { h.pwr with kaLost := true, state := if logic then h.pwr.state else .off } }

/-- A write of the real-time clock's seconds, which clears the prescaler (R830). -/
def rtcWrite (h : Hw) (v : Nat) : Hw := { h with pwr := { h.pwr with rtc := v * 32768, rtcAt := h.now } }

/-- RTC_WRITE: partition 0 writes PWR_RTC, which sets the seconds and clears the prescaler (R830). -/
def execRtcWrite (dt : Nat) (hart : Fin 19) (v : Word) (s : State) : Out :=
  run dt s fun h => if h.byP0 hart then rtcWrite h v.toNat else h

/-- KEEP_ALIVE_POWER_UP: the keep-alive input or the logic supply appears while the module is OFF (R821). -/
def execKeepAlivePowerUp (dt : Nat) (s : State) : Out :=
  runAny dt s fun h => if h.pwr.state = .off then { h with pwr := { h.pwr with state := .sleep } } else h

end Sys2Proof.Machine
end

