-- ==== Sys2Proof/Machine/Rings.lean ====
section
/-!
DEFINITION. Descriptor rings, doorbell words, completions and the block movers (chapter 03). Readings: log entry 17.
-/
namespace Sys2Proof.Machine

/-! ## Doorbells -/

/-- The submission ring is in overrun: it stops fetching, writes one unreserved completion and halts (R136). -/
def ringOverrun (h : Hw) (r : Nat) : Hw :=
  let g := h.ring r
  let c : Cpl := { tov := h.tb, index := g.f % h.ringSize r, status := ST_RING_OVERRUN }
  let h1 := h.unreserved (h.get F.RNG_CFG_CPL_RING r) (h.get F.RNG_BIND_PARTITION r) c
  (((h1.setRing r { g with woken := false }).put F.RNG_CTRL_OVERRUN 1 r).put F.RNG_CTRL_STATE 3 r).log 0x0301 r

/-- The engine of a ring reads its doorbell word and acts on the value (R131): a producer count is judged under R136, a
consumer count is taken over (R129). -/
def doorbellRead (h : Hw) (r : Nat) : Hw :=
  let g := h.ring r
  if g.woken && h.ringState r == 1 then
    let p := h.rdN (h.dbAddr r) 4
    let size := h.ringSize r
    if !h.isCpl r && (decide (size < (p + 2 ^ 32 - g.f) % 2 ^ 32) || decide (size < (p + 2 ^ 32 - g.p) % 2 ^ 32))
    then ringOverrun h r
    else h.setRing r { g with p := p, woken := false }
  else h

/-- DOORBELL_READ: a woken engine reads the doorbell word of a ring. -/
def execDoorbellRead (dt : Nat) (r : Fin 1024) (s : State) : Out := run dt s fun h => doorbellRead h r

/-! ## Fetching -/

/-- A ring has descriptors pending. -/
def Hw.pending (h : Hw) (r : Nat) : Bool := (h.ring r).p % 2 ^ 32 != (h.ring r).f % 2 ^ 32

/-- A fenced operation of the ring has not started (R137), or one waits at its head (R292). -/
def Hw.fenceHolds (h : Hw) (r : Nat) : Bool := h.rng.flights.any (fun f => f.ring == r && (f.stage == 0 || f.stage == 3))

/-- The enabled submission rings of an engine with descriptors pending; those of a PAUSED partition stop fetching (R789). -/
def Hw.wantFetch (h : Hw) (eng : Nat) : List Nat :=
  h.boundRings.filter (fun r => h.get F.RNG_BIND_ENGINE r == eng && !h.isCpl r && h.ringState r == 1 && h.pending r
    && h.partState (h.get F.RNG_BIND_PARTITION r) != 4)

/-- The rings of an engine it can fetch from now (R140, R160 to R162). -/
def Hw.canFetch (h : Hw) (eng : Nat) : List Nat :=
  (h.wantFetch eng).filter (fun r => !h.fenceHolds r && decide (0 < h.freeEntries (h.get F.RNG_CFG_CPL_RING r)) && h.quotaRoom r)

/-- The ring served next among those of one class: up to 4 descriptors a turn, round robin (R159). -/
def nextRing (turn : Nat × Nat) (rs : List Nat) : Option Nat :=
  if rs.contains turn.1 && decide (turn.2 < 4) then some turn.1
  else match rs.find? (fun r => decide (turn.1 < r)) with
    | some r => some r
    | none => rs.head?

/-- The ring an engine fetches from next: guaranteed, then assured, then best effort (R159). -/
def Hw.pickRing (h : Hw) (eng : Nat) : Option Nat :=
  let rs := h.canFetch eng
  (List.range 3).findSome? (fun c =>
    nextRing (mgetD h.rng.turns (4 * eng + c) (0, 4)) (rs.filter (fun r => h.get F.RNG_CFG_CLASS r == c)))

/-- Shows in RNG_CTRL.CPL_FULL which of an engine's rings wait for a completion entry (R140). -/
def Hw.showFull (h : Hw) (eng : Nat) : Hw :=
  (h.boundRings.filter (fun r => h.get F.RNG_BIND_ENGINE r == eng && !h.isCpl r && h.ringState r == 1)).foldl
    (fun g r => g.put F.RNG_CTRL_CPL_FULL
      (b2n (h.pending r && decide (h.freeEntries (h.get F.RNG_CFG_CPL_RING r) = 0))) r) h

/-- Takes one descriptor from a ring: reserves a completion entry, checks it, and counts it in flight or rejects it
(R140 to R143, R51, R137); the fetch of an APPLY makes the session APPLYING (Table 18.5). -/
def fetchOne (h0 : Hw) (eng r : Nat) : Hw :=
  let g := h0.ring r
  let idx := g.f % h0.ringSize r
  let a := h0.get64 F.RNG_BASE_LO_BASE r + 64 * idx
  let p := h0.get F.RNG_BIND_PARTITION r
  let (w, h0) := engWho h0 eng p
  let (h, okRead) := h0.scan w a 64
  let d := h.rd a 64
  let q := h.get F.RNG_CFG_CPL_RING r
  let cls := h.get F.RNG_CFG_CLASS r
  let turn := mgetD h.rng.turns (4 * eng + cls) (0, 4)
  let st := if !okRead then ST_MEM_UNCORRECTABLE
    else if !commonOk d then ST_BAD_DESCRIPTOR else descCheck h eng p d
  let ok := st == ST_OK
  let earlier := h.rng.flights.any (fun f => f.ring == r)
  let fl : Flight := ⟨h.rng.nextId, r, idx, eng, p, d, ok, if ok then (if dFence d && earlier then 0 else 1) else 2,
    { tov := h.tb, user := dUser d, index := idx, status := st }, h.now⟩
  let h1 := (h.setRing r { g with f := (g.f + 1) % 2 ^ 32 })
  let h2 := h1.setRing q { h1.ring q with reserved := (h1.ring q).reserved + 1 }
  let turns := mset h2.rng.turns (4 * eng + cls) (r, if turn.1 = r ∧ turn.2 < 4 then turn.2 + 1 else 1)
  let h3 := { h2 with rng := { h2.rng with flights := h2.rng.flights ++ [fl], nextId := h2.rng.nextId + 1, turns := turns } }
  let h3 := if ok && eng == 7 && dOp d == 3 && sesState h == 1 then h3.put F.GRD_SESSION_STATE 2 else h3
  let h4 := h3.showInflight (poolOf eng)
  if ok then h4 else h4.log 0x0303 r true

/-- DESCRIPTOR_FETCH: an engine fetches one pending descriptor, if some ring can be fetched from (R140, R159). -/
def execDescriptorFetch (dt : Nat) (eng : Fin 13) (s : State) : Out :=
  run dt s fun h =>
    match h.pickRing eng with
    | some r => (fetchOne h eng r).showFull eng
    | none => h.showFull eng

/-! ## Completions -/

/-- The operation's completion may be written: it has ended, and under ORDER 0 every operation its ring fetched earlier
has been completed (R153). -/
def Hw.mayComplete (h : Hw) (f : Flight) : Bool :=
  f.stage == 2 && (h.flag F.RNG_CFG_ORDER f.ring
    || (h.rng.flights.find? (fun g => g.ring == f.ring)).map (·.id) == some f.id)

/-- Starts the fenced operation of a ring once every earlier operation of the ring has completed (R137). -/
def startFenced (r : Nat) : List Flight → List Flight
  | [] => []
  | f :: fs => if f.ring = r then (if f.stage = 0 then { f with stage := 1 } :: fs else f :: fs) else f :: startFenced r fs

/-- Writes the completion of an ended operation into its reserved entry (R149 to R153) and releases its counts. -/
def completeOp (h : Hw) (f : Flight) : Hw :=
  let q := h.get F.RNG_CFG_CPL_RING f.ring
  let h1 := h.setRing q { h.ring q with reserved := (h.ring q).reserved - 1 }
  let h2 := h1.putCpl q f.cpl (dIrqNow f.desc)
  let fs := startFenced f.ring (h2.rng.flights.filter (fun g => g.id != f.id))
  let h3 := { h2 with rng := { h2.rng with flights := fs } }
  h3.showInflight (poolOf f.eng)

/-- Writes or drops the oldest completion that no descriptor reserved (R155, R102). -/
def completeUnreserved (h : Hw) : Hw :=
  match h.rng.ucpl.find? (fun u => match u.after with | some id => (h.flight id).isNone | none => true) with
  | none => h
  | some u =>
    let h1 := { h with rng := { h.rng with ucpl := h.rng.ucpl.erase u } }
    if h.ringState u.ring = 1 ∧ h.isCpl u.ring ∧ h.ringPart u.ring = some u.part ∧ 0 < h.freeEntries u.ring then
      h1.putCpl u.ring u.cpl false
    else (h1.bump F.RNG_DROP_COUNT u.ring).log 0x0302 u.ring true

/-- COMPLETION_WRITE: the completion of an ended operation is written when its turn has come; with no operation named,
the oldest completion that no descriptor reserved is written or dropped. -/
def execCompletionWrite (dt : Nat) (op : Option Nat) (s : State) : Out :=
  run dt s fun h =>
    match op with
    | none => completeUnreserved h
    | some id => match h.flight id with
      | some f => if h.mayComplete f then completeOp h f else h
      | none => h

/-- RING_IRQ_TIMER: TIME µs have passed since the first completion not yet signalled (R167, R168). -/
def execRingIrqTimer (dt : Nat) (r : Fin 1024) (s : State) : Out :=
  run dt s fun h =>
    match (h.ring r).unsignalled with
    | some t => let tm := h.get F.RNG_IRQ_TIME r
                if tm ≠ 0 ∧ h.isCpl r ∧ t + 1000 * tm ≤ h.now then h.ringIrq r else h
    | none => h

/-! ## Enabling, disabling and resetting rings -/

/-- A hart may write a ring's registers: through the view of the bound partition, or partition 0's view while the ring
is unbound. -/
def Hw.mayWriteRing (h : Hw) (hart r : Nat) : Bool :=
  h.hartRuns hart && h.hartPart hart == some ((h.ringPart r).getD 0)

/-- The checks of an enable, in the order of R128. -/
def ringCheck (h : Hw) (r : Nat) : Nat :=
  let p := h.get F.RNG_BIND_PARTITION r
  let cpl := h.isCpl r
  let q := h.get F.RNG_CFG_CPL_RING r
  let bytes := h.ringSize r * (if cpl then 32 else 64)
  let base := h.get64 F.RNG_BASE_LO_BASE r
  let log := h.get F.RNG_CFG_LOG2SIZE r
  let resv := h.get F.RNG_QUOTA_RESV r
  let cap := h.get F.RNG_QUOTA_CAP r
  firstBad [
    (h.flag F.RNG_BIND_VALID r, ST_RING_NOT_OWNED),
    (decide (4 ≤ log) && decide (log ≤ 16) && h.get F.RNG_CFG_CLASS r != 3
      && (cpl || decide (h.get F.RNG_BIND_ENGINE r ≤ 12)) && (!cpl || decide (h.get F.RNG_IRQ_TARGET r ≤ 18))
      && decide (resv ≤ 32768) && decide (cap ≤ 32768), ST_RING_CONFIG),
    (h.owns p base bytes && h.owns p (h.dbAddr r) 4
      && (!cpl || h.hartPart (h.get F.RNG_IRQ_TARGET r) == some p), ST_RING_NOT_OWNED),
    (inMain base bytes && inMain (h.dbAddr r) 4
      && (cpl || (h.isCpl q && h.ringPart q == some p && h.ringState q == 1))
      && (cpl || h.get F.RNG_CFG_CLASS r != 0 || (decide (1 ≤ resv) && cap == resv))
      && (cpl || h.get F.RNG_BIND_ENGINE r != 6 || p == 1), ST_RING_CONFIG)]

/-- Enables an IDLE ring under the checks of R128; from reset a submission ring takes F from its doorbell word (R133) and
a completion ring is zero-filled (R134); otherwise fetching resumes at F (R171). -/
def ringEnable (h : Hw) (r : Nat) : Hw :=
  if h.ringState r ≠ 0 then h else
    let st := ringCheck h r
    let h1 := h.put F.RNG_CTRL_ERR st r
    if st ≠ ST_OK then h1 else
      let g := h.ring r
      let db := h.rdN (h.dbAddr r) 4
      let h2 := if g.fresh && h.isCpl r then
          { h1 with mem := memZero h1.mem (h.get64 F.RNG_BASE_LO_BASE r) (32 * h.ringSize r) } else h1
      let g' := if g.fresh then
          (if h.isCpl r then { g with n := 0, p := db, fresh := false, watched := true }
           else { g with f := db, p := db, fresh := false, watched := true })
        else { g with watched := true, woken := true }
      ((h2.setRing r g').put F.RNG_CTRL_ENABLE 1 r).put F.RNG_CTRL_STATE 1 r

/-- Disables a ring: fetching stops, the doorbell is no longer watched, and the ring drains (R170, R172); a completion
ring that a submission ring not IDLE names stays in RUN (R175). -/
def ringDisable (h : Hw) (r : Nat) : Hw :=
  let st := h.ringState r
  if st = 0 ∨ st = 2 then h
  else if h.isCpl r && h.boundRings.any (fun q => h.ringState q != 0 && !h.isCpl q && h.get F.RNG_CFG_CPL_RING q == r) then
    h.put F.RNG_CTRL_ERR ST_RING_CONFIG r
  else
    (((h.setRing r { h.ring r with watched := false, woken := false }).put F.RNG_CTRL_ENABLE 0 r).put
      F.RNG_CTRL_STATE 2 r |>.put F.RNG_CTRL_CPL_FULL 0 r).put F.RNG_CTRL_ERR ST_OK r

/-- Resets an IDLE ring: clears F, N, OVERRUN and ERR and removes the watch (R174). -/
def ringReset (h : Hw) (r : Nat) : Hw :=
  if h.ringState r ≠ 0 then h
  else ((h.setRing r {}).put F.RNG_CTRL_OVERRUN 0 r).put F.RNG_CTRL_ERR 0 r

/-- A write of RNG_CTRL: RESET acts only on a ring that was IDLE, and then ENABLE applies (R174). -/
def ringCtrlWrite (h : Hw) (r : Nat) (enable reset : Bool) : Hw :=
  let h1 := if reset then ringReset h r else h
  if enable then ringEnable h1 r else ringDisable h1 r

/-- RING_ENABLE: a write of RNG_CTRL with ENABLE = 1, with or without RESET. -/
def execRingEnable (dt : Nat) (hart : Fin 19) (r : Fin 1024) (reset : Bool) (s : State) : Out :=
  run dt s fun h => if h.mayWriteRing hart r then ringCtrlWrite h r true reset else h

/-- RING_DISABLE: a write of RNG_CTRL with ENABLE = 0. -/
def execRingDisable (dt : Nat) (hart : Fin 19) (r : Fin 1024) (s : State) : Out :=
  run dt s fun h => if h.mayWriteRing hart r then ringCtrlWrite h r false false else h

/-- RING_DRAIN_DONE: the operations in flight of a draining ring have completed (R170). -/
def execRingDrainDone (dt : Nat) (r : Fin 1024) (s : State) : Out :=
  run dt s fun h =>
    if h.ringState r = 2 ∧ h.rng.flights.all (fun f => f.ring != r.val) ∧ (h.ring r).reserved = 0 then
      h.put F.RNG_CTRL_STATE 0 r
    else h

/-- RING_RESET: a write of RNG_CTRL with RESET = 1 and ENABLE = 0. -/
def execRingReset (dt : Nat) (hart : Fin 19) (r : Fin 1024) (s : State) : Out :=
  run dt s fun h => if h.mayWriteRing hart r then ringCtrlWrite h r false true else h

/-! ## Block movers (engine 0) -/

/-- The pieces a copy reads. -/
def bmSrc (h : Hw) (d : List Byte) : List (Nat × Nat) :=
  if bit (fld d 0 1) 4 then sgPieces h (fld d 8 8) (fld d 24 2) else [(fld d 8 8, fld d 4 4)]

/-- The pieces a copy or fill writes. -/
def bmDst (h : Hw) (d : List Byte) : List (Nat × Nat) :=
  if bit (fld d 0 1) 5 then sgPieces h (fld d 16 8) (fld d 26 2) else [(fld d 16 8, fld d 4 4)]

/-- Replaces, byte by byte, the bytes that go to addresses inside the given pieces by open values, counted from a number
on (R148). -/
def openOverlap (ps : List (Nat × Nat)) (k : Nat) : List (Nat × Byte) → List Byte
  | [] => []
  | (a, b) :: r => (if inPieces ps a then BitVec.ofNat 8 (Config.freeNat (k + a)) else b) :: openOverlap ps k r

/-- The addresses of a list of pieces, in order. -/
def pieceAddrs (ps : List (Nat × Nat)) : List Nat := ps.flatMap (fun (a, n) => (List.range n).map (a + ·))

/-- COPY: copies LENGTH bytes; destination bytes that overlap the source of a copy with a scatter list are unspecified
(R146, R148). -/
def execCopy (dt id : Nat) (s : State) : Out :=
  run dt s fun g => g.onOp id 0 1 fun f =>
    let h := g
    let src := bmSrc h f.desc
    let dst := bmDst h f.desc
    h.engRead f src fun h =>
    let bs := gather h src
    if overlap src dst then
      let h1 := { h with freeCtr := h.freeCtr + 2 ^ 64 }
      (scatter h1 dst (openOverlap src h.freeCtr ((pieceAddrs dst).zip bs))).finish f ST_OK h.tb 0 (fld f.desc 4 4)
    else (scatter h dst bs).finish f ST_OK h.tb 0 (fld f.desc 4 4)

/-- BLOCK_FILL: fills LENGTH bytes with the 8-byte pattern, repeated from the destination start (R146). -/
def execBlockFill (dt id : Nat) (s : State) : Out :=
  run dt s fun h => h.onOp id 0 2 fun f =>
    let n := fld f.desc 4 4
    let bs := (List.range n).map (fun i => BitVec.ofNat 8 (fld f.desc (8 + i % 8) 1))
    (scatter h (bmDst h f.desc) bs).finish f ST_OK h.tb 0 n

end Sys2Proof.Machine
end

