-- ==== Sys2Proof/Machine/Sensor.lean ====
section
/-!
DEFINITION. The commands of the sensor front-end (chapter 06): samples, speed edges and SENT frames, record buffers, impact
detection and loss windows. Readings: log entry 21.
-/
namespace Sys2Proof.Machine

/-! ## Samples -/

/-- The time of validity of the next sample of a channel: its aperture on the grid for AIN and BRG (R907), now for the
others; none while that aperture has not come. -/
def sampleTov (h : Hw) (p : Nat) : Option Nat :=
  if isAin p || isBrg p then
    match mget h.sfe.grid p with
    | none => some h.tb
    | some (t0, n) =>
      let t := (t0 + qfloor (qmul (qi n) (h.sfePeriod p))).toNat
      if t ≤ h.tb then some t else none
  else some h.tb

/-- Takes an aperture of the grid. -/
def takeAperture (h : Hw) (p tov : Nat) : Hw :=
  if isAin p || isBrg p then
    { h with sfe := { h.sfe with grid := mset h.sfe.grid p (match mget h.sfe.grid p with
        | none => (tov, 1)
        | some (t0, n) => (t0, n + 1)) } }
  else h

/-- The end of an impact that the samples taken so far bring about: the index of the sample at which it ends and whether
2,000 µs passed first; the samples run from the begin at 1 MS/s, newest first (R297). -/
def impactEnd (thr hold : Nat) (xs : List Int) : Option (Nat × Bool) :=
  let n := xs.length - 1
  if hold ≤ n ∧ 1 ≤ hold ∧ (xs.take hold).all (fun x => decide (4 * x.natAbs < thr)) then some (n, false)
  else if 2000 ≤ n then some (n, true)
  else none

/-- An impact channel's sample reaches its detector (R297). -/
def detSample (h : Hw) (c tov : Nat) (x : Int) : Hw :=
  let d := mgetD h.sfe.dets c {}
  let thr := h.get F.SFE_IMP_CFG_THR c
  let quiet := match d.lastEnd with | some t => decide (t + 1000 * h.get F.SFE_IMP_TIME_DEAD c ≤ tov) | none => true
  let d' : ImpDet := match d.hit with
    | some b =>
      if d.ended.isSome then d
      else
        let xs := x :: d.xs
        match impactEnd thr (h.get F.SFE_IMP_TIME_HOLD c) xs with
        | some (n, long) => { d with xs := xs, ended := some (b + 1000 * n, long) }
        | none => { d with xs := xs }
    | none => if quiet && decide (thr ≤ x.natAbs) then { d with hit := some tov, xs := [x] } else d
  { h with sfe := { h.sfe with dets := mset h.sfe.dets c d' } }

/-- The bytes of a raw entry of a conversion. -/
def entryBytes (p : Nat) (xs : List Int) : List Byte :=
  if p = imuPort then xs.flatMap (fun x => leBytes 2 (ux 16 x))
  else match xs with
    | x :: _ => leBytes (rawEntry p) (ux (8 * rawEntry p) x)
    | [] => []

/-- A stamped sample of a channel feeds its stream, detector and readers (R283, R284, R908, R198). -/
def sfeSample (h : Hw) (p tov : Nat) (raw : List Int) : Hw :=
  let xs := if p = imuPort then (padTo6 raw).map (clampConv p) else (raw.take 1).map (clampConv p)
  let sat := raw.head?.any (atEnd p)
  let h0 := takeAperture h p tov
  let h1 := if p = imuPort then { h0 with sfe := { h0.sfe with imu := ((tov, xs) :: h0.sfe.imu).take 4096 } }
            else h0.keepSample p tov (xs.headD 0)
  let h2 := if sat then h1.put F.SFE_FAULT_SAT 1 (p - 326) else h1
  if p = imuPort then rawPut h2 p (entryBytes p xs) tov
  else if h.portLive p then
    let h3 := rawPut h2 p (entryBytes p xs) tov
    let h4 := if isImp p then detSample h3 (p - 430) tov (xs.headD 0) else h3
    flushWins (yldBridge h4 p (xs.headD 0))
  else h2
where
  /-- Six axis values, missing ones 0. -/
  padTo6 (l : List Int) : List Int := (l ++ List.replicate 6 0).take 6

/-- CONVERTER_SAMPLE: an enabled channel named by port index (0xFFFF the IMU, with six values) converts a value; a value
beyond the conversion's range gives its end value. -/
def execConverterSample (dt : Nat) (port : Nat) (vals : List Int) (s : State) : Out :=
  run dt s fun h =>
    if (isAin port || isImp port || isBrg port || port == imuPort) && h.sfeOn port && !vals.isEmpty then
      match sampleTov h port with
      | some t => sfeSample h port t vals
      | none => h
    else h

/-- A write of the configuration register of an AIN or BRG channel: a new grid and chunk on an enable or on a change of rate,
range or gain while enabled; a disable closes the raw buffers (R294, R907). -/
def convCfgWrite (h : Hw) (port v : Nat) : Hw :=
  let f := if isAin port then F.SFE_AIN_CFG_EN else F.SFE_BRG_CFG_EN
  let i := if isAin port then port - 326 else port - 478
  let old := (h.reg (f.at i 0)).toNat
  let new := if isAin port then v % 2 ^ 17
    else (if 4 < bits v 3 1 then v % 2 + 8 + bits v 12 4 * 16 else v % 2 ^ 13)
  let bindMask := if isAin port then 2 ^ 11 else 2 ^ 7
  let h1 := h.setReg (f.at i 0) (BitVec.ofNat 32 new)
  if new % 2 = 0 then (if old % 2 = 1 then bufCloseAll h1 (qKey 0 port) ST_STREAM_OFF else h1)
  else if old % 2 = 0 ∨ old % bindMask ≠ new % bindMask then
    endChunk { h1 with sfe := { h1.sfe with grid := mdel h1.sfe.grid port } } port
  else h1

/-- SFE_CHANNEL_RECONFIG: the owner of an analog input or bridge port writes its configuration register. -/
def execSfeChannelReconfig (dt : Nat) (hart : Fin 19) (port : Fin 512) (v : Word) (s : State) : Out :=
  run dt s fun h =>
    if (isAin port || isBrg port) && h.hartRuns hart
        && (match h.hartPart hart with | some p => h.ownsPort p port | none => false)
    then convCfgWrite h port v.toNat else h

/-- SPD_EDGE_CAPTURE: a rising edge on an enabled speed input, with the partner input's level and the pulse's width in ns;
the even input of a pair carries the direction (R282, R283). -/
def execSpdEdgeCapture (dt : Nat) (k : Fin 40) (partner : Bool) (width : Nat) (s : State) : Out :=
  run dt s fun h =>
    let p := 390 + k.val
    if h.sfeOn p && decide (100 * h.get F.SFE_SPD_CFG_MINPULSE k ≤ width) then
      let t := h.tb
      let per := match mget h.sfe.spd k with | some (l, _) => t - l | none => 0
      let h1 := { h with sfe := { h.sfe with spd := mset h.sfe.spd k (t, per) } }.keepSample p t per
      if h.portLive p then
        rawPut h1 p (BitVec.ofNat 8 (b2n partner + 2 * b2n (partner && k.val % 2 == 0)) :: zeros 15) t
      else h1
    else h

/-- The data nibbles of a fast frame, the first most significant (R287). -/
def nibbles (ns : List (Fin 16)) : Nat := ns.foldl (fun a n => 16 * a + n.val) 0

/-- SENT_FRAME: a frame with its status nibble, data nibbles, measured tick in ns, whether its checksum of the configured kind
fits, and the slow message it completes as ID, data and whether enhanced (R286 to R288). The time of validity is the
falling edge that began its synchronisation pulse, `age` ns ago. -/
def execSentFrame (dt : Nat) (k : Fin 16) (age : Nat) (tick : Nat) (status : Fin 16) (data : List (Fin 16)) (crcOk : Bool)
    (slow : Option (BitVec 8 × BitVec 16 × Bool)) (s : State) : Out :=
  run dt s fun h =>
    let p := 494 + k.val
    if !h.sfeOn p then h else
      let nominal := 500 * h.get F.SFE_SNT_CFG_TICK k
      if crcOk && data.length == h.get F.SFE_SNT_CFG_NIB k && decide (3 * nominal ≤ 4 * tick) && decide (4 * tick ≤ 5 * nominal) then
        let t := h.tb - age
        let v := nibbles data
        let h1 := (h.keepSample p t v).keepSample (1000 + p) h.tb v
        if h.portLive p then
          let h2 := rawPut h1 p (leBytes 4 (v + 2 ^ 24 * status.val) ++ zeros 12) t
          let h3 := yldMoist h2 p v
          match slow with
          | some (id, d, enh) =>
            if h.get F.SFE_SNT_CFG_SLOW k = (if enh then 2 else 1) then
              rawPut h3 p (leBytes 4 (id.toNat + 256 * d.toNat) ++ [BitVec.ofNat 8 (1 + 2 * b2n enh)] ++ zeros 11) t
            else h3
          | none => h3
        else h1
      else (h.bump F.SFE_SNT_ERR_COUNT k).log 0x0602 k true

/-! ## Record buffers -/

/-- RECBUF: the buffer joins the queue of its stream (R292). -/
def execRecbuf (dt id : Nat) (s : State) : Out :=
  run dt s fun h => h.onOp id 11 1 fun f =>
    let st := fld f.desc 1 1
    bufPost h (qKey st (if st = 0 then fld f.desc 2 2 else f.part)) f

/-- BUFFER_FLUSH_TIMEOUT: FLUSH µs have passed since the first record of the buffer an operation posted (R294). -/
def execBufferFlushTimeout (dt id : Nat) (s : State) : Out :=
  run dt s fun h =>
    match h.queueOf id, h.flight id with
    | some k, some f =>
      match (h.bufq k).first with
      | some t => if fld f.desc 20 4 ≠ 0 ∧ t + 1000 * fld f.desc 20 4 ≤ h.now then bufClose h k ST_OK else h
      | none => h
    | _, _ => h

/-! ## Impacts -/

/-- IMPACT_BEGIN: the first sample at or above THR has come: the windows open at it count the impact (R297, R304). -/
def execImpactBegin (dt : Nat) (c : Fin 48) (s : State) : Out :=
  run dt s fun h =>
    let d := mgetD h.sfe.dets c {}
    match d.hit with
    | some b =>
      if d.begun then h else
        let ws := (List.range 16).filter (fun w => match (h.win w).openAt with | some t => decide (t ≤ b) | none => false)
        let d' := { d with begun := true, openMask := (ws.map (2 ^ ·)).sum,
                           ivals := (ws.filter (fun w => (winChannels h w).contains c.val)).map (fun w => (w, (h.win w).ival)) }
        { h with sfe := { h.sfe with dets := mset h.sfe.dets c d' } }
    | none => h

/-- floor(256 × log2 n), for n ≥ 1. -/
def log2x256 (n : Nat) : Nat := Nat.log2 (n ^ 256)

/-- The features of an impact from its samples, oldest first: PEAK and its index (R298). -/
def peakOf : List Int → Nat → Nat × Nat
  | [], _ => (0, 0)
  | x :: xs, i =>
    let (p, k) := peakOf xs (i + 1)
    if p ≤ x.natAbs then (x.natAbs, i) else (p, k)

/-- The weights and bias of a weight set (R299). -/
def clsWeight (h : Hw) (set i : Nat) : Int :=
  if i % 2 = 0 then h.getS F.SFE_CLS_W_WLO set (i / 2) else h.getS F.SFE_CLS_W_WHI set (i / 2)

/-- Counts an impact in an interval of a window. -/
def countImpact (grain : Bool) (h : Hw) (wi : Nat × Nat) : Hw :=
  let x := h.win wi.1
  if x.ival = wi.2 then
    h.setWin wi.1 (if grain then { x with grain := x.grain + 1 } else { x with other := x.other + 1 })
  else
    h.setWin wi.1 { x with pend := x.pend.map (fun p =>
      if p.ival = wi.2 then (if grain then { p with grain := p.grain + 1 } else { p with other := p.other + 1 }) else p) }

/-- Ends an impact: features, score and class, its record, and its count in the windows (R298 to R304). The filters behind
BAND0 to BAND3 are not given, nor how log2 is rounded, nor RISE beyond 16 bits: those values are open. -/
def impactDone (h : Hw) (c b e : Nat) (long : Bool) (d : ImpDet) : Hw :=
  let xs := d.xs.reverse
  let (peak, k) := peakOf xs 0
  let e2 := ((xs.drop k).map (fun x => x.natAbs * x.natAbs)).sum
  let (rise, h1) := h.fitOpen 16 (100 * k : Nat)
  let (r0, h2) := h1.fresh
  let ring := if e2 = 0 then r0 % 65536 else log2x256 e2 + r0 % 2
  let (bands, h3) := h2.freshBytes 4
  let set := h.get F.SFE_IMP_CFG_CLS c
  let fs : List Nat := [peak, rise, ring] ++ bands.map (·.toNat)
  let score : Int := clsWeight h set 7 * 256 + (fs.zipIdx.map (fun (v, i) => clsWeight h set i * (v : Int))).sum
  let grain := decide (0 ≤ score)
  let sat := xs.any (fun x => decide (32767 ≤ x) || decide (x ≤ -32768))
  let d' : ImpDet := { lastEnd := some e }
  let h4 := { h3 with sfe := { h3.sfe with dets := mset h3.sfe.dets c d' } }
  let h5 := if sat then h4.log 0x0606 c true else h4
  let h6 := if h.flag F.SFE_IMP_CFG_REC c then
      streamPut h5 1 (h.portOwner (430 + c)) (h.stamp (h.get F.SFE_IMP_CFG_BIND c) b ++ leBytes 2 peak ++ leBytes 2 rise
        ++ leBytes 2 ring ++ bands ++ [BitVec.ofNat 8 c, BitVec.ofNat 8 (b2n grain + 2 * b2n sat + 4 * b2n long)]
        ++ leBytes 2 d.openMask ++ leBytes 2 (ux 16 (satI 16 (score / 256)))) b
    else h5
  flushWins (d.ivals.foldl (countImpact grain) h6)

/-- IMPACT_END: the impact in progress has ended, by quiet or after 2,000 µs (R297). -/
def execImpactEnd (dt : Nat) (c : Fin 48) (s : State) : Out :=
  run dt s fun h =>
    let d := mgetD h.sfe.dets c {}
    match d.hit, d.ended with
    | some b, some (e, long) => if d.begun then impactDone h c b e long d else h
    | _, _ => h

/-! ## Loss windows -/

/-- The mark that ends a window's length has been reached. -/
def lengthReached (h : Hw) (x : Win) : Bool :=
  match x.len with
  | some (31, m) => decide (m ≤ (h.wgl.tb : Int))
  | some (d, m) => decide (h.get F.WGL_DOM_CFG_TYPE d ≠ 0) && decide (m ≤ h.domHwm d)
  | none => false

/-- LOSS_SAMPLE_STEP: the distance domain's high-water mark has advanced STEP µm since the interval began; a length that
ends at the same instant gives the one sample its cause (R305, R306). -/
def execLossSampleStep (dt : Nat) (w : Fin 16) (s : State) : Out :=
  run dt s fun h =>
    let x := h.win w
    let step := h.get F.SFE_WIN_STEP_STEP w
    if x.openAt.isSome && step != 0 && decide (x.start + step ≤ h.domHwm (h.get F.SFE_WIN_CFG_DOMAIN w)) then
      endInterval h w (if lengthReached h x then 2 else 0) h.tb
    else h

/-- LOSS_WINDOW_LENGTH_END: the length given in the open action is reached (cause 2). -/
def execLossWindowLengthEnd (dt : Nat) (w : Fin 16) (s : State) : Out :=
  run dt s fun h =>
    let x := h.win w
    if x.openAt.isSome && lengthReached h x then endInterval h w 2 h.tb else h

/-! ## Faults of inputs -/

/-- SENSOR_INPUT_FAULT: the open-wire or range condition of an analog or bridge input is met or left for its time
(Table 21.8, R341). -/
def execSensorInputFault (dt : Nat) (port : Fin 512) (openWire range : Bool) (s : State) : Out :=
  run dt s fun h =>
    if isAin port || isBrg port then
      let was := mgetD h.sfe.faults port (false, false)
      let i := port.val - 326
      let h1 := { h with sfe := { h.sfe with faults := mset h.sfe.faults port (openWire, range) } }
      let h2 := if openWire then h1.put F.SFE_FAULT_OPEN 1 i else h1
      let h3 := if range then h2.put F.SFE_FAULT_RANGE 1 i else h2
      let h4 := if (openWire && !was.1) || (range && !was.2) then
          (yldFault h3 port).log 0x0601 (if isAin port then i else port.val - 478) else h3
      showFaultNow h4 port
    else h

end Sys2Proof.Machine
end

