-- ==== Sys2Proof/Machine/Smoker.lean ====
section
/-!
DEFINITION. The commands of Smoker, the in-service test, and of production test (chapter 20). Readings: log entry 42.
-/
namespace Sys2Proof.Machine

/-! ## Targets and cycles (R845, R857) -/

/-- Smoker runs: it is enabled and the module test mode has not halted it (R856). -/
def smkOn (h : Hw) : Bool := h.flag F.SMK_CFG_EN && !h.flag F.SMK_TESTMODE_ACTIVE

/-- A test of Table 20.1 is enabled. -/
def smkTests (h : Hw) (i : Nat) : Bool := smkOn h && bit (h.get F.SMK_CFG_TESTS) i

/-- The output on a port may be pulsed: a load switch or DIO output that is on, with PULSE_INTOL 0. -/
def outTarget (h : Hw) (p : Nat) : Bool :=
  if p < 144 then decide (48 ≤ p) && lsOn h (p - 48) && !h.flag F.LSW_CFG_PULSE_INTOL (p - 48)
  else decide (p < 272) && dioOn h (p - 144) && !h.flag F.DIO_CFG_PULSE_INTOL (p - 144)

/-- The input on a port may be pulsed: an enabled DIO input with PULSE_INTOL 0. -/
def inTarget (h : Hw) (p : Nat) : Bool :=
  decide (144 ≤ p) && decide (p < 272) && dioInput h (p - 144) && !h.flag F.DIO_CFG_PULSE_INTOL (p - 144)

/-- The channels with a converter, by port index: AIN, IMP and BRG. -/
def adcPorts : List Nat := (List.range 184).map (· + 326) |>.filter (fun p => isAin p || isImp p || isBrg p)

/-- The targets of a test now. -/
def smkTargets (h : Hw) (i : Nat) : List Nat :=
  match i with
  | 0 => List.range 14
  | 1 => ((List.range 224).map (· + 48)).filter (outTarget h)
  | 2 => ((List.range 128).map (· + 144)).filter (inTarget h)
  | 3 => adcPorts
  | 4 => List.range 3
  | 5 => List.range 64
  | _ => (List.range 100).filter (fun t => tileSt h t != 2)

/-- The number of a target among the targets of all tests. -/
def smkKey (i x : Nat) : Nat := i * 1024 + x

/-- Every target of every enabled test has been tested in this cycle. -/
def cycleDone (h : Hw) : Bool :=
  (List.range 7).all (fun i => !smkTests h i || (smkTargets h i).all (fun x => h.smk.passed.contains (smkKey i x)))

/-- Targets of a test have been tested; the cycle completes once none is left (R857). -/
def smkPass (h : Hw) (i : Nat) (xs : List Nat) : Hw :=
  let h1 := { h with smk := { h.smk with passed := h.smk.passed ++ xs.map (smkKey i) } }
  if cycleDone h1 then
    { h1 with smk := { h1.smk with passed := [], cycleAt := h1.now, behind := false } }.bump F.SMK_STATUS_CYCLES
  else h1

/-- A test fails on a target: it is counted. -/
def smkFail (h : Hw) (i : Nat) : Hw := h.bump F.SMK_FAIL_CNT_COUNT i

/-- The test of Table 20.1 that a pulse belongs to. -/
def pulseTest (h : Hw) (p : Nat) : Nat := if outTarget h p then 1 else 2

/-- The number of a channel within its type. -/
def chanOf (p : Nat) : Nat := if p < 144 then p - 48 else p - 144

/-- A pulse ends without a result, its target left for a later step. -/
def dropPulse (h : Hw) : Hw :=
  match h.smk.test with
  | some p =>
    let rest := h.smk.passed.filter (fun k => k != smkKey 1 p && k != smkKey 2 p)
    let h1 := { h with smk := { h.smk with test := none, passed := rest } }
    if 144 ≤ p then syncFilter h1 (p - 144) else h1
  | none => h

/-- A step of Smoker (Table 20.1, R845 to R848). A pulse that something has ended before its result is discarded until the next
cycle (R847). -/
def smkStep (h : Hw) (x : SmkStep) : Hw :=
  let run (i : Nat) (xs : List Nat) (good : Bool) (bad : Hw → Hw) : Hw :=
    if smkTests h i then
      let h1 := h.put F.SMK_STATUS_TEST i
      smkPass (if good then h1 else bad (smkFail h1 i)) i xs
    else h
  match x with
  | .ecc b good => run 0 [b.val] good (fun g => g.log 0x1401 b true)
  | .pulse p =>
    let i := pulseTest h p
    if smkTests h i && h.smk.test.isNone && (outTarget h p || inTarget h p) then
      let h1 := { h with smk := { h.smk with test := some p.val, passed := h.smk.passed ++ [smkKey i p] } }.put F.SMK_STATUS_TEST i
      if i = 2 then syncFilter h1 (p - 144) else h1
    else h
  | .pulseEnd good =>
    match h.smk.test with
    | some p =>
      let i := h.get F.SMK_STATUS_TEST
      let h1 := { h with smk := { h.smk with test := none } }
      let h2 := if i = 2 then syncFilter h1 (p - 144) else h1
      smkPass (if good then h2 else (smkFail h2 i).log 0x1402 (chanOf p) true) i []
    | none => h
  | .offset c mA =>
    if smkOn h && (h.sol c).out == 0 && decide (solIfs h c < 64 * mA.toNat) then h.put F.SOL_FAULT_REG_ERR 1 c else h
  | .adc ports good =>
    let ps := (ports.map (·.val)).filter (fun p => adcPorts.contains p)
    run 3 ps good (fun g => (ps.foldl (fun k p => k.put F.SFE_FAULT_RANGE 1 (p - 326)) g).log 0x1404)
  | .lockstep pair good => run 4 [pair.val] good (fun g => g.log 0x1405 pair)
  | .comb stop good => run 5 [stop.val] good (fun g => g.log 0x1406 stop true)

/-- SMOKER_STEP: Smoker runs one step on an idle engine (R843, R845). -/
def execSmokerStep (dt : Nat) (x : SmkStep) (s : State) : Out := run dt s fun h => if smkOn h then smkStep h x else h

/-- SMOKER_ABANDON: priority work ends the step under way; it is tried again at the engine's next idle time (R843). -/
def execSmokerAbandon (dt : Nat) (s : State) : Out := run dt s fun h => dropPulse h

/-! ## Vision tiles (R849 to R852) -/

/-- Takes a tile out of the pool; while an active tile is under test a spare stands in for it, which of them is open (R849). -/
def tileTakeOut (h : Hw) (t : Nat) : Hw :=
  let st := tileSt h t
  let h1 := (setTileSt h t 3).put F.SMK_STATUS_TEST 6
  if st = 0 then
    match tilesIn h1 1 with
    | [] => showTiles { h1 with smk := { h1.smk with tile := some (t, st, none) } }
    | us =>
      let (x, h2) := h1.fresh
      let u := us.getD (x % us.length) 0
      let own := match mget h2.smk.own t with | some p => mset h2.smk.own u p | none => h2.smk.own
      showTiles (setTileSt { h2 with smk := { h2.smk with tile := some (t, st, some u), own := own } } u 0)
  else showTiles { h1 with smk := { h1.smk with tile := some (t, st, none) } }

/-- The tile under test fails: its stand-in replaces it for good, or its partition loses it (R850). -/
def tileFailed (h : Hw) (t : Nat) : Hw :=
  let h1 := setTileSt { h with smk := { h.smk with tile := none, own := mdel h.smk.own t } } t 2
  showTiles ((smkFail h1 6).log 0x1403 t)

/-- TILE_TEST: a tile that is active or spare is taken out for a test, or the test under way ends with its result (R849, R850). -/
def execTileTest (dt : Nat) (t : Fin 100) (ev : TileEv) (s : State) : Out :=
  run dt s fun h =>
    match ev, h.smk.tile with
    | .takeOut, none => if smkTests h 6 && decide (tileSt h t ≤ 1) then tileTakeOut h t else h
    | .result good, some (u, _, _) =>
      if u = t.val then smkPass (if good then endTileTest h else tileFailed h u) 6 [u] else h
    | _, _ => h

/-- SMOKER_BEHIND: the cycle has not completed within PERIOD (R857). -/
def execSmokerBehind (dt : Nat) (s : State) : Out :=
  run dt s fun h =>
    if smkOn h && !h.smk.behind && decide (h.smk.cycleAt + h.get F.SMK_CFG_PERIOD * 1000000000 ≤ h.now) then
      ({ h with smk := { h.smk with behind := true } }.put F.SMK_STATUS_BEHIND 1).log 0x1408
    else h

/-- Smoker stops what it does. -/
def smkHalt (h : Hw) : Hw := endTileTest (dropPulse h)

/-- A write to SMK_CFG: an enable begins a cycle, or fails where PERIOD lies outside its range (R858, R859). -/
def smkCfgWrite (h : Hw) (v : Nat) : Hw :=
  let was := h.flag F.SMK_CFG_EN
  let per := bits v 19 8
  let ok := bit v 0 && decide (60 ≤ per)
  let h1 := h.setReg (F.SMK_CFG_EN.at 0 0) (BitVec.ofNat 32 (v % 2 ^ 20 / 2 * 2 + b2n ok))
  if ok && !was then { h1 with smk := { h1.smk with passed := [], cycleAt := h1.now, behind := false } }
  else if !ok && was then smkHalt h1 else h1

/-! ## Production test (R854 to R856) -/

/-- SMK_TESTMODE.ENTER while debug scope bit 3 is open: partitions 1 to 7 stop, Smoker halts, and the tiles are held in SAFE (R856). -/
def enterTest (h : Hw) : Hw :=
  if bit (h.get F.GRD_DBG_STATUS_SCOPE) 3 then
    let h1 := smkHalt (stopAll h)
    let h2 := (List.range 8).foldl (fun g t =>
      if g.tileState t = 1 then forceTile (g.put F.LSW_TILE_STATUS_STATE 0 t) t else g) h1
    h2.put F.SMK_TESTMODE_ACTIVE 1
  else h

/-- ENTER: partition 0 writes SMK_TESTMODE with ENTER = 1. -/
def execEnter (dt : Nat) (hart : Fin 19) (s : State) : Out := run dt s fun h => if h.byP0 hart then enterTest h else h

/-- The number of an instruction of the test access port. -/
def tapCode (ir : TapIr) : Nat := match ir with | .bypass => 0 | .idcode => 1 | .samplePreload => 2 | .extest => 3

/-- TAP_INSTRUCTION: an instruction takes effect; EXTEST drives contacts while debug scope bit 2 is open (R854, R855). -/
def execTapInstruction (dt : Nat) (ir : TapIr) (s : State) : Out :=
  run dt s fun h =>
    { h with smk := { h.smk with ir := tapCode ir, drives := tapCode ir == 3 && bit (h.get F.GRD_DBG_STATUS_SCOPE) 2 } }

end Sys2Proof.Machine
end

