-- ==== Sys2Proof/Machine/Storage.lean ====
section
/-!
DEFINITION. The commands of the season store and the event recorder (chapter 17). Readings: log entries 36 and 37.
-/
namespace Sys2Proof.Machine

/-! ## Regions -/

/-- The sum of the sizes of the created regions, in MiB. -/
def regSum (h : Hw) : Nat :=
  (((List.range 16).filter (fun r => h.flag F.STO_REG_CFG_CREATED r)).map (fun r => h.get F.STO_REG_SIZE_MIB r)).sum

/-- Creates a region, or fails with ST_STO_CONFIG (R733 to R735). -/
def regCreate (h : Hw) (r : Nat) : Hw :=
  let yres := h.flag F.STO_REG_CFG_YRES r
  if 30517578 < regSum h + h.get F.STO_REG_SIZE_MIB r ∨ h.get F.STO_REG_SIZE_MIB r = 0
      ∨ (yres ∧ (List.range 16).any (fun q => q != r && h.flag F.STO_REG_CFG_CREATED q && h.flag F.STO_REG_CFG_YRES q)) then
    (h.put F.STO_REG_CFG_EN 0 r).put F.STO_REG_CFG_ERR ST_STO_CONFIG r
  else
    let (k, h1) := h.freshBytes 64
    ((({ h1 with grd := { h1.grd with stoKeys := mset h1.grd.stoKeys r k } }.put F.STO_REG_CFG_CREATED 1 r).put
      F.STO_REG_CFG_EN 1 r).put F.STO_REG_CFG_ERR ST_OK r)

/-- Destroys a region that is not enabled: its key goes, its blocks are free and its size returns to the user capacity (R737). -/
def regDelete (h : Hw) (r : Nat) : Hw :=
  if h.flag F.STO_REG_CFG_CREATED r && !h.flag F.STO_REG_CFG_EN r then
    let h1 := { h with grd := { h.grd with stoKeys := mdel h.grd.stoKeys r },
                       sto := { h.sto with blks := h.sto.blks.filter (fun (k, _) => k / 2 ^ 36 != r) } }
    showUsed (h1.put F.STO_REG_CFG_CREATED 0 r) r
  else h

/-- A write to STO_REG_CFG: OWNER while not CREATED and YRES while not EN as they stand before the write, DELETE while EN is 0, then EN
(R733, R737). -/
def stoCfgWrite (h : Hw) (r : Nat) (v : BitVec 32) : Hw :=
  let x := v.toNat
  let h1 := if h.flag F.STO_REG_CFG_CREATED r then h else h.put F.STO_REG_CFG_OWNER (bits x 5 3) r
  let h2 := if h.flag F.STO_REG_CFG_EN r then h1 else h1.put F.STO_REG_CFG_YRES (bits x 6 6) r
  let h3 := if bit x 1 then regDelete h2 r else h2
  if bit x 0 then
    (if h3.flag F.STO_REG_CFG_CREATED r then
      (if !h3.flag F.STO_REG_CFG_EN r && h3.flag F.STO_REG_CFG_YRES r
          && (List.range 16).any (fun q => q != r && h3.flag F.STO_REG_CFG_CREATED q && h3.flag F.STO_REG_CFG_YRES q) then
        h3.put F.STO_REG_CFG_ERR ST_STO_CONFIG r
      else (h3.put F.STO_REG_CFG_EN 1 r).put F.STO_REG_CFG_ERR ST_OK r)
     else regCreate h3 r)
  else h3.put F.STO_REG_CFG_EN 0 r

/-- REGION_CREATE: partition 0 sets EN of a region that is not created (R733). -/
def execRegionCreate (dt : Nat) (hart : Fin 19) (r : Fin 16) (v : Word) (s : State) : Out :=
  run dt s fun h =>
    if h.byP0 hart && !h.flag F.STO_REG_CFG_CREATED r then stoCfgWrite h r (v ||| 1) else h

/-- REGION_ENABLE_CHANGE: partition 0 writes EN of a created region (R737). -/
def execRegionEnableChange (dt : Nat) (hart : Fin 19) (r : Fin 16) (v : Word) (s : State) : Out :=
  run dt s fun h => if h.byP0 hart && h.flag F.STO_REG_CFG_CREATED r then stoCfgWrite h r v else h

/-- DELETE: partition 0 writes STO_REG_CFG with DELETE = 1 and EN = 0 (R737). -/
def execDelete (dt : Nat) (hart : Fin 19) (r : Fin 16) (s : State) : Out :=
  run dt s fun h => if h.byP0 hart then regDelete h r else h

/-! ## Flash commands -/

/-- An earlier WRITE in flight shares a block with an operation (R743). -/
def stoBehind (h : Hw) (f : Flight) : Bool :=
  (stoWrites h).any (fun g => decide (g.id < f.id) && sReg g.desc == sReg f.desc
    && decide (sLba g.desc < sLba f.desc + sBlks f.desc) && decide (sLba f.desc < sLba g.desc + sBlks g.desc))

/-- STO_WRITE: the blocks of a WRITE become durable; writes of one block persist in fetch order (R741, R743). -/
def execStoWrite (dt : Nat) (id gb : Nat) (s : State) : Out :=
  run dt s fun h => h.onOp id 2 1 fun f => if stoBehind h f then h else stoWriteDo h f gb

/-- The bytes of a block, zeros where it is unmapped or cannot be read. -/
def blkBytes (h : Hw) (d : List Byte) (bad : List Nat) (i : Nat) : List Byte :=
  if bad.contains i then zeros 4096 else padTo 4096 (mgetD h.sto.blks (blkKey (sReg d) (sLba d + i)) [])

/-- STO_READ: a READ delivers its blocks; `bad` names those, by their number within the READ, that cannot be read (R745). -/
def execStoRead (dt : Nat) (id : Nat) (bad : List Nat) (s : State) : Out :=
  run dt s fun h => h.onOp id 2 2 fun f =>
    let d := f.desc
    let n := sBlks d
    let miss := bad.filter (fun i => decide (i < n))
    let h1 := scatter h (dPieces h d (fld d 16 8)) ((List.range n).flatMap (blkBytes h d miss))
    let h2 := if miss.isEmpty then h1 else h1.log 0x1105 0xFFFF true
    h2.finish f (if miss.isEmpty then ST_OK else ST_STO_READ_ERROR) h2.tb n (4096 * n)

/-- TRIM: blocks are unmapped (R744). -/
def execTrim (dt : Nat) (id : Nat) (s : State) : Out :=
  run dt s fun h => h.onOp id 2 3 fun f =>
    let d := f.desc
    let lo := blkKey (sReg d) (sLba d)
    let h1 := { h with sto := { h.sto with blks := h.sto.blks.filter (fun (k, _) => decide (k < lo) || decide (lo + sBlks d ≤ k)) } }
    (showUsed h1 (sReg d)).finish f ST_OK h1.tb (sBlks d) 0

/-- One die's second: `slow` says that it exceeded the bound of R747 (R747, R749). -/
def dieWindow (h : Hw) (d : Nat) (slow : Bool) : Hw :=
  if h.flag F.STO_DIE_RETIRED d then h
  else if slow then
    let h1 := { h with sto := { h.sto with good := mdel h.sto.good d } }
    if h.flag F.STO_DIE_SLOW d then h1 else (h1.put F.STO_DIE_SLOW 1 d).log 0x1101 d
  else if h.flag F.STO_DIE_SLOW d then
    let n := mgetD h.sto.good d 0 + 1
    if 10 ≤ n then
      ({ h with sto := { h.sto with good := mdel h.sto.good d } }.put F.STO_DIE_SLOW 0 d).log 0x1106 d
    else { h with sto := { h.sto with good := mset h.sto.good d n } }
  else h

/-- DIE_LATENCY_WINDOW: a 1 s window ends; `slow` names the dies whose 99th percentile exceeded four times the median, for programs or
for reads (R747). -/
def execDieLatencyWindow (dt : Nat) (slow : List (Fin 128)) (s : State) : Out :=
  run dt s fun h =>
    if h.now < h.sto.winAt + 1000000000 then h else
      let h1 := { h with sto := { h.sto with winAt := h.now } }
      showDies ((List.range 128).foldl (fun g d => dieWindow g d (slow.any (fun x => x.val == d))) h1)

/-- DIE_RETIRE: a die has failed its checks on more than 64 blocks; the blocks that replace its own take `gb` GB of the spare pool
(R750, R754). -/
def execDieRetire (dt : Nat) (d : Fin 128) (gb : Nat) (s : State) : Out :=
  run dt s fun h =>
    if h.flag F.STO_DIE_RETIRED d then h
    else spareTake (showDies (((h.put F.STO_DIE_RETIRED 1 d).put F.STO_DIE_SLOW 0 d).log 0x1102 d)) gb

/-! ## Recorder -/

/-- Bytes a partition has appended in the last second (R765). -/
def appRecent (h : Hw) (p : Nat) : List (Nat × Nat) :=
  (mgetD h.evr.apps p []).filter (fun (t, _) => decide (h.now < t + 1000000000))

/-- APPEND: a record of a partition is written, or refused for its rate (R764, R765). It waits until the recorder is ready (R762). -/
def execAppend (dt : Nat) (id : Nat) (s : State) : Out :=
  run dt s fun h => h.onOp id 8 1 fun f =>
    if !h.flag F.EVR_STATUS_READY then h else
      let d := f.desc
      let n := fld d 4 2
      let rc := appRecent h f.part
      let size := 40 + n
      if 1000 * h.get F.EVR_RATE_KB f.part < (rc.map (·.2)).sum + size then
        (h.bump F.EVR_CNT_COUNT 0).finish f ST_EVR_RATE h.tb
      else h.engRead f [(fld d 8 8, n)] fun g =>
        let saf := bit (fld d 1 1) 0
        let g1 := { g with evr := { g.evr with apps := mset g.evr.apps f.part (rc ++ [(g.now, size)]) } }
        let q := g1.evr.seq
        (evrPut g1 (b2n saf) (fld d 2 2) (f.part + 16 * b2n saf) (g1.rd (fld d 8 8) n)).finish f ST_OK g1.tb q

/-- The records of a list that fit a capacity, whole. -/
def recFit : Nat → List EvRec → List EvRec
  | _, [] => []
  | cap, r :: rs => if recSize r.bytes ≤ cap then r :: recFit (cap - recSize r.bytes) rs else []

/-- EVR_READ: whole records of an area are copied from a number on (R766). -/
def execEvrRead (dt : Nat) (id : Nat) (s : State) : Out :=
  run dt s fun h => h.onOp id 8 2 fun f =>
    if !h.flag F.EVR_STATUS_READY then h else
      let d := f.desc
      let area := if bit (fld d 1 1) 0 then h.evr.saf else h.evr.gen
      let lo := fld d 8 8
      let rs := recFit (fld d 24 4) (area.recs.filter (fun r => decide (lo ≤ r.seq)))
      let bs := rs.flatMap (fun r => padTo (recSize r.bytes) r.bytes)
      let next := match rs.getLast? with | some r => r.seq + 1 | none => lo
      let h1 := h.wr (fld d 16 8) bs
      h1.finish f ST_OK h1.tb next bs.length (satN 24 (area.lost.filter (fun q => decide (lo ≤ q))).length)

/-- RECORDER_SCAN: at start-up the recorder finds the newest record of each area; records torn by a loss of the supplies are discarded
and counted, and events held meanwhile are written (R761, R762). -/
def execRecorderScan (dt : Nat) (torn : Nat) (s : State) : Out :=
  run dt s fun h =>
    if h.flag F.EVR_STATUS_READY then h else
      let h1 := diagAll (h.put F.EVR_STATUS_READY 1) 256
      (List.range torn).foldl (fun g _ => (g.bump F.EVR_CNT_COUNT 1).log 0x1107) h1

/-- DIAG_EVENT_RECORD: the oldest waiting occurrence of a diagnostic event is recorded, or held (R759, R904). -/
def execDiagEventRecord (dt : Nat) (s : State) : Out :=
  run dt s fun h =>
    match h.diag with
    | o :: os => if h.flag F.EVR_STATUS_READY then diagOne { h with diag := os } o else h
    | [] => h

/-- DIAG_HELD_RECORD: one second after the last record of a rate-limited event, the occurrences held are recorded (R904). -/
def execDiagHeldRecord (dt : Nat) (ty inst : BitVec 16) (s : State) : Out :=
  run dt s fun h =>
    let k := rateKey ty.toNat inst.toNat
    match mget h.evr.rates k with
    | some (t, held) =>
      if held ≠ 0 ∧ t + 1000000000 ≤ h.now ∧ h.flag F.EVR_STATUS_READY then
        evrModule { h with evr := { h.evr with rates := mset h.evr.rates k (h.now, 0) } } ty.toNat inst.toNat held
      else h
    | none => h

end Sys2Proof.Machine
end

