-- ==== Sys2Proof/Machine/Valve.lean ====
section
/-!
DEFINITION. The commands of the valve drive (chapter 08). Readings: log entry 24.
-/
namespace Sys2Proof.Machine

/-! ## Enabling and disabling -/

/-- The checks of an enable (R447). -/
def solCheck (h : Hw) (c : Nat) : Nat :=
  let f := h.get F.SOL_CFG_DITH_F c
  let off := h.get F.SOL_OFFTIME_OFFTIME c
  firstBad [(solMode h c != 3 && h.get F.SOL_CFG_DECAY c != 3 && (f == 0 || (decide (25 ≤ f) && decide (f ≤ 250)))
    && decide (20 ≤ off) && decide (off ≤ 100000) && decide (100 ≤ h.get F.SOL_COIL_R_R25 c)
    && decide (1 ≤ h.get F.SOL_COIL_TH_RTH c) && decide (1 ≤ h.get F.SOL_COIL_TH_TAU c)
    && decide (h.getS F.SOL_COIL_LIM_T_WARN c < h.getS F.SOL_COIL_LIM_T_LIM c)
    && (h.get F.SOL_TTP_MAX c == 0 || decide (h.get F.SOL_TTP_MIN c ≤ h.get F.SOL_TTP_MAX c)), ST_SOL_CONFIG)]

/-- The settings in SOL_CFG add dither (R412). -/
def dithers (cfg : Nat) : Bool := bits cfg 23 16 != 0 && bits cfg 31 24 != 0

/-- The channel takes over the settings that take effect at a model step (R446); dither that they add starts at 0 (R412). -/
def solTake (h : Hw) (c : Nat) : Hw :=
  let x := h.sol c
  let cfg := (h.reg (F.SOL_CFG_ENABLE.at c 0)).toNat
  h.setSol c { x with cfg := cfg, lim := (h.reg (F.SOL_COIL_LIM_T_LIM.at c 0)).toNat,
                      dithAt := if dithers cfg && !dithers x.cfg then h.now else x.dithAt }

/-- The coil estimate against T_LIM: SOL_STATUS.COIL_HOT with its fault and event (R437). -/
def solHot (h : Hw) (c : Nat) : Hw :=
  let x := h.sol c
  let l : Q := mkQ (sx 16 (x.lim / 2 ^ 16)) 10
  if qle l x.temp then
    if h.flag F.SOL_STATUS_COIL_HOT c then h
    else (((h.put F.SOL_STATUS_COIL_HOT 1 c).put F.SOL_FAULT_COIL_HOT 1 c).log 0x0805 c)
  else if qlt x.temp (qsub l (qi 5)) then h.put F.SOL_STATUS_COIL_HOT 0 c
  else h

/-- The oil source is faulted, so that the fixed value stands in for it (R433, R440). -/
def oilBad (h : Hw) : Bool := h.get F.SOL_OIL_CFG_SRC != 0 && h.flag F.SOL_OIL_TEMP_FIXED_USED

/-- Validity of the model and the correction factor (R438, R440, R441). -/
def solModel (h : Hw) (c : Nat) : Hw :=
  let x := h.sol c
  let cal : Q := mkQ (h.getS F.SOL_CAL_T_CAL c) 10
  let d := qsub x.temp cal
  let long := match x.devSince with | some t => decide (t + 1000000000 ≤ h.now) | none => false
  let ok := !oilBad h && qle (qi (-40)) x.temp && qle x.temp (qi 200) && !long && qle d (qi 100) && qle (qi (-100)) d
  let x1 := if ok then { x with invalid := false, k := qadd (qi 1) (qmul (mkQ (h.getS F.SOL_CAL_TC c) 1000000) d) }
    else { x with invalid := true }
  let h1 := (h.setSol c x1).put F.SOL_STATUS_MODEL_INVALID (b2n (!ok)) c
  if !ok && !x.invalid then h1.log 0x0806 c else h1

/-- Shows the coil estimate in SOL_TEMP; its rounding is open. -/
def showTemp (h : Hw) (c : Nat) : Hw :=
  let (t, h1) := h.openRound (qmul (qi 10) (h.sol c).temp)
  h1.putS F.SOL_TEMP_T (satI 16 t) c

/-- Enables a channel whose settings pass the checks (R408, R435, R447). A channel that stands at its fail-safe output stays
there until it is commanded (R470, R477). -/
def solEnable (h : Hw) (c v : Nat) : Hw :=
  let old := (h.reg (F.SOL_CFG_ENABLE.at c 0)).toNat
  let keep := 2 ^ 7 - 2
  let new := v % 2 ^ 12 + v / 2 ^ 16 * 2 ^ 16
  if solOn h c then
    h.setReg (F.SOL_CFG_ENABLE.at c 0) (BitVec.ofNat 32 (new / 2 ^ 7 * 2 ^ 7 + (old &&& keep) + 1))
  else
    let h1 := h.setReg (F.SOL_CFG_ENABLE.at c 0) (BitVec.ofNat 32 (new / 2 * 2))
    let st := solCheck h1 c
    let h2 := h1.put F.SOL_ST_STATUS st c
    if st ≠ ST_OK then h2 else
      let h3 := solTake (h2.put F.SOL_CFG_ENABLE 1 c) c
      let x := h3.sol c
      let oil : Q := mkQ (h3.getS F.SOL_OIL_TEMP_T_OIL) 10
      let run := solMode h3 c != 1 && !(h3.out c).stay
      let h4 := h3.setSol c { x with code := 0, base := if run then 0 else x.base, out := if run then 1 else x.out, lastV := 0,
                                     temp := oil, devSince := none, dithAt := h3.now }
      let h5 := (h4.put F.SOL_TTP_LAST_VALID 0 c).put F.SOL_TEMP_T_MEAS 0x8000 c
      showSol (showTemp (solModel (solHot h5 c) c) c) c

/-- Disables a channel: its output switches off unless it is held at its fail-safe state, and a waiting start ends with
ST_SOL_MODE (R428). The settings locked while enabled are judged on the value before the write (R446). -/
def solDisable (h : Hw) (c v : Nat) : Hw :=
  let old := (h.reg (F.SOL_CFG_ENABLE.at c 0)).toNat
  let new := v % 2 ^ 12 + v / 2 ^ 16 * 2 ^ 16
  if !solOn h c then h.setReg (F.SOL_CFG_ENABLE.at c 0) (BitVec.ofNat 32 (new / 2 * 2))
  else
    let h1 := h.setReg (F.SOL_CFG_ENABLE.at c 0) (BitVec.ofNat 32 (new / 2 ^ 7 * 2 ^ 7 + (old &&& (2 ^ 7 - 2))))
    let h2 := endPend h1 c ST_SOL_MODE 0
    let h3 := if h2.held c then h2 else solOff h2 c
    showSol ((h3.setSol c { h3.sol c with code := 0, lastV := 0, devSince := none }).put F.SOL_STATUS_COIL_HOT 0 c) c

/-- SOL_ENABLE: the owner of the port writes SOL_CFG with ENABLE = 1. -/
def execSolEnable (dt : Nat) (hart : Fin 19) (c : Fin 48) (v : Word) (s : State) : Out :=
  run dt s fun h => if h.byOwner hart c then solEnable h c v.toNat else h

/-- SOL_DISABLE: the owner of the port writes SOL_CFG with ENABLE = 0. -/
def execSolDisable (dt : Nat) (hart : Fin 19) (c : Fin 48) (v : Word) (s : State) : Out :=
  run dt s fun h => if h.byOwner hart c then solDisable h c v.toNat else h

/-! ## Profiles and ring currents -/

/-- The blocks of a profile image. -/
def profBlocks (img : List Byte) (n : Nat) : List (List Byte) := (List.range n).map (fun i => slice img (16 + 80 * i) 80)

/-- No number occurs twice in a list. -/
def distinct : List Nat → Bool
  | [] => true
  | x :: xs => !xs.contains x && distinct xs

/-- Why a profile image is refused, or ST_OK (R420, R421). -/
def profCheck (h : Hw) (p : Nat) (img : List Byte) (len : Nat) : Nat :=
  let n := fld img 2 2
  let bs := profBlocks img n
  firstBad [
    (decide (16 ≤ len) && fld img 0 2 == 1 && decide (1 ≤ n) && decide (n ≤ 64) && allZero (slice img 4 12)
      && len == 16 + 80 * n && bs.all solProfOk && distinct (bs.map (fun b => fld b 0 1)), ST_SOL_PROF_INVALID),
    (bs.all (fun b => match mget h.vlv.profs (fld b 0 1) with | some (q, _) => q == p | none => true), ST_SOL_PROFILE)]

/-- Stores a profile block for a partition and shows it in SOL_PROF_INFO. -/
def profStore (p : Nat) (h : Hw) (b : List Byte) : Hw :=
  let n := fld b 0 1
  { h with vlv := { h.vlv with profs := mset h.vlv.profs n (p, b) } }.setReg (F.SOL_PROF_INFO_OWNER.at n 0)
    (BitVec.ofNat 32 (p + 2 ^ 3 + profN b * 2 ^ 4))

/-- SOLPROF: loads profiles, all or none (R421). -/
def execSolprof (dt id : Nat) (s : State) : Out :=
  run dt s fun h => h.onOp id 12 1 fun f =>
    let a := fld f.desc 8 8
    let len := fld f.desc 16 4
    h.engRead f [(a, len)] fun h1 =>
      let img := h1.rd a len
      let st := profCheck h1 f.part img len
      let h2 := if st = ST_OK then (profBlocks img (fld img 2 2)).foldl (profStore f.part) h1 else h1
      h2.finish f st h2.tb

/-- SOLCUR: all entries take effect together (R422). -/
def execSolcur (dt id : Nat) (s : State) : Out :=
  run dt s fun h => h.onOp id 12 2 fun f =>
    let h1 := (setEntries f.desc).foldl (fun g e =>
      let c := e % 256
      if solOn g c && solMode g c == 2 then solCode g c (e / 256 % 4096) else g) h
    h1.finish f ST_OK h1.tb

/-! ## Running profiles -/

/-- The time of a PEAK phase is judged as not reached (R429): TTP_LONG, with R430's effect; the time it took at detection is
what is reported. -/
def ttpFail (h : Hw) (c us : Nat) (short : Bool) (t : Nat) : Hw :=
  let h1 := ((h.put (if short then F.SOL_FAULT_TTP_SHORT else F.SOL_FAULT_TTP_LONG) 1 c).bump F.SOL_CNT_COUNT 2).log 0x0803 c true
  let h2 := ((h1.put F.SOL_TTP_LAST_TIME (satN 16 us) c).put F.SOL_TTP_LAST_VALID 1 c).setSol c { h1.sol c with ttpDone := true }
  if bit (h.sol c).cfg 7 then solOffAt h2 c t else h2

/-- A running PEAK phase checks its time to peak, and has not been judged yet. -/
def ttpOpen (h : Hw) (c : Nat) : Bool :=
  let x := h.sol c
  x.out == 3 && phKind x.prof x.phase == 1 && phTtp x.prof x.phase && x.ttpMax != 0 && !x.ttpDone

/-- The current of a PEAK phase reaches TARGET at a time: the time to peak is judged (R429, R430). -/
def ttpReached (h : Hw) (c t : Nat) : Hw :=
  let x := h.sol c
  let us := (t - x.phaseAt) / 1000
  if us < 10 * x.ttpMin then ttpFail h c us true t
  else ((h.put F.SOL_TTP_LAST_TIME (satN 16 us) c).put F.SOL_TTP_LAST_VALID 1 c).setSol c { x with ttpDone := true }

/-- The running phase ends at a time: the next begins, or the profile ends (R415, R416). -/
def phaseNext (h : Hw) (c t : Nat) : Hw :=
  let x := h.sol c
  if x.phase + 1 < profN x.prof then showSol (h.setSol c { x with phase := x.phase + 1, phaseAt := t, dithAt := t, ttpDone := false }) c
  else solOffAt h c t

/-- PHASE_END: the running phase reaches its DURATION, or a PEAK phase its TARGET (`peak`), which also judges a time to peak
still open (R415, R429). -/
def execPhaseEnd (dt : Nat) (c : Fin 48) (peak : Bool) (s : State) : Out :=
  run dt s fun h =>
    let x := h.sol c
    if x.out ≠ 3 then h
    else
      let dur := phDur x.prof x.phase
      let past := decide (dur ≠ 0) && decide (x.phaseAt + dur ≤ h.now)
      if peak && phKind x.prof x.phase == 1 && (!past || decide (x.phaseAt + dur = h.now)) then
        let h1 := if ttpOpen h c then
            (if x.phaseAt + 10000 * x.ttpMax < h.now then ttpFail h c ((h.now - x.phaseAt) / 1000) false h.now
             else ttpReached h c h.now)
          else h
        if (h1.sol c).out = 3 then phaseNext h1 c h.now else h1
      else if past then
        let e := x.phaseAt + dur
        let h1 := if ttpOpen h c then ttpFail h c (min dur (10000 * x.ttpMax) / 1000) false e else h
        if (h1.sol c).out = 3 then phaseNext h1 c e else h1
      else h

/-- OFFTIME_END: the minimum off-time has passed; a waiting start begins or is refused (R425, R427). -/
def execOfftimeEnd (dt : Nat) (c : Fin 48) (s : State) : Out :=
  run dt s fun h =>
    let x := h.sol c
    if x.out ≠ 3 ∧ x.offEnd ≤ h.now then showSol (solDeferredStart h c) c else h

/-- TIME_TO_PEAK: a checked PEAK phase reaches TARGET, or MAX passes without it (R429, R430). -/
def execTimeToPeak (dt : Nat) (c : Fin 48) (reached : Bool) (s : State) : Out :=
  run dt s fun h =>
    let x := h.sol c
    if !ttpOpen h c then h
    else if reached then ttpReached h c h.now
    else if x.phaseAt + 10000 * x.ttpMax ≤ h.now then ttpFail h c (10 * x.ttpMax) false h.now
    else h

/-! ## Faults -/

/-- SOL_OVERCURRENT: more than 12.0 A for 2 µs (R431). -/
def execSolOvercurrent (dt : Nat) (c : Fin 48) (s : State) : Out :=
  run dt s fun h =>
    if (h.sol c).out = 0 then h
    else
      let h1 := ((h.put F.SOL_FAULT_OVERCURRENT 1 c).bump F.SOL_CNT_COUNT 3).log 0x0801 c
      solOff h1 c

/-- What SOL_FAULT_DETECT finds: a short to battery, an open load, or a regulation error (Table 08.7). -/
def execSolFaultDetect (dt : Nat) (c : Fin 48) (kind : SolFaultKind) (s : State) : Out :=
  run dt s fun g =>
    let h := showSol g c
    let x := h.sol c
    let code := h.get F.SOL_CURRENT_CODE c
    match kind with
    | .shortBat =>
      if code ≠ 0 ∨ x.shortBat then h
      else showSol (((h.setSol c { x with shortBat := true }).put F.SOL_FAULT_SHORT_BAT 1 c).log 0x0802 c true) c
    | .openLoad =>
      if code < 256 ∨ x.openNow then h
      else showSol (((h.setSol c { x with openNow := true }).put F.SOL_FAULT_OPEN 1 c).log 0x0802 c true) c
    | .regErr =>
      if (x.out = 3 ∧ phKind x.prof x.phase = 0) ∨ x.out = 1 ∨ x.out = 2 then h.put F.SOL_FAULT_REG_ERR 1 c else h

/-- SOL_FAULT_ENDS: a short to battery or an open load is no longer present. -/
def execSolFaultEnds (dt : Nat) (c : Fin 48) (kind : SolFaultKind) (s : State) : Out :=
  run dt s fun h =>
    let x := h.sol c
    match kind with
    | .shortBat => showSol (h.setSol c { x with shortBat := false }) c
    | .openLoad => showSol (h.setSol c { x with openNow := false }) c
    | .regErr => h

/-- DRV_HOT: the driver's junction reaches 170 °C, or falls below 150 °C (Table 08.7). -/
def execDrvHot (dt : Nat) (c : Fin 48) (hot : Bool) (s : State) : Out :=
  run dt s fun h =>
    let x := h.sol c
    if hot then
      if x.drvHot then h
      else
        let h1 := ((h.setSol c { x with drvHot := true }).put F.SOL_FAULT_DRV_HOT 1 c).log 0x0804 c
        if x.out = 3 then solOff h1 c else showSol h1 c
    else showSol (h.setSol c { x with drvHot := false }) c

/-- CLAMP_LIMIT: the clamp energy of a decay, or the mean clamp power, reaches its limit (R411). -/
def execClampLimit (dt : Nat) (c : Fin 48) (s : State) : Out :=
  run dt s fun h => (h.put F.SOL_FAULT_CLAMP_LIMIT 1 c).log 0x0807 c true

/-! ## Oil temperature and coil model -/

/-- The oil temperature from its source (R433); a source without a sample yet gives an open value. -/
def oilTemp (h : Hw) : Int × Bool × Hw :=
  let fixed := h.getS F.SOL_OIL_CFG_FIXED
  let idx := h.get F.SOL_OIL_CFG_IDX
  let src := match h.get F.SOL_OIL_CFG_SRC with | 1 => 1 | 2 => if idx < 16 then 5 else 0 | _ => 0
  if src = 0 ∨ srcFault h src idx h.tb then (fixed, true, h)
  else match srcSample h src idx (h.tb + 1) with
    | some (_, raw) =>
      let q := qadd (mkQ (raw.num * h.get F.SOL_OIL_SCALE_GAIN) 4096) (qi (h.getS F.SOL_OIL_SCALE_OFS))
      (satI 16 (qtrunc q), false, h)
    | none => (let (v, g) := h.fresh
               (sx 16 v, false, g))

/-- OIL_TEMP_UPDATE: once per millisecond (R433). -/
def execOilTempUpdate (dt : Nat) (s : State) : Out :=
  run dt s fun h =>
    let ms := h.now / 1000000
    if h.vlv.oilMs = some ms then h
    else
      let (t, fixed, h1) := oilTemp h
      ({ h1 with vlv := { h1.vlv with oilMs := some ms } }.putS F.SOL_OIL_TEMP_T_OIL t).put F.SOL_OIL_TEMP_FIXED_USED (b2n fixed)

/-- The coil estimate after a step (R434), and the temperature measured in it. -/
def coilStep (h : Hw) (c duty vf i irms : Nat) : Q × Option Q :=
  let t := (h.sol c).temp
  let alpha : Q := mkQ 393 100000
  let r20 : Q := mkQ (h.get F.SOL_COIL_R_R25 c : Nat) 1000
  let rth : Q := mkQ (h.get F.SOL_COIL_TH_RTH c : Nat) 100
  let tau : Q := mkQ (h.get F.SOL_COIL_TH_TAU c : Nat) 10
  let oil : Q := mkQ (h.getS F.SOL_OIL_TEMP_T_OIL) 10
  let ir : Q := mkQ (irms : Nat) 1000
  let pw := qmul (qmul (qmul ir ir) r20) (qadd (qi 1) (qmul alpha (qsub t (qi 20))))
  let t1 := qadd t (qdiv (qmul (qsub (qmul pw rth) (qsub t oil)) (mkQ 1 1000)) tau)
  if solIfs h c ≤ 10 * i ∧ 50000 ≤ duty ∧ duty ≤ 950000 then
    let rm := qsub (mkQ ((duty * vf : Nat) : Int) (1000000 * i)) (mkQ 1 10)
    let tm := qadd (qi 20) (qdiv (qsub (qdiv rm r20) (qi 1)) alpha)
    (qadd t1 (qdiv (qsub tm t1) (qi 16)), some tm)
  else (t1, none)

/-- THERMAL_MODEL_STEP: the 1 ms step of an enabled channel, with its mean duty in ppm, feed voltage in mV, and mean and rms
currents in mA (R434 to R441, R446). -/
def execThermalModelStep (dt : Nat) (c : Fin 48) (duty vf i irms : Nat) (s : State) : Out :=
  run dt s fun h =>
    let ms := h.now / 1000000
    if !solOn h c || (h.sol c).stepMs == some ms then h
    else
      let (t, tm) := coilStep h c duty vf i irms
      let h1 := solTake h c
      let x := h1.sol c
      let far := match tm with
        | some m => qlt (qi 25) (qsub m t) || qlt (qi 25) (qsub t m)
        | none => false
      let h2 := h1.setSol c { x with temp := t, stepMs := some ms,
                                     devSince := if far then some (x.devSince.getD h.now) else none }
      let (mv, h3) := match tm with
        | some m => (let (r, g) := h2.openRound (qmul (qi 10) m)
                     (satI 16 r, g))
        | none => (-32768, h2)
      showSol (showTemp (solModel (solHot (h3.putS F.SOL_TEMP_T_MEAS mv c) c) c) c) c

end Sys2Proof.Machine
end

