-- ==== Sys2Proof/Machine/Waggle.lean ====
section
/-!
DEFINITION. Waggle (chapter 02): the discipline of the timebase, edges and updates of angle domains, the firing of event slots
in the order of R106 and R107, and arming and disarming. Readings: log entry 16.
-/
namespace Sys2Proof.Machine

/-! ## Firing -/

/-- The class of an action in the order of R107: stop, neutral, start (Table 02.5). -/
def actionClass (a : Nat) : Nat := if a = 3 ∨ a = 5 then 0 else if a = 2 ∨ a = 4 then 2 else 1

/-- Carries out an action; the answer is the status of its completion, or none where the completion comes later
(Table 02.5, R114). -/
def runAction (h : Hw) (f : Fire) : Hw × Option Nat :=
  match sAction f.raw with
  | 1 => imgExpose h f
  | 2 => winOpenEv h f
  | 3 => winCloseEv h f
  | 4 => solStartEv h f
  | 5 => solStopEv h f
  | 6 => snapEv h f
  | 7 => canSendEv h f
  | _ => (h, some ST_OK)

/-- Issues one firing due at an instant given in half nanoseconds: at most one action every 2.5 ns, LATE at 20 ns or
more (R108, R109), then the action and its completion. -/
def issueFire (h : Hw) (f : Fire) (due2 : Nat) : Hw :=
  let at2 := max due2 (h.wgl.last2 + 5)
  let late := decide (due2 + 40 ≤ at2) || decide (due2 + 40 ≤ 2 * h.wgl.tb)
  let h1 := { h with wgl := { h.wgl with last2 := at2 } }
  let h2 := if late then (h1.bump F.WGL_CNT_COUNT 2).log 0x0206 0xFFFF true else h1
  let g := { f with late := late }
  let r := runAction h2 g
  match r.2 with
  | some st => r.1.fireCpl g st 0
  | none => r.1

/-- Counts a firing of a slot: index k becomes the next, and after COUNT firings the slot disarms itself (R93). -/
def countFire (h : Hw) (n : Nat) (s : Slot) (k' : Nat) : Hw :=
  if sCount s.raw ≠ 0 ∧ sCount s.raw ≤ s.fired + 1 then h.delSlot n
  else h.setSlot n { s with k := k', fired := s.fired + 1 }

/-- A firing of slot n with index k. -/
def mkFire (h : Hw) (n : Nat) (s : Slot) (k tov dir : Nat) (catchup : Bool) : Fire :=
  ⟨n, s.raw, s.part, s.cplRing, s.quiet, k, h.slotPos s.raw k, tov, dir, catchup, false⟩

/-- Rank of two firings of one move: position in the direction of the move, then class, then slot number (R107). -/
def fireLe (up : Bool) (x y : Int × Nat × Nat × Nat) : Bool :=
  if x.1 = y.1 then (if x.2.1 = y.2.1 then decide (x.2.2.1 ≤ y.2.2.1) else decide (x.2.1 ≤ y.2.1))
  else if up then decide (x.1 < y.1) else decide (y.1 < x.1)

/-- The firings a move of a domain from one position to another passes: position, class, slot and index. -/
def passed (h : Hw) (i : Nat) (old new : Int) : List (Int × Nat × Nat × Nat) :=
  let rot := h.domRotary i
  let up := decide (old ≤ new)
  sortBy (fireLe up) ((h.wgl.slots.filter (fun x => sDomain x.2.raw == i)).flatMap (fun (n, s) =>
    let lo := if up then s.k else max s.kmin (slotBelow rot (h.slotBase s.raw) (sRepeat s.raw) new)
    let hi := if up then slotBelow rot (h.slotBase s.raw) (sRepeat s.raw) new
              else if sBidir s.raw then min s.k (slotBelow rot (h.slotBase s.raw) (sRepeat s.raw) old) else 0
    (List.range (hi - lo)).map (fun j => (h.slotPos s.raw (lo + j), actionClass (sAction s.raw), n, lo + j))))

/-- Fires the passed events of a move one after another with CATCHUP (R83). -/
def fireAll (h : Hw) (dir : Nat) : List (Int × Nat × Nat × Nat) → Hw
  | [] => h
  | (_, _, n, k) :: r =>
    match h.slot n with
    | none => fireAll h dir r
    | some s =>
      let f := mkFire h n s k h.wgl.tb dir true
      fireAll (issueFire (countFire h n s (if dir = 0 then k + 1 else k)) f (2 * h.wgl.tb)) dir r

/-- The next firing of a slot that is due for issue: the issue instant, the class, the slot and its firing
(R86, R90, R91, R96, R106). -/
def dueFire (h : Hw) (n : Nat) (s : Slot) : Option (Int × Nat × Nat × Fire × Nat) :=
  let t : Int := h.wgl.tb
  let lead : Int := sLead s.raw
  let oneDone := sRepeat s.raw == 0 && decide (1 ≤ s.k)
  let cls := actionClass (sAction s.raw)
  if sDomain s.raw = 31 then
    let c := h.slotPos s.raw s.k
    if !oneDone && decide (c ≤ t + lead) then some (c - lead, cls, n, mkFire h n s s.k c.toNat 0 false, s.k + 1) else none
  else
    let p := (h.dom (sDomain s.raw)).p
    if p.state = 2 ∧ !oneDone ∧ h.slotPos s.raw s.k ≤ p.at (t + lead) then
      let c := firstTime (fun u => decide (h.slotPos s.raw s.k ≤ p.at u)) 63 p.te
      some (c - lead, cls, n, mkFire h n s s.k c.toNat 0 false, s.k + 1)
    else if p.state = 3 ∧ sBidir s.raw ∧ s.kmin < s.k ∧ p.at (t + lead) < h.slotPos s.raw (s.k - 1) then
      let c := firstTime (fun u => decide (p.at u < h.slotPos s.raw (s.k - 1))) 63 p.te
      some (c - lead, cls, n, mkFire h n s (s.k - 1) c.toNat 1 false, s.k - 1)
    else none

/-- The earlier of two firings: issue time, then class, then slot number (R106, R107). -/
def dueLe (x y : Int × Nat × Nat × Fire × Nat) : Bool :=
  if x.1 = y.1 then (if x.2.1 = y.2.1 then decide (x.2.2.1 ≤ y.2.2.1) else decide (x.2.1 ≤ y.2.1)) else decide (x.1 < y.1)

/-- The firing to issue first among some of the slots (R106, R107). -/
def firstOf (h : Hw) (pick : Nat × Slot → Bool) : Option (Int × Nat × Nat × Fire × Nat) :=
  (sortBy dueLe ((h.wgl.slots.filter pick).filterMap (fun (n, s) => dueFire h n s))).head?

/-- The firing to issue first (R106, R107). -/
def firstDue (h : Hw) : Option (Int × Nat × Nat × Fire × Nat) := firstOf h (fun _ => true)

/-- Issues, in their order, the firings of a domain that are due when its position is about to move: the prediction has reached them, so
the move does not pass them (R83, R86). -/
def issueDue (i : Nat) : Nat → Hw → Hw
  | 0, h => h
  | m + 1, h =>
    match firstOf h (fun x => sDomain x.2.raw == i) with
    | some (t, _, n, f, k') =>
      match h.slot n with
      | some x => issueDue i m (issueFire (countFire (settleDom h i) n x k') f (2 * t.toNat))
      | none => h
    | none => h

/-- A domain's position moves at once, `hwm` being its high-water mark when its crossings were last counted: passed events fire in
position order with CATCHUP, the crossings since then that fired nothing are counted, and a forward move carries the high-water
mark along (R76, R83, R89, R92). -/
def domMove (h : Hw) (i : Nat) (old new hwm : Int) : Hw :=
  let x := h.dom i
  let n := suppressed h i x.acct old hwm + suppressed h i old new (max hwm old)
  let fires := passed h i old new
  let h1 := if n = 0 then h else h.bump F.WGL_CNT_COUNT 3 0 n
  let h2 := h1.setDom i { x with hwm := max (max hwm old) new, acct := new }
  fireAll h2 (if new < old then 1 else 0) fires

/-! ## Edges and updates -/

/-- An edge of a pulse-fed domain in a direction (on_edge of R81). -/
def domEdge (g : Hw) (i : Nat) (d : Int) : Hw :=
  let h := issueDue i 4096 g
  let x := h.dom i
  let t : Int := h.wgl.tb
  let rot := h.domRotary i
  let n := h.domDiv i
  let old := h.domPos i
  let hwm := x.hwm
  let (rev, k) := stepIndex rot n x.rev x.idx d
  let pe := edgePos rot n rev k
  let mixed := x.mixed || (x.cnt != 0 && x.cntDir != d)
  let y := { x with rev := rev, idx := k, cnt := x.cnt + d, cntDir := d, mixed := mixed, lastAt := h.now, tLast := t }
  let turned := x.n != 0 && x.p.d != d
  let h0 := if turned then h.log 0x0202 i else h
  let h1 := h0.put F.WGL_DOM_STATUS_DIR (if d < 0 then 1 else 0) i
  if x.p.state = 4 ∨ x.n = 0 ∨ x.p.d ≠ d then
    let h2 := ((h1.setDom i { y with n := 1 }).newPred i (heldPred 1 pe t d)).put F.WGL_DOM_PERIOD_PERIOD 0 i
    domMove h2 i old pe hwm
  else
    let per := (t - x.tLast).toNat
    let s := (pe - x.p.pe).natAbs
    let vavg := mkQ s per
    let amaxU : Q := if rot then mkQ (h.get F.WGL_DOM_AMAX_AMAX i * 2 ^ 24 : Nat) (10 ^ 18)
                     else mkQ (h.get F.WGL_DOM_AMAX_AMAX i * 1000 : Nat) (10 ^ 18)
    let a := if x.n ≥ 2 ∧ h.flag F.WGL_DOM_CFG_ACC_EN i
      then qclamp (qdiv (qsub vavg x.vavg) (mkQ (per + x.per : Nat) 2)) (qneg amaxU) amaxU else qi 0
    let v := qadd vavg (qdiv (qmul a (qi per)) (qi 2))
    let (rev2, k2) := stepIndex rot n rev k d
    let snext := (edgePos rot n rev2 k2 - pe).natAbs
    let h2 := ((h1.setDom i { y with n := x.n + 1, per := per, vavg := vavg }).newPred i
      ⟨if d > 0 then 2 else 3, pe, t, d, v, a, snext, none⟩).put F.WGL_DOM_PERIOD_PERIOD (satN 32 per) i
    domMove h2 i old pe hwm

/-- The direction of an edge under WGL_DOM_CFG.DIR, given the level of the partner or direction input (Table 02.2). -/
def edgeDir (h : Hw) (i : Nat) (level : Bool) : Int :=
  if (h.get F.WGL_DOM_CFG_DIR i = 1 ∨ h.get F.WGL_DOM_CFG_DIR i = 2) ∧ level then -1 else 1

/-- An index pulse of a rotary domain with IDX_EN (R76, R77). -/
def domIndex (g : Hw) (i : Nat) : Hw :=
  let h := issueDue i 4096 g
  let x := h.dom i
  let t : Int := h.wgl.tb
  let n := h.domDiv i
  let old := h.domPos i
  let hwm := x.hwm
  let frac := old % 2 ^ 32
  let rev := if frac ≤ 2 ^ 31 then old / 2 ^ 32 else old / 2 ^ 32 + 1
  let new := rev * 2 ^ 32
  let wrong := x.counting && !x.mixed && x.cnt.natAbs != n
  let h1 := if wrong then (h.put F.WGL_DOM_STATUS_IDX_ERR 1 i).log 0x0203 i else h
  let p := x.p
  let (rev2, k2) := stepIndex true n rev 0 p.d
  let p' : Pred := if p.state = 2 ∨ p.state = 3
    then { p with pe := new, te := t, v := qmax (qi 0) (qadd p.v (qmul p.a (qi (t - p.te)))),
                  snext := (edgePos true n rev2 k2 - new).natAbs, hold := none }
    else { p with pe := new }
  let h2 := (h1.setDom i { x with rev := rev, idx := 0, cnt := 0, mixed := false, counting := true }).newPred i p'
  domMove (h2.put F.WGL_DOM_STATUS_IDX_SEEN 1 i) i old new hwm

/-- Applies a fusion update to its domain (R84, R85); `level` is the direction input where DIR is 2. -/
def domUpdate (g : Hw) (i : Nat) (u : Upd) (level : Bool) : Hw :=
  let h := issueDue i 4096 g
  let x := h.dom i
  let t : Int := h.wgl.tb
  let old := h.domPos i
  let hwm := x.hwm
  let d : Int := match h.get F.WGL_DOM_CFG_DIR i with
    | 2 => if level then -1 else 1
    | 3 => if u.vel.num > 0 then 1 else if u.vel.num < 0 then -1 else if x.n = 0 then 1 else x.p.d
    | _ => 1
  let amaxU : Q := mkQ (h.get F.WGL_DOM_AMAX_AMAX i * 1000 : Nat) (10 ^ 18)
  let a := if h.flag F.WGL_DOM_CFG_ACC_EN i then qclamp u.acc (qneg amaxU) amaxU else qi 0
  let start := x.p.state = 4 ∨ x.n = 0 ∨ x.p.d ≠ d
  let run : Pred := ⟨if d > 0 then 2 else 3, u.pos, u.tov, d, qmul (qi d) u.vel, qmul (qi d) a, h.domDiv i, none⟩
  let there := if start then u.pos else run.at t
  let behind := decide (d * there < d * old) && decide (0 < d * u.vel.num)
  let p : Pred := if start then heldPred 1 (if behind then old else u.pos) t d
    else { run with hold := if behind then some old else none }
  let h0 := if x.n != 0 && x.p.d != d then h.log 0x0202 i else h
  let per := if start then 0 else (u.tov - x.tLast).toNat
  let h1 := ((h0.put F.WGL_DOM_STATUS_DIR (if d < 0 then 1 else 0) i).setDom i
    { x with n := if start then 1 else x.n + 1, tLast := u.tov, lastAt := h.now }).newPred i p
  domMove (h1.put F.WGL_DOM_PERIOD_PERIOD (satN 32 per) i) i old (p.at t) hwm

/-! ## Commands on the timebase -/

/-- The discipline state while no PPS is measured (Table of WGL_STATUS, R64). -/
def discIdle (h : Hw) : Hw :=
  if !h.flag F.WGL_CTRL_DISC_EN then h.put F.WGL_STATUS_DISC 0
  else if h.get F.WGL_STATUS_DISC = 1 then h.put F.WGL_STATUS_DISC 0 else h

/-- PPS_EDGE: the newest internal PPS edge of the solution in force, once its instant has come (R603); while discipline is enabled
and the PPS is valid the offset d_c − s is reported and the rate changes towards it within WGL_SLEW_MAX (R63, R64, R605). The
size of the correction is not given and stays open. -/
def execPpsEdge (dt : Nat) (s : State) : Out :=
  run dt s fun h =>
    match ppsDue h with
    | none => h
    | some (g, te) =>
      let h0 := { h with gns := { h.gns with lastSec := some g } }
      if h.flag F.WGL_CTRL_DISC_EN && h.flag F.GNS_CLK_STATUS_PPS_VALID then
        let near : Int := (te + 500000000) / 1000000000 * 1000000000
        let off := qsub (mkQ (h.get F.GNS_CABLE_DELAY) 2) (qi (te - near))
        let (x, h1) := h0.fresh
        let (shown, h2) := h1.openRound off
        let mag : Int := (x % (h.get F.WGL_SLEW_MAX_SLEW + 1) : Nat)
        let corr := if off.num > 0 then mag else if off.num < 0 then -mag else 0
        let good := if qlt (qi (-100)) off && qlt off (qi 100) then h.wgl.good + 1 else 0
        ({ h2 with wgl := { h2.wgl with corr := corr, good := good } }.putS F.WGL_PPS_OFFSET_OFFSET (satI 32 shown)).put
          F.WGL_STATUS_DISC (if good ≥ 10 then 2 else 1)
      else h0

/-- HOLDOVER_ENTRY: the valid PPS has stopped; from locked, Waggle enters holdover and keeps its correction (R65);
from acquiring it is no longer acquiring (R64). -/
def execHoldoverEntry (dt : Nat) (s : State) : Out :=
  run dt s fun h =>
    if h.flag F.GNS_CLK_STATUS_PPS_VALID then h
    else if h.get F.WGL_STATUS_DISC = 2 then
      ({ h with wgl := { h.wgl with good := 0, holdAt := h.now } }.put F.WGL_STATUS_DISC 3).log 0x0205
    else discIdle { h with wgl := { h.wgl with good := 0 } }

/-! ## Commands on domains -/

/-- The values of WGL_DOM_CFG that R122 refuses together with a TYPE other than 0. -/
def domCfgBad (v : Nat) : Bool :=
  let ty := bits v 1 0
  let src := bits v 3 2
  let dir := bits v 5 4
  ty == 3 || decide (2 ≤ src) || (src == 1 && ty == 1) || (dir == 1 && (bits v 13 8 % 2 == 1 || src == 1))
    || (dir == 3 && src == 0) || decide (39 < bits v 13 8) || (bit v 14 && decide (39 < bits v 21 16))

/-- The bits of WGL_DOM_CFG that are not reserved. -/
abbrev domCfgMask : Nat := 0x7F3F7F7F

/-- The completion fields of the end of a slot: the P(k) and k it would have fired next, for a bidirectional slot in the direction
its domain last travelled (R105). -/
def endFire (h : Hw) (n : Nat) (s : Slot) : Fire :=
  let back := sBidir s.raw && decide ((h.dom (sDomain s.raw)).p.d < 0) && decide (s.kmin < s.k)
  let k := if back then s.k - 1 else s.k
  ⟨n, s.raw, s.part, s.cplRing, s.quiet, k, h.slotPos s.raw k, h.tb, 0, false, false⟩

/-- Completes and disarms every slot armed in a domain (R103). -/
def slotsDomainOff (h : Hw) (i : Nat) : Hw :=
  (h.wgl.slots.filter (fun x => sDomain x.2.raw == i)).foldl
    (fun g (n, s) => (g.fireCpl (endFire h n s) ST_EVENT_DOMAIN_OFF 0).delSlot n) h

/-- A write to WGL_DOM_CFG that R122 accepts. -/
def domCfgApply (h : Hw) (i v : Nat) : Hw :=
  let was := h.get F.WGL_DOM_CFG_TYPE i
  if v % 4 = 0 then
    let h1 := if was = 0 then h else
      let g := slotsDomainOff (settleDom h i) i
      let x := g.dom i
      winDomainOff ((g.newPred i (heldPred 0 (g.domPos i) g.wgl.tb x.p.d)).put F.WGL_DOM_PERIOD_PERIOD 0 i) i
    h1.setReg (F.WGL_DOM_CFG_TYPE.at i 0) (BitVec.ofNat 32 (v &&& domCfgMask))
  else
    let h1 := h.setReg (F.WGL_DOM_CFG_TYPE.at i 0) (BitVec.ofNat 32 (v &&& domCfgMask))
    let h2 := h1.setDom i { domOff with hist := (h.dom i).hist, lastAt := h.now }
    ((h2.newPred i (heldPred 1 0 h.wgl.tb 1)).put F.WGL_DOM_STATUS_IDX_SEEN 0 i).put F.WGL_DOM_STATUS_DIR 0 i

/-- A write of WGL_DOM_CFG or WGL_DOM_DIV through partition 0's view (R122). -/
def domCfgWrite (h : Hw) (i : Nat) (div : Bool) (v : Nat) : Hw :=
  let off := h.get F.WGL_DOM_CFG_TYPE i == 0
  if div then (if off then h.put F.WGL_DOM_DIV_DIV (max 1 v) i else h)
  else if v % 4 = 0 then domCfgApply h i v
  else if off && !domCfgBad v then domCfgApply h i v else h

/-- DOMAIN_CFG_WRITE: a hart writes WGL_DOM_CFG (`div` false) or WGL_DOM_DIV of a domain; only partition 0's view
writes WGL registers. -/
def execDomainCfgWrite (dt : Nat) (hart : Fin 19) (i : Fin 16) (div : Bool) (v : Word) (s : State) : Out :=
  run dt s fun h => if h.byP0 hart then domCfgWrite h i div v.toNat else h

/-- DOMAIN_EDGE: a rising edge on the pulse input that feeds a domain; `level` is the partner or direction input. -/
def execDomainEdge (dt : Nat) (i : Fin 16) (level : Bool) (s : State) : Out :=
  run dt s fun h =>
    if h.get F.WGL_DOM_CFG_TYPE i ≠ 0 ∧ h.get F.WGL_DOM_CFG_SRC i = 0 then domEdge h i (edgeDir h i level) else h

/-- INDEX_EDGE: a rising edge on the index input of a domain; it has no effect in a linear domain (R76). -/
def execIndexEdge (dt : Nat) (i : Fin 16) (s : State) : Out :=
  run dt s fun h => if h.domRotary i && h.flag F.WGL_DOM_CFG_IDX_EN i then domIndex h i else h

/-- DOMAIN_STOP_TIMEOUT: no edge for the time in WGL_DOM_STOP (R79). -/
def execDomainStopTimeout (dt : Nat) (i : Fin 16) (s : State) : Out :=
  run dt s fun h =>
    let x := h.dom i
    if (x.p.state = 1 ∨ x.p.state = 2 ∨ x.p.state = 3) ∧ x.lastAt + 1000 * h.get F.WGL_DOM_STOP_TIMEOUT i ≤ h.now then
      let pos := h.domPos i
      ((settleDom h i).newPred i (heldPred 4 pos h.wgl.tb x.p.d)).log 0x0201 i
    else h

/-- FUSION_UPDATE_ARRIVAL: the ego-motion update sent first reaches a fusion-fed linear domain (R84, R539). -/
def execFusionUpdateArrival (dt : Nat) (i : Fin 16) (level : Bool) (s : State) : Out :=
  run dt s fun h =>
    match mgetD h.wgl.sent i [] with
    | [] => h
    | u :: r =>
      let h1 := { h with wgl := { h.wgl with sent := mset h.wgl.sent i r } }
      if h1.get F.WGL_DOM_CFG_TYPE i = 2 ∧ h1.get F.WGL_DOM_CFG_SRC i = 1 then
        if (h1.wgl.tb : Int) < u.tov then h1.setDom i { h1.dom i with held := (h1.dom i).held ++ [u] }
        else domUpdate h1 i u level
      else h1

/-- HELD_UPDATE_APPLY: a held update's time of validity has come (R84). -/
def execHeldUpdateApply (dt : Nat) (i : Fin 16) (level : Bool) (s : State) : Out :=
  run dt s fun h =>
    match (h.dom i).held with
    | u :: r => if u.tov ≤ (h.wgl.tb : Int) then domUpdate (h.setDom i { h.dom i with held := r }) i u level else h
    | [] => h

/-! ## Commands on slots -/

/-- EVENT_ISSUE: Waggle issues the action that is due first, if one is due and 2.5 ns have passed since the last
(R106 to R108). -/
def execEventIssue (dt : Nat) (s : State) : Out :=
  run dt s fun h =>
    match firstDue h with
    | some (t, _, n, f, k') =>
      match h.slot n with
      | some x =>
        if h.wgl.last2 + 5 ≤ 2 * h.wgl.tb + 1 then issueFire (countFire (settleDom h (sDomain x.raw)) n x k') f (2 * t.toNat) else h
      | none => h
    | none => h

/-- DEFERRED_VALVE_START: the profile that ran has ended and the off-time has passed; the waiting start begins (R112,
R114). -/
def execDeferredValveStart (dt : Nat) (c : Fin 48) (s : State) : Out :=
  run dt s fun h => solDeferredStart h c

/-- The slot lies in a partition's range (R87). -/
def slotOwned (h : Hw) (p n : Nat) : Bool :=
  decide (h.get F.WGL_SLOT_RANGE_BASE p ≤ n) && decide (n < h.get F.WGL_SLOT_RANGE_BASE p + h.get F.WGL_SLOT_RANGE_COUNT p)

/-- TARGET lies in its action's range and the bits of TARGET and PARAM that Table 02.5 does not name are 0. -/
def targetOk (r : List Byte) : Bool :=
  let t := sTarget r
  match sAction r with
  | 0 => true
  | 1 => decide (t < 16)
  | 2 => decide (t < 16)
  | 3 => decide (t < 16)
  | 4 => decide (t < 48) && decide (sParam r < 64)
  | 5 => decide (t < 48)
  | 6 => decide (t < 64)
  | 7 => decide (t < 0x1000) && decide (t % 256 < 128)
  | _ => false

/-- The target is a port, window, group or controller of the partition (R101). -/
def targetOwned (h : Hw) (p : Nat) (r : List Byte) : Bool :=
  let t := sTarget r
  match sAction r with
  | 1 => h.ownsPort p (296 + t)
  | 2 => winOwned h p t
  | 3 => winOwned h p t
  | 4 => h.ownsPort p t
  | 5 => h.ownsPort p t
  | 6 => snapOwned h p t
  | 7 => h.ownsPort p (280 + t / 256)
  | _ => true

/-- The fields of a slot record lie within Table 02.4 and Table 02.5, and its domain is not OFF (R101). -/
def slotFieldsOk (h : Hw) (r : List Byte) : Bool :=
  let dm := sDomain r
  decide (fld r 14 1 < 16) && decide (fld r 15 1 < 128) && (dm == 31 || decide (dm < 16)) && decide (sLead r ≤ 1000000)
    && (if dm != 31 && h.domRotary dm then decide (sRepeat r ≤ 4096) else decide (sRepeat r < 2 ^ 31))
    && targetOk r && (dm == 31 || h.get F.WGL_DOM_CFG_TYPE dm != 0)

/-- The checks of an arm for a partition, in the order of R101. -/
def armCheck (h : Hw) (p n : Nat) (r : List Byte) : Nat :=
  firstBad [(slotOwned h p n, ST_SLOT_NOT_OWNED), (slotFieldsOk h r, ST_BAD_DESCRIPTOR),
    (targetOwned h p r, ST_TARGET_NOT_OWNED)]

/-- Arms or replaces a slot (R95, R100, R102). A one-shot position already reached completes at once with
ST_EVENT_PASSED. -/
def armSlot (h : Hw) (p n : Nat) (r : List Byte) (cplRing : Nat) (quiet : Bool) (after : Option Nat) : Hw :=
  let dm := sDomain r
  let rot := dm != 31 && h.domRotary dm
  let mark : Int := if dm = 31 then h.wgl.tb else h.domHwm dm
  let k := slotBelow rot (h.slotBase r) (sRepeat r) mark
  let sl : Slot := ⟨r, k, k, 0, p, cplRing, quiet⟩
  if sRepeat r = 0 ∧ 1 ≤ k then
    ((settleSlot h n).delSlot n).fireCpl (endFire h n { sl with k := 0 }) ST_EVENT_PASSED 0 after
  else (settleDom (settleSlot h n) dm).setSlot n sl

/-- Disarms a slot with ST_EVENT_DISARMED (R103); nothing for a slot that is not armed. -/
def disarmSlot (h : Hw) (n : Nat) (after : Option Nat) : Hw :=
  match h.slot n with
  | some s => ((settleSlot h n).delSlot n).fireCpl (endFire h n s) ST_EVENT_DISARMED 0 after
  | none => h

/-- Runs a Waggle descriptor of an operation (byte 34, R98). -/
def onWaggleOp (h : Hw) (id op : Nat) (act : Flight → Hw) : Hw :=
  match h.flight id with
  | some f => if f.stage = 1 ∧ f.eng = 1 ∧ fld f.desc 34 1 = op then act f else h
  | none => h

/-- SLOT_ARM: an arm descriptor is checked and applied; its acceptance completion precedes any event completion
(R98 to R102). -/
def execSlotArm (dt id : Nat) (s : State) : Out :=
  run dt s fun h => onWaggleOp h id 1 fun f =>
    let n := fld f.desc 32 2
    let r := f.desc.take 32
    let st := armCheck h f.part n r
    let h1 := h.finish f st h.tb
    if st = ST_OK then armSlot h1 f.part n r (h.get F.RNG_CFG_CPL_RING f.ring) false (some f.id) else h1

/-- SLOT_DISARM: a disarm descriptor; only slot ownership is checked (R98, R103). -/
def execSlotDisarm (dt id : Nat) (s : State) : Out :=
  run dt s fun h => onWaggleOp h id 2 fun f =>
    let n := fld f.desc 32 2
    if slotOwned h f.part n then disarmSlot (h.finish f ST_OK h.tb) n (some f.id)
    else h.finish f ST_SLOT_NOT_OWNED h.tb

/-- The slot record in WGL_SLOT_DATA. -/
def slotData (h : Hw) : List Byte := (List.range 8).flatMap (fun j => leBytes 4 (h.get F.WGL_SLOT_DATA_DATA j))

/-- WGL_SLOT_CMD, judged as for partition 0 (R121): 1 arms, 2 reads, 3 disarms; other values do nothing. -/
def slotCmd (h : Hw) (op : Nat) : Hw :=
  let n := h.get F.WGL_SLOT_SEL_SLOT
  if op = 1 then
    let r := slotData h
    let st := armCheck h 0 n r
    let h1 := h.put F.WGL_SLOT_ST_STATUS st
    if st = ST_OK then armSlot h1 0 n r 0 true none else h1
  else if op = 0 then h
  else if !slotOwned h 0 n then h.put F.WGL_SLOT_ST_STATUS ST_SLOT_NOT_OWNED
  else if op = 2 then
    let r := match h.slot n with | some s => s.raw | none => zeros 32
    (List.range 8).foldl (fun g j => g.put F.WGL_SLOT_DATA_DATA (fld r (4 * j) 4) j) (h.put F.WGL_SLOT_ST_STATUS ST_OK)
  else disarmSlot (h.put F.WGL_SLOT_ST_STATUS ST_OK) n none

/-- SLOT_CMD_ARM: partition 0 writes WGL_SLOT_CMD with OP 1. -/
def execSlotCmdArm (dt : Nat) (hart : Fin 19) (s : State) : Out :=
  run dt s fun h => if h.byP0 hart then slotCmd h 1 else h

/-- SLOT_CMD_READ: partition 0 writes WGL_SLOT_CMD with OP 2. -/
def execSlotCmdRead (dt : Nat) (hart : Fin 19) (s : State) : Out :=
  run dt s fun h => if h.byP0 hart then slotCmd h 2 else h

/-- SLOT_CMD_DISARM: partition 0 writes WGL_SLOT_CMD with OP 3. -/
def execSlotCmdDisarm (dt : Nat) (hart : Fin 19) (s : State) : Out :=
  run dt s fun h => if h.byP0 hart then slotCmd h 3 else h

end Sys2Proof.Machine
end

