-- ==== Sys2Proof/Machine/Watchdog.lean ====
section
/-!
DEFINITION. The serial watchdog (R473 to R477, R829). Readings: log entry 26.
-/
namespace Sys2Proof.Machine

/-- Replaces the hub's state. -/
def setHub (h : Hw) (x : Hub) : Hw := { h with til := { h.til with hub := x } }

/-- A failure of the current period: FEED is cleared at once, counted and logged (R475). -/
def wdFail (h : Hw) : Hw :=
  let x := h.til.hub
  ((setHub h { x with feed := false, whole := false, failed := true }).bump F.LSW_WD_CNT_COUNT).log 0x0907

/-- The length of a watchdog period in ns. -/
def wdPeriod (h : Hw) : Nat := 1000000 * h.get F.LSW_WD_CFG_PERIOD

/-- WATCHDOG_PERIOD_START: the hub posts a new token for the next period (R473). -/
def execWatchdogPeriodStart (dt : Nat) (s : State) : Out :=
  run dt s fun h =>
    let x := h.til.hub
    if h.flag F.LSW_WD_CFG_EN && x.ended then
      let (t, h1) := h.fresh
      let h2 := setHub h1 { x with periodAt := x.periodAt + wdPeriod h, nAns := 0, answered := false, failed := false, ended := false,
                                   whole := x.feed }
      (h2.put F.LSW_WD_TOKEN_TOKEN (t % 65536)).put F.LSW_WD_TOKEN_SEQ ((h2.get F.LSW_WD_TOKEN_SEQ + 1) % 65536)
    else h

/-- WATCHDOG_PERIOD_END: a period without a correct answer fails; WD_RESET of them in a row reset the module (R475, R829). -/
def execWatchdogPeriodEnd (dt : Nat) (s : State) : Out :=
  run dt s fun h =>
    let x := h.til.hub
    if h.flag F.LSW_WD_CFG_EN && !x.ended && decide (x.periodAt + wdPeriod h ≤ h.now) then
      let h1 := if x.answered || x.failed then h else wdFail h
      let y := h1.til.hub
      let n := if x.answered then 0 else y.fails + 1
      let h2 := setHub h1 { y with ended := true, done := if y.whole && y.feed then y.done + 1 else 0, fails := n }
      let most := h.get F.PWR_RST_CFG_WD_RESET
      if most ≠ 0 ∧ most ≤ n then moduleReset h2 5 false else h2
    else h

/-- A write to LSW_WD_CFG: PERIOD is stored within 10 to 1,000 ms, and EN is 1 while the watchdog runs; an enable sets FEED and
begins the first period, number 0 (R473, R474). -/
def wdCfgWrite (h : Hw) (v : Nat) : Hw :=
  let was := h.flag F.LSW_WD_CFG_EN
  let h1 := (h.put F.LSW_WD_CFG_PERIOD (clampN (bits v 10 1) 10 1000)).put F.LSW_WD_CFG_EN (v % 2)
  if bit v 0 && !was then
    let (t, h2) := h1.fresh
    let h3 := setHub h2 { feed := true, whole := true, ended := false, periodAt := h.now }
    (h3.put F.LSW_WD_TOKEN_TOKEN (t % 65536)).put F.LSW_WD_TOKEN_SEQ 0
  else if !bit v 0 && was then setHub h1 {}
  else h1

/-- The right answer to a token: rotl16(token, 3) XOR 0x5A5A (R473). -/
def wdAnswer (t : Nat) : Nat := ((BitVec.ofNat 16 t).rotateLeft 3 ^^^ 0x5A5A#16).toNat

/-- WDANS: an answer is judged by its token and value and by the time of its fetch (R474, R475). -/
def execWdans (dt : Nat) (id : Nat) (s : State) : Out :=
  run dt s fun h => h.onOp id 12 4 fun f =>
    let x := h.til.hub
    let tok := fld f.desc 4 2
    let half := wdPeriod h / 2
    let fail (g : Hw) (st : Nat) : Hw := (if x.failed then g else wdFail g).finish f st g.tb
    let h1 := setHub h { x with nAns := x.nAns + 1 }
    if !h.flag F.LSW_WD_CFG_EN || x.ended then h.finish f ST_WD_WRONG h.tb
    else if tok ≠ h.get F.LSW_WD_TOKEN_TOKEN ∨ fld f.desc 6 2 ≠ wdAnswer tok then fail h1 ST_WD_WRONG
    else if f.since < x.periodAt + half ∨ 1 ≤ x.nAns then fail h1 ST_WD_WINDOW
    else (setHub h1 { h1.til.hub with answered := true, feed := true }).finish f ST_OK h.tb

end Sys2Proof.Machine
end

