-- ==== Sys2Proof/Machine/Yield.lean ====
section
/-!
DEFINITION. The commands of the yield unit (chapter 06). Readings: log entry 22.
-/
namespace Sys2Proof.Machine

/-- Takes the entries of a FILL in order: the status of the first refused and the number taken (R314, R315). A unit that does
not run has no paddle at the plate, and which of the two refusals an entry then gets is open. -/
def takeFills : List (Nat × Nat × Nat) → Nat → Nat → Hw → Nat × Nat × Hw
  | [], st, n, h => (st, n, h)
  | (ppos, fill, rho) :: es, st, n, h =>
    let e := elevHwm h
    let x := e + diff64 (sx 64 ppos) e + h.getS F.SFE_YLD_CAMSHIFT_SHIFT * 2 ^ 16
    let j := padAt h x
    let cur := h.yld.nextJ - 1
    if !yldOn h then
      let (v, h1) := h.fresh
      takeFills es (if st = ST_OK then (if v % 2 = 0 then ST_FILL_LATE else ST_FILL_RANGE) else st) n h1
    else if cur + 64 < j then takeFills es (if st = ST_OK then ST_FILL_RANGE else st) n h
    else if j < h.yld.nextJ ∧ !h.yld.pads.any (fun p => p.j == j) then
      takeFills es (if st = ST_OK then ST_FILL_LATE else st) n h
    else
      takeFills es st (n + 1) (h.setYld { h.yld with fills := h.yld.fills.filter (fun f => f.1 != j) ++ [(j, fill, rho)] })

/-- PADDLE_FILL: camera fill values for paddles (R314, R315). -/
def execPaddleFill (dt id : Nat) (s : State) : Out :=
  run dt s fun h => h.onOp id 11 2 fun f =>
    let es := (List.range (fld f.desc 1 1)).map (fun i =>
      (fld f.desc (8 + 12 * i) 8, fld f.desc (16 + 12 * i) 2, fld f.desc (18 + 12 * i) 2))
    let (st, n, h1) := takeFills es ST_OK 0 (yldAdvance h)
    (showPend h1).finish f st h.tb 0 n

/-- The points of a calibration block rise, and the unused ones are 0 (Table 06.8). -/
def calPoints (b : List Byte) : Nat → Bool
  | 0 => true
  | i + 1 =>
    let n := fld b 4 1
    (if n ≤ i then calPoint b i == (0, 0)
     else i == 0 || (decide ((calPoint b (i - 1)).1 < (calPoint b i).1) && decide ((calPoint b (i - 1)).2 ≤ (calPoint b i).2)))
    && calPoints b i

/-- A calibration block keeps to Table 06.8 (R318). -/
def calOk (b : List Byte) : Bool :=
  fld b 0 2 == 1 && fld b 2 2 != 0 && decide (2 ≤ fld b 4 1) && decide (fld b 4 1 ≤ 16) && fld b 5 1 == 0
    && decide (fld b 6 2 ≤ 4096) && decide (fld b 8 4 < fld b 12 4) && calPoints b 16

/-- CAL: loads a mass-flow calibration block or refuses it (R317 to R319). -/
def execCal (dt id : Nat) (s : State) : Out :=
  run dt s fun h => h.onOp id 11 3 fun f =>
    h.engRead f [(fld f.desc 8 8, 160)] fun h =>
    let b := h.rd (fld f.desc 8 8) 160
    if calOk b then
      ((h.setYld { h.yld with cal := calNow h, calNext := some (id, b) }).put F.SFE_YLD_STATUS_CAL 1).finish f ST_OK h.tb
    else h.finish f ST_CAL_INVALID h.tb

/-- WIDTH: a cut width from a ground position on; up to 16 wait (R335). -/
def execWidth (dt id : Nat) (s : State) : Out :=
  run dt s fun h => h.onOp id 11 4 fun f =>
    if 16 ≤ h.yld.widths.length then h.waitHead f
    else (h.setYld { h.yld with widths := h.yld.widths ++ [(sx 64 (fld f.desc 8 8), fld f.desc 16 2)] }).finish f ST_OK h.tb

/-- One converted record (Table 06.12): the yield record of an XN7200 record with index k and the speed sum before it. -/
def xnRecord (h : Hw) (r : List Byte) (k sum : Nat) : List Byte × Hw :=
  let d0 (s : Nat) := s * 25000 / 9
  let noMass := bit (fld r 20 2) 0
  let noMoist := bit (fld r 20 2) 1
  let (mo, h1) := if noMoist then (0xFFFF, h) else h.fitOpen 16 (10 * fld r 14 2 : Nat)
  let (wd, h2) := h1.fitOpen 16 (10 * fld r 18 2 : Nat)
  let (st, h3) := h2.fitOpen 32 (d0 (sum + fld r 16 2) - d0 sum : Nat)
  (leBytes 8 (d0 sum) ++ leBytes 8 (fld r 0 4 * 1000000000) ++ leBytes 4 (if noMass then 0 else fld r 12 2 * 100)
    ++ leBytes 2 mo ++ leBytes 2 wd ++ leBytes 4 st
    ++ leBytes 2 (4 * b2n noMass + 32 * b2n noMoist + 256 + 512) ++ leBytes 2 0 ++ leBytes 4 0 ++ leBytes 4 0 ++ leBytes 4 k
    ++ leBytes 4 0 ++ slice r 4 4 ++ slice r 8 4 ++ zeros 8, h3)

/-- Converts records in order until one whose TIME is not above its predecessor's (R339): the bytes, the number written, and
whether all were. -/
def xnConvert : List (List Byte) → Option Nat → Nat → Nat → Hw → List Byte × Nat × Bool × Hw
  | [], _, k, _, h => ([], k, true, h)
  | r :: rs, prev, k, sum, h =>
    if (match prev with | some t => decide (fld r 0 4 ≤ t) | none => false) then ([], k, false, h)
    else
      let (b, h1) := xnRecord h r k sum
      let (bs, n, ok, h2) := xnConvert rs (some (fld r 0 4)) (k + 1) (sum + fld r 16 2) h1
      (b ++ bs, n, ok, h2)

/-- CONVERT: XN7200 records to yield records (R337 to R339). -/
def execConvert (dt id : Nat) (s : State) : Out :=
  run dt s fun h => h.onOp id 11 5 fun f =>
    let d := f.desc
    let n := fld d 4 4
    let ps := if bit (fld d 0 1) 4 then sgPieces h (fld d 8 8) (fld d 24 2) else [(fld d 8 8, 32 * n)]
    h.engRead f ps fun h =>
    let src := gather h ps
    let dst := if bit (fld d 0 1) 5 then sgPieces h (fld d 16 8) (fld d 26 2) else [(fld d 16 8, 64 * n)]
    let rs := (List.range n).map (fun i => slice src (32 * i) 32)
    let (bs, k, ok, h1) := xnConvert rs none 0 0 h
    (scatter h1 dst bs).finish f (if ok then ST_OK else ST_XN7200_ORDER) h.tb 0 k

/-- The oldest paddle whose interval has ended and whose fill has arrived or waited long enough (R316). -/
def padReady (h : Hw) : Option Pad :=
  let done := h.yld.pads.filter (fun p => p.t1.isSome)
  let last := h.yld.nextJ - 2
  done.find? (fun p => h.yld.fills.any (fun f => f.1 == p.j) || decide (p.j + h.get F.SFE_YLD_FILL_WAIT ≤ last))

/-- Writes the record of a paddle: mass, flow, moisture, cut time and flags; the paddle falls in its bin (R320 to R332). Where
a value is not whole its rounding is open. -/
def padRecord (h : Hw) (p : Pad) : Hw :=
  let t1 := p.t1.getD 0
  let fill := (h.yld.fills.find? (fun f => f.1 == p.j)).map (·.2)
  let (m, fl0, h1) := padMass h p fill
  let (mi, h2) := h1.openRound m
  let (mass, h3) := h2.fitOpen 32 mi
  let (imp, h4) := match p.cal with
    | some b => (let (x, g) := h3.openRound (padImpulse b p)
                 g.fitOpen 32 x)
    | none => (0, h3)
  let (flow, h5) := if t1 ≤ p.t0 then (let (v, g) := h4.fresh
                                       (v % 2 ^ 32, g))
    else h4.fitOpen 32 (qfloor (qdiv (qmul m (qi 1000000)) (qi (t1 - p.t0 : Nat))))
  let extrap := match p.cal with | some b => decide (6 * fld b 12 4 < 5 * flow) | none => false
  let sh := h.getS F.SFE_YLD_MOIST_SHIFT_SHIFT * 2 ^ 16
  let ms := h.yld.moist.filter (fun x => decide (padPos h p.j - sh ≤ x.1) && decide (x.1 < padPos h (p.j + 1) - sh))
  let (moist, h6) := if ms.isEmpty then (none, h5)
    else (let (x, g) := h5.openRound (qdiv ((ms.map (·.2)).foldl qadd (qi 0)) (qi ms.length))
          let (v, g2) := g.fitOpen 16 x
          (some v, g2))
  let es := (histNow h :: h.yld.hist).reverse
  let (ct, past) := cutTime h es (h.get F.SFE_YLD_CFG_NSEG) (qi t1)
  let (cutT, h7) := h6.openRound ct
  let (cutD, h8) := h7.openRound (posAtHist 0 ct es)
  let flags := fl0 + b2n extrap + 16 * b2n past + 32 * b2n moist.isNone
  let calId := match p.cal with | some b => fld b 2 2 | none => 0
  let bs := leBytes 8 t1 ++ leBytes 8 (ux 64 (padPos h p.j)) ++ leBytes 8 (ux 64 cutT) ++ leBytes 8 (ux 64 cutD)
    ++ leBytes 4 imp ++ leBytes 4 mass ++ leBytes 2 (match fill with | some x => x.1 | none => 0xFFFF)
    ++ leBytes 2 (moist.getD 0xFFFF) ++ leBytes 4 flow ++ leBytes 2 flags ++ leBytes 2 calId
    ++ leBytes 4 (p.j - h.yld.firstJ).toNat ++ zeros 8
  let h9 := h8.setYld { h8.yld with pads := h8.yld.pads.filter (fun q => q.j != p.j), fills := h8.yld.fills.filter (fun f => f.1 != p.j) }
  let h10 := ((streamPut h9 3 (yldOwner h) bs t1).keepSample 512 h.tb flow).keepSample 513 h.tb (b2n (bit flags 2))
  let h11 := if extrap then h10.log 0x0605 0xFFFF true else h10
  let h12 := if past then h11.log 0x0604 0xFFFF true else h11
  showPend (binPaddle h12 (cutD / (h.get F.SFE_YLD_STEP_STEP : Int)) cutT.toNat mass moist flags calId flow)

/-- PADDLE_RECORD: a paddle that is ready gets its record (R316). -/
def execPaddleRecord (dt : Nat) (s : State) : Out :=
  run dt s fun h =>
    let h1 := yldAdvance h
    if yldOn h then (match padReady h1 with | some p => padRecord h1 p | none => h1) else h

/-- HISTORY_ENTRY: the ground domain or a segment domain has advanced by its resolution since the last entry, at most once
per 100 µs (R328). -/
def execHistoryEntry (dt : Nat) (s : State) : Out :=
  run dt s fun h =>
    let b := h.yld.base
    let e := histNow h
    let rot : Int := h.get F.SFE_YLD_RES_ROT * 2 ^ 16
    let moved := decide (b.g + h.get F.SFE_YLD_RES_GND * 1000 ≤ e.g)
      || (List.range (h.get F.SFE_YLD_CFG_NSEG)).any (fun i => decide (b.at (i + 1) + rot ≤ e.at (i + 1)))
    if yldOn h && moved && (b.t == 0 || decide (b.t + 100000 ≤ e.t)) then
      let a := h.get F.SFE_YLD_HIST_LO_ADDR + 2 ^ 32 * h.get F.SFE_YLD_HIST_HI_ADDR + 64 * (h.yld.histN % 131072)
      let bs := leBytes 8 e.t ++ leBytes 8 (ux 64 e.g) ++ leBytes 8 (ux 64 e.s0) ++ leBytes 8 (ux 64 e.s1)
        ++ leBytes 8 (ux 64 e.s2) ++ zeros 24
      (h.setYld { h.yld with hist := (e :: h.yld.hist).take 131072, histN := h.yld.histN + 1, base := e }).wr a bs
    else h

/-- YIELD_BIN_TIMEOUT: no paddle has been added for 10 s: the open bins are written (R333). -/
def execYieldBinTimeout (dt : Nat) (s : State) : Out :=
  run dt s fun h => if yldOn h && decide (h.yld.lastAdd + 10000000000 ≤ h.now) then binsAll h else h

/-- YIELD_ENABLE: partition 0 writes SFE_YLD_CFG with EN = 1 (R310, R344). The other fields of the write are taken first,
since EN was 0. -/
def execYieldEnable (dt : Nat) (hart : Fin 19) (v : Word) (s : State) : Out :=
  run dt s fun h =>
    if h.byP0 hart && !h.flag F.SFE_YLD_CFG_EN then
      yldEnable (h.setReg (F.SFE_YLD_CFG_EN.at 0 0) (v &&& 0x0FFFFFFE#32))
    else h

end Sys2Proof.Machine
end

