-- ==== Sys2Proof/Machine/RegFile.lean ====
section
/-!
DEFINITION. Reading and writing the set-up registers (chapter 22): whose view writes a register, what it stores, what the write
does, and the values that are worked out as they are read. Readings: log entry 10.
-/
namespace Sys2Proof.Machine

/-! ## Rights (R892 and the register rules of the chapters) -/

/-- A write through partition p's view is one the owning chapter permits. -/
def viewWrites (h : Hw) (p a : Nat) (r : RegRow) : Bool :=
  match r.right with
  | .p0 => p == 0
  | .p1 => p == 1
  | .port first => h.ownsPort p (first + r.row a)
  | .ring => p == (h.ringPart (r.row a)).getD 0
  | .spWin => p == 0 || h.hartPart (16 + r.row a / 8) == some p
  | .spAmo => p == 0 || h.hartPart (16 + r.row a) == some p
  | .fusOwner => p == h.get F.FUS_OWNER_OWNER
  | .swarmOwner => h.ownsPort p (312 + swarmPort h)
  | .none => false

/-! ## What a register stores -/

/-- The bits of a register that a write sets, without those its description reserves. -/
def rwMask (r : RegRow) (a : Nat) : Nat :=
  match r.addr with
  | 0xC1030 => 0xFFFFC000
  | 0x43020 => 0xFFE00000
  | 0x42004 => 0xFFFF
  | 0xD100C => 0xFFFF
  | 0xC1044 => 0x1FFFFFFF
  | 0xC8008 => 0x1FFFFFFF
  | 0x42400 => if (a - 0x42400) % 16 = 0 then r.rw else r.rw % 2 ^ 26
  | 0x70010 =>
    let n := if (a - 0x70010) / 0x40 < 6 then 24 else 68
    let j := (a - 0x70010) % 0x40 / 4
    if 16 * (j + 1) ≤ n then 2 ^ 32 - 1 else 4 ^ (n - 16 * j) - 1
  | _ => r.rw

/-- A value as a register stores it, for the registers whose description says so. -/
def regFix (r : RegRow) (v : Nat) : Nat :=
  match r.addr with
  | 0x00020 => if 1 ≤ v % 4096 ∧ v % 4096 ≤ 2000 then v else 2000
  | 0x01008 => clampN (v % 2 ^ 24) 1000 10000000
  | 0x02000 => if 4 < v % 8 then v / 8 * 8 + 4 else v
  | 0x23000 => if 1 ≤ bits v 21 16 ∧ bits v 21 16 ≤ 60 then v else v % 2 ^ 16 + 60 * 2 ^ 16
  | 0x41700 => v % 2 + clampN (bits v 8 1) 6 180 * 2 + clampN (bits v 11 9) 1 6 * 2 ^ 9 + v / 2 ^ 12 * 2 ^ 12
  | 0x4200C => if v = 0 then 0 else clampN v 1000 100000000
  | 0xB0024 => min (v % 2 ^ 13) 8000
  | 0xE0010 => if 10 ≤ v % 2 ^ 14 ∧ v % 2 ^ 14 ≤ 10080 then v else 10080
  | 0x11008C => if 10 ≤ v % 4096 ∧ v % 4096 ≤ 3600 then v else 3600
  | _ => v

/-- Stores a value by the access types of a register's fields (R6, R897): RW bits take it, W1S and W1C bits act on it, and the rest
stay. -/
def stdWrite (h : Hw) (a : Nat) (r : RegRow) (v0 : Nat) : Hw :=
  let v := regFix r v0
  let m := rwMask r a
  let old := (h.reg a).toNat
  let n := ((old - (old &&& m)) ||| (v &&& m)) ||| (v &&& r.w1s)
  h.setReg a (BitVec.ofNat 32 (n - (n &&& (v &&& r.w1c))))

/-- A write to the register is ignored now, because what it sets is in use (R163, R173, R278, R344, R468, R521, R576, R612, R659, R691
and the descriptions of STO_REG_SIZE and ETH_SWARM_FIELD). -/
def regLocked (h : Hw) (a : Nat) (r : RegRow) : Bool :=
  let i := r.row a
  match r.addr / 0x1000 with
  | 0x14 => h.ringState i != 0
  | 0x18 => r.addr != 0x1801C && h.ringState i != 0
  | 0x31 => (r.addr == 0x31008 || r.addr == 0x31010) && h.camOn i
  | 0x43 => r.addr != 0x43000 && decide (r.addr < 0x43040) && h.flag F.SFE_YLD_CFG_EN
  | 0x70 => (r.addr == 0x70010 && h.flag F.LSW_TILE_STATUS_FS_LOCKED i) || (r.addr == 0x70400 && h.flag F.LSW_TILE_STATUS_FS_LOCKED (4 + i / 24))
  | 0x91 => r.addr == 0x9101C && h.flag F.FAN_CFG_ENABLE i
  | 0xA0 => decide (0xA0010 ≤ r.addr) && r.addr != 0xA0020 && r.addr != 0xA0024 && r.addr != 0xA0028 && h.flag F.FUS_CTRL_EN
  | 0xA1 => (r.addr == 0xA1004 || r.addr == 0xA1008) && h.flag F.FUS_SRC_EN i
  | 0xB0 => r.addr == 0xB0020 && (h.flag F.GNS_ANT_CFG_EN 0 || h.flag F.GNS_ANT_CFG_EN 1)
  | 0xC1 => [0xC1004, 0xC1008, 0xC1030, 0xC1034, 0xC1050, 0xC1054].contains r.addr && h.flag F.CAN_CTRL_EN i
  | 0xD0 => r.addr == 0xD0108 && h.flag F.ETH_SWARM_CTRL_EN
  | 0xD1 => (r.addr == 0xD1008 || r.addr == 0xD100C) && h.flag F.ETH_PORT_CFG_EN i
  | 0xF1 => r.addr == 0xF1004 && h.flag F.STO_REG_CFG_CREATED i
  | _ => false

/-! ## Writes -/

/-- RNG_QUOTA and RNG_BIND: a write that would make the reserves of a limit exceed it is ignored (R163). -/
def ringWrite (h : Hw) (a : Nat) (r : RegRow) (v : Nat) : Hw :=
  let i := r.row a
  match r.addr with
  | 0x1801C => ringCtrlWrite h i (bit v 0) (bit v 1)
  | _ =>
    let h1 := stdWrite h a r v
    if (r.addr == 0x14000 || r.addr == 0x1800C) && (List.range 8).any (fun k => decide (poolLimit k < h1.poolResv k)) then h else h1

/-- PRP_PART_CMD (R194). -/
def partCmd (h : Hw) (v : Nat) : Hw :=
  match bits v 6 4 with
  | 1 => startPart h (v % 8)
  | 2 => stopPart h (v % 8)
  | 3 => restartPart h (v % 8)
  | 4 => reconfigurePart h (v % 8)
  | _ => h

/-- IMG_CAM_CFG: fields other than ENABLE stay while the camera is enabled (R278). -/
def camCfgWrite (h : Hw) (a : Nat) (r : RegRow) (v : Nat) : Hw :=
  let c := r.row a
  if h.camOn c then (if bit v 0 then h else camDisable h c)
  else
    let h1 := stdWrite h a r (v / 2 * 2)
    if bit v 0 then camEnable h1 c else h1

/-- The configuration register of an impact, speed or SENT channel: a disable closes its raw buffers, an enable begins a chunk (R294). -/
def chanCfgWrite (h : Hw) (a : Nat) (r : RegRow) (port v : Nat) : Hw :=
  let was := h.sfeOn port
  let h1 := stdWrite h a r v
  if was && !bit v 0 then bufCloseAll h1 (qKey 0 port) ST_STREAM_OFF
  else if !was && bit v 0 then endChunk h1 port else h1

/-- SFE_YLD_CFG: fields other than EN stay while the unit is enabled (R310, R344). -/
def yldCfgWrite (h : Hw) (a : Nat) (r : RegRow) (v : Nat) : Hw :=
  if h.flag F.SFE_YLD_CFG_EN then (if bit v 0 then h else (yldStop h).put F.SFE_YLD_CFG_EN 0)
  else
    let h1 := stdWrite h a r (v / 2 * 2)
    if bit v 0 then yldEnable h1 else h1

/-- SFE registers. -/
def sfeWrite (h : Hw) (a : Nat) (r : RegRow) (v : Nat) : Hw :=
  let i := r.row a
  match r.addr with
  | 0x41000 => chanCfgWrite h a r (430 + i) v
  | 0x41400 => convCfgWrite h (478 + i) v
  | 0x41500 => convCfgWrite h (326 + i) v
  | 0x41600 => chanCfgWrite h a r (390 + i) v
  | 0x41700 => chanCfgWrite h a r (494 + i) v
  | 0x42004 => showWinOwner (stdWrite (winReconfig h i) a r v) i
  | 0x42008 => stdWrite (winReconfig h i) a r v
  | 0x4200C => stdWrite (winReconfig h i) a r v
  | 0x43000 => yldCfgWrite h a r v
  | _ => stdWrite h a r v

/-- Fail-safe entries and codes: channels that stand at their fail-safe states follow them at once (R467, R470). -/
def fsWrite (h : Hw) (a : Nat) (r : RegRow) (v : Nat) : Hw :=
  let h1 := stdWrite h a r v
  let ps := if r.addr = 0x70010 then
      let j := (a - 0x70010) % 0x40 / 4
      (tilePorts (r.row a)).filter (fun p => fsEntry p / 16 == j && h1.fsCode p != h.fsCode p)
    else [r.row a].filter (fun p => h1.fsCode p == 1)
  (ps.filter (fun p => h1.held p)).foldl forceCh h1

/-- LSW registers; whether the junction of a switch whose over-temperature is cleared is still hot is open (R456). -/
def lswWrite (h : Hw) (a : Nat) (r : RegRow) (v : Nat) : Hw :=
  let i := r.row a
  match r.addr with
  | 0x70000 =>
    let h1 := if bit v 1 then fsLock h i else h
    if bit v 0 then armTile h1 i else h1
  | 0x70010 => fsWrite h a r v
  | 0x70400 => fsWrite h a r v
  | 0x70800 => wdCfgWrite h v
  | 0x71000 => lsCfgWrite h i v
  | 0x71008 =>
    let (x, h1) := h.fresh
    lsFaultClear h1 i v (x % 2 == 1)
  | _ => stdWrite h a r v

/-- FUS registers: a source whose EN changes starts or stops; its other fields stay while it is enabled (R576). -/
def fusWrite (h : Hw) (a : Nat) (r : RegRow) (v : Nat) : Hw :=
  let i := r.row a
  match r.addr with
  | 0xA0004 => fusCtrlWrite h v
  | 0xA1000 =>
    let on := h.flag F.FUS_SRC_EN i
    let h1 := if on then h.put F.FUS_SRC_EN (v % 2) i else stdWrite h a r v
    if on = bit v 0 then h1 else
      let h2 := srcReset h1 i
      if h2.flag F.FUS_CTRL_EN then fusJudge h2 else h2
  | _ => stdWrite h a r v

/-- GNS registers; a value outside its range fails with ST_GNS_CONFIG (R612). -/
def gnsWrite (h : Hw) (a : Nat) (r : RegRow) (v : Nat) : Hw :=
  let bad := (h.put F.GNS_ANT_STATUS_ERR ST_GNS_CONFIG 0).put F.GNS_ANT_STATUS_ERR ST_GNS_CONFIG 1
  match r.addr with
  | 0xB0000 => gnsAntWrite h (r.row a) v
  | 0xB0020 => if rateOk (v % 64) then stdWrite h a r v else bad
  | 0xB0028 => if 1000 ≤ v % 2 ^ 16 ∧ v % 2 ^ 16 ≤ 10000 ∧ 1 ≤ v / 2 ^ 16 then stdWrite h a r v else bad
  | 0xB0030 => ppsOutWrite h v
  | _ => stdWrite h a r v

/-- CAN and LIN registers. -/
def canWrite (h : Hw) (a : Nat) (r : RegRow) (v : Nat) : Hw :=
  let i := r.row a
  match r.addr with
  | 0xC1000 => canCtrlWrite h i v
  | 0xC3000 => linCfgWrite h i v
  | 0xC8000 =>
    let dir := (h.reg a).toNat % 4
    stdWrite h a r (if h.flag F.CAN_CTRL_EN i then v / 4 * 4 + dir else v)
  | _ => stdWrite h a r v

/-- ETH registers. The offsets of ETH_PORT_CBS of classes 4 to 7 are those of ETH_CNT: a write goes to the class, kept beside the
counter (log entry 3). -/
def ethWrite (h : Hw) (a : Nat) (r : RegRow) (v : Nat) : Hw :=
  let i := r.row a
  match r.addr with
  | 0xD0104 => swarmCtrlWrite h v
  | 0xD1000 => ethCfgWrite h i v
  | 0xD1020 =>
    let h1 := creditTick h i
    if (a - 0xD1020) % 0x40 < 16 then stdWrite h1 a r v else h1.setReg (a + 0x1000000) (BitVec.ofNat 32 (v % 2 ^ 16))
  | _ => stdWrite h a r v

/-- PWR registers; GO counts the wake inputs as last taken. -/
def pwrWrite (h : Hw) (a : Nat) (r : RegRow) (v : Nat) : Hw :=
  match r.addr with
  | 0x120010 => resetKey h v
  | 0x120014 => if bit v 0 then goCmd h else h
  | 0x120030 => rtcWrite h v
  | _ => stdWrite h a r v

/-- What a permitted write of a whole register does, by page and register. -/
def regApply (h : Hw) (a : Nat) (r : RegRow) (v : Nat) : Hw :=
  let i := r.row a
  match a / 0x10000 with
  | 0 =>
    match r.addr with
    | 0x00000 => discIdle (stdWrite h a r v)
    | 0x00140 => slotCmd h (v % 4)
    | 0x01000 => domCfgWrite h i false v
    | 0x01004 => domCfgWrite h i true v
    | _ => stdWrite h a r v
  | 1 => ringWrite h a r v
  | 2 =>
    match r.addr with
    | 0x20008 => if bit v 0 then layoutLoad h else h
    | 0x20010 => partCmd h v
    | _ => stdWrite h a r v
  | 3 =>
    match r.addr with
    | 0x31000 => camCfgWrite h a r v
    | 0x31004 => camGeom h i (BitVec.ofNat 32 v)
    | _ => stdWrite h a r v
  | 4 => sfeWrite h a r v
  | 5 =>
    match r.addr with
    | 0x50200 => ctlSelWrite h v
    | 0x50480 => if v % 4 = 1 then ctlRecWrite h else if v % 4 = 2 then ctlRecRead h else h
    | _ => stdWrite h a r v
  | 6 =>
    match r.addr with
    | 0x61000 => if bit v 0 then solEnable h i v else solDisable h i v
    | 0x61024 => showSol (stdWrite h a r v) i
    | _ => stdWrite h a r v
  | 7 => lswWrite h a r v
  | 8 =>
    match r.addr with
    | 0x81000 => dioCfgWrite h i v
    | 0x8100C => dioFaultClear h i v
    | _ => stdWrite h a r v
  | 9 =>
    match r.addr with
    | 0x91000 => fanCfgWrite h i v
    | 0x91028 => fanFaultClear h i v
    | _ => showFan (stdWrite (fanAnchor h i) a r v) i
  | 10 => fusWrite h a r v
  | 11 => gnsWrite h a r v
  | 12 => canWrite h a r v
  | 13 => ethWrite h a r v
  | 14 =>
    match r.addr with
    | 0xE0228 => if v % 4 = 1 then injWrite h else if v % 4 = 2 then injRead h else h
    | _ => stdWrite h a r v
  | 15 =>
    match r.addr with
    | 0xF1000 => stoCfgWrite h i (BitVec.ofNat 32 v)
    | _ => stdWrite h a r v
  | 17 =>
    match r.addr with
    | 0x110310 =>
      let h1 := if bit v 0 then newNonce h else h
      if bit v 1 then endUnlock h1 else h1
    | _ => stdWrite h a r v
  | 18 => pwrWrite h a r v
  | 19 =>
    match r.addr with
    | 0x130000 => smkCfgWrite h v
    | 0x1300C0 => if bit v 0 then enterTest h else h
    | _ => stdWrite h a r v
  | _ => stdWrite h a r v

/-- The key of a hart's shadow or pending half of a register pair. -/
def hartKey (hart a : Nat) : Nat := hart * 2 ^ 24 + a

/-- A write of the _HI half of an RW pair: the pair takes the new value with the hart's pending _LO, or the _LO in force (R901). -/
def pairWrite (h : Hw) (hart a : Nat) (r : RegRow) (v : Nat) : Hw :=
  let h1 := match mget h.pendLo (hartKey hart (a - 4)), regRow? (a - 4) with
    | some lo, some rl => stdWrite { h with pendLo := mdel h.pendLo (hartKey hart (a - 4)) } (a - 4) rl lo.toNat
    | _, _ => h
  regApply h1 a r v

/-- A store to the register at an address through partition p's view: ignored where no register lies there, the view may not write
it, or what it sets is in use; a _LO half of an RW pair waits for its _HI (R892, R893, R901). -/
def regStore (h : Hw) (hart p a : Nat) (v : Word) : Hw :=
  match regRow? a with
  | none => h
  | some r =>
    if !viewWrites h p a r then h
    else if r.pair = 1 ∧ r.rw ≠ 0 then { h with pendLo := mset h.pendLo (hartKey hart a) v }
    else if regLocked h a r then (if r.pair = 2 then { h with pendLo := mdel h.pendLo (hartKey hart (a - 4)) } else h)
    else if r.pair = 2 ∧ r.rw ≠ 0 then pairWrite h hart a r v.toNat
    else regApply h a r v.toNat

/-! ## Reads -/

/-- A field of a register's value replaced. -/
def withField (w : BitVec 32) (f : Fld) (v : Nat) : BitVec 32 :=
  (w &&& ~~~ f.mask) ||| ((BitVec.ofNat f.w v).setWidth 32 <<< f.lo)

/-- PRP_PORT_OWNER of a port (R184). -/
def portOwnerWord (h : Hw) (i : Nat) : Nat := match h.portOwner i with | some p => p + 8 | none => 0

/-- A half of a 64-bit value. -/
def half64 (hi : Bool) (x : Nat) : BitVec 32 := BitVec.ofNat 32 (if hi then x / 2 ^ 32 else x)

/-- GRD registers whose values follow from Guard's state. -/
def grdLive (h : Hw) (a : Nat) (w : BitVec 32) : BitVec 32 × Hw :=
  if 0x110010 ≤ a ∧ a < 0x110030 then (BitVec.ofNat 32 (fld (keyHash h) (a - 0x110010) 4), h)
  else if 0x110040 ≤ a ∧ a < 0x110054 then (BitVec.ofNat 32 (fld (leBytes 20 h.grd.serial).reverse (a - 0x110040) 4), h)
  else if a = 0x110088 then
    match h.grd.winEnd with
    | some t =>
      let (x, h1) := h.openRound (mkQ (t - h.now : Nat) 1000000000)
      (BitVec.ofNat 32 (satN 12 x.toNat), h1)
    | none => (0, h)
  else if a = 0x110090 then (withField w F.GRD_PARK_PARKED (b2n (grdParked h)), h)
  else if a = 0x110314 then
    let left := match h.grd.dbgEnd with | some t => (t - h.now + 59999999999) / 60000000000 | none => 0
    (withField w F.GRD_DBG_STATUS_LEFT left, h)
  else (w, h)

/-- CTL_TICK: the number of the last tick whose start the timebase has passed (R346). -/
def ctlTickShown (h : Hw) : Nat :=
  if h.ctl.nextAt ≤ h.wgl.tb then h.ctl.tick + (h.wgl.tb - h.ctl.nextAt) / 10000 else h.ctl.tick - 1

/-- The value of a register as it is read now: what is stored, with what the module works out at the read; WGL_CNT instance 3 takes in
every crossing already made (R92). A value the spec does not
determine is open. -/
def regLive (h : Hw) (a : Nat) : BitVec 32 × Hw :=
  let w := h.reg a
  let (x, h1) := h.fresh
  match a / 0x10000 with
  | 0 =>
    if a = 0x10 ∨ a = 0x14 then (half64 (a == 0x14) h.tb, h)
    else if a = 0x4C then
      let h2 := (List.range 16).foldl settleDom h
      (h2.reg a, h2)
    else if 0x1000 ≤ a ∧ a < 0x1400 then
      let i := (a - 0x1000) / 0x40
      match a % 0x40 with
      | 0x18 => (half64 false (ux 64 (h.domPos i)), h)
      | 0x1C => (half64 true (ux 64 (h.domPos i)), h)
      | 0x28 => (half64 false (ux 64 (h.domHwm i)), h)
      | 0x2C => (half64 true (ux 64 (h.domHwm i)), h)
      | _ => (w, h)
    else (w, h)
  | 2 => if 0x21000 ≤ a ∧ a < 0x21800 then (BitVec.ofNat 32 (portOwnerWord h ((a - 0x21000) / 4)), h) else (w, h)
  | 5 => if a = 0x50010 ∨ a = 0x50014 then (half64 (a == 0x50014) (ctlTickShown h), h) else (w, h)
  | 6 =>
    if 0x61000 ≤ a ∧ a < 0x61C00 ∧ (a % 0x40 = 0x20 ∨ a % 0x40 = 0x28) then
      let h2 := showSol h ((a - 0x61000) / 0x40)
      (h2.reg a, h2)
    else (w, h)
  | 8 =>
    if 0x81000 ≤ a ∧ a % 16 = 8 then
      let h2 := showDio h ((a - 0x81000) / 16)
      (h2.reg a, h2)
    else (w, h)
  | 11 =>
    if a = 0xB0004 ∨ a = 0xB0014 then (withField w F.GNS_ANT_STATUS_AGC x, h1)
    else if a = 0xB002C then (withField w F.GNS_CLK_STATUS_AGE (clkAge h), h)
    else if a = 0xB0034 then
      let (e, h2) := h.openRound (holdEst h)
      (BitVec.ofNat 32 (satN 32 e.toNat), h2)
    else (w, h)
  | 13 => if 0xD1000 ≤ a ∧ a % 0x40 = 4 then (withField w F.ETH_PORT_STATUS_SQI x, h1) else (w, h)
  | 15 =>
    if a = 0xF0008 then (BitVec.ofNat 32 (stoLoad h), h)
    else if 0xF2000 ≤ a then (withField w F.STO_DIE_WEAR x, h1) else (w, h)
  | 17 => grdLive h a w
  | 18 =>
    match a with
    | 0x120000 => (withField w F.PWR_STATUS_ALIVE (b2n (h.til.hub.feed && h.isOn)), h)
    | 0x120004 => (withField w F.PWR_VOLT_KA x, h1)
    | 0x120030 => (BitVec.ofNat 32 h.rtcSec, h)
    | 0x120034 => (BitVec.ofNat 32 h.opTime, h)
    | _ => (w, h)
  | _ => (w, h)

/-- The row that a read of an address meets: where two registers share an offset, the counter (log entry 3). -/
def readRow? (a : Nat) : Option RegRow := (regTable.filter (fun r => inRow a r.addr r.n1 r.st1 r.n2 r.st2)).getLast?

/-- A load from the register at an address: 0 where no register lies there; a read clears RC fields; a read of a _LO half copies the
live _HI half for the hart, whose read of that half within 1 µs returns the copy (R8, R893, R900). -/
def regLoad (h : Hw) (hart a : Nat) : BitVec 32 × Hw :=
  match readRow? a with
  | none => (0, h)
  | some r =>
    let (w, h1) := regLive h a
    let h2 := if r.rc = 0 then h1 else h1.setReg a (BitVec.ofNat 32 ((h1.reg a).toNat - ((h1.reg a).toNat &&& r.rc)))
    if r.pair = 1 then
      let (hi, h3) := regLive h2 (a + 4)
      (w, { h3 with shadow := mset h3.shadow (hartKey hart (a + 4)) (hi, h.now) })
    else if r.pair = 2 then
      match mget h.shadow (hartKey hart a) with
      | some (v, t) => (if h.now ≤ t + 1000 then v else w, h2)
      | none => (w, h2)
    else (w, h2)

end Sys2Proof.Machine
end

