-- ==== Sys2Proof/Machine/CoreAccess.lean ====
section
/-!
DEFINITION. Accesses of harts 0 to 15 (application) and 16 to 18 (safety pairs): the address maps, the Propolis check, and what
an access to memory, a register, the atomic alias or an unmapped address does (chapters 01, 04, 16 and 22). Readings: log entry
9.
-/
namespace Sys2Proof.Machine

/-! ## Where an access goes -/

/-- What an address reaches: main memory or the frame store, the pair's own TCM, a register of the partition's own view, a word
through the atomic alias, a place Propolis or CFG refuses, or nothing. -/
inductive Reach where
  | memory (a : Nat)
  | ownTcm (a : Nat)
  | register (a : Nat)
  | atomic (a : Nat)
  | refused (a : Nat)
  | unmapped
  deriving DecidableEq, Repr

/-- What n bytes at a physical address reach for partition p (Table 16.1, R694, R891, R893, R894). -/
def physReach (p a n : Nat) : Reach :=
  if a + n ≤ 0xE04000000 then .memory a
  else if 0xE10000000 ≤ a ∧ a < 0xE10300000 then .refused a
  else if 0xF00000000 ≤ a ∧ a < 0xF10000000 then
    if (a - 0xF00000000) / 0x2000000 ≠ p then .refused a
    else if 20 ≤ a % 0x2000000 / 0x10000 then .unmapped
    else if n ≠ 4 ∨ a % 4 ≠ 0 then .refused a
    else .register (a % 0x2000000)
  else .unmapped

/-- The physical address that a window address of a pair maps to (R19). -/
def winAddr (h : Hw) (pair x : Nat) : Nat :=
  h.get F.PRP_SP_WIN_BASE (pair * 8 + (x - 0x80000000) / 0x10000000) * 0x10000000 + x % 0x10000000

/-- What n bytes at an address of a safety pair reach (Table 01.9, R21); only an aligned 32-bit load goes through the alias, and an
atomic operation reaches no register (R894). -/
def pairReach (h : Hw) (pair p x n : Nat) (store : Bool) : Reach :=
  if x + n ≤ 0x100000 then .ownTcm (0xE10000000 + pair * 0x100000 + x)
  else if 0x10000000 ≤ x ∧ x < 0x12000000 then physReach p (0xF00000000 + p * 0x2000000 + (x - 0x10000000)) n
  else if 0x40000000 ≤ x ∧ x < 0x80000000 then
    let a := winAddr h pair (x + 0x40000000)
    if store ∨ n ≠ 4 ∨ x % 4 ≠ 0 then .refused a
    else
      match physReach p a n with
      | .memory b => .atomic b
      | .register _ => .refused a
      | q => q
  else if 0x80000000 ≤ x then physReach p (winAddr h pair x) n
  else .unmapped

/-- What an access of a hart reaches. -/
def reach (h : Hw) (t p a n : Nat) (store : Bool) : Reach :=
  if t < 16 then physReach p a n else pairReach h (t - 16) p (a % 2 ^ 32) n store

/-- The Comb stop that issues a hart's access: CLnA or CLnB by bit 6 of the address, or the pair's own (R16, R192). -/
def hartStop (t a : Nat) : Nat :=
  if t < 16 then [1, 3, 57, 59].getD (t / 4) 0 + a / 64 % 2 else [5, 6, 61].getD (t - 16) 0

/-! ## How an access ends -/

/-- A hart's access ends without an exception; a load returns a value. -/
def hartDone (h : Hw) (t : Nat) (v : Option Nat) : Hw :=
  { h with rfault := mset h.rfault t false, rdata := match v with | some x => mset h.rdata t x | none => h.rdata }

/-- A hart takes an access-fault exception; a load returned zeros. -/
def hartFault (h : Hw) (t : Nat) (store : Bool) : Hw :=
  { h with rfault := mset h.rfault t true, rdata := if store then h.rdata else mset h.rdata t 0 }

/-- A refused access: counted, latched where the latch is empty, logged at most once per second for the partition, and an access fault
(R192). -/
def refuse (h : Hw) (t p a : Nat) (store : Bool) (write : Nat) : Hw :=
  let h1 := (h.bump F.PRP_FAULT_CNT_COUNT).log 0x0401 p true
  let h2 := if h1.flag F.PRP_FAULT_INFO_VALID then h1 else
    let w := p + write * 2 ^ 4 + hartStop t a * 2 ^ 5 + 2 ^ 31
    ((h1.setReg (F.PRP_FAULT_ADDR_LO_ADDR.at 0 0) (BitVec.ofNat 32 a)).setReg
      (F.PRP_FAULT_ADDR_HI_ADDR.at 0 0) (BitVec.ofNat 32 (a / 2 ^ 32))).setReg (F.PRP_FAULT_INFO_TAG.at 0 0) (BitVec.ofNat 32 w)
  hartFault h2 t store

/-- An unmapped access: counted in MEM_ERR_CNT of block 15, logged at most once per second, and an access fault (R693). -/
def noPlace (h : Hw) (t : Nat) (store : Bool) : Hw :=
  hartFault ((h.bump F.MEM_ERR_CNT_CE 15).log 0x1005 0xFFFF true) t store

/-! ## Memory -/

/-- The numbers of the lines of main memory that a range of an application hart's access touches. -/
def linesOf (a n : Nat) : List Nat :=
  if inMain a n then (List.range ((a + n - 1) / 64 - a / 64 + 1)).map (fun i => a / 64 + i) else []

/-- A load from memory; a word that cannot be corrected gives a load access fault (R699 to R701). -/
def memLoad (h : Hw) (t p a n : Nat) : Hw :=
  let h1 := if t < 16 then (linesOf a n).foldl (fun g k => dirRead g k (t / 4)) h else h
  match h1.scan ⟨p, hartStop t a, false⟩ a n with
  | (h2, true) => hartDone h2 t (some (h2.rdN a n))
  | (h2, false) => hartFault h2 t false

/-- A store to memory. A store of part of a word that cannot be read changes nothing and gives a store access fault (R697, R701). -/
def memStore (h : Hw) (t p a n v : Nat) : Hw :=
  let w : Who := ⟨p, hartStop t a, false⟩
  let part := (if a % 8 = 0 then false else h.memBad a 1) || (if (a + n) % 8 = 0 then false else h.memBad (a + n - 1) 1)
  if part then
    let g := if a % 8 = 0 then h else (h.scan w a 1).1
    let g := if (a + n) % 8 = 0 ∨ a / 8 = (a + n - 1) / 8 ∧ a % 8 ≠ 0 then g else (g.scan w (a + n - 1) 1).1
    hartFault g t true
  else
    let h1 := h.wr a (leBytes n v) w
    let h2 := if t < 16 then (linesOf a n).foldl (fun g k => dirOwn g k (t / 4)) h1 else h1
    hartDone h2 t none

/-- What the atomic alias leaves in a word: swap, add, AND or OR with the operand (R21). -/
def amoValue (op old arg : Nat) : Nat :=
  match op with
  | 0 => arg
  | 1 => (old + arg) % 2 ^ 32
  | 2 => Nat.land old arg
  | _ => Nat.lor old arg

/-- One atomic operation at the word's home slice; the load returns the word before it (R21). -/
def atomicLoad (h : Hw) (t p a : Nat) : Hw :=
  let w : Who := ⟨p, hartStop t a, false⟩
  match h.scan w a 4 with
  | (h1, false) => hartFault h1 t false
  | (h1, true) =>
    let old := h1.rdN a 4
    let new := amoValue (h1.get F.PRP_SP_AMO_OP_OP (t - 16)) old (h1.get F.PRP_SP_AMO_ARG_ARG (t - 16))
    hartDone (h1.wr a (leBytes 4 new) w) t (some old)

/-! ## Accesses -/

/-- An access of a running hart: n bytes at an address, loaded or stored. Propolis lets a partition store to granules it owns and load
from granules it owns or may read; an atomic operation stores (R190). What PRP_FAULT_INFO.WRITE says of a refused atomic load is
open. -/
def perform (h : Hw) (t p a n : Nat) (st : Option Nat) : Hw :=
  match reach h t p a n st.isSome with
  | .unmapped => noPlace h t st.isSome
  | .refused b => refuse h t p b st.isSome (b2n st.isSome)
  | .register r =>
    match st with
    | some v => hartDone (regStore h t p r (BitVec.ofNat 32 v)) t none
    | none =>
      let (v, h1) := regLoad h t r
      hartDone h1 t (some v.toNat)
  | .ownTcm b =>
    match st with
    | some v => memStore h t p b n v
    | none => memLoad h t p b n
  | .memory b =>
    match st with
    | some v => if h.owns p b n then memStore h t p b n v else refuse h t p b true 1
    | none => if h.mayRead p b n then memLoad h t p b n else refuse h t p b false 0
  | .atomic b =>
    if h.owns p b 4 then atomicLoad h t p b
    else
      let (x, h1) := h.fresh
      refuse h1 t p b false (x % 2)

/-- An access of a hart of 1, 2, 4 or 8 bytes: a hart whose partition does not run issues none, and a safety pair has no 64-bit access
(R17). -/
def hartAccess (h : Hw) (t a lg : Nat) (st : Option Nat) : Hw :=
  match h.hartPart t with
  | some p => if h.partState p = 3 ∧ ¬(16 ≤ t ∧ lg = 3) then perform h t p a (2 ^ lg) (st.map (· % 256 ^ 2 ^ lg)) else h
  | none => h

/-- The address at which a hart reaches a register of its partition's own view (R890, Table 01.9). -/
def ownView (h : Hw) (t page off : Nat) : Nat :=
  (if t < 16 then 0xF00000000 + (h.hartPart t).getD 0 * 0x2000000 else 0x10000000) + page * 0x10000 + off

/-- A 32-bit access of a hart to a register of its own view. -/
def hartReg (h : Hw) (t page off : Nat) (st : Option Word) : Hw :=
  hartAccess h t (ownView h t page off) 2 (st.map BitVec.toNat)

/-- REGISTER_WRITE: a hart writes a register through its partition's view; it is applied as the register's owner and access type allow,
or ignored (R892). -/
def execRegisterWrite (dt : Nat) (hart : Fin 19) (page : Fin 20) (off : BitVec 16) (v : Word) (s : State) : Out :=
  run dt s fun h => hartReg h hart page off.toNat (some v)

/-- REGISTER_READ_CLEAR: a hart reads a register with RC fields, which returns their values and then clears them (R8). -/
def execRegisterReadClear (dt : Nat) (hart : Fin 19) (page : Fin 20) (off : BitVec 16) (s : State) : Out :=
  run dt s fun h =>
    match readRow? (page.val * 0x10000 + off.toNat) with
    | some r => if r.rc = 0 then h else hartReg h hart page off.toNat none
    | none => h

/-- LO_REGISTER_READ: a hart reads a _LO register, which copies the live _HI value into the hart's shadow of the pair (R900). -/
def execLoRegisterRead (dt : Nat) (hart : Fin 19) (page : Fin 20) (off : BitVec 16) (s : State) : Out :=
  run dt s fun h =>
    match readRow? (page.val * 0x10000 + off.toNat) with
    | some r => if r.pair = 1 then hartReg h hart page off.toNat none else h
    | none => h

/-- HI_REGISTER_WRITE: a hart writes the _HI register of an RW pair, which takes the value with the hart's pending _LO (R901). -/
def execHiRegisterWrite (dt : Nat) (hart : Fin 19) (page : Fin 20) (off : BitVec 16) (v : Word) (s : State) : Out :=
  run dt s fun h =>
    match regRow? (page.val * 0x10000 + off.toNat) with
    | some r => if r.pair = 2 ∧ r.rw ≠ 0 then hartReg h hart page off.toNat (some v) else h
    | none => h

/-- CORE_MEMORY_ACCESS: a hart's load, or store of a value, of 2^lg bytes: checked, and then performed (R190). -/
def execCoreMemoryAccess (dt : Nat) (hart : Fin 19) (addr : DWord) (lg : Fin 4) (st : Option DWord) (s : State) : Out :=
  run dt s fun h => hartAccess h hart addr.toNat lg (st.map BitVec.toNat)

/-- UNMAPPED_ACCESS: a hart's 32-bit access to an address that reaches nothing (R693). -/
def execUnmappedAccess (dt : Nat) (hart : Fin 19) (addr : DWord) (st : Option Word) (s : State) : Out :=
  run dt s fun h =>
    if reach h hart ((h.hartPart hart).getD 0) addr.toNat 4 st.isSome = .unmapped then hartAccess h hart addr.toNat 2 (st.map BitVec.toNat)
    else h

/-- SP_ATOMIC_ALIAS_LOAD: a safety pair loads an aligned word of the atomic alias (R21). -/
def execSpAtomicAliasLoad (dt : Nat) (pair : Fin 3) (addr : Word) (s : State) : Out :=
  run dt s fun h =>
    if 0x40000000 ≤ addr.toNat ∧ addr.toNat < 0x80000000 ∧ addr.toNat % 4 = 0 then hartAccess h (16 + pair.val) addr.toNat 2 none else h

/-- A physical address that lies in the watched doorbell line of an enabled ring (R130). -/
def watchedAt (h : Hw) (a : Nat) : Bool := h.rng.rings.any (fun (r, g) => g.watched && h.dbAddr r / 64 == a / 64)

/-- DOORBELL_STORE: a hart's 32-bit store to a watched doorbell line is written through and wakes the engines of its rings (R130). -/
def execDoorbellStore (dt : Nat) (hart : Fin 19) (addr : DWord) (v : Word) (s : State) : Out :=
  run dt s fun h =>
    match reach h hart ((h.hartPart hart).getD 0) addr.toNat 4 true with
    | .memory b => if watchedAt h b then hartAccess h hart addr.toNat 2 (some v.toNat) else h
    | _ => h

end Sys2Proof.Machine
end

