-- ==== Sys2Proof/Machine/Electrical.lean ====
section
/-!
DEFINITION. The vision power cap of the logic supply (R33) and the commands of chapter 21: plate temperature and sensor
supplies. Readings: log entry 41.
-/
namespace Sys2Proof.Machine

/-- VISION_POWER_CAP: the logic supply voltage is measured, in 10 mV; below 22.0 V it caps the vision array (R33, R34). -/
def execVisionPowerCap (dt : Nat) (v : BitVec 16) (s : State) : Out :=
  run dt s fun h =>
    let x := v.toNat
    let cap := if 2200 ≤ x then 230000 else 230000 - 170 * (2200 - x)
    visJudge ({ h with pwr := { h.pwr with vCap := cap } }.put F.PWR_VOLT_LOGIC x)

/-- PLATE_CAP: the plate sensors read so, in 0.1 °C; above 80 °C the plate caps the vision array (R883). -/
def execPlateCap (dt : Nat) (a b : BitVec 16) (s : State) : Out := run dt s fun h => plateRead h a.toInt b.toInt

/-- PLATE_ABOVE_100: with these readings the plate has stayed above 100 °C for 1 s (R884). -/
def execPlateAbove100 (dt : Nat) (a b : BitVec 16) (s : State) : Out :=
  run dt s fun h =>
    let h1 := plateRead h a.toInt b.toInt
    match h1.pwr.hotAt with
    | some t => if t + 1000000000 ≤ h1.now ∧ h1.get F.PWR_ENV_THERM ≠ 3 then (h1.put F.PWR_ENV_THERM 3).log 0x1502 else h1
    | none => h1

/-- THERMAL_SHUTDOWN: with these readings the plate has stayed above 110 °C for 100 ms: the event is recorded and the logic domain goes
off (R885). -/
def execThermalShutdown (dt : Nat) (a b : BitVec 16) (s : State) : Out :=
  run dt s fun h =>
    let h1 := plateRead h a.toInt b.toInt
    match h1.pwr.overAt with
    | some t =>
      if t + 100000000 ≤ h1.now then
        let h2 := logicOff (tornWrites (evrModule (diagFlush h1) 0x1503 0xFFFF 1))
        { h2 with pwr := { h2.pwr with hot := true } }
      else h1
    | none => h1

/-- PLATE_SENSOR_INVALID: the plate sensors read so, one of them out of range (R882). -/
def execPlateSensorInvalid (dt : Nat) (a b : BitVec 16) (s : State) : Out := run dt s fun h => plateRead h a.toInt b.toInt

/-- THERMAL_RESTART: after a thermal shutdown the plate is below 90 °C: the module starts up with cause WAKE if an enabled wake source
is active, and otherwise is in SLEEP (R885). -/
def execThermalRestart (dt : Nat) (t : BitVec 16) (w : WakeIn) (s : State) : Out :=
  runAny dt s fun h =>
    if h.pwr.hot ∧ t.toInt < 900 ∧ h.pwr.state ≠ .on then
      let h1 := takeWake { h with pwr := { h.pwr with hot := false } } w
      if wakeActive h1 && !h1.pwr.brown then moduleReset h1 2 false else { h1 with pwr := { h1.pwr with state := .sleep } }
    else h

/-- SUP5_CURRENT_LIMIT: the sensor supply of connector J(j + 2) enters or leaves current limit (R876). -/
def execSup5CurrentLimit (dt : Nat) (j : Fin 4) (lim : Bool) (s : State) : Out :=
  run dt s fun h =>
    let was := h.get F.PWR_ENV_SUP_LIM
    let now := if lim then was ||| 2 ^ j.val else was - (was &&& 2 ^ j.val)
    let h1 := h.put F.PWR_ENV_SUP_LIM now
    let h2 := if lim then (h1.put F.PWR_ENV_SUP_SEEN (h1.get F.PWR_ENV_SUP_SEEN ||| 2 ^ j.val)).log 0x1504 (j + 2) true else h1
    if j.val = 0 then (List.range 64).foldl (fun g n => showFaultNow g (326 + n)) h2 else h2

end Sys2Proof.Machine
end

