-- ==== Sys2Proof/Machine/Header.lean ====
section
/-!
DEFINITION. The commands on header presence and identity (R209 to R222). Readings: log entry 19.
-/
namespace Sys2Proof.Machine

/-- PRESENCE_LOSS: the presence loop opens: header outputs off at once (R211). -/
def execPresenceLoss (dt : Nat) (s : State) : Out :=
  run dt s fun h =>
    if h.prp.loop then
      setHdrOff { h with prp := { h.prp with
        loop := false, lostAt := (if h.get F.PRP_HDR_STATUS_STATE = 0 then none else some h.now) } } true
    else h

/-- PRESENCE_RETURN: presence comes back within 50 ms: the identity stays valid and outputs follow their commands again
where the header is IDENTIFIED (R211). -/
def execPresenceReturn (dt : Nat) (s : State) : Out :=
  run dt s fun h =>
    match h.prp.lostAt with
    | some t =>
      if h.now ≤ t + 50000000 then
        setHdrOff { h with prp := { h.prp with loop := true, lostAt := none } } (h.get F.PRP_HDR_STATUS_STATE != 2)
      else h
    | none => h

/-- PRESENCE_LOSS_TIMEOUT: presence has been lost for longer than 50 ms (R212). -/
def execPresenceLossTimeout (dt : Nat) (s : State) : Out :=
  run dt s fun h =>
    match h.prp.lostAt with
    | some t => if t + 50000000 < h.now then presenceGone h else h
    | none => h

/-- PRESENCE_ASSERT: presence asserted in ABSENT starts a challenge at once and restarts the retry timer (R213). -/
def execPresenceAssert (dt : Nat) (s : State) : Out :=
  run dt s fun h =>
    if h.get F.PRP_HDR_STATUS_STATE = 0 then
      let h1 := { h with prp := { h.prp with loop := true, lostAt := none } }
      sendChallenge (restartRetry (h1.put F.PRP_HDR_STATUS_PRESENT 1)) 0
    else { h with prp := { h.prp with loop := true } }

/-- RETRY_TIMER_EXPIRY: the retry timer ends while presence is asserted and the header is UNIDENTIFIED, AMBIGUOUS or in
CONFLICT: a new challenge, and the timer restarts (R214). -/
def execRetryTimerExpiry (dt : Nat) (s : State) : Out :=
  run dt s fun h =>
    match h.prp.retryAt with
    | some t =>
      if t ≤ h.now ∧ h.prp.loop ∧ 3 ≤ h.get F.PRP_HDR_STATUS_STATE then sendChallenge (restartRetry h) 0 else h
    | none => h

/-- CHALLENGE_ANSWER: an identity answer frame, its start of frame `sof` ns after the end of the challenge frame: it
belongs to the slot of its identifier's top bits, is late outside it, and otherwise is valid or invalid
(R217, R219, R220). -/
def execChallengeAnswer (dt : Nat) (ident : BitVec 24) (sof : Nat) (sig : List Byte) (s : State) : Out :=
  run dt s fun h =>
    match h.prp.chal with
    | some c =>
      let slot := ident.toNat / 2 ^ (22 - c.r)
      if sof / 2000000 = slot then
        let a : HAns := ⟨slot, ident.toNat, answerValid h c ident.toNat sig,
          ((identOf h ident.toNat).map (·.1)) == some 0⟩
        { h with prp := { h.prp with chal := some { c with ans := addAns a c.ans } } }
      else h.bump F.PRP_HDR_STATUS_LATE
    | none => h

/-- ROUND_DECISION: after the last slot of a round its outcome is decided, or the next round follows at once
(R221, R222). -/
def execRoundDecision (dt : Nat) (s : State) : Out :=
  run dt s fun h =>
    match h.prp.chal with
    | some c =>
      if c.endAt + 2000000 * roundSlots c.r ≤ h.now then
        let h1 := showAns h c.ans
        match roundOutcome c.r c.ans with
        | none => sendChallenge h1 (c.r + 1)
        | some (st, ev) =>
          let h2 := hdrState { h1 with prp := { h1.prp with chal := none } } st
          match ev with
          | some e => h2.log e
          | none => h2
      else h
    | none => h

end Sys2Proof.Machine
end

