-- ==== Sys2Proof/Machine/Dispatch.lean ====
section
/-!
DEFINITION. What each command does: one arm for each constructor, in the order of the opcode table.
-/
namespace Sys2Proof.Machine

def exec (i : Instr) (s : State) : Host.Outcome State Fault Refusal :=
  match i with
  | .registerWrite dt hart page off v => Sys2Proof.Machine.execRegisterWrite dt hart page off v s
  | .registerReadClear dt hart page off => Sys2Proof.Machine.execRegisterReadClear dt hart page off s
  | .loRegisterRead dt hart page off => Sys2Proof.Machine.execLoRegisterRead dt hart page off s
  | .hiRegisterWrite dt hart page off v => Sys2Proof.Machine.execHiRegisterWrite dt hart page off v s
  | .coreMemoryAccess dt hart addr lg st => Sys2Proof.Machine.execCoreMemoryAccess dt hart addr lg st s
  | .unmappedAccess dt hart addr st => Sys2Proof.Machine.execUnmappedAccess dt hart addr st s
  | .spAtomicAliasLoad dt pair addr => Sys2Proof.Machine.execSpAtomicAliasLoad dt pair addr s
  | .ownershipRequest dt line who => Sys2Proof.Machine.execOwnershipRequest dt line who s
  | .lineWriteback dt line c => Sys2Proof.Machine.execLineWriteback dt line c s
  | .combSingleBitCorrected dt stop off b => Sys2Proof.Machine.execCombSingleBitCorrected dt stop off b s
  | .combUncorrectable dt r => Sys2Proof.Machine.execCombUncorrectable dt r s
  | .combTimeout dt r => Sys2Proof.Machine.execCombTimeout dt r s
  | .lateResponseDiscard dt => Sys2Proof.Machine.execLateResponseDiscard dt s
  | .reservationTakesEffect dt p => Sys2Proof.Machine.execReservationTakesEffect dt p s
  | .visionPowerCap dt v => Sys2Proof.Machine.execVisionPowerCap dt v s
  | .ppsEdge dt => Sys2Proof.Machine.execPpsEdge dt s
  | .holdoverEntry dt => Sys2Proof.Machine.execHoldoverEntry dt s
  | .domainCfgWrite dt hart i1 div v => Sys2Proof.Machine.execDomainCfgWrite dt hart i1 div v s
  | .domainEdge dt i1 level => Sys2Proof.Machine.execDomainEdge dt i1 level s
  | .indexEdge dt i1 => Sys2Proof.Machine.execIndexEdge dt i1 s
  | .domainStopTimeout dt i1 => Sys2Proof.Machine.execDomainStopTimeout dt i1 s
  | .fusionUpdateArrival dt i1 level => Sys2Proof.Machine.execFusionUpdateArrival dt i1 level s
  | .heldUpdateApply dt i1 level => Sys2Proof.Machine.execHeldUpdateApply dt i1 level s
  | .eventIssue dt => Sys2Proof.Machine.execEventIssue dt s
  | .deferredValveStart dt c => Sys2Proof.Machine.execDeferredValveStart dt c s
  | .slotArm dt id => Sys2Proof.Machine.execSlotArm dt id s
  | .slotDisarm dt id => Sys2Proof.Machine.execSlotDisarm dt id s
  | .slotCmdArm dt hart => Sys2Proof.Machine.execSlotCmdArm dt hart s
  | .slotCmdRead dt hart => Sys2Proof.Machine.execSlotCmdRead dt hart s
  | .slotCmdDisarm dt hart => Sys2Proof.Machine.execSlotCmdDisarm dt hart s
  | .doorbellStore dt hart addr v => Sys2Proof.Machine.execDoorbellStore dt hart addr v s
  | .doorbellRead dt r => Sys2Proof.Machine.execDoorbellRead dt r s
  | .descriptorFetch dt eng => Sys2Proof.Machine.execDescriptorFetch dt eng s
  | .completionWrite dt op => Sys2Proof.Machine.execCompletionWrite dt op s
  | .ringIrqTimer dt r => Sys2Proof.Machine.execRingIrqTimer dt r s
  | .ringEnable dt hart r reset => Sys2Proof.Machine.execRingEnable dt hart r reset s
  | .ringDisable dt hart r => Sys2Proof.Machine.execRingDisable dt hart r s
  | .ringDrainDone dt r => Sys2Proof.Machine.execRingDrainDone dt r s
  | .ringReset dt hart r => Sys2Proof.Machine.execRingReset dt hart r s
  | .copy dt id => Sys2Proof.Machine.execCopy dt id s
  | .blockFill dt id => Sys2Proof.Machine.execBlockFill dt id s
  | .layoutLoad dt hart => Sys2Proof.Machine.execLayoutLoad dt hart s
  | .start dt hart p => Sys2Proof.Machine.execStart dt hart p s
  | .stop dt hart p => Sys2Proof.Machine.execStop dt hart p s
  | .restart dt hart p => Sys2Proof.Machine.execRestart dt hart p s
  | .reconfigure dt hart p => Sys2Proof.Machine.execReconfigure dt hart p s
  | .stopDrainDone dt => Sys2Proof.Machine.execStopDrainDone dt s
  | .fillDoneRelease dt p => Sys2Proof.Machine.execFillDoneRelease dt p s
  | .presenceLoss dt => Sys2Proof.Machine.execPresenceLoss dt s
  | .presenceReturn dt => Sys2Proof.Machine.execPresenceReturn dt s
  | .presenceLossTimeout dt => Sys2Proof.Machine.execPresenceLossTimeout dt s
  | .presenceAssert dt => Sys2Proof.Machine.execPresenceAssert dt s
  | .retryTimerExpiry dt => Sys2Proof.Machine.execRetryTimerExpiry dt s
  | .challengeAnswer dt ident sof sig => Sys2Proof.Machine.execChallengeAnswer dt ident sof sig s
  | .roundDecision dt => Sys2Proof.Machine.execRoundDecision dt s
  | .loopedFrameDelivery dt b => Sys2Proof.Machine.execLoopedFrameDelivery dt b s
  | .cameraEnable dt hart c => Sys2Proof.Machine.execCameraEnable dt hart c s
  | .cameraDisable dt hart c => Sys2Proof.Machine.execCameraDisable dt hart c s
  | .cameraGeomWrite dt hart c v => Sys2Proof.Machine.execCameraGeomWrite dt hart c v s
  | .cameraLinkUp dt c => Sys2Proof.Machine.execCameraLinkUp dt c s
  | .cameraLinkDown dt c => Sys2Proof.Machine.execCameraLinkDown dt c s
  | .cameraTrainingRetry dt c => Sys2Proof.Machine.execCameraTrainingRetry dt c s
  | .post dt id => Sys2Proof.Machine.execPost dt id s
  | .reprocess dt id => Sys2Proof.Machine.execReprocess dt id s
  | .profile dt id => Sys2Proof.Machine.execProfile dt id s
  | .cci dt id ack data => Sys2Proof.Machine.execCci dt id ack data s
  | .cciTimeout dt id => Sys2Proof.Machine.execCciTimeout dt id s
  | .frameStart dt c vc fmt => Sys2Proof.Machine.execFrameStart dt c vc fmt s
  | .frameEnd dt c intact xs => Sys2Proof.Machine.execFrameEnd dt c intact xs s
  | .elasticBufferOverflow dt => Sys2Proof.Machine.execElasticBufferOverflow dt s
  | .frameCapacityOverrun dt c => Sys2Proof.Machine.execFrameCapacityOverrun dt c s
  | .arrivalDeadline dt c => Sys2Proof.Machine.execArrivalDeadline dt c s
  | .pipelinePassStart dt k => Sys2Proof.Machine.execPipelinePassStart dt k s
  | .pipelinePassEnd dt k => Sys2Proof.Machine.execPipelinePassEnd dt k s
  | .processingDeadline dt c => Sys2Proof.Machine.execProcessingDeadline dt c s
  | .converterSample dt port vals => Sys2Proof.Machine.execConverterSample dt port vals s
  | .sfeChannelReconfig dt hart port v => Sys2Proof.Machine.execSfeChannelReconfig dt hart port v s
  | .spdEdgeCapture dt k partner width => Sys2Proof.Machine.execSpdEdgeCapture dt k partner width s
  | .sentFrame dt k age tick status data crcOk slow => Sys2Proof.Machine.execSentFrame dt k age tick status data crcOk slow s
  | .recbuf dt id => Sys2Proof.Machine.execRecbuf dt id s
  | .bufferFlushTimeout dt id => Sys2Proof.Machine.execBufferFlushTimeout dt id s
  | .impactBegin dt c => Sys2Proof.Machine.execImpactBegin dt c s
  | .impactEnd dt c => Sys2Proof.Machine.execImpactEnd dt c s
  | .lossSampleStep dt w => Sys2Proof.Machine.execLossSampleStep dt w s
  | .lossWindowLengthEnd dt w => Sys2Proof.Machine.execLossWindowLengthEnd dt w s
  | .paddleFill dt id => Sys2Proof.Machine.execPaddleFill dt id s
  | .cal dt id => Sys2Proof.Machine.execCal dt id s
  | .width dt id => Sys2Proof.Machine.execWidth dt id s
  | .convert dt id => Sys2Proof.Machine.execConvert dt id s
  | .paddleRecord dt => Sys2Proof.Machine.execPaddleRecord dt s
  | .historyEntry dt => Sys2Proof.Machine.execHistoryEntry dt s
  | .yieldBinTimeout dt => Sys2Proof.Machine.execYieldBinTimeout dt s
  | .yieldEnable dt hart v => Sys2Proof.Machine.execYieldEnable dt hart v s
  | .controlTick dt => Sys2Proof.Machine.execControlTick dt s
  | .setpoint dt id => Sys2Proof.Machine.execSetpoint dt id s
  | .meas dt id => Sys2Proof.Machine.execMeas dt id s
  | .mode dt id => Sys2Proof.Machine.execMode dt id s
  | .loopTableLoad dt id => Sys2Proof.Machine.execLoopTableLoad dt id s
  | .inject dt id => Sys2Proof.Machine.execInject dt id s
  | .capture dt id => Sys2Proof.Machine.execCapture dt id s
  | .readcap dt id => Sys2Proof.Machine.execReadcap dt id s
  | .ctlSlotSelWrite dt hart v => Sys2Proof.Machine.execCtlSlotSelWrite dt hart v s
  | .recCmdWrite dt hart => Sys2Proof.Machine.execRecCmdWrite dt hart s
  | .recCmdRead dt hart => Sys2Proof.Machine.execRecCmdRead dt hart s
  | .solEnable dt hart c v => Sys2Proof.Machine.execSolEnable dt hart c v s
  | .solDisable dt hart c v => Sys2Proof.Machine.execSolDisable dt hart c v s
  | .solprof dt id => Sys2Proof.Machine.execSolprof dt id s
  | .solcur dt id => Sys2Proof.Machine.execSolcur dt id s
  | .phaseEnd dt c peak => Sys2Proof.Machine.execPhaseEnd dt c peak s
  | .offtimeEnd dt c => Sys2Proof.Machine.execOfftimeEnd dt c s
  | .timeToPeak dt c reached => Sys2Proof.Machine.execTimeToPeak dt c reached s
  | .solOvercurrent dt c => Sys2Proof.Machine.execSolOvercurrent dt c s
  | .solFaultDetect dt c kind => Sys2Proof.Machine.execSolFaultDetect dt c kind s
  | .drvHot dt c hot => Sys2Proof.Machine.execDrvHot dt c hot s
  | .clampLimit dt c => Sys2Proof.Machine.execClampLimit dt c s
  | .oilTempUpdate dt => Sys2Proof.Machine.execOilTempUpdate dt s
  | .thermalModelStep dt c duty vf i1 irms => Sys2Proof.Machine.execThermalModelStep dt c duty vf i1 irms s
  | .lswEnable dt hart c v => Sys2Proof.Machine.execLswEnable dt hart c v s
  | .lswset dt id => Sys2Proof.Machine.execLswset dt id s
  | .currentLimitTimeout dt c dur => Sys2Proof.Machine.execCurrentLimitTimeout dt c dur s
  | .openOn dt c => Sys2Proof.Machine.execOpenOn dt c s
  | .offHigh dt c => Sys2Proof.Machine.execOffHigh dt c s
  | .overtemp dt c => Sys2Proof.Machine.execOvertemp dt c s
  | .overtempRestart dt c => Sys2Proof.Machine.execOvertempRestart dt c s
  | .lswFaultClear dt hart c v stillHot => Sys2Proof.Machine.execLswFaultClear dt hart c v stillHot s
  | .feedShed dt t mean inst => Sys2Proof.Machine.execFeedShed dt t mean inst s
  | .feedTrip dt t inst dur => Sys2Proof.Machine.execFeedTrip dt t inst dur s
  | .tileFrame dt t crcOk meas => Sys2Proof.Machine.execTileFrame dt t crcOk meas s
  | .tileWatchdogExpiry dt t => Sys2Proof.Machine.execTileWatchdogExpiry dt t s
  | .watchdogPeriodStart dt => Sys2Proof.Machine.execWatchdogPeriodStart dt s
  | .watchdogPeriodEnd dt => Sys2Proof.Machine.execWatchdogPeriodEnd dt s
  | .wdans dt id => Sys2Proof.Machine.execWdans dt id s
  | .arm dt hart t => Sys2Proof.Machine.execArm dt hart t s
  | .fsLock dt hart t => Sys2Proof.Machine.execFsLock dt hart t s
  | .dioEnable dt hart c v => Sys2Proof.Machine.execDioEnable dt hart c v s
  | .dioset dt id => Sys2Proof.Machine.execDioset dt id s
  | .diobuf dt id => Sys2Proof.Machine.execDiobuf dt id s
  | .counterFilterStep dt c raw age => Sys2Proof.Machine.execCounterFilterStep dt c raw age s
  | .debounceExpiry dt c raw stable => Sys2Proof.Machine.execDebounceExpiry dt c raw stable s
  | .filterChange dt c => Sys2Proof.Machine.execFilterChange dt c s
  | .dioOverload dt c => Sys2Proof.Machine.execDioOverload dt c s
  | .dioFaultDetect dt c kind => Sys2Proof.Machine.execDioFaultDetect dt c kind s
  | .silent dt t => Sys2Proof.Machine.execSilent dt t s
  | .fanEnable dt hart n v => Sys2Proof.Machine.execFanEnable dt hart n v s
  | .fanset dt id => Sys2Proof.Machine.execFanset dt id s
  | .fantab dt id => Sys2Proof.Machine.execFantab dt id s
  | .tableModeEntry dt n => Sys2Proof.Machine.execTableModeEntry dt n s
  | .thermistorFault dt n => Sys2Proof.Machine.execThermistorFault dt n s
  | .thermistorRelease dt n => Sys2Proof.Machine.execThermistorRelease dt n s
  | .fanOvercurrent dt n => Sys2Proof.Machine.execFanOvercurrent dt n s
  | .stall dt n dur => Sys2Proof.Machine.execStall dt n dur s
  | .stallRestart dt n => Sys2Proof.Machine.execStallRestart dt n s
  | .fanFaultDetect dt n kind => Sys2Proof.Machine.execFanFaultDetect dt n kind s
  | .xn7200Measurement dt n period => Sys2Proof.Machine.execXn7200Measurement dt n period s
  | .fusEnable dt hart => Sys2Proof.Machine.execFusEnable dt hart s
  | .detect dt id => Sys2Proof.Machine.execDetect dt id s
  | .fix dt id => Sys2Proof.Machine.execFix dt id s
  | .init dt id => Sys2Proof.Machine.execInit dt id s
  | .outbuf dt id => Sys2Proof.Machine.execOutbuf dt id s
  | .egoStep dt l0 l1 => Sys2Proof.Machine.execEgoStep dt l0 l1 s
  | .imuTimeout dt => Sys2Proof.Machine.execImuTimeout dt s
  | .egoFaultExit dt => Sys2Proof.Machine.execEgoFaultExit dt s
  | .gnssLost dt => Sys2Proof.Machine.execGnssLost dt s
  | .gnssHoldoffEnd dt => Sys2Proof.Machine.execGnssHoldoffEnd dt s
  | .fusionCycle dt => Sys2Proof.Machine.execFusionCycle dt s
  | .sourceStale dt src => Sys2Proof.Machine.execSourceStale dt src s
  | .degradationRecover dt => Sys2Proof.Machine.execDegradationRecover dt s
  | .gnsAntEnable dt hart a v => Sys2Proof.Machine.execGnsAntEnable dt hart a v s
  | .biasFault dt a short => Sys2Proof.Machine.execBiasFault dt a short s
  | .biasRetry dt a still => Sys2Proof.Machine.execBiasRetry dt a still s
  | .chan dt id => Sys2Proof.Machine.execChan dt id s
  | .gnssStop dt id => Sys2Proof.Machine.execGnssStop dt id s
  | .obsbuf dt id => Sys2Proof.Machine.execObsbuf dt id s
  | .clock dt id => Sys2Proof.Machine.execClock dt id s
  | .acquisitionPeak dt a i1 cn0 => Sys2Proof.Machine.execAcquisitionPeak dt a i1 cn0 s
  | .trackReached dt a i1 b5 doppler code => Sys2Proof.Machine.execTrackReached dt a i1 b5 doppler code s
  | .pullInTimeout dt a i1 => Sys2Proof.Machine.execPullInTimeout dt a i1 s
  | .searchTimeout dt a i1 => Sys2Proof.Machine.execSearchTimeout dt a i1 s
  | .lossOfLock dt a i1 b5 => Sys2Proof.Machine.execLossOfLock dt a i1 b5 s
  | .observableEpoch dt ms => Sys2Proof.Machine.execObservableEpoch dt ms s
  | .integrationEnd dt a i1 b5 iq sync => Sys2Proof.Machine.execIntegrationEnd dt a i1 b5 iq sync s
  | .navSymbolRecord dt a i1 b5 age syms => Sys2Proof.Machine.execNavSymbolRecord dt a i1 b5 age syms s
  | .internalPpsInvalid dt => Sys2Proof.Machine.execInternalPpsInvalid dt s
  | .ppsOutPulse dt => Sys2Proof.Machine.execPpsOutPulse dt s
  | .canEnable dt hart n v => Sys2Proof.Machine.execCanEnable dt hart n v s
  | .canDisable dt hart n v => Sys2Proof.Machine.execCanDisable dt hart n v s
  | .canRestart dt hart n => Sys2Proof.Machine.execCanRestart dt hart n s
  | .busOffRecoveryDone dt n => Sys2Proof.Machine.execBusOffRecoveryDone dt n s
  | .canFrameReceived dt n idw dlc rtr esi data age => Sys2Proof.Machine.execCanFrameReceived dt n idw dlc rtr esi data age s
  | .fifoRecordWrite dt n => Sys2Proof.Machine.execFifoRecordWrite dt n s
  | .txset dt id => Sys2Proof.Machine.execTxset dt id s
  | .txreq dt id => Sys2Proof.Machine.execTxreq dt id s
  | .canAbort dt id => Sys2Proof.Machine.execCanAbort dt id s
  | .canRxbuf dt id => Sys2Proof.Machine.execCanRxbuf dt id s
  | .linsched dt id => Sys2Proof.Machine.execLinsched dt id s
  | .linpub dt id => Sys2Proof.Machine.execLinpub dt id s
  | .canTransmitStart dt n => Sys2Proof.Machine.execCanTransmitStart dt n s
  | .canTransmitEnd dt n tdcv => Sys2Proof.Machine.execCanTransmitEnd dt n tdcv s
  | .canArbLost dt n => Sys2Proof.Machine.execCanArbLost dt n s
  | .canTxError dt n counted => Sys2Proof.Machine.execCanTxError dt n counted s
  | .addressClaim dt n ev => Sys2Proof.Machine.execAddressClaim dt n ev s
  | .heartbeatSend dt n => Sys2Proof.Machine.execHeartbeatSend dt n s
  | .watchTimeout dt n => Sys2Proof.Machine.execWatchTimeout dt n s
  | .linSlot dt c noResp chk bitErr frameErr data => Sys2Proof.Machine.execLinSlot dt c noResp chk bitErr frameErr data s
  | .linWake dt c => Sys2Proof.Machine.execLinWake dt c s
  | .ethEnable dt hart n v => Sys2Proof.Machine.execEthEnable dt hart n v s
  | .ethDisable dt hart n v => Sys2Proof.Machine.execEthDisable dt hart n v s
  | .ethLinkChange dt n up => Sys2Proof.Machine.execEthLinkChange dt n up s
  | .ethLinkRetry dt n => Sys2Proof.Machine.execEthLinkRetry dt n s
  | .txpkt dt id => Sys2Proof.Machine.execTxpkt dt id s
  | .ethRxbuf dt id => Sys2Proof.Machine.execEthRxbuf dt id s
  | .gcl dt id => Sys2Proof.Machine.execGcl dt id s
  | .gateListTakesEffect dt n => Sys2Proof.Machine.execGateListTakesEffect dt n s
  | .ethFrameSend dt n => Sys2Proof.Machine.execEthFrameSend dt n s
  | .ethFrameReceive dt n bs fcsOk age => Sys2Proof.Machine.execEthFrameReceive dt n bs fcsOk age s
  | .gptpSync dt n => Sys2Proof.Machine.execGptpSync dt n s
  | .pdelayExchange dt n measured => Sys2Proof.Machine.execPdelayExchange dt n measured s
  | .swarmEnable dt hart => Sys2Proof.Machine.execSwarmEnable dt hart s
  | .swarmPeriod dt => Sys2Proof.Machine.execSwarmPeriod dt s
  | .announceReceived dt sender field tSend ents age back => Sys2Proof.Machine.execAnnounceReceived dt sender field tSend ents age back s
  | .joinReceived dt sender field leader age => Sys2Proof.Machine.execJoinReceived dt sender field leader age s
  | .joinTimeout dt => Sys2Proof.Machine.execJoinTimeout dt s
  | .leaderLost dt => Sys2Proof.Machine.execLeaderLost dt s
  | .scrubWord dt b i1 found => Sys2Proof.Machine.execScrubWord dt b i1 found s
  | .scrubBehind dt b i1 => Sys2Proof.Machine.execScrubBehind dt b i1 s
  | .memErrLatchClear dt hart => Sys2Proof.Machine.execMemErrLatchClear dt hart s
  | .write dt hart => Sys2Proof.Machine.execWrite dt hart s
  | .readraw dt hart => Sys2Proof.Machine.execReadraw dt hart s
  | .regionCreate dt hart r v => Sys2Proof.Machine.execRegionCreate dt hart r v s
  | .regionEnableChange dt hart r v => Sys2Proof.Machine.execRegionEnableChange dt hart r v s
  | .delete dt hart r => Sys2Proof.Machine.execDelete dt hart r s
  | .stoWrite dt id gb => Sys2Proof.Machine.execStoWrite dt id gb s
  | .stoRead dt id bad => Sys2Proof.Machine.execStoRead dt id bad s
  | .trim dt id => Sys2Proof.Machine.execTrim dt id s
  | .dieLatencyWindow dt slow => Sys2Proof.Machine.execDieLatencyWindow dt slow s
  | .dieRetire dt d gb => Sys2Proof.Machine.execDieRetire dt d gb s
  | .append dt id => Sys2Proof.Machine.execAppend dt id s
  | .evrRead dt id => Sys2Proof.Machine.execEvrRead dt id s
  | .recorderScan dt torn => Sys2Proof.Machine.execRecorderScan dt torn s
  | .diagEventRecord dt => Sys2Proof.Machine.execDiagEventRecord dt s
  | .diagHeldRecord dt ty inst => Sys2Proof.Machine.execDiagHeldRecord dt ty inst s
  | .stage dt id => Sys2Proof.Machine.execStage dt id s
  | .put dt id => Sys2Proof.Machine.execPut dt id s
  | .apply dt id => Sys2Proof.Machine.execApply dt id s
  | .activate dt id => Sys2Proof.Machine.execActivate dt id s
  | .activationComplete dt => Sys2Proof.Machine.execActivationComplete dt s
  | .confirm dt id => Sys2Proof.Machine.execConfirm dt id s
  | .grdAbort dt id => Sys2Proof.Machine.execGrdAbort dt id s
  | .unlock dt id => Sys2Proof.Machine.execUnlock dt id s
  | .getid dt id => Sys2Proof.Machine.execGetid dt id s
  | .hash dt id => Sys2Proof.Machine.execHash dt id s
  | .random dt id => Sys2Proof.Machine.execRandom dt id s
  | .sign dt id => Sys2Proof.Machine.execSign dt id s
  | .confirmWindowExpiry dt => Sys2Proof.Machine.execConfirmWindowExpiry dt s
  | .parkedFallback dt => Sys2Proof.Machine.execParkedFallback dt s
  | .recoveryDatagram dt bytes => Sys2Proof.Machine.execRecoveryDatagram dt bytes s
  | .unlockExpiry dt => Sys2Proof.Machine.execUnlockExpiry dt s
  | .newNonce dt hart => Sys2Proof.Machine.execNewNonce dt hart s
  | .lock dt hart => Sys2Proof.Machine.execLock dt hart s
  | .ignitionRise dt => Sys2Proof.Machine.execIgnitionRise dt s
  | .startUp dt x => Sys2Proof.Machine.execStartUp dt x s
  | .trainingRetry dt x => Sys2Proof.Machine.execTrainingRetry dt x s
  | .lowSupplyHalt dt v => Sys2Proof.Machine.execLowSupplyHalt dt v s
  | .visionResume dt v => Sys2Proof.Machine.execVisionResume dt v s
  | .brownout dt v => Sys2Proof.Machine.execBrownout dt v s
  | .brownoutRecovery dt v w => Sys2Proof.Machine.execBrownoutRecovery dt v w s
  | .feedUv dt t v => Sys2Proof.Machine.execFeedUv dt t v s
  | .feedOv dt t v => Sys2Proof.Machine.execFeedOv dt t v s
  | .feedRecovery dt t v => Sys2Proof.Machine.execFeedRecovery dt t v s
  | .feedPowerUp dt t => Sys2Proof.Machine.execFeedPowerUp dt t s
  | .softwareReset dt hart v => Sys2Proof.Machine.execSoftwareReset dt hart v s
  | .lockstepMismatch dt pair => Sys2Proof.Machine.execLockstepMismatch dt pair s
  | .go dt hart w => Sys2Proof.Machine.execGo dt hart w s
  | .autoSleep dt w => Sys2Proof.Machine.execAutoSleep dt w s
  | .wake dt w => Sys2Proof.Machine.execWake dt w s
  | .keepAliveMirror dt => Sys2Proof.Machine.execKeepAliveMirror dt s
  | .kaLoss dt logic => Sys2Proof.Machine.execKaLoss dt logic s
  | .rtcWrite dt hart v => Sys2Proof.Machine.execRtcWrite dt hart v s
  | .smokerStep dt x => Sys2Proof.Machine.execSmokerStep dt x s
  | .smokerAbandon dt => Sys2Proof.Machine.execSmokerAbandon dt s
  | .tileTest dt t ev => Sys2Proof.Machine.execTileTest dt t ev s
  | .smokerBehind dt => Sys2Proof.Machine.execSmokerBehind dt s
  | .enter dt hart => Sys2Proof.Machine.execEnter dt hart s
  | .plateCap dt a b => Sys2Proof.Machine.execPlateCap dt a b s
  | .plateAbove100 dt a b => Sys2Proof.Machine.execPlateAbove100 dt a b s
  | .thermalShutdown dt a b => Sys2Proof.Machine.execThermalShutdown dt a b s
  | .plateSensorInvalid dt a b => Sys2Proof.Machine.execPlateSensorInvalid dt a b s
  | .sup5CurrentLimit dt j lim => Sys2Proof.Machine.execSup5CurrentLimit dt j lim s
  | .sensorInputFault dt port openWire range => Sys2Proof.Machine.execSensorInputFault dt port openWire range s
  | .solFaultEnds dt c kind => Sys2Proof.Machine.execSolFaultEnds dt c kind s
  | .dioOvertempRecovery dt c => Sys2Proof.Machine.execDioOvertempRecovery dt c s
  | .dioOpenWireEnds dt c => Sys2Proof.Machine.execDioOpenWireEnds dt c s
  | .fanDrvHotRecovery dt n => Sys2Proof.Machine.execFanDrvHotRecovery dt n s
  | .antennaBiasRecovery dt a => Sys2Proof.Machine.execAntennaBiasRecovery dt a s
  | .canRxError dt n by8 => Sys2Proof.Machine.execCanRxError dt n by8 s
  | .canBusIntegrated dt n => Sys2Proof.Machine.execCanBusIntegrated dt n s
  | .keepAlivePowerUp dt => Sys2Proof.Machine.execKeepAlivePowerUp dt s
  | .thermalRestart dt t w => Sys2Proof.Machine.execThermalRestart dt t w s
  | .tapInstruction dt ir => Sys2Proof.Machine.execTapInstruction dt ir s

end Sys2Proof.Machine
end

