-- ==== Sys2Proof/Safety.lean ====
section
/-!
DEFINITION. What counts as a good state and a good step: memory in its canonical form, commands that end in a next state, and the
powers of a module whose logic domain is off.
-/
namespace Sys2Proof.Machine

/-- Memory is in its one canonical form: addresses strictly rising, and no listed byte 0. -/
def State.MemOk (s : State) : Prop := Memory.wf s.hw.mem = true

/-- A command ends in a next state, neither a fault nor a refusal, which leaves the queue as it stands and whose module has a
property. -/
def Does (c : Instr) (s : State) (P : Hw → Prop) : Prop := ∃ t, exec c s = .next t ∧ t.pending = s.pending ∧ P t.hw

/-- The operation with a number is running, as a descriptor of an engine with an OP. -/
abbrev OpRuns (h : Hw) (id eng op : Nat) (f : Flight) : Prop := h.flight id = some f ∧ f.stage = 1 ∧ f.eng = eng ∧ fld f.desc 0 1 % 16 = op

/-- The operation with a number has ended, and its completion will give a status. -/
def OpEnded (h : Hw) (id st : Nat) : Prop := ∃ f, h.flight id = some f ∧ f.stage = 2 ∧ f.cpl.status = st

/-- The commands of the keep-alive domain, Guard's start-up and the tiles' feeds: those with an effect while the logic domain is off
(R821, R830). -/
def keepAliveCmd : Instr → Bool
  | .ignitionRise .. | .startUp .. | .trainingRetry .. | .brownout .. | .brownoutRecovery .. | .feedUv .. | .feedOv ..
  | .feedRecovery .. | .feedPowerUp .. | .wake .. | .keepAliveMirror .. | .kaLoss .. | .keepAlivePowerUp .. | .thermalRestart .. => true
  | .registerWrite .. | .registerReadClear .. | .loRegisterRead .. | .hiRegisterWrite .. | .coreMemoryAccess ..
  | .unmappedAccess .. | .spAtomicAliasLoad .. | .ownershipRequest .. | .lineWriteback .. | .combSingleBitCorrected ..
  | .combUncorrectable .. | .combTimeout .. | .lateResponseDiscard .. | .reservationTakesEffect .. | .visionPowerCap ..
  | .ppsEdge .. | .holdoverEntry .. | .domainCfgWrite .. | .domainEdge .. | .indexEdge .. | .domainStopTimeout ..
  | .fusionUpdateArrival .. | .heldUpdateApply .. | .eventIssue .. | .deferredValveStart .. | .slotArm .. | .slotDisarm ..
  | .slotCmdArm .. | .slotCmdRead .. | .slotCmdDisarm .. | .doorbellStore .. | .doorbellRead .. | .descriptorFetch ..
  | .completionWrite .. | .ringIrqTimer .. | .ringEnable .. | .ringDisable .. | .ringDrainDone .. | .ringReset .. | .copy ..
  | .blockFill .. | .layoutLoad .. | .start .. | .stop .. | .restart .. | .reconfigure .. | .stopDrainDone ..
  | .fillDoneRelease .. | .presenceLoss .. | .presenceReturn .. | .presenceLossTimeout .. | .presenceAssert ..
  | .retryTimerExpiry .. | .challengeAnswer .. | .roundDecision .. | .loopedFrameDelivery .. | .cameraEnable ..
  | .cameraDisable .. | .cameraGeomWrite .. | .cameraLinkUp .. | .cameraLinkDown .. | .cameraTrainingRetry .. | .post ..
  | .reprocess .. | .profile .. | .cci .. | .cciTimeout .. | .frameStart .. | .frameEnd .. | .elasticBufferOverflow ..
  | .frameCapacityOverrun .. | .arrivalDeadline .. | .pipelinePassStart .. | .pipelinePassEnd .. | .processingDeadline ..
  | .converterSample .. | .sfeChannelReconfig .. | .spdEdgeCapture .. | .sentFrame .. | .recbuf .. | .bufferFlushTimeout ..
  | .impactBegin .. | .impactEnd .. | .lossSampleStep .. | .lossWindowLengthEnd .. | .paddleFill .. | .cal .. | .width ..
  | .convert .. | .paddleRecord .. | .historyEntry .. | .yieldBinTimeout .. | .yieldEnable .. | .controlTick .. | .setpoint ..
  | .meas .. | .mode .. | .loopTableLoad .. | .inject .. | .capture .. | .readcap .. | .ctlSlotSelWrite .. | .recCmdWrite ..
  | .recCmdRead .. | .solEnable .. | .solDisable .. | .solprof .. | .solcur .. | .phaseEnd .. | .offtimeEnd .. | .timeToPeak ..
  | .solOvercurrent .. | .solFaultDetect .. | .drvHot .. | .clampLimit .. | .oilTempUpdate .. | .thermalModelStep ..
  | .lswEnable .. | .lswset .. | .currentLimitTimeout .. | .openOn .. | .offHigh .. | .overtemp .. | .overtempRestart ..
  | .lswFaultClear .. | .feedShed .. | .feedTrip .. | .tileFrame .. | .tileWatchdogExpiry .. | .watchdogPeriodStart ..
  | .watchdogPeriodEnd .. | .wdans .. | .arm .. | .fsLock .. | .dioEnable .. | .dioset .. | .diobuf .. | .counterFilterStep ..
  | .debounceExpiry .. | .filterChange .. | .dioOverload .. | .dioFaultDetect .. | .silent .. | .fanEnable .. | .fanset ..
  | .fantab .. | .tableModeEntry .. | .thermistorFault .. | .thermistorRelease .. | .fanOvercurrent .. | .stall ..
  | .stallRestart .. | .fanFaultDetect .. | .xn7200Measurement .. | .fusEnable .. | .detect .. | .fix .. | .init .. | .outbuf ..
  | .egoStep .. | .imuTimeout .. | .egoFaultExit .. | .gnssLost .. | .gnssHoldoffEnd .. | .fusionCycle .. | .sourceStale ..
  | .degradationRecover .. | .gnsAntEnable .. | .biasFault .. | .biasRetry .. | .chan .. | .gnssStop .. | .obsbuf .. | .clock ..
  | .acquisitionPeak .. | .trackReached .. | .pullInTimeout .. | .searchTimeout .. | .lossOfLock .. | .observableEpoch ..
  | .integrationEnd .. | .navSymbolRecord .. | .internalPpsInvalid .. | .ppsOutPulse .. | .canEnable .. | .canDisable ..
  | .canRestart .. | .busOffRecoveryDone .. | .canFrameReceived .. | .fifoRecordWrite .. | .txset .. | .txreq .. | .canAbort ..
  | .canRxbuf .. | .linsched .. | .linpub .. | .canTransmitStart .. | .canTransmitEnd .. | .canArbLost .. | .canTxError ..
  | .addressClaim .. | .heartbeatSend .. | .watchTimeout .. | .linSlot .. | .linWake .. | .ethEnable .. | .ethDisable ..
  | .ethLinkChange .. | .ethLinkRetry .. | .txpkt .. | .ethRxbuf .. | .gcl .. | .gateListTakesEffect .. | .ethFrameSend ..
  | .ethFrameReceive .. | .gptpSync .. | .pdelayExchange .. | .swarmEnable .. | .swarmPeriod .. | .announceReceived ..
  | .joinReceived .. | .joinTimeout .. | .leaderLost .. | .scrubWord .. | .scrubBehind .. | .memErrLatchClear .. | .write ..
  | .readraw .. | .regionCreate .. | .regionEnableChange .. | .delete .. | .stoWrite .. | .stoRead .. | .trim ..
  | .dieLatencyWindow .. | .dieRetire .. | .append .. | .evrRead .. | .recorderScan .. | .diagEventRecord .. | .diagHeldRecord ..
  | .stage .. | .put .. | .apply .. | .activate .. | .activationComplete .. | .confirm .. | .grdAbort .. | .unlock .. | .getid ..
  | .hash .. | .random .. | .sign .. | .confirmWindowExpiry .. | .parkedFallback .. | .recoveryDatagram .. | .unlockExpiry ..
  | .newNonce .. | .lock .. | .lowSupplyHalt .. | .visionResume .. | .softwareReset .. | .lockstepMismatch .. | .go ..
  | .autoSleep .. | .rtcWrite .. | .smokerStep .. | .smokerAbandon .. | .tileTest .. | .smokerBehind .. | .enter ..
  | .plateCap .. | .plateAbove100 .. | .thermalShutdown .. | .plateSensorInvalid .. | .sup5CurrentLimit .. | .sensorInputFault ..
  | .solFaultEnds .. | .dioOvertempRecovery .. | .dioOpenWireEnds .. | .fanDrvHotRecovery .. | .antennaBiasRecovery ..
  | .canRxError .. | .canBusIntegrated .. | .tapInstruction .. => false

/-- The logic domain is off and no command that waits can switch it on. -/
def State.Dark (s : State) : Prop := s.hw.isOn = false ∧ s.pending.all (fun c => !keepAliveCmd c) = true

/-- Every register outside some pages of the register map reads the same in two modules. -/
def RegsKept (pages : List Nat) (h g : Hw) : Prop := ∀ a, a / 0x10000 ∉ pages → g.reg a = h.reg a

/-- Every byte of memory outside n bytes from an address on reads the same in two modules. -/
def BytesKept (x n : Nat) (h g : Hw) : Prop := ∀ a, a < x ∨ x + n ≤ a → memGet g.mem a = memGet h.mem a

end Sys2Proof.Machine
end

