-- ==== Sys2Proof/Certificates/Slice0/Obligations.lean ====
section
/-!
DEFINITION. The statements for the provers. Does c s P: exec of the command c at s answers a next state whose queue is s's and
whose module satisfies P. A clause of a statement has the hypotheses it names and no others; s.hw.elapse dt is the module after
dt nanoseconds have passed.
-/
open Sys2Proof Sys2Proof.Machine

/-- For every command and every module, a step with that command at the front of the queue is exec of the command on the module
with the queue's rest; with an empty queue the module idles (the model's choice, log entry 4). (00_scope.md,
95_what_each_step_holds.md) -/
def Obligations.StepRunsTheFrontCommand : Prop :=
  (∀ (c : Instr) (r : List Instr) (h : Hw), step ⟨c :: r, h⟩ = exec c ⟨r, h⟩) ∧
  (∀ (h : Hw), step ⟨[], h⟩ = .next ⟨[], h⟩)

/-- For every command and every state, exec answers a next state, neither a fault nor a refusal, and the commands that wait
behind it are unchanged. (00_scope.md, 95_what_each_step_holds.md) -/
def Obligations.EveryCommandAnswers : Prop :=
  ∀ (c : Instr) (s : State), ∃ t, exec c s = .next t ∧ t.pending = s.pending

/-- After reset no command waits, memory is filled with zeros and has no error, every ring is disabled, in IDLE and without a
reserve, every partition is STOPPED, no camera, valve, load switch, DIO channel or fan is enabled, no shadow or pending half
of a register pair stands, and the logic domain waits for its start-up. The registers that hold other values after a first
ignition than their field tables give every module are those of log entry 5. (R903, R706, R178, R276, R498, R520) -/
def Obligations.ResetState : Prop :=
  (State.reset.Dark ∧ State.reset.pending = [] ∧ State.reset.MemOk ∧ State.reset.hw.ecc = [] ∧ State.reset.hw.shadow = [] ∧
    State.reset.hw.pendLo = []) ∧
  (∀ (a : Nat), memGet State.reset.hw.mem a = 0) ∧
  (∀ (r : Fin 1024), State.reset.hw.ringState r = 0 ∧ State.reset.hw.get F.RNG_QUOTA_RESV r = 0 ∧
    State.reset.hw.get F.RNG_QUOTA_CAP r = 0) ∧
  (∀ (p : Fin 8), State.reset.hw.partState p = 0) ∧
  (∀ (n : Fin 16), State.reset.hw.camOn n = false ∧ State.reset.hw.get F.IMG_CAM_STATUS_LINK n = 0) ∧
  (∀ (c : Fin 96), State.reset.hw.flag F.LSW_CFG_ENABLE c = false) ∧
  (∀ (c : Fin 128), State.reset.hw.flag F.DIO_CFG_ENABLE c = false ∧ State.reset.hw.flag F.DIO_CFG_DIR c = false) ∧
  (∀ (n : Fin 8), State.reset.hw.flag F.FAN_CFG_ENABLE n = false) ∧
  (∀ (c : Fin 48), solOn State.reset.hw c = false)

/-- PPS_EDGE, HOLDOVER_ENTRY, DOMAIN_CFG_WRITE, DOMAIN_EDGE, INDEX_EDGE, DOMAIN_STOP_TIMEOUT, FUSION_UPDATE_ARRIVAL and
HELD_UPDATE_APPLY answer a next state with their own effect: the edge taken in and a discipline state, holdover and its event,
the divider written, a first edge that primes its domain, an index that sets index 0, the stopped domain and its event, an
update held until its time, and a held update taken in. (R63, R65, R122, R79, R84) -/
def Obligations.WaggleTimebaseAndEdgesComplete : Prop :=
  (∀ (dt : Nat) (s : State) (g te : Int), s.hw.isOn = true → ppsDue (s.hw.elapse dt) = some (g, te) →
    s.hw.flag F.WGL_CTRL_DISC_EN = true → s.hw.flag F.GNS_CLK_STATUS_PPS_VALID = true → Does (.ppsEdge dt) s fun h =>
    h.gns.lastSec = some g ∧ (h.get F.WGL_STATUS_DISC = 1 ∨ h.get F.WGL_STATUS_DISC = 2)) ∧
  (∀ (dt : Nat) (s : State), s.hw.isOn = true → s.hw.flag F.GNS_CLK_STATUS_PPS_VALID = false → s.hw.get F.WGL_STATUS_DISC = 2 →
    Does (.holdoverEntry dt) s fun h => h.get F.WGL_STATUS_DISC = 3 ∧ h.diag = s.hw.diag ++ [⟨0x0205, 0xFFFF, false⟩] ∧
    h.wgl.corr = s.hw.wgl.corr) ∧
  (∀ (dt : Nat) (s : State) (hart : Fin 19) (i : Fin 16) (v : Word), s.hw.isOn = true → s.hw.byP0 hart = true →
    s.hw.get F.WGL_DOM_CFG_TYPE i = 0 → 1 ≤ v.toNat → v.toNat < 2 ^ 20 → Does (.domainCfgWrite dt hart i true v) s fun h =>
    h.get F.WGL_DOM_DIV_DIV i = v.toNat) ∧
  (∀ (dt : Nat) (s : State) (i : Fin 16) (level : Bool), s.hw.isOn = true → s.hw.get F.WGL_DOM_CFG_TYPE i ≠ 0 →
    s.hw.get F.WGL_DOM_CFG_SRC i = 0 → s.hw.wgl.slots = [] → (s.hw.dom i).n = 0 → Does (.domainEdge dt i level) s fun h =>
    (h.dom i).n = 1 ∧ (h.dom i).p.state = 1 ∧ (h.dom i).lastAt = s.hw.now + dt) ∧
  (∀ (dt : Nat) (s : State) (i : Fin 16), s.hw.isOn = true → s.hw.domRotary i = true → s.hw.flag F.WGL_DOM_CFG_IDX_EN i = true →
    s.hw.wgl.slots = [] → Does (.indexEdge dt i) s fun h => h.get F.WGL_DOM_STATUS_IDX_SEEN i = 1 ∧ (h.dom i).idx = 0 ∧
    (h.dom i).cnt = 0) ∧
  (∀ (dt : Nat) (s : State) (i : Fin 16), s.hw.isOn = true → (s.hw.dom i).p.state = 2 →
    (s.hw.dom i).lastAt + 1000 * s.hw.get F.WGL_DOM_STOP_TIMEOUT i ≤ s.hw.now + dt → Does (.domainStopTimeout dt i) s fun h =>
    (h.dom i).p.state = 4 ∧ h.get F.WGL_DOM_STATUS_STATE i = 4 ∧ h.diag = s.hw.diag ++ [⟨0x0201, i, false⟩]) ∧
  (∀ (dt : Nat) (s : State) (i : Fin 16) (level : Bool) (u : Upd) (r : List Upd), s.hw.isOn = true →
    mgetD s.hw.wgl.sent i [] = u :: r → s.hw.get F.WGL_DOM_CFG_TYPE i = 2 → s.hw.get F.WGL_DOM_CFG_SRC i = 1 →
    ((s.hw.elapse dt).wgl.tb : Int) < u.tov → Does (.fusionUpdateArrival dt i level) s fun h =>
    (h.dom i).held = (s.hw.dom i).held ++ [u] ∧ mgetD h.wgl.sent i [] = r) ∧
  (∀ (dt : Nat) (s : State) (i : Fin 16) (level : Bool) (u : Upd) (r : List Upd), s.hw.isOn = true →
    (s.hw.dom i).held = u :: r → u.tov ≤ ((s.hw.elapse dt).wgl.tb : Int) → s.hw.wgl.slots = [] →
    Does (.heldUpdateApply dt i level) s fun h => (h.dom i).held = r ∧ (h.dom i).tLast = u.tov ∧
    (h.dom i).lastAt = s.hw.now + dt)

/-- EVENT_ISSUE, DEFERRED_VALVE_START, SLOT_ARM, SLOT_DISARM, SLOT_CMD_ARM, SLOT_CMD_READ and SLOT_CMD_DISARM answer a next
state with their own effect: the instant of the issue and the 2.5 ns after the last, a waiting start that is no longer
waiting, an accepted arm and a disarm that complete with ST_OK, and the three commands of WGL_SLOT_CMD with WGL_SLOT_ST.STATUS
0, the slot record in WGL_SLOT_DATA, and the slot removed. (R98, R101, R103, R108, R121) -/
def Obligations.WaggleSlotsComplete : Prop :=
  (∀ (dt : Nat) (s : State) (t : Int) (c n k : Nat) (f : Fire) (x : Slot), s.hw.isOn = true →
    firstDue (s.hw.elapse dt) = some (t, c, n, f, k) → s.hw.slot n = some x →
    s.hw.wgl.last2 + 5 ≤ 2 * (s.hw.elapse dt).wgl.tb + 1 → sAction f.raw = 0 → Does (.eventIssue dt) s fun h =>
    h.wgl.last2 = max (2 * t.toNat) (s.hw.wgl.last2 + 5)) ∧
  (∀ (dt : Nat) (s : State) (c : Fin 48) (n : Nat) (src : Option Fire), s.hw.isOn = true → (s.hw.sol c).pend = some (n, src) →
    (s.hw.sol c).out ≠ 3 → (s.hw.sol c).offEnd ≤ s.hw.now + dt → startCheck (s.hw.elapse dt) c n = ST_OK →
    Does (.deferredValveStart dt c) s fun h => (h.sol c).out = 3 ∧ (h.sol c).no = n ∧ (h.sol c).phase = 0 ∧
    (h.sol c).phaseAt = s.hw.now + dt ∧ (h.sol c).pend = none) ∧
  (∀ (dt : Nat) (s : State) (id : Nat) (f : Flight), s.hw.isOn = true → s.hw.flight id = some f → f.stage = 1 → f.eng = 1 →
    fld f.desc 34 1 = 1 → armCheck (s.hw.elapse dt) f.part (fld f.desc 32 2) (f.desc.take 32) = ST_OK →
    Does (.slotArm dt id) s fun h => OpEnded h id ST_OK) ∧
  (∀ (dt : Nat) (s : State) (id : Nat) (f : Flight), s.hw.isOn = true → s.hw.flight id = some f → f.stage = 1 → f.eng = 1 →
    fld f.desc 34 1 = 2 → slotOwned s.hw f.part (fld f.desc 32 2) = true → Does (.slotDisarm dt id) s fun h =>
    OpEnded h id ST_OK) ∧
  (∀ (dt : Nat) (s : State) (hart : Fin 19), s.hw.isOn = true → s.hw.byP0 hart = true →
    armCheck (s.hw.elapse dt) 0 (s.hw.get F.WGL_SLOT_SEL_SLOT) (slotData s.hw) = ST_OK → Does (.slotCmdArm dt hart) s fun h =>
    h.get F.WGL_SLOT_ST_STATUS = ST_OK) ∧
  (∀ (dt : Nat) (s : State) (hart : Fin 19) (x : Slot), s.hw.isOn = true → s.hw.byP0 hart = true →
    slotOwned s.hw 0 (s.hw.get F.WGL_SLOT_SEL_SLOT) = true → s.hw.slot (s.hw.get F.WGL_SLOT_SEL_SLOT) = some x →
    Does (.slotCmdRead dt hart) s fun h => h.get F.WGL_SLOT_ST_STATUS = ST_OK ∧ ∀ j, j < 8 →
    h.get F.WGL_SLOT_DATA_DATA j = fld x.raw (4 * j) 4) ∧
  (∀ (dt : Nat) (s : State) (hart : Fin 19) (x : Slot), s.hw.isOn = true → s.hw.byP0 hart = true →
    slotOwned s.hw 0 (s.hw.get F.WGL_SLOT_SEL_SLOT) = true → s.hw.slot (s.hw.get F.WGL_SLOT_SEL_SLOT) = some x →
    Does (.slotCmdDisarm dt hart) s fun h => h.get F.WGL_SLOT_ST_STATUS = ST_OK ∧
    h.wgl.slots = mdel s.hw.wgl.slots (s.hw.get F.WGL_SLOT_SEL_SLOT))

/-- REGISTER_WRITE, REGISTER_READ_CLEAR, LO_REGISTER_READ, HI_REGISTER_WRITE, CORE_MEMORY_ACCESS (a store and a load),
UNMAPPED_ACCESS and SP_ATOMIC_ALIAS_LOAD of a running hart answer a next state: the register is written as regStore says and
the access ends without a fault; RC fields are cleared; the live _HI half is kept for the hart; the pair takes its value; the
stored bytes read back and a load returns the bytes of memory; an unmapped access faults, is counted and changes no memory;
the atomic alias returns the word before the operation and leaves the result. (R890, R900, R901, R190, R693, R21) -/
def Obligations.CoreAccessesComplete : Prop :=
  (∀ (dt : Nat) (s : State) (hart : Fin 19) (page : Fin 20) (off : BitVec 16) (p : Nat) (v : Word), s.hw.isOn = true →
    s.hw.hartPart hart = some p → p < 8 → s.hw.partState p = 3 → off.toNat % 4 = 0 →
    Does (.registerWrite dt hart page off v) s fun h =>
    h = hartDone (regStore (s.hw.elapse dt) hart p (page.val * 0x10000 + off.toNat) v) hart none) ∧
  (∀ (dt : Nat) (s : State) (hart : Fin 19) (page : Fin 20) (off : BitVec 16) (p : Nat) (r : RegRow), s.hw.isOn = true →
    s.hw.hartPart hart = some p → p < 8 → s.hw.partState p = 3 → off.toNat % 4 = 0 →
    readRow? (page.val * 0x10000 + off.toNat) = some r → r.rc ≠ 0 → r.pair = 0 →
    Does (.registerReadClear dt hart page off) s fun h => mget h.rfault hart = some false ∧
    Nat.land (h.reg (page.val * 0x10000 + off.toNat)).toNat r.rc = 0) ∧
  (∀ (dt : Nat) (s : State) (hart : Fin 19) (page : Fin 20) (off : BitVec 16) (p : Nat) (r : RegRow), s.hw.isOn = true →
    s.hw.hartPart hart = some p → p < 8 → s.hw.partState p = 3 → off.toNat % 4 = 0 →
    readRow? (page.val * 0x10000 + off.toNat) = some r → r.pair = 1 → Does (.loRegisterRead dt hart page off) s fun h =>
    (mget h.shadow (hartKey hart ((page.val * 0x10000 + off.toNat) + 4))).map (·.2) = some (s.hw.now + dt)) ∧
  (∀ (dt : Nat) (s : State) (hart : Fin 19) (page : Fin 20) (off : BitVec 16) (p : Nat) (v : Word) (r : RegRow), s.hw.isOn =
      true → s.hw.hartPart hart = some p → p < 8 → s.hw.partState p = 3 → off.toNat % 4 = 0 →
    regRow? (page.val * 0x10000 + off.toNat) = some r → r.pair = 2 → r.rw ≠ 0 →
    viewWrites s.hw p (page.val * 0x10000 + off.toNat) r = true → regLocked s.hw (page.val * 0x10000 + off.toNat) r = false →
    Does (.hiRegisterWrite dt hart page off v) s fun h =>
    h = hartDone (pairWrite (s.hw.elapse dt) hart (page.val * 0x10000 + off.toNat) r v.toNat) hart none) ∧
  (∀ (dt : Nat) (s : State) (hart : Fin 19) (addr v : DWord) (lg : Fin 4) (p : Nat), s.hw.isOn = true → hart.val < 16 →
    s.hw.hartPart hart = some p → s.hw.partState p = 3 → addr.toNat + 2 ^ lg.val ≤ 0xE04000000 →
    s.hw.owns p addr.toNat (2 ^ lg.val) = true → s.hw.ecc = [] → Memory.wf s.hw.mem = true →
    Does (.coreMemoryAccess dt hart addr lg (some v)) s fun h => mget h.rfault hart = some false ∧
    memRead h.mem addr.toNat (2 ^ lg.val) = leBytes (2 ^ lg.val) v.toNat) ∧
  (∀ (dt : Nat) (s : State) (hart : Fin 19) (addr : DWord) (lg : Fin 4) (p : Nat), s.hw.isOn = true → hart.val < 16 →
    s.hw.hartPart hart = some p → s.hw.partState p = 3 → addr.toNat + 2 ^ lg.val ≤ 0xE04000000 →
    s.hw.mayRead p addr.toNat (2 ^ lg.val) = true → s.hw.ecc = [] → Does (.coreMemoryAccess dt hart addr lg none) s fun h =>
    mget h.rfault hart = some false ∧ mget h.rdata hart = some (leNat (memRead s.hw.mem addr.toNat (2 ^ lg.val))) ∧
    h.mem = s.hw.mem) ∧
  (∀ (dt : Nat) (s : State) (hart : Fin 19) (addr : DWord) (st : Option Word) (p : Nat), s.hw.isOn = true →
    s.hw.hartPart hart = some p → s.hw.partState p = 3 → reach s.hw hart p addr.toNat 4 st.isSome = .unmapped →
    Does (.unmappedAccess dt hart addr st) s fun h => mget h.rfault hart = some true ∧ h.mem = s.hw.mem ∧
    h.get F.MEM_ERR_CNT_CE 15 = min (s.hw.get F.MEM_ERR_CNT_CE 15 + 1) (2 ^ F.MEM_ERR_CNT_CE.w - 1)) ∧
  (∀ (dt : Nat) (s : State) (pair : Fin 3) (addr : Word) (p : Nat), s.hw.isOn = true → s.hw.hartPart (16 + pair.val) = some p →
    s.hw.partState p = 3 → 0x40000000 ≤ addr.toNat → addr.toNat < 0x80000000 → addr.toNat % 4 = 0 →
    winAddr s.hw pair (addr.toNat + 0x40000000) + 4 ≤ 0xE04000000 →
    s.hw.owns p (winAddr s.hw pair (addr.toNat + 0x40000000)) 4 = true → s.hw.ecc = [] → Memory.wf s.hw.mem = true →
    Does (.spAtomicAliasLoad dt pair addr) s fun h =>
    mget h.rdata (16 + pair.val) = some (s.hw.rdN (winAddr s.hw pair (addr.toNat + 0x40000000)) 4) ∧
    h.rdN (winAddr s.hw pair (addr.toNat + 0x40000000)) 4 = amoValue (s.hw.get F.PRP_SP_AMO_OP_OP pair) (s.hw.rdN (winAddr s.hw
      pair (addr.toNat + 0x40000000)) 4) (s.hw.get F.PRP_SP_AMO_ARG_ARG pair))

/-- OWNERSHIP_REQUEST, LINE_WRITEBACK, COMB_SINGLE_BIT_CORRECTED, COMB_UNCORRECTABLE, COMB_TIMEOUT and LATE_RESPONSE_DISCARD
answer a next state: a cluster that asks alone owns the line, a writeback leaves no copy, a corrected flit is counted and
logged, a lost or late transaction ends its operation or its hart's access, and a late response changes nothing. (R719, R720,
R54, R55, R56, R57) -/
def Obligations.CombAndCoherencyComplete : Prop :=
  (∀ (dt : Nat) (s : State) (line : BitVec 36) (c : Fin 4), s.hw.isOn = true → inMain (64 * line.toNat) 64 = true →
    Does (.ownershipRequest dt line [.cluster c]) s fun h =>
    (mget h.dir line.toNat).map (fun x => (x.own, x.sh)) = some (some c.val, [c.val])) ∧
  (∀ (dt : Nat) (s : State) (line : BitVec 36) (c : Fin 4) (x : DLine), s.hw.isOn = true → mget s.hw.dir line.toNat = some x →
    x.own = some c.val → Does (.lineWriteback dt line c) s fun h => h.dir = mdel s.hw.dir line.toNat ∧ h.mem = s.hw.mem) ∧
  (∀ (dt : Nat) (s : State) (stop : Fin 64) (off : BitVec 40) (b : Fin 72), s.hw.isOn = true →
    Does (.combSingleBitCorrected dt stop off b) s fun h =>
    h.get F.MEM_COMB_CNT_COUNT 0 = min (s.hw.get F.MEM_COMB_CNT_COUNT 0 + 1) (2 ^ F.MEM_COMB_CNT_COUNT.w - 1) ∧
    h.diag = s.hw.diag ++ [⟨0x0110, 0xFFFF, false⟩]) ∧
  (∀ (dt : Nat) (s : State) (id : Nat) (f : Flight), s.hw.isOn = true → s.hw.flight id = some f → f.stage = 1 →
    Does (.combUncorrectable dt (.op id)) s fun h => OpEnded h id ST_COMB_UNCORRECTABLE ∧
    h.diag = s.hw.diag ++ [⟨0x0111, 0xFFFF, false⟩]) ∧
  (∀ (dt : Nat) (s : State) (t : Fin 19), s.hw.isOn = true → Does (.combTimeout dt (.hart t)) s fun h =>
    mget h.rfault t = some true ∧ mget h.rdata t = some 0 ∧ h.diag = s.hw.diag ++ [⟨0x0112, 0xFFFF, false⟩]) ∧
  (∀ (dt : Nat) (s : State), s.hw.isOn = true → Does (.lateResponseDiscard dt) s fun h => h = s.hw.elapse dt)

/-- RESERVATION_TAKES_EFFECT, VISION_POWER_CAP, LAYOUT_LOAD, START, STOP, RESTART, RECONFIGURE, STOP_DRAIN_DONE and
FILL_DONE_RELEASE answer a next state: booked reservations in force, the supply voltage taken in, the layout in force, the
partition FILLING, the steps of a stop taken, the partition's entries replaced, the command ended. (R187, R194, R197, R199,
R201, R33, R59) -/
def Obligations.PartitionCommandsComplete : Prop :=
  (∀ (dt : Nat) (s : State) (p : Fin 8), s.hw.isOn = true → Does (.reservationTakesEffect dt p) s fun h =>
    h.prp.resv.all (fun r => r.part != p.val || r.inForce) = true ∧ h.prp.layout = s.hw.prp.layout) ∧
  (∀ (dt : Nat) (s : State) (v : BitVec 16), s.hw.isOn = true → Does (.visionPowerCap dt v) s fun h =>
    h.get F.PWR_VOLT_LOGIC = v.toNat) ∧
  (∀ (dt : Nat) (s : State) (hart : Fin 19) (l : List LEnt), s.hw.isOn = true → s.hw.byP0 hart = true → s.hw.prp.cmd = none →
    s.hw.flag F.PRP_PART_ST_BUSY = false → (List.range 7).all (fun k => decide (s.hw.partState (k + 1) < 2)) = true →
    readImage s.hw (s.hw.get64 F.PRP_LAYOUT_ADDR_LO_ADDR) = some l → layoutStatus s.hw l = ST_OK →
    Does (.layoutLoad dt hart) s fun h => h = partStatus (applyLayout (s.hw.elapse dt) l) ST_OK ∧
    h.get F.PRP_PART_ST_STATUS = ST_OK) ∧
  (∀ (dt : Nat) (s : State) (hart : Fin 19) (p : Fin 8), s.hw.isOn = true → s.hw.byP0 hart = true → cmdOk s.hw p [1] = true →
    Does (.start dt hart p) s fun h => h.partState p = 2 ∧ h.get F.PRP_PART_ST_BUSY = 1 ∧ h.prp.cmd = some ⟨1, p, false⟩) ∧
  (∀ (dt : Nat) (s : State) (hart : Fin 19) (p : Fin 8), s.hw.isOn = true → s.hw.byP0 hart = true → cmdOk s.hw p [3, 4] = true →
    Does (.stop dt hart p) s fun h => h = stopSteps (beginCmd (s.hw.elapse dt) 2 p) p) ∧
  (∀ (dt : Nat) (s : State) (hart : Fin 19) (p : Fin 8), s.hw.isOn = true → s.hw.byP0 hart = true → cmdOk s.hw p [3, 4] = true →
    Does (.restart dt hart p) s fun h => h = stopSteps (beginCmd (endTileTest (s.hw.elapse dt)) 3 p) p) ∧
  (∀ (dt : Nat) (s : State) (hart : Fin 19) (p : Fin 8) (es : List LEnt), s.hw.isOn = true → s.hw.byP0 hart = true →
    cmdOk s.hw p [1] = true → readImage s.hw (s.hw.get64 F.PRP_LAYOUT_ADDR_LO_ADDR) = some es →
    es.all (fun e => e.part == p.val) = true →
    layoutStatus s.hw (s.hw.prp.layout.filter (fun e => e.part != p.val) ++ es) = ST_OK →
    Does (.reconfigure dt hart p) s fun h => h.get F.PRP_PART_ST_STATUS = ST_OK) ∧
  (∀ (dt : Nat) (s : State) (c : PCmd), s.hw.isOn = true → s.hw.prp.cmd = some c → c.kind = 2 →
    Does (.stopDrainDone dt) s fun h => h.prp.cmd = none ∧ h.get F.PRP_PART_ST_BUSY = 0 ∧
    h.prp.resv.all (fun r => r.part != c.part || r.ending) = true) ∧
  (∀ (dt : Nat) (s : State) (p : Fin 8) (g : Hw) (c : PCmd), s.hw.isOn = true → s.hw.partState p = 2 →
    loadComponents (fillPart (s.hw.elapse dt) p) p = (g, true) → s.hw.prp.cmd = some c → c.kind = 1 → c.part = p.val →
    g.prp.cmd = some c → Does (.fillDoneRelease dt p) s fun h =>
    h = endCmd (releaseOutputs (g.put F.PRP_PART_STATUS_STATE 3 p) p) ∧ h.prp.cmd = none ∧ h.get F.PRP_PART_ST_BUSY = 0)

/-- DOORBELL_STORE, DOORBELL_READ, DESCRIPTOR_FETCH, COMPLETION_WRITE, RING_IRQ_TIMER, RING_ENABLE, RING_DISABLE,
RING_DRAIN_DONE and RING_RESET answer a next state: the word stored, the count taken over, the fetched count advanced, the
operation gone with its completion, the interrupt raised, and the ring in RUN, DRAIN or IDLE, or reset. COPY without scatter
lists whose destination lies clear of its source leaves there the bytes of the source and ends with ST_OK; FILL without a
scatter list leaves the pattern, repeated from the destination start, and ends with ST_OK. (R128, R130, R131, R140, R153,
R168, R170, R174, R146) -/
def Obligations.RingCommandsComplete : Prop :=
  (∀ (dt : Nat) (s : State) (hart : Fin 19) (addr : DWord) (v : Word) (p : Nat), s.hw.isOn = true → hart.val < 16 →
    s.hw.hartPart hart = some p → s.hw.partState p = 3 → addr.toNat + 4 ≤ 0xE04000000 → watchedAt s.hw addr.toNat = true →
    s.hw.owns p addr.toNat 4 = true → s.hw.ecc = [] → Memory.wf s.hw.mem = true →
    Does (.doorbellStore dt hart addr v) s fun h => mget h.rfault hart = some false ∧ h.rdN addr.toNat 4 = v.toNat) ∧
  (∀ (dt : Nat) (s : State) (r : Fin 1024), s.hw.isOn = true → (s.hw.ring r).woken = true → s.hw.ringState r = 1 →
    s.hw.isCpl r = true → Does (.doorbellRead dt r) s fun h => (h.ring r).p = s.hw.rdN (s.hw.dbAddr r) 4 ∧
    (h.ring r).woken = false) ∧
  (∀ (dt : Nat) (s : State) (eng : Fin 13) (r : Nat), s.hw.isOn = true → (s.hw.elapse dt).pickRing eng = some r →
    Does (.descriptorFetch dt eng) s fun h => h = (fetchOne (s.hw.elapse dt) eng r).showFull eng ∧
    (h.ring r).f = ((s.hw.ring r).f + 1) % 2 ^ 32) ∧
  (∀ (dt : Nat) (s : State) (id : Nat) (f : Flight), s.hw.isOn = true → s.hw.flight id = some f → s.hw.mayComplete f = true →
    Does (.completionWrite dt (some id)) s fun h => h.flight id = none) ∧
  (∀ (dt : Nat) (s : State) (r : Fin 1024) (t : Nat), s.hw.isOn = true → (s.hw.ring r).unsignalled = some t →
    s.hw.get F.RNG_IRQ_TIME r ≠ 0 → s.hw.isCpl r = true → t + 1000 * s.hw.get F.RNG_IRQ_TIME r ≤ s.hw.now + dt →
    Does (.ringIrqTimer dt r) s fun h => (h.ring r).unsignalled = none ∧
    mgetD h.irqs (s.hw.get F.RNG_IRQ_TARGET r) 0 = mgetD s.hw.irqs (s.hw.get F.RNG_IRQ_TARGET r) 0 + 1) ∧
  (∀ (dt : Nat) (s : State) (hart : Fin 19) (r : Fin 1024), s.hw.isOn = true → s.hw.mayWriteRing hart r = true →
    s.hw.ringState r = 0 → ringCheck s.hw r = ST_OK → Does (.ringEnable dt hart r false) s fun h => h.ringState r = 1 ∧
    h.get F.RNG_CTRL_ERR r = ST_OK ∧ (h.ring r).watched = true) ∧
  (∀ (dt : Nat) (s : State) (hart : Fin 19) (r : Fin 1024), s.hw.isOn = true → s.hw.mayWriteRing hart r = true →
    s.hw.ringState r = 1 → s.hw.isCpl r = false → Does (.ringDisable dt hart r) s fun h => h.ringState r = 2 ∧
    (h.ring r).watched = false) ∧
  (∀ (dt : Nat) (s : State) (r : Fin 1024), s.hw.isOn = true → s.hw.ringState r = 2 →
    s.hw.rng.flights.all (fun f => f.ring != r.val) = true → (s.hw.ring r).reserved = 0 → Does (.ringDrainDone dt r) s fun h =>
    h.ringState r = 0) ∧
  (∀ (dt : Nat) (s : State) (hart : Fin 19) (r : Fin 1024), s.hw.isOn = true → s.hw.mayWriteRing hart r = true →
    s.hw.ringState r = 0 → Does (.ringReset dt hart r) s fun h => h.ring r = {} ∧ h.ringState r = 0 ∧
    h.get F.RNG_CTRL_OVERRUN r = 0 ∧ h.get F.RNG_CTRL_ERR r = 0) ∧
  (∀ (dt : Nat) (s : State) (id : Nat) (f : Flight), s.hw.isOn = true → OpRuns s.hw id 0 1 f → bit (fld f.desc 0 1) 4 = false →
    bit (fld f.desc 0 1) 5 = false → s.hw.ecc = [] → Memory.wf s.hw.mem = true →
    fld f.desc 8 8 + fld f.desc 4 4 ≤ fld f.desc 16 8 → Does (.copy dt id) s fun h => OpEnded h id ST_OK ∧
    h.rd (fld f.desc 16 8) (fld f.desc 4 4) = s.hw.rd (fld f.desc 8 8) (fld f.desc 4 4)) ∧
  (∀ (dt : Nat) (s : State) (id : Nat) (f : Flight), s.hw.isOn = true → OpRuns s.hw id 0 2 f → bit (fld f.desc 0 1) 5 = false →
    s.hw.ecc = [] → Memory.wf s.hw.mem = true → Does (.blockFill dt id) s fun h => OpEnded h id ST_OK ∧
    h.rd (fld f.desc 16 8) (fld f.desc 4 4) = (List.range (fld f.desc 4 4)).map (fun i => BitVec.ofNat 8 (fld f.desc (8 + i % 8)
      1)))

/-- PRESENCE_LOSS, PRESENCE_RETURN, PRESENCE_LOSS_TIMEOUT, PRESENCE_ASSERT, RETRY_TIMER_EXPIRY, CHALLENGE_ANSWER, ROUND_DECISION
and LOOPED_FRAME_DELIVERY answer a next state: header outputs off, presence back, the identity lost, a challenge of round 0
sent, an answer taken in, the outcome of the round decided, the looped frame delivered. (R211, R212, R213, R214, R219, R221,
R206) -/
def Obligations.HeaderCommandsComplete : Prop :=
  (∀ (dt : Nat) (s : State), s.hw.isOn = true → s.hw.prp.loop = true → Does (.presenceLoss dt) s fun h => h.prp.loop = false ∧
    h.prp.outsOff = true) ∧
  (∀ (dt : Nat) (s : State) (t : Nat), s.hw.isOn = true → s.hw.prp.lostAt = some t → s.hw.now + dt ≤ t + 50000000 →
    Does (.presenceReturn dt) s fun h => h.prp.loop = true ∧ h.prp.lostAt = none ∧
    h.prp.outsOff = (s.hw.get F.PRP_HDR_STATUS_STATE != 2)) ∧
  (∀ (dt : Nat) (s : State) (t : Nat), s.hw.isOn = true → s.hw.prp.lostAt = some t → t + 50000000 < s.hw.now + dt →
    Does (.presenceLossTimeout dt) s fun h => h.prp.chal = none ∧ h.prp.lostAt = none ∧ h.prp.outsOff = true ∧
    h.get F.PRP_HDR_STATUS_PRESENT = 0) ∧
  (∀ (dt : Nat) (s : State), s.hw.isOn = true → s.hw.get F.PRP_HDR_STATUS_STATE = 0 → challengeable s.hw = true →
    Does (.presenceAssert dt) s fun h => h.prp.chal.map (fun c => (c.r, c.endAt)) = some (0, s.hw.now + dt)) ∧
  (∀ (dt : Nat) (s : State) (t : Nat), s.hw.isOn = true → s.hw.prp.retryAt = some t → t ≤ s.hw.now + dt → s.hw.prp.loop = true →
    3 ≤ s.hw.get F.PRP_HDR_STATUS_STATE → challengeable s.hw = true → Does (.retryTimerExpiry dt) s fun h =>
    h.prp.chal.map (fun c => (c.r, c.endAt)) = some (0, s.hw.now + dt)) ∧
  (∀ (dt : Nat) (s : State) (ident : BitVec 24) (sof : Nat) (sig : List Byte) (c : Chal), s.hw.isOn = true →
    s.hw.prp.chal = some c → sof / 2000000 = ident.toNat / 2 ^ (22 - c.r) → Does (.challengeAnswer dt ident sof sig) s fun h =>
    h.prp.chal.map (fun d => (d.nonce, d.ans.length)) = some (c.nonce, c.ans.length + 1)) ∧
  (∀ (dt : Nat) (s : State) (c : Chal) (st : Nat) (ev : Option Nat), s.hw.isOn = true → s.hw.prp.chal = some c →
    c.endAt + 2000000 * roundSlots c.r ≤ s.hw.now + dt → roundOutcome c.r c.ans = some (st, ev) →
    Does (.roundDecision dt) s fun h => h.prp.chal = none ∧ h.prp.outsOff = (st != 2)) ∧
  (∀ (dt : Nat) (s : State) (b : Fin 128) (t : CanTx), s.hw.isOn = true →
    (s.hw.canc 1).loops.find? (fun t => t.mb == b.val) = some t → Does (.loopedFrameDelivery dt b) s fun h =>
    h = canStore (canSent ((s.hw.elapse dt).setCanc 1 { s.hw.canc 1 with loops := (s.hw.canc 1).loops.filter (fun u => u.mb !=
      b.val) }) 1 t) 1 t.frame true t.sof)

/-- CAMERA_ENABLE, CAMERA_DISABLE, CAMERA_GEOM_WRITE, CAMERA_LINK_UP, CAMERA_LINK_DOWN, CAMERA_TRAINING_RETRY, CCI and
CCI_TIMEOUT answer a next state: a camera whose settings pass is enabled with its link in training; a disabled one has no
link, no posted buffer and no open record; a written geometry invalidates the profiles; a link comes up at the configured
gear, drops, and trains again; a CCI operation ends with the bytes read, or times out. (R230, R231, R252, R272, R273, R280) -/
def Obligations.CameraCommandsComplete : Prop :=
  (∀ (dt : Nat) (s : State) (hart : Fin 19) (c : Fin 16), s.hw.isOn = true → s.hw.byOwner hart (296 + c) = true →
    s.hw.camOn c = false → camCheck s.hw c = ST_OK → Does (.cameraEnable dt hart c) s fun h => h.camOn c = true ∧
    h.get F.IMG_CAM_STATUS_LINK c = 1 ∧ h.get F.IMG_CAM_STATUS_ERR c = ST_OK ∧ (h.cam c).seq = 0) ∧
  (∀ (dt : Nat) (s : State) (hart : Fin 19) (c : Fin 16), s.hw.isOn = true → s.hw.byOwner hart (296 + c) = true →
    s.hw.camOn c = true → Does (.cameraDisable dt hart c) s fun h => h.camOn c = false ∧ h.get F.IMG_CAM_STATUS_LINK c = 0 ∧
    (h.cam c).posted = [] ∧ (h.cam c).recs = []) ∧
  (∀ (dt : Nat) (s : State) (hart : Fin 19) (c : Fin 16) (v : Word), s.hw.isOn = true → s.hw.byOwner hart (296 + c) = true →
    s.hw.camOn c = false → Does (.cameraGeomWrite dt hart c v) s fun h => h.reg (F.IMG_CAM_GEOM_WIDTH.at c 0) = v ∧
    h.get F.IMG_CAM_STATUS_PROF_OK c = 0 ∧ (h.cam c).profs = []) ∧
  (∀ (dt : Nat) (s : State) (c : Fin 16), s.hw.isOn = true → s.hw.get F.IMG_CAM_STATUS_LINK c = 1 →
    Does (.cameraLinkUp dt c) s fun h => h.get F.IMG_CAM_STATUS_LINK c = 2 ∧
    h.get F.IMG_CAM_STATUS_GEAR c = s.hw.get F.IMG_CAM_CFG_GEAR c ∧ h.diag = s.hw.diag ++ [⟨0x0502, c, false⟩]) ∧
  (∀ (dt : Nat) (s : State) (c : Fin 16), s.hw.isOn = true → s.hw.get F.IMG_CAM_STATUS_LINK c = 2 →
    Does (.cameraLinkDown dt c) s fun h => h.get F.IMG_CAM_STATUS_LINK c = 3 ∧ h.get F.IMG_CAM_STATUS_GEAR c = 0 ∧
    (h.cam c).linkAt = s.hw.now + dt ∧ (h.cam c).incoming = none ∧ h.diag.getLast? = some ⟨0x0501, c, false⟩) ∧
  (∀ (dt : Nat) (s : State) (c : Fin 16), s.hw.isOn = true → s.hw.get F.IMG_CAM_STATUS_LINK c = 3 → s.hw.camOn c = true →
    (s.hw.cam c).linkAt + 500000000 ≤ s.hw.now + dt → Does (.cameraTrainingRetry dt c) s fun h =>
    h.get F.IMG_CAM_STATUS_LINK c = 1 ∧ (h.cam c).linkAt = s.hw.now + dt) ∧
  (∀ (dt : Nat) (s : State) (id : Nat) (data : List Byte) (f : Flight), s.hw.isOn = true → OpRuns s.hw id 4 4 f →
    s.hw.get F.IMG_CAM_STATUS_LINK (iCam f.desc) = 2 → s.hw.ecc = [] → Memory.wf s.hw.mem = true →
    Does (.cci dt id true data) s fun h => OpEnded h id ST_OK ∧
    h.rd (fld f.desc 8 8) (fld f.desc 4 1) = padTo (fld f.desc 4 1) data) ∧
  (∀ (dt : Nat) (s : State) (id : Nat) (f : Flight), s.hw.isOn = true → OpRuns s.hw id 4 4 f →
    f.since + 10000000 ≤ s.hw.now + dt → Does (.cciTimeout dt id) s fun h => OpEnded h id ST_CCI_TIMEOUT)

/-- POST, REPROCESS, PROFILE, FRAME_START, FRAME_END, ELASTIC_BUFFER_OVERFLOW, FRAME_CAPACITY_OVERRUN, ARRIVAL_DEADLINE,
PIPELINE_PASS_START, PIPELINE_PASS_END and PROCESSING_DEADLINE answer a next state: the buffer set joins its camera's queue,
the stored frame its pipeline's, the profile is kept; the newest eligible record takes the frame; a frame that ends intact is
ready; overflow and overrun remove the record; no record stays past its deadlines; a pass starts with the frame R257 names,
and frees its pipeline when it ends. (R239, R243, R248, R250, R254, R257, R259, R266, R267) -/
def Obligations.FrameCommandsComplete : Prop :=
  (∀ (dt : Nat) (s : State) (id : Nat) (f : Flight), s.hw.isOn = true → OpRuns s.hw id 4 1 f →
    (s.hw.cam (iCam f.desc)).posted.contains id = false → (s.hw.cam (iCam f.desc)).recs.any (fun r => r.op == id) = false →
    (s.hw.cam (iCam f.desc)).posted.length < 256 → Does (.post dt id) s fun h =>
    (h.cam (iCam f.desc)).posted = (s.hw.cam (iCam f.desc)).posted ++ [id] ∧ (h.cam (iCam f.desc)).lastRing = some f.ring) ∧
  (∀ (dt : Nat) (s : State) (id : Nat) (f : Flight), s.hw.isOn = true → OpRuns s.hw id 4 2 f →
    (s.hw.pipe (camPipe s.hw (iCam f.desc))).reproc.contains id = false →
    (s.hw.pipe (camPipe s.hw (iCam f.desc))).busy.map (·.op) ≠ some id → Does (.reprocess dt id) s fun h =>
    (h.pipe (camPipe s.hw (iCam f.desc))).reproc = (s.hw.pipe (camPipe s.hw (iCam f.desc))).reproc ++ [id]) ∧
  (∀ (dt : Nat) (s : State) (id : Nat) (f : Flight), s.hw.isOn = true → OpRuns s.hw id 4 3 f → s.hw.ecc = [] →
    profOk (s.hw.rd (fld f.desc 8 8) profLen) (s.hw.camW (iCam f.desc)) (s.hw.camH (iCam f.desc)) = true →
    Does (.profile dt id) s fun h => OpEnded h id ST_OK ∧
    mget (h.cam (iCam f.desc)).profs (iProf f.desc) = some (s.hw.rd (fld f.desc 8 8) profLen)) ∧
  (∀ (dt : Nat) (s : State) (c vc : Fin 16) (fmt : Fin 8) (r : FrameRec), s.hw.isOn = true →
    s.hw.get F.IMG_CAM_STATUS_LINK c = 2 → vc.val = s.hw.get F.IMG_CAM_CFG_VC c → fmt.val = s.hw.get F.IMG_CAM_CFG_FMT c →
    newest ((s.hw.cam c).recs.filter (fun r => !r.started && decide (r.cross + 1000 * s.hw.get F.IMG_CAM_TRIG_FS_MIN c ≤
      (s.hw.elapse dt).wgl.tb))) = some r → Does (.frameStart dt c vc fmt) s fun h => (h.cam c).incoming = some (some r.seq) ∧
    (h.cam c).recs.any (fun q => q.seq == r.seq && q.started) = true) ∧
  (∀ (dt : Nat) (s : State) (c : Fin 16) (xs : List Nat) (q : Nat) (r : FrameRec) (f : Flight), s.hw.isOn = true →
    (s.hw.cam c).incoming = some (some q) → (s.hw.cam c).recs.find? (fun r => r.seq == q) = some r → xs.length = s.hw.camPix c →
    s.hw.flight r.op = some f → Does (.frameEnd dt c true xs) s fun h =>
    h = frameReady ((s.hw.elapse dt).setCam c { s.hw.cam c with incoming := none }) c r f xs) ∧
  (∀ (dt : Nat) (s : State) (q : Nat) (r : FrameRec), s.hw.isOn = true → (s.hw.cam 0).incoming = some (some q) →
    s.hw.get F.IMG_CAM_CFG_PIPE 0 = 0 → (s.hw.cam 0).recs.find? (fun r => r.seq == q) = some r →
    Does (.elasticBufferOverflow dt) s fun h => (h.cam 0).recs = (s.hw.cam 0).recs.filter (fun p => p.seq != r.seq) ∧
    h.diag.getLast? = some ⟨0x0505, 0xFFFF, false⟩) ∧
  (∀ (dt : Nat) (s : State) (c : Fin 16) (q : Nat) (r : FrameRec), s.hw.isOn = true → (s.hw.cam c).incoming = some (some q) →
    (s.hw.cam c).recs.find? (fun r => r.seq == q) = some r → Does (.frameCapacityOverrun dt c) s fun h =>
    (h.cam c).recs = (s.hw.cam c).recs.filter (fun p => p.seq != r.seq) ∧
    h.get F.IMG_CAM_CNT_COUNT c 1 = satN F.IMG_CAM_CNT_COUNT.w (s.hw.get F.IMG_CAM_CNT_COUNT c 1 + 1)) ∧
  (∀ (dt : Nat) (s : State) (c : Fin 16), s.hw.isOn = true → Does (.arrivalDeadline dt c) s fun h =>
    (h.cam c).recs.all (fun r => r.ready || decide ((s.hw.elapse dt).wgl.tb < r.arriveBy)) = true) ∧
  (∀ (dt : Nat) (s : State) (k : Fin 2) (x : Nat × FrameRec), s.hw.isOn = true → (s.hw.pipe k).busy = none →
    (earliest ((readyFrames s.hw k).filter (·.2.inShare))).or (earliest (readyFrames s.hw k)) = some x →
    Does (.pipelinePassStart dt k) s fun h =>
    (h.pipe k).busy.map (fun b => (b.cam, b.seq, b.op)) = some (x.1, some x.2.seq, x.2.op)) ∧
  (∀ (dt : Nat) (s : State) (k : Fin 2) (b : Pass) (f : Flight), s.hw.isOn = true → (s.hw.pipe k).busy = some b → b.seq = none →
    s.hw.flight b.op = some f → s.hw.ecc = [] → Does (.pipelinePassEnd dt k) s fun h => (h.pipe k).busy = none ∧
    OpEnded h b.op ST_OK) ∧
  (∀ (dt : Nat) (s : State) (k : Fin 2) (b : Pass) (q : Nat) (f : Flight) (r : FrameRec), s.hw.isOn = true →
    (s.hw.pipe k).busy = some b → b.seq = some q → s.hw.flight b.op = some f →
    (s.hw.cam b.cam).recs.find? (fun r => r.seq == q) = some r → Does (.pipelinePassEnd dt k) s fun h =>
    (h.pipe k).busy = none ∧ (h.cam b.cam).recs = (s.hw.cam b.cam).recs.filter (fun p => p.seq != r.seq)) ∧
  (∀ (dt : Nat) (s : State) (c : Fin 16), s.hw.isOn = true → Does (.processingDeadline dt c) s fun h =>
    (h.cam c).recs.all (fun r => !r.ready || decide ((s.hw.elapse dt).wgl.tb < r.procBy)) = true)

/-- CONVERTER_SAMPLE, SFE_CHANNEL_RECONFIG, SPD_EDGE_CAPTURE, SENT_FRAME, RECBUF, BUFFER_FLUSH_TIMEOUT, IMPACT_BEGIN,
IMPACT_END, LOSS_SAMPLE_STEP, LOSS_WINDOW_LENGTH_END and SENSOR_INPUT_FAULT answer a next state: the stamped sample feeds its
channel, the configuration is stored, the edge and the frame are the newest of their inputs, the buffer joins its stream and a
flushed one closes with ST_OK, an impact begins and ends, a window's interval ends with its cause, and an input's faults are
kept. (R282, R287, R292, R294, R297, R305, R306) -/
def Obligations.SensorCommandsComplete : Prop :=
  (∀ (dt : Nat) (s : State) (port : Nat) (vals : List Int) (t : Nat), s.hw.isOn = true →
    (isAin port || isImp port || isBrg port || port == imuPort) = true → s.hw.sfeOn port = true → vals ≠ [] →
    sampleTov (s.hw.elapse dt) port = some t → Does (.converterSample dt port vals) s fun h =>
    h = sfeSample (s.hw.elapse dt) port t vals) ∧
  (∀ (dt : Nat) (s : State) (hart : Fin 19) (port : Fin 512) (v : Word), s.hw.isOn = true → (isAin port || isBrg port) = true →
    s.hw.byOwner hart port = true → Does (.sfeChannelReconfig dt hart port v) s fun h =>
    h = convCfgWrite (s.hw.elapse dt) port v.toNat) ∧
  (∀ (dt : Nat) (s : State) (k : Fin 40) (partner : Bool) (width : Nat), s.hw.isOn = true → s.hw.sfeOn (390 + k.val) = true →
    100 * s.hw.get F.SFE_SPD_CFG_MINPULSE k ≤ width → Does (.spdEdgeCapture dt k partner width) s fun h =>
    (mget h.sfe.spd k).map (·.1) = some (s.hw.elapse dt).tb) ∧
  (∀ (dt : Nat) (s : State) (k : Fin 16) (age tick : Nat) (status : Fin 16) (data : List (Fin 16)) (slow : Option (BitVec 8 ×
      BitVec 16 × Bool)), s.hw.isOn = true → s.hw.sfeOn (494 + k.val) = true → data.length = s.hw.get F.SFE_SNT_CFG_NIB k →
    1500 * s.hw.get F.SFE_SNT_CFG_TICK k ≤ 4 * tick → 4 * tick ≤ 2500 * s.hw.get F.SFE_SNT_CFG_TICK k →
    Does (.sentFrame dt k age tick status data true slow) s fun h =>
    h.newest (494 + k.val) = some ((s.hw.elapse dt).tb - age, ((nibbles data : Nat) : Int))) ∧
  (∀ (dt : Nat) (s : State) (id : Nat) (f : Flight), s.hw.isOn = true → OpRuns s.hw id 11 1 f →
    (s.hw.bufq (qKey (fld f.desc 1 1) (if fld f.desc 1 1 = 0 then fld f.desc 2 2 else f.part))).bufs.contains id = false →
    (s.hw.bufq (qKey (fld f.desc 1 1) (if fld f.desc 1 1 = 0 then fld f.desc 2 2 else f.part))).bufs.length < 64 →
    Does (.recbuf dt id) s fun h =>
    (h.bufq (qKey (fld f.desc 1 1) (if fld f.desc 1 1 = 0 then fld f.desc 2 2 else f.part))).bufs = (s.hw.bufq (qKey (fld f.desc
      1 1) (if fld f.desc 1 1 = 0 then fld f.desc 2 2 else f.part))).bufs ++ [id]) ∧
  (∀ (dt : Nat) (s : State) (id k t : Nat) (f : Flight), s.hw.isOn = true → s.hw.queueOf id = some k → s.hw.flight id = some f →
    f.stage ≠ 2 → (s.hw.bufq k).bufs.head? = some id → (s.hw.bufq k).first = some t → fld f.desc 20 4 ≠ 0 →
    t + 1000 * fld f.desc 20 4 ≤ s.hw.now + dt → Does (.bufferFlushTimeout dt id) s fun h => OpEnded h id ST_OK) ∧
  (∀ (dt : Nat) (s : State) (c : Fin 48) (b : Nat), s.hw.isOn = true → (mgetD s.hw.sfe.dets c {}).hit = some b →
    (mgetD s.hw.sfe.dets c {}).begun = false → Does (.impactBegin dt c) s fun h => (mgetD h.sfe.dets c {}).begun = true ∧
    (mgetD h.sfe.dets c {}).hit = some b) ∧
  (∀ (dt : Nat) (s : State) (c : Fin 48) (b e : Nat) (long : Bool), s.hw.isOn = true → (mgetD s.hw.sfe.dets c {}).hit = some b →
    (mgetD s.hw.sfe.dets c {}).ended = some (e, long) → (mgetD s.hw.sfe.dets c {}).begun = true →
    Does (.impactEnd dt c) s fun h => h = impactDone (s.hw.elapse dt) c b e long (mgetD s.hw.sfe.dets c {})) ∧
  (∀ (dt : Nat) (s : State) (w : Fin 16), s.hw.isOn = true → (s.hw.win w).openAt.isSome = true →
    s.hw.get F.SFE_WIN_STEP_STEP w ≠ 0 →
    (s.hw.win w).start + s.hw.get F.SFE_WIN_STEP_STEP w ≤ (s.hw.elapse dt).domHwm (s.hw.get F.SFE_WIN_CFG_DOMAIN w) →
    Does (.lossSampleStep dt w) s fun h =>
    h = endInterval (s.hw.elapse dt) w (if lengthReached (s.hw.elapse dt) (s.hw.win w) then 2 else 0) (s.hw.elapse dt).tb) ∧
  (∀ (dt : Nat) (s : State) (w : Fin 16), s.hw.isOn = true → (s.hw.win w).openAt.isSome = true →
    lengthReached (s.hw.elapse dt) (s.hw.win w) = true → Does (.lossWindowLengthEnd dt w) s fun h =>
    h = endInterval (s.hw.elapse dt) w 2 (s.hw.elapse dt).tb ∧ (h.win w).openAt = none) ∧
  (∀ (dt : Nat) (s : State) (port : Fin 512) (openWire range : Bool), s.hw.isOn = true → (isAin port || isBrg port) = true →
    Does (.sensorInputFault dt port openWire range) s fun h => mget h.sfe.faults port = some (openWire, range) ∧
    (openWire = true → h.get F.SFE_FAULT_OPEN (port.val - 326) = 1) ∧ (range = true →
    h.get F.SFE_FAULT_RANGE (port.val - 326) = 1))

/-- PADDLE_FILL, CAL, WIDTH, CONVERT, PADDLE_RECORD, HISTORY_ENTRY, YIELD_BIN_TIMEOUT and YIELD_ENABLE answer a next state: the
fills are taken, a well-formed calibration block waits for its completion, the width waits, XN7200 records in order are
converted, a ready paddle has its record and is gone, an entry joins the history, the open bins are written, and the unit
runs. (R310, R314, R316, R318, R319, R328, R333, R335, R339) -/
def Obligations.YieldCommandsComplete : Prop :=
  (∀ (dt : Nat) (s : State) (id n : Nat) (f : Flight) (g : Hw), s.hw.isOn = true → OpRuns s.hw id 11 2 f →
    takeFills ((List.range (fld f.desc 1 1)).map (fun i => (fld f.desc (8 + 12 * i) 8, fld f.desc (16 + 12 * i) 2, fld f.desc
      (18 + 12 * i) 2))) ST_OK 0 (yldAdvance (s.hw.elapse dt)) = (ST_OK, n, g) → Does (.paddleFill dt id) s fun h =>
    OpEnded h id ST_OK ∧ h.yld = g.yld) ∧
  (∀ (dt : Nat) (s : State) (id : Nat) (f : Flight), s.hw.isOn = true → OpRuns s.hw id 11 3 f → s.hw.ecc = [] →
    calOk (s.hw.rd (fld f.desc 8 8) 160) = true → Does (.cal dt id) s fun h => OpEnded h id ST_OK ∧
    h.yld.calNext = some (id, s.hw.rd (fld f.desc 8 8) 160) ∧ h.get F.SFE_YLD_STATUS_CAL = 1) ∧
  (∀ (dt : Nat) (s : State) (id : Nat) (f : Flight), s.hw.isOn = true → OpRuns s.hw id 11 4 f → s.hw.yld.widths.length < 16 →
    Does (.width dt id) s fun h => OpEnded h id ST_OK ∧
    h.yld.widths = s.hw.yld.widths ++ [(sx 64 (fld f.desc 8 8), fld f.desc 16 2)]) ∧
  (∀ (dt : Nat) (s : State) (id k : Nat) (f : Flight) (bs : List Byte) (g : Hw), s.hw.isOn = true → OpRuns s.hw id 11 5 f →
    s.hw.ecc = [] →
    xnConvert ((List.range (fld f.desc 4 4)).map (fun i => slice (gather s.hw (if bit (fld f.desc 0 1) 4 then sgPieces s.hw (fld
      f.desc 8 8) (fld f.desc 24 2) else [(fld f.desc 8 8, 32 * fld f.desc 4 4)])) (32 * i) 32)) none 0 0 (s.hw.elapse dt) =
      (bs, k, true, g) → Does (.convert dt id) s fun h => OpEnded h id ST_OK) ∧
  (∀ (dt : Nat) (s : State) (p : Pad), s.hw.isOn = true → yldOn s.hw = true → padReady (yldAdvance (s.hw.elapse dt)) = some p →
    Does (.paddleRecord dt) s fun h => h = padRecord (yldAdvance (s.hw.elapse dt)) p) ∧
  (∀ (dt : Nat) (s : State), s.hw.isOn = true → yldOn s.hw = true →
    (decide (s.hw.yld.base.g + s.hw.get F.SFE_YLD_RES_GND * 1000 ≤ (histNow (s.hw.elapse dt)).g) || (List.range (s.hw.get
      F.SFE_YLD_CFG_NSEG)).any (fun i => decide (s.hw.yld.base.at (i + 1) + (s.hw.get F.SFE_YLD_RES_ROT * 2 ^ 16 : Nat) ≤
      (histNow (s.hw.elapse dt)).at (i + 1)))) = true →
    (s.hw.yld.base.t == 0 || decide (s.hw.yld.base.t + 100000 ≤ (histNow (s.hw.elapse dt)).t)) = true →
    Does (.historyEntry dt) s fun h => h.yld.histN = s.hw.yld.histN + 1 ∧ h.yld.hist.head? = some (histNow (s.hw.elapse dt)) ∧
    h.yld.base = histNow (s.hw.elapse dt)) ∧
  (∀ (dt : Nat) (s : State), s.hw.isOn = true → yldOn s.hw = true → s.hw.yld.lastAdd + 10000000000 ≤ s.hw.now + dt →
    Does (.yieldBinTimeout dt) s fun h => h = binsAll (s.hw.elapse dt)) ∧
  (∀ (dt : Nat) (s : State) (hart : Fin 19) (v : Word), s.hw.isOn = true → s.hw.byP0 hart = true →
    s.hw.flag F.SFE_YLD_CFG_EN = false →
    yldCheck ((s.hw.elapse dt).setReg (F.SFE_YLD_CFG_EN.at 0 0) (v &&& 0x0FFFFFFE#32)) = ST_OK →
    Does (.yieldEnable dt hart v) s fun h => h.get F.SFE_YLD_CFG_EN = 1 ∧ h.get F.SFE_YLD_STATUS_RUN = 1 ∧ h.yld.pads = [] ∧
    h.yld.hist = [])

/-- CONTROL_TICK, SETPOINT, MEAS, MODE, LOAD, INJECT, CAPTURE, READCAP, CTL_SLOT_SEL_WRITE, REC_CMD_WRITE and REC_CMD_READ
answer a next state: the next tick is numbered and placed; set-points and measurements are written; modes are applied; the
records of a well-formed table are in force; a generator and a capture wait to begin; capture entries stand in memory; the
registers show the slot; and records pass through the record window. Each operation is applied at the start of its tick and
ends with ST_OK. (R346, R350, R378, R379, R380, R381, R384, R388, R392, R393, R400, R401) -/
def Obligations.ControlCommandsComplete : Prop :=
  (∀ (dt : Nat) (s : State), s.hw.isOn = true → s.hw.ctl.nextAt ≤ (s.hw.elapse dt).wgl.tb → Does (.controlTick dt) s fun h =>
    h = ctlTick (s.hw.elapse dt) ∧ h.ctl.nextAt = s.hw.ctl.nextAt + 10000 ∧ h.ctl.tick = s.hw.ctl.tick + 1) ∧
  (∀ (dt : Nat) (s : State) (id : Nat) (f : Flight), s.hw.isOn = true → OpRuns s.hw id 6 1 f →
    ctlFirst (s.hw.elapse dt) f = true → (ctlEntries f.desc).any (fun e => (outerOf s.hw (e.1 % 256)).isSome) = false →
    Does (.setpoint dt id) s fun h => OpEnded h id ST_OK) ∧
  (∀ (dt : Nat) (s : State) (id : Nat) (f : Flight), s.hw.isOn = true → OpRuns s.hw id 6 2 f →
    ctlFirst (s.hw.elapse dt) f = true → Does (.meas dt id) s fun h => OpEnded h id ST_OK ∧
    h.ctl.meas = (ctlEntries f.desc).foldl (fun m e => mset m (e.1 % 64) (f.cpl.tov, sx 32 e.2, bit e.1 8)) s.hw.ctl.meas) ∧
  (∀ (dt : Nat) (s : State) (id : Nat) (f : Flight), s.hw.isOn = true → OpRuns s.hw id 6 3 f →
    ctlFirst (s.hw.elapse dt) f = true →
    (ctlEntries f.desc).all (fun e => modeCheck (s.hw.elapse dt) s.hw.ctl.nextAt e == ST_OK) = true →
    Does (.mode dt id) s fun h => OpEnded h id ST_OK ∧
    h.ctl = ((ctlEntries f.desc).foldl (modeApply s.hw.ctl.nextAt s.hw.ctl.tick) (s.hw.elapse dt)).ctl) ∧
  (∀ (dt : Nat) (s : State) (id : Nat) (f : Flight) (new : List (Nat × List Byte)), s.hw.isOn = true → OpRuns s.hw id 6 4 f →
    ctlFirst (s.hw.elapse dt) f = true → s.hw.ecc = [] → s.hw.rdN (fld f.desc 8 8) 2 = 1 →
    new.length = s.hw.rdN (fld f.desc 8 8 + 2) 2 → 1 ≤ new.length → new.length ≤ 256 →
    allZero (s.hw.rd (fld f.desc 8 8 + 4) 12) = true →
    new = (List.range new.length).map (fun i => (s.hw.rdN (fld f.desc 8 8 + 16 + 128 * i) 1, s.hw.rd (fld f.desc 8 8 + 16 + 128
      * i) 128)) → rising (new.map (·.1)) = true → loadCheck s.hw new = ST_OK → Does (.loopTableLoad dt id) s fun h =>
    OpEnded h id ST_OK ∧ ∀ x ∈ new, (h.cslot x.1).raw = some x.2) ∧
  (∀ (dt : Nat) (s : State) (id : Nat) (f : Flight), s.hw.isOn = true → OpRuns s.hw id 6 5 f →
    ctlFirst (s.hw.elapse dt) f = true → mget s.hw.ctl.inj (fld f.desc 1 1 / 64) = none →
    (s.hw.cslot (fld f.desc 1 1)).state = 1 → fld f.desc 24 4 ≤ 50000000 / rDiv (s.hw.cslot (fld f.desc 1 1)).rec_ →
    fld f.desc 28 4 ≤ 50000000 / rDiv (s.hw.cslot (fld f.desc 1 1)).rec_ → Does (.inject dt id) s fun h =>
    mget h.ctl.inj (fld f.desc 1 1 / 64) = some ⟨id, f.desc, 0, false, prbsSeed (fld f.desc 3 1)⟩) ∧
  (∀ (dt : Nat) (s : State) (id : Nat) (f : Flight), s.hw.isOn = true → OpRuns s.hw id 6 6 f →
    ctlFirst (s.hw.elapse dt) f = true → s.hw.ctl.capt = none → Does (.capture dt id) s fun h =>
    h.ctl.capt = some ⟨id, f.desc, false, 0, List.replicate (fld f.desc 1 1) 0⟩) ∧
  (∀ (dt : Nat) (s : State) (id : Nat) (f : Flight) (bs : List Byte), s.hw.isOn = true → OpRuns s.hw id 6 7 f →
    ctlFirst (s.hw.elapse dt) f = true → s.hw.ecc = [] → Memory.wf s.hw.mem = true →
    bs = (List.range (fld f.desc 16 4)).flatMap (fun i => mgetD s.hw.ctl.sram (fld f.desc 4 4 + i) (zeros 32)) →
    Does (.readcap dt id) s fun h => OpEnded h id ST_OK ∧ h.rd (fld f.desc 8 8) bs.length = bs) ∧
  (∀ (dt : Nat) (s : State) (hart : Fin 19) (v : Word), s.hw.isOn = true → s.hw.byCtl hart = true →
    Does (.ctlSlotSelWrite dt hart v) s fun h => h.get F.CTL_SLOT_SEL_SLOT = v.toNat % 256 ∧
    h.get F.CTL_SP_VALUE = ux 32 (mgetD s.hw.ctl.shown (v.toNat % 256) {}).spOut ∧
    h.get F.CTL_OUT_VALUE = ux 32 (mgetD s.hw.ctl.shown (v.toNat % 256) {}).outOut) ∧
  (∀ (dt : Nat) (s : State) (hart : Fin 19) (n : Nat) (r : List Byte), s.hw.isOn = true → s.hw.byCtl hart = true →
    n = s.hw.get F.CTL_SLOT_SEL_SLOT → r = (List.range 32).flatMap (fun i => leBytes 4 (s.hw.get F.CTL_REC_DATA_DATA i)) →
    fld r 0 1 = n → (s.hw.cslot n).state = 0 → loadCheck s.hw [(n, r)] = ST_OK → Does (.recCmdWrite dt hart) s fun h =>
    h.get F.CTL_REC_ST_STATUS = ST_OK ∧ (h.cslot n).raw = some r) ∧
  (∀ (dt : Nat) (s : State) (hart : Fin 19), s.hw.isOn = true → s.hw.byCtl hart = true → Does (.recCmdRead dt hart) s fun h =>
    h.get F.CTL_REC_ST_STATUS = ST_OK ∧ ∀ i, i < 32 →
    h.get F.CTL_REC_DATA_DATA i = fld (s.hw.cslot (s.hw.get F.CTL_SLOT_SEL_SLOT)).rec_ (4 * i) 4)

/-- SOL_ENABLE, SOL_DISABLE, SOLPROF, SOLCUR, PHASE_END, OFFTIME_END, TIME_TO_PEAK, OIL_TEMP_UPDATE and THERMAL_MODEL_STEP
answer a next state: a channel whose settings pass is enabled, a disabled one has no waiting start; the profiles of a
well-formed image belong to the partition; the entries of a SOLCUR take effect; a running profile goes to its next phase or
ends; the waiting start is judged; the time to peak is reported; and oil and coil temperatures take their next value once per
millisecond. (R408, R415, R421, R422, R425, R429, R433, R434, R447) -/
def Obligations.ValveCommandsComplete : Prop :=
  (∀ (dt : Nat) (s : State) (hart : Fin 19) (c : Fin 48) (v : Word), s.hw.isOn = true → s.hw.byOwner hart c = true →
    solOn s.hw c = false →
    solCheck ((s.hw.elapse dt).setReg (F.SOL_CFG_ENABLE.at c 0) (BitVec.ofNat 32 ((v.toNat % 2 ^ 12 + v.toNat / 2 ^ 16 * 2 ^ 16)
      / 2 * 2))) c = ST_OK → Does (.solEnable dt hart c v) s fun h => solOn h c = true ∧ h.get F.SOL_ST_STATUS c = ST_OK) ∧
  (∀ (dt : Nat) (s : State) (hart : Fin 19) (c : Fin 48) (v : Word), s.hw.isOn = true → s.hw.byOwner hart c = true →
    solOn s.hw c = true → Does (.solDisable dt hart c v) s fun h => solOn h c = false ∧ (h.sol c).pend = none ∧
    (h.sol c).code = 0) ∧
  (∀ (dt : Nat) (s : State) (id : Nat) (f : Flight) (img : List Byte), s.hw.isOn = true → OpRuns s.hw id 12 1 f →
    s.hw.ecc = [] → img = s.hw.rd (fld f.desc 8 8) (fld f.desc 16 4) → profCheck s.hw f.part img (fld f.desc 16 4) = ST_OK →
    Does (.solprof dt id) s fun h => OpEnded h id ST_OK ∧
    ∀ b ∈ profBlocks img (fld img 2 2), mget h.vlv.profs (fld b 0 1) = some (f.part, b)) ∧
  (∀ (dt : Nat) (s : State) (id : Nat) (f : Flight), s.hw.isOn = true → OpRuns s.hw id 12 2 f → Does (.solcur dt id) s fun h =>
    OpEnded h id ST_OK ∧
    h.vlv = ((setEntries f.desc).foldl (fun g e => if solOn g (e % 256) && solMode g (e % 256) == 2 then solCode g (e % 256) (e
      / 256 % 4096) else g) (s.hw.elapse dt)).vlv) ∧
  (∀ (dt : Nat) (s : State) (c : Fin 48), s.hw.isOn = true → (s.hw.sol c).out = 3 → ttpOpen s.hw c = false →
    phDur (s.hw.sol c).prof (s.hw.sol c).phase ≠ 0 →
    (s.hw.sol c).phaseAt + phDur (s.hw.sol c).prof (s.hw.sol c).phase ≤ s.hw.now + dt → Does (.phaseEnd dt c false) s fun h =>
    h = phaseNext (s.hw.elapse dt) c ((s.hw.sol c).phaseAt + phDur (s.hw.sol c).prof (s.hw.sol c).phase)) ∧
  (∀ (dt : Nat) (s : State) (c : Fin 48), s.hw.isOn = true → (s.hw.sol c).out = 3 →
    phKind (s.hw.sol c).prof (s.hw.sol c).phase = 1 → ttpOpen s.hw c = false →
    s.hw.now + dt ≤ (s.hw.sol c).phaseAt + phDur (s.hw.sol c).prof (s.hw.sol c).phase → Does (.phaseEnd dt c true) s fun h =>
    h = phaseNext (s.hw.elapse dt) c (s.hw.now + dt)) ∧
  (∀ (dt : Nat) (s : State) (c : Fin 48), s.hw.isOn = true → (s.hw.sol c).out ≠ 3 → (s.hw.sol c).offEnd ≤ s.hw.now + dt →
    Does (.offtimeEnd dt c) s fun h => h = showSol (solDeferredStart (s.hw.elapse dt) c) c) ∧
  (∀ (dt : Nat) (s : State) (c : Fin 48) (reached : Bool), s.hw.isOn = true → ttpOpen s.hw c = true →
    reached = true ∨ (s.hw.sol c).phaseAt + 10000 * (s.hw.sol c).ttpMax ≤ s.hw.now + dt →
    Does (.timeToPeak dt c reached) s fun h => (h.sol c).ttpDone = true ∧ h.get F.SOL_TTP_LAST_VALID c = 1) ∧
  (∀ (dt : Nat) (s : State), s.hw.isOn = true → s.hw.vlv.oilMs ≠ some ((s.hw.now + dt) / 1000000) →
    Does (.oilTempUpdate dt) s fun h => h.vlv.oilMs = some ((s.hw.now + dt) / 1000000) ∧ (s.hw.get F.SOL_OIL_CFG_SRC = 0 →
    h.get F.SOL_OIL_TEMP_T_OIL = s.hw.get F.SOL_OIL_CFG_FIXED ∧ h.get F.SOL_OIL_TEMP_FIXED_USED = 1)) ∧
  (∀ (dt : Nat) (s : State) (c : Fin 48) (duty vf i irms : Nat), s.hw.isOn = true → solOn s.hw c = true →
    (s.hw.sol c).stepMs ≠ some ((s.hw.now + dt) / 1000000) → Does (.thermalModelStep dt c duty vf i irms) s fun h =>
    (h.sol c).stepMs = some ((s.hw.now + dt) / 1000000) ∧ (h.sol c).temp = (coilStep (s.hw.elapse dt) c duty vf i irms).1)

/-- SOL_OVERCURRENT, SOL_FAULT_DETECT, SOL_FAULT_ENDS, DRV_HOT and CLAMP_LIMIT answer a next state: the fault is latched and
logged, an overcurrent switches the channel off, and a short, an open load or a hot driver is present until it ends. (R411,
R431, R432) -/
def Obligations.ValveFaultsComplete : Prop :=
  (∀ (dt : Nat) (s : State) (c : Fin 48), s.hw.isOn = true → (s.hw.sol c).out ≠ 0 → Does (.solOvercurrent dt c) s fun h =>
    (h.sol c).out = 0 ∧ h.get F.SOL_FAULT_OVERCURRENT c = 1 ∧ h.diag = s.hw.diag ++ [⟨0x0801, c, false⟩]) ∧
  (∀ (dt : Nat) (s : State) (c : Fin 48), s.hw.isOn = true → (showSol (s.hw.elapse dt) c).get F.SOL_CURRENT_CODE c = 0 →
    (s.hw.sol c).shortBat = false → Does (.solFaultDetect dt c .shortBat) s fun h => (h.sol c).shortBat = true ∧
    h.get F.SOL_FAULT_SHORT_BAT c = 1 ∧ h.diag = s.hw.diag ++ [⟨0x0802, c, true⟩]) ∧
  (∀ (dt : Nat) (s : State) (c : Fin 48), s.hw.isOn = true → 256 ≤ (showSol (s.hw.elapse dt) c).get F.SOL_CURRENT_CODE c →
    (s.hw.sol c).openNow = false → Does (.solFaultDetect dt c .openLoad) s fun h => (h.sol c).openNow = true ∧
    h.get F.SOL_FAULT_OPEN c = 1 ∧ h.diag = s.hw.diag ++ [⟨0x0802, c, true⟩]) ∧
  (∀ (dt : Nat) (s : State) (c : Fin 48), s.hw.isOn = true →
    (s.hw.sol c).out = 1 ∨ (s.hw.sol c).out = 2 ∨ ((s.hw.sol c).out = 3 ∧ phKind (s.hw.sol c).prof (s.hw.sol c).phase = 0) →
    Does (.solFaultDetect dt c .regErr) s fun h => h.get F.SOL_FAULT_REG_ERR c = 1 ∧ h.vlv = s.hw.vlv) ∧
  (∀ (dt : Nat) (s : State) (c : Fin 48), s.hw.isOn = true → Does (.solFaultEnds dt c .shortBat) s fun h =>
    (h.sol c).shortBat = false ∧ (h.sol c).openNow = (s.hw.sol c).openNow) ∧
  (∀ (dt : Nat) (s : State) (c : Fin 48), s.hw.isOn = true → Does (.solFaultEnds dt c .openLoad) s fun h =>
    (h.sol c).openNow = false ∧ (h.sol c).shortBat = (s.hw.sol c).shortBat) ∧
  (∀ (dt : Nat) (s : State) (c : Fin 48), s.hw.isOn = true → (s.hw.sol c).drvHot = false → Does (.drvHot dt c true) s fun h =>
    (h.sol c).drvHot = true ∧ h.get F.SOL_FAULT_DRV_HOT c = 1 ∧ h.diag = s.hw.diag ++ [⟨0x0804, c, false⟩]) ∧
  (∀ (dt : Nat) (s : State) (c : Fin 48), s.hw.isOn = true → Does (.drvHot dt c false) s fun h => (h.sol c).drvHot = false) ∧
  (∀ (dt : Nat) (s : State) (c : Fin 48), s.hw.isOn = true → Does (.clampLimit dt c) s fun h =>
    h.get F.SOL_FAULT_CLAMP_LIMIT c = 1 ∧ h.vlv = s.hw.vlv ∧ h.diag = s.hw.diag ++ [⟨0x0807, c, true⟩])

/-- LSW_ENABLE, LSWSET, CURRENT_LIMIT_TIMEOUT, OPEN_ON, OFF_HIGH, OVERTEMP, OVERTEMP_RESTART and LSW_FAULT_CLEAR answer a next
state: a switch whose settings pass is enabled and off, the entries of an LSWSET take effect, a fault is latched and logged
and switches the channel off where the spec says so, and a cleared cause is gone. (R453, R454, R455, R456, R459, R461, R482)
-/
def Obligations.LoadSwitchCommandsComplete : Prop :=
  (∀ (dt : Nat) (s : State) (hart : Fin 19) (c : Fin 96) (v : Word), s.hw.isOn = true → s.hw.byOwner hart (48 + c) = true →
    s.hw.flag F.LSW_CFG_ENABLE c = false → bits (v ||| 1).toNat 15 8 ≠ 0 → bits (v ||| 1).toNat 7 7 = 0 →
    bits (v ||| 1).toNat 31 16 = 0 → Does (.lswEnable dt hart c v) s fun h => h.flag F.LSW_CFG_ENABLE c = true ∧
    h.get F.LSW_STATUS_ERR c = ST_OK ∧ (h.out (48 + c)).cmd = false) ∧
  (∀ (dt : Nat) (s : State) (id : Nat) (f : Flight), s.hw.isOn = true → OpRuns s.hw id 12 3 f → Does (.lswset dt id) s fun h =>
    OpEnded h id ST_OK ∧
    h.til = ((setEntries f.desc).foldl (fun g e => if g.flag F.LSW_CFG_ENABLE (e % 128) && g.get F.LSW_CFG_MODE (e % 128) == 1
      then lsCommand g (e % 128) (bit e 8) else g) (s.hw.elapse dt)).til) ∧
  (∀ (dt : Nat) (s : State) (c : Fin 96) (dur : Nat), s.hw.isOn = true → lsOn s.hw c = true →
    100000 * s.hw.get F.LSW_CFG_LIMIT_T c < dur → Does (.currentLimitTimeout dt c dur) s fun h =>
    h.get F.LSW_FAULT_SHORT c = 1 ∧ (h.out (48 + c)).cmd = false ∧ lsOn h c = false ∧
    h.diag = s.hw.diag ++ [⟨0x0901, c, false⟩]) ∧
  (∀ (dt : Nat) (s : State) (c : Fin 96), s.hw.isOn = true → lsOn s.hw c = true → Does (.openOn dt c) s fun h =>
    h.get F.LSW_FAULT_OPEN_ON c = 1 ∧ h.til = s.hw.til ∧ h.diag = s.hw.diag ++ [⟨0x0902, c, true⟩]) ∧
  (∀ (dt : Nat) (s : State) (c : Fin 96), s.hw.isOn = true → lsOn s.hw c = false → s.hw.flag F.LSW_CFG_OL_OFF c = true →
    Does (.offHigh dt c) s fun h => h.get F.LSW_FAULT_OFF_HIGH c = 1 ∧ h.til = s.hw.til ∧
    h.diag = s.hw.diag ++ [⟨0x0902, c, true⟩]) ∧
  (∀ (dt : Nat) (s : State) (c : Fin 96), s.hw.isOn = true → (s.hw.out (48 + c)).ot = false → Does (.overtemp dt c) s fun h =>
    (h.out (48 + c)).ot = true ∧ lsOn h c = false ∧ h.get F.LSW_FAULT_OVERTEMP c = 1 ∧
    h.diag = s.hw.diag ++ [⟨0x0903, c, false⟩]) ∧
  (∀ (dt : Nat) (s : State) (c : Fin 96), s.hw.isOn = true → (s.hw.out (48 + c)).ot = true →
    (s.hw.out (48 + c)).otLatch = false → Does (.overtempRestart dt c) s fun h => (h.out (48 + c)).ot = false ∧
    (h.out (48 + c)).cmd = (s.hw.out (48 + c)).cmd) ∧
  (∀ (dt : Nat) (s : State) (hart : Fin 19) (c : Fin 96) (v : Word) (hot : Bool), s.hw.isOn = true →
    s.hw.byOwner hart (48 + c) = true → Does (.lswFaultClear dt hart c v hot) s fun h => (bit v.toNat 0 = true →
    h.get F.LSW_FAULT_SHORT c = 0) ∧ (bit v.toNat 4 = true → h.get F.LSW_FAULT_SHED c = 0))

/-- FEED_SHED, FEED_TRIP, TILE_FRAME, TILE_WATCHDOG_EXPIRY, ARM and FS_LOCK answer a next state: the feed current is reported
and the update counted for its millisecond, a tripped tile is TRIPPED, a valid frame is taken with its time, a tile without
FEED goes to SAFE, an armed one to RUN, and the fail-safe entries are locked. WATCHDOG_PERIOD_START, WATCHDOG_PERIOD_END and
WDANS answer a next state: the next period begins with the next sequence number; a period that was answered ends without a
failure and one that was not is counted and logged; a right answer in the second half of its period is taken. (R462, R465,
R468, R472, R477, R473, R474, R475) -/
def Obligations.TileAndWatchdogCommandsComplete : Prop :=
  (∀ (dt : Nat) (s : State) (t : Fin 8) (mean inst : Nat), s.hw.isOn = true →
    mget s.hw.til.shedMs t ≠ some ((s.hw.now + dt) / 1000000) → Does (.feedShed dt t mean inst) s fun h =>
    mget h.til.shedMs t = some ((s.hw.now + dt) / 1000000) ∧ h.get F.LSW_TILE_FEED_CURR t = satN 16 (mean / 100)) ∧
  (∀ (dt : Nat) (s : State) (t : Fin 8) (inst dur : Nat), s.hw.isOn = true → 2 * feedLimit t < inst → 1000000 ≤ dur →
    s.hw.tileState t ≠ 2 → Does (.feedTrip dt t inst dur) s fun h => h.tileState t = 2) ∧
  (∀ (dt : Nat) (s : State) (t : Fin 8) (meas : List Meas), s.hw.isOn = true → Does (.tileFrame dt t true meas) s fun h =>
    mget h.til.goodAt t = some (s.hw.now + dt) ∧ (s.hw.til.hub.feed = true → mget h.til.feedAt t = some (s.hw.now + dt))) ∧
  (∀ (dt : Nat) (s : State) (t : Fin 8), s.hw.isOn = true → mgetD s.hw.til.feedAt t 0 + 100000 ≤ s.hw.now + dt →
    s.hw.tileState t = 1 → Does (.tileWatchdogExpiry dt t) s fun h => h.tileState t = 0 ∧ h.get F.LSW_TILE_STATUS_FEED t = 0) ∧
  (∀ (dt : Nat) (s : State) (hart : Fin 19) (t : Fin 8), s.hw.isOn = true → s.hw.byP0 hart = true →
    s.hw.flag F.SMK_TESTMODE_ACTIVE = false → s.hw.til.hub.feed = true → 2 ≤ s.hw.til.hub.done → s.hw.tileState t ≠ 1 →
    Does (.arm dt hart t) s fun h => h.tileState t = 1) ∧
  (∀ (dt : Nat) (s : State) (hart : Fin 19) (t : Fin 8), s.hw.isOn = true → s.hw.byP0 hart = true →
    Does (.fsLock dt hart t) s fun h => h.get F.LSW_TILE_STATUS_FS_LOCKED t = 1 ∧ h.get F.LSW_TILE_CTRL_FS_LOCK t = 1) ∧
  (∀ (dt : Nat) (s : State), s.hw.isOn = true → s.hw.flag F.LSW_WD_CFG_EN = true → s.hw.til.hub.ended = true →
    Does (.watchdogPeriodStart dt) s fun h => h.til.hub.periodAt = s.hw.til.hub.periodAt + wdPeriod s.hw ∧
    h.til.hub.ended = false ∧ h.til.hub.nAns = 0 ∧ h.get F.LSW_WD_TOKEN_SEQ = (s.hw.get F.LSW_WD_TOKEN_SEQ + 1) % 65536) ∧
  (∀ (dt : Nat) (s : State), s.hw.isOn = true → s.hw.flag F.LSW_WD_CFG_EN = true → s.hw.til.hub.ended = false →
    s.hw.til.hub.periodAt + wdPeriod s.hw ≤ s.hw.now + dt → s.hw.til.hub.answered = true →
    Does (.watchdogPeriodEnd dt) s fun h => h.til.hub.ended = true ∧ h.til.hub.fails = 0 ∧ h.diag = s.hw.diag) ∧
  (∀ (dt : Nat) (s : State), s.hw.isOn = true → s.hw.flag F.LSW_WD_CFG_EN = true → s.hw.til.hub.ended = false →
    s.hw.til.hub.periodAt + wdPeriod s.hw ≤ s.hw.now + dt → s.hw.til.hub.answered = false → s.hw.til.hub.failed = false →
    s.hw.get F.PWR_RST_CFG_WD_RESET = 0 ∨ s.hw.til.hub.fails + 1 < s.hw.get F.PWR_RST_CFG_WD_RESET →
    Does (.watchdogPeriodEnd dt) s fun h => h.til.hub.ended = true ∧ h.til.hub.feed = false ∧
    h.til.hub.fails = s.hw.til.hub.fails + 1 ∧ h.diag = s.hw.diag ++ [⟨0x0907, 0xFFFF, false⟩]) ∧
  (∀ (dt : Nat) (s : State) (id : Nat) (f : Flight), s.hw.isOn = true → OpRuns s.hw id 12 4 f →
    s.hw.flag F.LSW_WD_CFG_EN = true → s.hw.til.hub.ended = false → fld f.desc 4 2 = s.hw.get F.LSW_WD_TOKEN_TOKEN →
    fld f.desc 6 2 = wdAnswer (s.hw.get F.LSW_WD_TOKEN_TOKEN) → s.hw.til.hub.periodAt + wdPeriod s.hw / 2 ≤ f.since →
    s.hw.til.hub.nAns = 0 → Does (.wdans dt id) s fun h => OpEnded h id ST_OK ∧ h.til.hub.answered = true ∧
    h.til.hub.feed = true)

/-- DIO_ENABLE, DIOSET, DIOBUF, COUNTER_FILTER_STEP, DEBOUNCE_EXPIRY, FILTER_CHANGE, DIO_OVERLOAD, DIO_FAULT_DETECT, SILENT,
DIO_OVERTEMP_RECOVERY and DIO_OPEN_WIRE_ENDS answer a next state: the channel is enabled, the entries take effect, the buffer
joins its queue, the counter steps, the filtered level follows, the filter in use is the one R487 names without a change of
level, and faults are latched, logged and end. (R485, R486, R487, R488, R492, R494, R496, R499) -/
def Obligations.DioCommandsComplete : Prop :=
  (∀ (dt : Nat) (s : State) (hart : Fin 19) (c : Fin 128) (v : Word), s.hw.isOn = true → s.hw.byOwner hart (144 + c) = true →
    s.hw.flag F.DIO_CFG_ENABLE c = false → s.hw.get F.DIO_FILT_LIMIT c ≠ 0 → s.hw.get F.DIO_FILT_DEB c ≠ 0 →
    bits ((v ||| 1).toNat % 2 ^ 16) 3 2 ≠ 3 → bits (v ||| 1).toNat 31 16 = 0 → Does (.dioEnable dt hart c v) s fun h =>
    h.flag F.DIO_CFG_ENABLE c = true ∧ h.get F.DIO_STATUS_ERR c = ST_OK ∧ (h.out (144 + c)).cmd = false) ∧
  (∀ (dt : Nat) (s : State) (id : Nat) (f : Flight), s.hw.isOn = true → OpRuns s.hw id 12 5 f → Does (.dioset dt id) s fun h =>
    OpEnded h id ST_OK ∧
    h.til = ((setEntries f.desc).foldl (fun g e => if dioOutput g (e % 128) && g.get F.DIO_CFG_MODE (e % 128) == 1 then
      dioCommand g (e % 128) (bit e 8) else g) (s.hw.elapse dt)).til) ∧
  (∀ (dt : Nat) (s : State) (id : Nat) (f : Flight), s.hw.isOn = true → OpRuns s.hw id 12 6 f →
    (s.hw.bufq (qKey 6 f.part)).bufs.contains id = false → (s.hw.bufq (qKey 6 f.part)).bufs.length < 64 →
    Does (.diobuf dt id) s fun h => (h.bufq (qKey 6 f.part)).bufs = (s.hw.bufq (qKey 6 f.part)).bufs ++ [id]) ∧
  (∀ (dt : Nat) (s : State) (c : Fin 128) (raw : Bool) (age : Nat), s.hw.isOn = true → dioInput s.hw c = true →
    ((syncFilter (s.hw.elapse dt) c).dio c).deb = false →
    ((syncFilter (s.hw.elapse dt) c).dio c).stepAt + 1000 * 2 ^ s.hw.get F.DIO_FILT_PRE c ≤ s.hw.now + dt →
    Does (.counterFilterStep dt c raw age) s fun h =>
    (h.dio c).cnt = (if raw then min (((syncFilter (s.hw.elapse dt) c).dio c).cnt + 1) (s.hw.get F.DIO_FILT_LIMIT c) else min
      (((syncFilter (s.hw.elapse dt) c).dio c).cnt - 1) (s.hw.get F.DIO_FILT_LIMIT c)) ∧
    (h.dio c).stepAt = ((syncFilter (s.hw.elapse dt) c).dio c).stepAt + 1000 * 2 ^ s.hw.get F.DIO_FILT_PRE c) ∧
  (∀ (dt : Nat) (s : State) (c : Fin 128) (raw : Bool) (stable : Nat), s.hw.isOn = true → dioInput s.hw c = true →
    ((syncFilter (s.hw.elapse dt) c).dio c).deb = true → ((syncFilter (s.hw.elapse dt) c).dio c).openNow = false →
    s.hw.smk.test ≠ some (144 + c.val) → 1000 * s.hw.get F.DIO_FILT_DEB c ≤ stable →
    ((syncFilter (s.hw.elapse dt) c).dio c).debAt + 1000 * s.hw.get F.DIO_FILT_DEB c ≤ s.hw.now + dt →
    Does (.debounceExpiry dt c raw stable) s fun h =>
    h = setLevel ((syncFilter (s.hw.elapse dt) c).put F.DIO_STATUS_RAW (b2n raw) c) c raw ((s.hw.elapse dt).tb - stable)) ∧
  (∀ (dt : Nat) (s : State) (c : Fin 128), s.hw.isOn = true → Does (.filterChange dt c) s fun h =>
    (h.dio c).deb = wantDeb s.hw c ∧ h.get F.DIO_STATUS_LEVEL c = s.hw.get F.DIO_STATUS_LEVEL c) ∧
  (∀ (dt : Nat) (s : State) (c : Fin 128), s.hw.isOn = true → dioOn s.hw c = true → Does (.dioOverload dt c) s fun h =>
    h.get F.DIO_FAULT_OVERLOAD c = 1 ∧ (h.out (144 + c)).cmd = false ∧ h.diag = s.hw.diag ++ [⟨0x0A01, c, false⟩]) ∧
  (∀ (dt : Nat) (s : State) (c : Fin 128), s.hw.isOn = true → dioOn s.hw c = true →
    Does (.dioFaultDetect dt c .openLoad) s fun h => h.get F.DIO_FAULT_OPEN c = 1 ∧ h.diag = s.hw.diag ++ [⟨0x0A02, c, true⟩]) ∧
  (∀ (dt : Nat) (s : State) (c : Fin 128), s.hw.isOn = true → dioInput s.hw c = true → s.hw.flag F.DIO_CFG_OW_EN c = true →
    (s.hw.dio c).openNow = false → Does (.dioFaultDetect dt c .openWire) s fun h => (h.dio c).openNow = true ∧
    h.get F.DIO_FAULT_OPEN c = 1 ∧ h.diag = s.hw.diag ++ [⟨0x0A02, c, true⟩]) ∧
  (∀ (dt : Nat) (s : State) (c : Fin 128), s.hw.isOn = true → s.hw.flag F.DIO_CFG_DIR c = true →
    (s.hw.out (144 + c)).ot = false → Does (.dioFaultDetect dt c .overtemp) s fun h => (h.out (144 + c)).ot = true ∧
    h.get F.DIO_FAULT_OVERTEMP c = 1 ∧ h.diag = s.hw.diag ++ [⟨0x0A03, c, false⟩]) ∧
  (∀ (dt : Nat) (s : State) (t : Fin 2), s.hw.isOn = true → mgetD s.hw.til.goodAt (6 + t.val) 0 + 10000000 ≤ s.hw.now + dt →
    s.hw.til.silent.contains (6 + t.val) = false → Does (.silent dt t) s fun h =>
    h.til.silent = s.hw.til.silent ++ [6 + t.val] ∧ h.diag.getLast? = some ⟨0x0A04, 6 + t.val, false⟩) ∧
  (∀ (dt : Nat) (s : State) (c : Fin 128), s.hw.isOn = true → Does (.dioOvertempRecovery dt c) s fun h =>
    (h.out (144 + c)).ot = false ∧ (h.out (144 + c)).cmd = (s.hw.out (144 + c)).cmd) ∧
  (∀ (dt : Nat) (s : State) (c : Fin 128), s.hw.isOn = true → Does (.dioOpenWireEnds dt c) s fun h =>
    (h.dio c).openNow = false ∧ (h.dio c).hist = (s.hw.dio c).hist)

/-- FAN_ENABLE, FANSET, FANTAB, TABLE_MODE_ENTRY and XN7200_MEASUREMENT answer a next state: a drive whose settings pass is
enabled with request 0, the entries of a FANSET take effect, a well-formed table is kept, a drive without commands for 2 s
enters table mode, and a measurement gives the next duty. (R507, R508, R509, R511, R516, R521) -/
def Obligations.FanCommandsComplete : Prop :=
  (∀ (dt : Nat) (s : State) (hart : Fin 19) (n : Fin 8) (v : Word), s.hw.isOn = true → s.hw.byOwner hart (272 + n) = true →
    s.hw.flag F.FAN_CFG_ENABLE n = false →
    fanCheck ((fanAnchor (s.hw.elapse dt) n).setReg (F.FAN_CFG_ENABLE.at n 0) (BitVec.ofNat 32 ((v ||| 1).toNat % 2 ^ 7 - 1))) n
      = ST_OK → Does (.fanEnable dt hart n v) s fun h => fanOn h n = true ∧ h.get F.FAN_STATUS_ERR n = ST_OK ∧
    (h.fan n).req = 0 ∧ (h.fan n).tmode = false) ∧
  (∀ (dt : Nat) (s : State) (id : Nat) (f : Flight), s.hw.isOn = true → OpRuns s.hw id 12 7 f → Does (.fanset dt id) s fun h =>
    OpEnded h id ST_OK ∧
    h.fans = ((setEntries f.desc).foldl (fun g e => if fanOn g (e % 8) && g.get F.FAN_CFG_MODE (e % 8) == 1 then fanCommand g (e
      % 8) (sx 16 (e / 2 ^ 16)) else g) (s.hw.elapse dt)).fans) ∧
  (∀ (dt : Nat) (s : State) (id : Nat) (f : Flight), s.hw.isOn = true → OpRuns s.hw id 12 8 f → s.hw.ecc = [] →
    s.hw.ownsPort f.part (272 + fld f.desc 1 1 % 8) = true → fanTableOk (s.hw.rd (fld f.desc 8 8) 64) = true →
    Does (.fantab dt id) s fun h => OpEnded h id ST_OK ∧
    (h.fan (fld f.desc 1 1 % 8)).table = some (s.hw.rd (fld f.desc 8 8) 64)) ∧
  (∀ (dt : Nat) (s : State) (n : Fin 8), s.hw.isOn = true → (s.hw.fan n).table.isSome = true → (s.hw.fan n).tmode = false →
    (fanOn s.hw n || s.hw.held (272 + n)) = true → ((s.hw.out (272 + n)).stay && (s.hw.out (272 + n)).fs == 0) = false →
    (s.hw.fan n).cmdAt + 2000000000 ≤ s.hw.now + dt → Does (.tableModeEntry dt n) s fun h => (h.fan n).tmode = true ∧
    (h.fan n).table = (s.hw.fan n).table) ∧
  (∀ (dt : Nat) (s : State) (n : Fin 8) (period : Option Nat), s.hw.isOn = true → s.hw.get F.FAN_CFG_TYPE n = 2 →
    fanOn s.hw n = true → (s.hw.fan n).measAt + 400000000 ≤ s.hw.now + dt → Does (.xn7200Measurement dt n period) s fun h =>
    (h.fan n).measAt = s.hw.now + dt ∧ (h.fan n).duty ≤ 255)

/-- THERMISTOR_FAULT, THERMISTOR_RELEASE, FAN_OVERCURRENT, STALL, STALL_RESTART, FAN_FAULT_DETECT and FAN_DRV_HOT_RECOVERY
answer a next state: the fault is latched and logged, the thermistor, stall and bridge conditions are present until they end,
and an overcurrent stops the drive. (R512, R518) -/
def Obligations.FanFaultsComplete : Prop :=
  (∀ (dt : Nat) (s : State) (n : Fin 8), s.hw.isOn = true → (s.hw.fan n).sensor = false →
    Does (.thermistorFault dt n) s fun h => (h.fan n).sensor = true ∧ h.get F.FAN_FAULT_SENSOR n = 1 ∧
    h.diag = s.hw.diag ++ [⟨0x0B04, n, true⟩]) ∧
  (∀ (dt : Nat) (s : State) (n : Fin 8), s.hw.isOn = true → Does (.thermistorRelease dt n) s fun h => (h.fan n).sensor = false ∧
    (h.fan n).table = (s.hw.fan n).table) ∧
  (∀ (dt : Nat) (s : State) (n : Fin 8), s.hw.isOn = true → fanOff s.hw n = false → Does (.fanOvercurrent dt n) s fun h =>
    h.get F.FAN_FAULT_OVERCURRENT n = 1 ∧ fanOff h n = true ∧ h.diag = s.hw.diag ++ [⟨0x0B01, n, false⟩]) ∧
  (∀ (dt : Nat) (s : State) (n : Fin 8) (dur : Nat), s.hw.isOn = true → 300 ≤ (fanTarget (s.hw.elapse dt) n).1.natAbs →
    10 * (s.hw.getS F.FAN_SPEED_SPEED n).natAbs < (fanTarget (s.hw.elapse dt) n).1.natAbs → 2000000000 ≤ dur →
    Does (.stall dt n dur) s fun h => (h.fan n).stall = some (s.hw.now + dt) ∧ h.get F.FAN_FAULT_STALL n = 1 ∧
    h.diag = s.hw.diag ++ [⟨0x0B02, n, true⟩]) ∧
  (∀ (dt : Nat) (s : State) (n : Fin 8) (t : Nat), s.hw.isOn = true → (s.hw.fan n).stall = some t →
    t + 5000000000 ≤ s.hw.now + dt → Does (.stallRestart dt n) s fun h => (h.fan n).stall = none ∧
    (h.fan n).req = (s.hw.fan n).req) ∧
  (∀ (dt : Nat) (s : State) (n : Fin 8), s.hw.isOn = true → s.hw.get F.FAN_CFG_TYPE n = 1 →
    Does (.fanFaultDetect dt n .hall) s fun h => h.get F.FAN_FAULT_HALL n = 1 ∧ h.fans = s.hw.fans ∧
    h.diag = s.hw.diag ++ [⟨0x0B03, n, true⟩]) ∧
  (∀ (dt : Nat) (s : State) (n : Fin 8), s.hw.isOn = true → (s.hw.fan n).hot = false →
    Does (.fanFaultDetect dt n .drvHot) s fun h => (h.fan n).hot = true ∧ h.get F.FAN_FAULT_DRV_HOT n = 1 ∧
    h.diag = s.hw.diag ++ [⟨0x0B05, n, false⟩]) ∧
  (∀ (dt : Nat) (s : State) (n : Fin 8), s.hw.isOn = true → Does (.fanDrvHotRecovery dt n) s fun h => (h.fan n).hot = false ∧
    (h.fan n).req = (s.hw.fan n).req)

/-- FUS_ENABLE, DETECT, FIX, INIT, OUTBUF, EGO_STEP, IMU_TIMEOUT, EGO_FAULT_EXIT, GNSS_LOST, GNSS_HOLDOFF_END, FUSION_CYCLE,
SOURCE_STALE and DEGRADATION_RECOVER answer a next state: the engine starts UNALIGNED in G4, batches, fixes, INITs and buffers
join their queues, the step and the cycle are numbered on, and the ego, GNSS, source and degradation states change as their
rules say. (R530, R531, R542, R544, R545, R547, R548, R564, R567, R569, R574, R576) -/
def Obligations.FusionCommandsComplete : Prop :=
  (∀ (dt : Nat) (s : State) (hart : Fin 19), s.hw.isOn = true → s.hw.byFus hart = true → s.hw.flag F.FUS_CTRL_EN = false →
    fusCheck s.hw = ST_OK → Does (.fusEnable dt hart) s fun h => h.get F.FUS_CTRL_EN = 1 ∧ h.get F.FUS_STATUS_STEP = 4 ∧
    h.get F.FUS_STATUS_EGO = 0 ∧ h.get F.FUS_STATUS_GNSS = 2 ∧ h.get F.FUS_STATUS_ERR = ST_OK) ∧
  (∀ (dt : Nat) (s : State) (id : Nat) (f : Flight), s.hw.isOn = true → OpRuns s.hw id 9 1 f →
    s.hw.fus.batches.any (fun b => b.op == id) = false → (s.hw.fus.batches.map (·.dets.length)).sum + fld f.desc 2 2 ≤ 16384 →
    batchLate s.hw (fld f.desc 8 8) = false → s.hw.ecc = [] →
    (chunks64 (fld f.desc 2 2) (gather s.hw (detPieces s.hw f.desc))).all detOk = true → Does (.detect dt id) s fun h =>
    h.fus.batches = s.hw.fus.batches ++ [⟨id, (fld f.desc 1 1 % 16), fld f.desc 8 8, f.cpl.tov, (chunks64 (fld f.desc 2 2)
      (gather s.hw (detPieces s.hw f.desc)))⟩] ∧ mget h.fus.srcAt (fld f.desc 1 1 % 16) = some (s.hw.now + dt)) ∧
  (∀ (dt : Nat) (s : State) (id : Nat) (f : Flight), s.hw.isOn = true → OpRuns s.hw id 9 2 f →
    (dropFixes (s.hw.elapse dt)).fus.fixes.any (fun x => x.op == id) = false →
    (dropFixes (s.hw.elapse dt)).fus.fixes.length < 64 → Does (.fix dt id) s fun h =>
    h.fus.fixes = (dropFixes (s.hw.elapse dt)).fus.fixes ++ [⟨id, f.desc, fld f.desc 8 8, false⟩]) ∧
  (∀ (dt : Nat) (s : State) (id : Nat) (f : Flight), s.hw.isOn = true → OpRuns s.hw id 9 3 f →
    s.hw.fus.inits.contains id = false → Does (.init dt id) s fun h => h.fus.inits = s.hw.fus.inits ++ [id]) ∧
  (∀ (dt : Nat) (s : State) (id : Nat) (f : Flight), s.hw.isOn = true → OpRuns s.hw id 9 4 f →
    (s.hw.bufq (qKey (7 + fld f.desc 1 1 % 2) f.part)).bufs.contains id = false →
    (s.hw.bufq (qKey (7 + fld f.desc 1 1 % 2) f.part)).bufs.length < 64 → Does (.outbuf dt id) s fun h =>
    (h.bufq (qKey (7 + fld f.desc 1 1 % 2) f.part)).bufs = (s.hw.bufq (qKey (7 + fld f.desc 1 1 % 2) f.part)).bufs ++ [id]) ∧
  (∀ (dt : Nat) (s : State) (l0 l1 : Bool), s.hw.isOn = true → s.hw.flag F.FUS_CTRL_EN = true →
    500000 * s.hw.fus.step ≤ (s.hw.elapse dt).tb → Does (.egoStep dt l0 l1) s fun h => h.fus.step = s.hw.fus.step + 1 ∧
    h.fus.inits = []) ∧
  (∀ (dt : Nat) (s : State), s.hw.isOn = true → s.hw.flag F.FUS_CTRL_EN = true → s.hw.get F.FUS_STATUS_EGO ≠ 2 →
    imuWithin (s.hw.elapse dt) 2000000 = false → Does (.imuTimeout dt) s fun h => h.get F.FUS_STATUS_EGO = 2 ∧
    h.fus.before = s.hw.get F.FUS_STATUS_EGO) ∧
  (∀ (dt : Nat) (s : State) (t : Nat), s.hw.isOn = true → s.hw.flag F.FUS_CTRL_EN = true → s.hw.get F.FUS_STATUS_EGO = 2 →
    imuWithin (s.hw.elapse dt) 2000000 = true → imuSince s.hw = some t → t + 100000000 ≤ (s.hw.elapse dt).tb →
    Does (.egoFaultExit dt) s fun h => h = fusJudge ((s.hw.elapse dt).put F.FUS_STATUS_EGO s.hw.fus.before) ∧
    h.get F.FUS_STATUS_EGO = s.hw.fus.before % 2 ^ F.FUS_STATUS_EGO.w) ∧
  (∀ (dt : Nat) (s : State), s.hw.isOn = true → s.hw.flag F.FUS_CTRL_EN = true → s.hw.get F.FUS_STATUS_GNSS = 1 →
    s.hw.fus.fixTov.all (fun t => decide (t + 1000000 * s.hw.get F.FUS_FIX_STALE ≤ (s.hw.elapse dt).tb)) = true →
    Does (.gnssLost dt) s fun h => h.get F.FUS_STATUS_GNSS = 2) ∧
  (∀ (dt : Nat) (s : State), s.hw.isOn = true → s.hw.flag F.FUS_CTRL_EN = true → s.hw.get F.FUS_STATUS_GNSS = 3 →
    s.hw.fus.gnss.open_ = false → s.hw.fus.gnss.since + 1000000000 * s.hw.get F.FUS_DEG_HOLDOFF ≤ s.hw.now + dt →
    Does (.gnssHoldoffEnd dt) s fun h => h.fus.gnss.open_ = true ∧ h.fus.gnss.passes = 0 ∧ h.get F.FUS_STATUS_GNSS = 3) ∧
  (∀ (dt : Nat) (s : State), s.hw.isOn = true → s.hw.flag F.FUS_CTRL_EN = true →
    s.hw.fus.cyc * cycleNs s.hw ≤ (s.hw.elapse dt).tb → Does (.fusionCycle dt) s fun h => h.fus.cyc = s.hw.fus.cyc + 1 ∧
    h.fus.lateN = 0) ∧
  (∀ (dt : Nat) (s : State) (src : Fin 16), s.hw.isOn = true → s.hw.flag F.FUS_CTRL_EN = true →
    s.hw.flag F.FUS_SRC_EN src = true → s.hw.get F.FUS_SRC_STATUS_STATE src = 1 ∨ s.hw.get F.FUS_SRC_STATUS_STATE src = 3 →
    mgetD s.hw.fus.srcAt src 0 + 1000000 * s.hw.get F.FUS_SRC_STALE src ≤ s.hw.now + dt → Does (.sourceStale dt src) s fun h =>
    h.get F.FUS_SRC_STATUS_STATE src = 2) ∧
  (∀ (dt : Nat) (s : State) (x t : Nat), s.hw.isOn = true → s.hw.flag F.FUS_CTRL_EN = true → s.hw.fus.lower = some (x, t) →
    t + 100000000 * s.hw.get F.FUS_DEG_RECOVER ≤ s.hw.now + dt → Does (.degradationRecover dt) s fun h =>
    h.get F.FUS_STATUS_STEP = x % 2 ^ F.FUS_STATUS_STEP.w ∧ h.fus.lower = none ∧
    h.diag = s.hw.diag ++ [⟨0x0C01, 0xFFFF, false⟩])

/-- GNS_ANT_ENABLE, BIAS_FAULT, BIAS_RETRY, ANTENNA_BIAS_RECOVERY, CLOCK, INTERNAL_PPS_INVALID and PPS_OUT_PULSE answer a next
state: the antenna is enabled with epoch 0, its bias state changes, a newer solution is in force, an invalid internal PPS is
counted and logged, and the PPS_OUT contact rises and falls. (R577, R602, R604, R609, R612) -/
def Obligations.AntennaCommandsComplete : Prop :=
  (∀ (dt : Nat) (s : State) (hart : Fin 19) (a : Fin 2) (v : Word), s.hw.isOn = true → s.hw.byOwner hart (324 + a) = true →
    s.hw.flag F.GNS_ANT_CFG_EN a = false → Does (.gnsAntEnable dt hart a v) s fun h => h.flag F.GNS_ANT_CFG_EN a = true ∧
    h.get F.GNS_ANT_STATUS_ERR a = ST_OK ∧ mget h.gns.epochs a = some 0) ∧
  (∀ (dt : Nat) (s : State) (a : Fin 2) (short : Bool), s.hw.isOn = true →
    s.hw.get F.GNS_ANT_STATUS_BIAS a = 1 ∨ (short = true ∧ s.hw.get F.GNS_ANT_STATUS_BIAS a = 2) →
    Does (.biasFault dt a short) s fun h => h.get F.GNS_ANT_STATUS_BIAS a = (if short then 3 else 2) ∧
    h.diag = s.hw.diag ++ [⟨0x0D01, a, false⟩]) ∧
  (∀ (dt : Nat) (s : State) (a : Fin 2) (still : Bool), s.hw.isOn = true → s.hw.get F.GNS_ANT_STATUS_BIAS a = 3 →
    mgetD s.hw.gns.biasAt a 0 + 1000000000 ≤ s.hw.now + dt → Does (.biasRetry dt a still) s fun h =>
    h.get F.GNS_ANT_STATUS_BIAS a = (if still then 3 else 1) ∧ (still = true → mget h.gns.biasAt a = some (s.hw.now + dt))) ∧
  (∀ (dt : Nat) (s : State) (a : Fin 2), s.hw.isOn = true → s.hw.get F.GNS_ANT_STATUS_BIAS a = 2 →
    Does (.antennaBiasRecovery dt a) s fun h => h.get F.GNS_ANT_STATUS_BIAS a = 1) ∧
  (∀ (dt : Nat) (s : State) (id : Nat) (f : Flight), s.hw.isOn = true → OpRuns s.hw id 10 4 f →
    clkCheck (s.hw.elapse dt) f = ST_OK → Does (.clock dt id) s fun h => OpEnded h id ST_OK ∧ h.gns.sol = some f.desc) ∧
  (∀ (dt : Nat) (s : State), s.hw.isOn = true → s.hw.flag F.GNS_CLK_STATUS_PPS_VALID = true →
    ppsHolds (s.hw.elapse dt) = false → Does (.internalPpsInvalid dt) s fun h => h.get F.GNS_CLK_STATUS_PPS_VALID = 0 ∧
    h.diag = s.hw.diag ++ [⟨0x0D03, 0xFFFF, false⟩]) ∧
  (∀ (dt : Nat) (s : State), s.hw.isOn = true → s.hw.gns.pps = true →
    s.hw.gns.ppsAt + 1000000 * s.hw.get F.GNS_PPS_OUT_WIDTH ≤ s.hw.now + dt → Does (.ppsOutPulse dt) s fun h =>
    h.gns.pps = false) ∧
  (∀ (dt : Nat) (s : State), s.hw.isOn = true → s.hw.gns.pps = false → s.hw.flag F.GNS_PPS_OUT_EN = true →
    s.hw.gns.ppsSec < ppsSecond (s.hw.elapse dt) → Does (.ppsOutPulse dt) s fun h => h.gns.ppsSec = ppsSecond (s.hw.elapse dt) ∧
    h.gns.pps = (ppsOutMay (s.hw.elapse dt) && decide (((s.hw.elapse dt).tb + 1000000000 - s.hw.get F.GNS_PPS_OUT_OFFSET) %
      1000000000 < 1000000 * s.hw.get F.GNS_PPS_OUT_WIDTH)))

/-- CHAN, STOP, OBSBUF, ACQUISITION_PEAK, TRACK_REACHED, PULL_IN_TIMEOUT, SEARCH_TIMEOUT, LOSS_OF_LOCK, OBSERVABLE_EPOCH,
INTEGRATION_END and NAV_SYMBOL_RECORD answer a next state: a Forager is assigned and searches, goes to PULL_IN, TRACK, back to
its search, or IDLE, loses lock as Table 13.3 says, and its epochs, correlator and symbol records are written. (R585, R586,
R587, R588, R589, R592, R593, R596, R599, R600) -/
def Obligations.ForagerCommandsComplete : Prop :=
  (∀ (dt : Nat) (s : State) (id : Nat) (f : Flight), s.hw.isOn = true → OpRuns s.hw id 10 1 f →
    s.hw.forager (forNo (gAnt f.desc) (fld f.desc 1 1 % 64)) = none → Does (.chan dt id) s fun h =>
    bandState h (forNo (gAnt f.desc) (fld f.desc 1 1 % 64)) 0 = 1 ∧
    h.forager (forNo (gAnt f.desc) (fld f.desc 1 1 % 64)) = some ⟨id, true, f.desc, f.since⟩) ∧
  (∀ (dt : Nat) (s : State) (id : Nat) (f : Flight), s.hw.isOn = true → OpRuns s.hw id 10 2 f →
    Does (.gnssStop dt id) s fun h => OpEnded h id ST_OK ∧
    h.gns = (((List.range 64).filter (bit (fld f.desc 8 8))).foldl (fun g i => forIdle g (forNo (gAnt f.desc) i) ST_GNS_STOPPED)
      (s.hw.elapse dt)).gns) ∧
  (∀ (dt : Nat) (s : State) (id : Nat) (f : Flight), s.hw.isOn = true → OpRuns s.hw id 10 3 f →
    (s.hw.bufq (qKey (9 + fld f.desc 1 1 % 4) (gAnt f.desc))).bufs.contains id = false →
    (s.hw.bufq (qKey (9 + fld f.desc 1 1 % 4) (gAnt f.desc))).bufs.length < 64 → Does (.obsbuf dt id) s fun h =>
    (h.bufq (qKey (9 + fld f.desc 1 1 % 4) (gAnt f.desc))).bufs = (s.hw.bufq (qKey (9 + fld f.desc 1 1 % 4) (gAnt f.desc))).bufs
      ++ [id]) ∧
  (∀ (dt : Nat) (s : State) (a : Fin 2) (i : Fin 64) (cn0 : BitVec 16) (x : Forager), s.hw.isOn = true →
    s.hw.forager (forNo a i) = some x → (served s.hw a).contains (forNo a i) = true → fld x.desc 20 2 ≤ cn0.toNat →
    Does (.acquisitionPeak dt a i cn0) s fun h => bandState h (forNo a i) 0 = 2 ∧
    (h.gband (forNo a i) 0).peakAt = s.hw.now + dt) ∧
  (∀ (dt : Nat) (s : State) (a : Fin 2) (i : Fin 64) (b5 : Bool) (doppler code : Word) (x : Forager), s.hw.isOn = true →
    s.hw.forager (forNo a i) = some x → bandState s.hw (forNo a i) (b2n b5) = 2 →
    b5 = true ∨ s.hw.now + dt ≤ (s.hw.gband (forNo a i) 0).peakAt + 500000000 →
    Does (.trackReached dt a i b5 doppler code) s fun h => bandState h (forNo a i) (b2n b5) = 3 ∧
    (h.gband (forNo a i) (b2n b5)).lockAt = s.hw.now + dt) ∧
  (∀ (dt : Nat) (s : State) (a : Fin 2) (i : Fin 64), s.hw.isOn = true → bandState s.hw (forNo a i) 0 = 2 →
    (s.hw.gband (forNo a i) 0).peakAt + 500000000 ≤ s.hw.now + dt → Does (.pullInTimeout dt a i) s fun h =>
    bandState h (forNo a i) 0 = 1) ∧
  (∀ (dt : Nat) (s : State) (a : Fin 2) (i : Fin 64) (x : Forager), s.hw.isOn = true → s.hw.forager (forNo a i) = some x →
    x.pending = true → bandState s.hw (forNo a i) 0 = 1 → x.since + 1000000000 * fld x.desc 30 2 ≤ s.hw.now + dt →
    Does (.searchTimeout dt a i) s fun h => bandState h (forNo a i) 0 = 0 ∧ h.gns.fors = mdel s.hw.gns.fors (forNo a i)) ∧
  (∀ (dt : Nat) (s : State) (a : Fin 2) (i : Fin 64) (b5 : Bool) (x : Forager), s.hw.isOn = true →
    s.hw.forager (forNo a i) = some x → bandState s.hw (forNo a i) (b2n b5) = 3 → Does (.lossOfLock dt a i b5) s fun h =>
    bandState h (forNo a i) (b2n b5) = (if b5 then (if bandState s.hw (forNo a i) 0 = 3 then 2 else 4) else if chBit x.desc 7
      then 1 else 4) ∧ h.diag = s.hw.diag ++ [⟨0x0D02, a, true⟩]) ∧
  (∀ (dt : Nat) (s : State) (ms : List GnsMeas), s.hw.isOn = true →
    (s.hw.flag F.GNS_ANT_CFG_EN 0 || s.hw.flag F.GNS_ANT_CFG_EN 1) = true →
    s.hw.gns.lastEpoch < (s.hw.elapse dt).tb - (s.hw.elapse dt).tb % epochNs s.hw → Does (.observableEpoch dt ms) s fun h =>
    h.gns.lastEpoch = (s.hw.elapse dt).tb - (s.hw.elapse dt).tb % epochNs s.hw) ∧
  (∀ (dt : Nat) (s : State) (a : Fin 2) (i : Fin 64) (b5 : Bool) (iq : List Word) (sync : Bool) (x : Forager), s.hw.isOn = true
      → s.hw.forager (forNo a i) = some x → bandState s.hw (forNo a i) (b2n b5) = 2 ∨ bandState s.hw (forNo a i) (b2n b5) = 3 →
    Does (.integrationEnd dt a i b5 iq sync) s fun h =>
    (h.gband (forNo a i) (b2n b5)).sync = (sync || (s.hw.gband (forNo a i) (b2n b5)).sync)) ∧
  (∀ (dt : Nat) (s : State) (a : Fin 2) (i : Fin 64) (b5 : Bool) (age : Nat) (syms : List Bool) (x : Forager), s.hw.isOn = true
      → s.hw.forager (forNo a i) = some x → chBit x.desc 6 = true → (s.hw.gband (forNo a i) (b2n b5)).left = true →
    1 ≤ syms.length → syms.length ≤ 254 → Does (.navSymbolRecord dt a i b5 age syms) s fun h =>
    (h.gband (forNo a i) (b2n b5)).left = false) ∧
  (∀ (dt : Nat) (s : State) (a : Fin 2) (i : Fin 64) (b5 : Bool) (age : Nat) (syms : List Bool) (x : Forager), s.hw.isOn = true
      → s.hw.forager (forNo a i) = some x → chBit x.desc 6 = true → syms.length = 255 →
    bandState s.hw (forNo a i) (b2n b5) = 3 → (s.hw.gband (forNo a i) (b2n b5)).sync = true →
    Does (.navSymbolRecord dt a i b5 age syms) s fun h =>
    h = gnsPut (s.hw.elapse dt) 2 a (leBytes 8 ((s.hw.elapse dt).tb - age) ++ bandId (forNo a i) (b2n b5) x.desc ++ [255] ++
      zeros 4 ++ leBytes 32 ((syms.zipIdx.map (fun (v, j) => b2n v * 2 ^ j)).sum) ++ zeros 15 ++ [3]) ((s.hw.elapse dt).tb -
      age))

/-- CAN_ENABLE, CAN_DISABLE, CAN_RESTART, CAN_BUS_INTEGRATED, BUS_OFF_RECOVERY_DONE, TXSET, TXREQ, CAN_ABORT and CAN_RXBUF
answer a next state: the controller integrates with its counters at 0, a disabled one holds no frame, recovery begins and
ends, a transmit buffer takes its content, requests join their buffers, an aborted buffer has no request, and a record buffer
joins its queue. (R615, R618, R628, R631, R638, R639, R640, R659) -/
def Obligations.CanControllerCommandsComplete : Prop :=
  (∀ (dt : Nat) (s : State) (hart : Fin 19) (n : Fin 16) (v : Word), s.hw.isOn = true → s.hw.byOwner hart (280 + n) = true →
    s.hw.flag F.CAN_CTRL_EN n = false →
    canCheck ((s.hw.elapse dt).setReg (F.CAN_CTRL_EN.at n 0) (BitVec.ofNat 32 ((v ||| 1).toNat % 2 ^ 18 / 4 * 4))) n = ST_OK →
    Does (.canEnable dt hart n v) s fun h => canOn h n = true ∧ canState h n = 0 ∧ h.get F.CAN_ECR_TEC n = 0 ∧
    h.get F.CAN_ECR_REC n = 0 ∧ (h.canc n).fifo = []) ∧
  (∀ (dt : Nat) (s : State) (hart : Fin 19) (n : Fin 16) (v : Word), s.hw.isOn = true → s.hw.byOwner hart (280 + n) = true →
    canOn s.hw n = true → Does (.canDisable dt hart n v) s fun h => canOn h n = false ∧ canState h n = 0 ∧
    (h.canc n).tx = none ∧ (h.canc n).loops = [] ∧ (h.canc n).fifo = []) ∧
  (∀ (dt : Nat) (s : State) (hart : Fin 19) (n : Fin 16), s.hw.isOn = true → s.hw.byOwner hart (280 + n) = true →
    canOn s.hw n = true → canState s.hw n = 3 → Does (.canRestart dt hart n) s fun h => (h.canc n).recov = true ∧
    canState h n = 3) ∧
  (∀ (dt : Nat) (s : State) (n : Fin 16), s.hw.isOn = true → canOn s.hw n = true → canState s.hw n = 0 →
    Does (.canBusIntegrated dt n) s fun h => canState h n = 1) ∧
  (∀ (dt : Nat) (s : State) (n : Fin 16), s.hw.isOn = true → canState s.hw n = 3 → (s.hw.canc n).recov = true →
    Does (.busOffRecoveryDone dt n) s fun h => canState h n = 1 ∧ h.get F.CAN_ECR_TEC n = 0 ∧ h.get F.CAN_ECR_REC n = 0 ∧
    (h.canc n).recov = false ∧ h.diag = s.hw.diag ++ [⟨0x0E03, n, false⟩]) ∧
  (∀ (dt : Nat) (s : State) (id : Nat) (f : Flight), s.hw.isOn = true → OpRuns s.hw id 5 1 f → opAsked s.hw f = false →
    s.hw.ecc = [] → Does (.txset dt id) s fun h => (h.canb (opCtl f.desc) (opMb f.desc)).idw = fld f.desc 4 4 ∧
    (h.canb (opCtl f.desc) (opMb f.desc)).dlc = fld f.desc 3 1 % 16 ∧ (bit (fld f.desc 3 1) 5 = false → OpEnded h id ST_OK)) ∧
  (∀ (dt : Nat) (s : State) (id : Nat) (f : Flight), s.hw.isOn = true → OpRuns s.hw id 5 2 f → opAsked s.hw f = false →
    canTxOk s.hw (opCtl f.desc) (opMb f.desc) = true → Does (.txreq dt id) s fun h =>
    h = (canRequest (s.hw.elapse dt) (opCtl f.desc) (opMb f.desc) (some id)).1) ∧
  (∀ (dt : Nat) (s : State) (id : Nat) (f : Flight), s.hw.isOn = true → OpRuns s.hw id 5 3 f → opAsked s.hw f = false →
    (s.hw.canc (opCtl f.desc)).tx = none → (s.hw.canc (opCtl f.desc)).loops = [] → Does (.canAbort dt id) s fun h =>
    OpEnded h id ST_OK ∧ (h.canb (opCtl f.desc) (opMb f.desc)).req = none ∧ (h.canb (opCtl f.desc) (opMb f.desc)).next = none) ∧
  (∀ (dt : Nat) (s : State) (id : Nat) (f : Flight), s.hw.isOn = true → OpRuns s.hw id 5 4 f →
    (s.hw.bufq (qKey (12 + fld f.desc 1 1 % 2) (fld f.desc 2 2))).bufs.contains id = false →
    (s.hw.bufq (qKey (12 + fld f.desc 1 1 % 2) (fld f.desc 2 2))).bufs.length < 64 → Does (.canRxbuf dt id) s fun h =>
    (h.bufq (qKey (12 + fld f.desc 1 1 % 2) (fld f.desc 2 2))).bufs = (s.hw.bufq (qKey (12 + fld f.desc 1 1 % 2) (fld f.desc 2
      2))).bufs ++ [id])

/-- CAN_FRAME_RECEIVED, CAN_RX_ERROR, FIFO_RECORD_WRITE, CAN_TRANSMIT_START, CAN_TRANSMIT_END, CAN_ARB_LOST, CAN_TX_ERROR,
ADDRESS_CLAIM, HEARTBEAT_SEND and WATCH_TIMEOUT answer a next state: a valid frame is offered to the buffers, an error is
counted, the oldest frame leaves the FIFO, the buffer that goes first starts, the bus is free after an attempt, an address is
claimed and settles, and the heartbeat and its watch keep their times. (R617, R622, R628, R633, R636, R642, R644, R645, R646)
-/
def Obligations.CanTrafficCommandsComplete : Prop :=
  (∀ (dt : Nat) (s : State) (n : Fin 16) (idw : Word) (dlc : Fin 16) (rtr esi : Bool) (data : List Byte) (age : Nat), s.hw.isOn
      = true → canLive s.hw n = true → (!frameFdf idw.toNat || s.hw.flag F.CAN_CTRL_FD_EN n) = true →
    Does (.canFrameReceived dt n idw dlc rtr esi data age) s fun h =>
    h = canReceive (canRxGood (s.hw.elapse dt) n) n ⟨idw.toNat, dlc, rtr, esi, padTo (if rtr && !frameFdf idw.toNat then 0 else
      dlcLen (frameFdf idw.toNat) dlc) data⟩ ((s.hw.elapse dt).tb - age)) ∧
  (∀ (dt : Nat) (s : State) (n : Fin 16) (by8 : Bool), s.hw.isOn = true → canLive s.hw n = true →
    Does (.canRxError dt n by8) s fun h =>
    h = canErrState (s.hw.elapse dt) n (s.hw.get F.CAN_ECR_TEC n) (s.hw.get F.CAN_ECR_REC n + (if by8 then 8 else 1))) ∧
  (∀ (dt : Nat) (s : State) (n : Fin 16) (x : Nat × List Byte) (r : List (Nat × List Byte)), s.hw.isOn = true →
    (s.hw.canc n).fifo = x :: r → (s.hw.bufq (qKey 12 (280 + n))).bufs ≠ [] → Does (.fifoRecordWrite dt n) s fun h =>
    (h.canc n).fifo = r) ∧
  (∀ (dt : Nat) (s : State) (n : Fin 16) (b : Nat), s.hw.isOn = true → canLive s.hw n = true → s.hw.get F.CAN_CTRL_MODE n ≠ 1 →
    canFirst s.hw n = some b → Does (.canTransmitStart dt n) s fun h => h = canStart (s.hw.elapse dt) n b ∧
    (h.canb n b).req.map (·.tries) = (s.hw.canb n b).req.map (·.tries + 1)) ∧
  (∀ (dt : Nat) (s : State) (n : Fin 16) (tdcv : Fin 128) (t : CanTx), s.hw.isOn = true → (s.hw.canc n).tx = some t →
    Does (.canTransmitEnd dt n tdcv) s fun h => (h.canc n).tx = none) ∧
  (∀ (dt : Nat) (s : State) (n : Fin 16) (t : CanTx), s.hw.isOn = true → (s.hw.canc n).tx = some t →
    Does (.canArbLost dt n) s fun h => (h.canc n).tx = none ∧ h.get F.CAN_STATUS_TX_ACTIVE n = 0) ∧
  (∀ (dt : Nat) (s : State) (n : Fin 16) (counted : Bool) (t : CanTx), s.hw.isOn = true → (s.hw.canc n).tx = some t →
    Does (.canTxError dt n counted) s fun h => (h.canc n).tx = none ∧ h.get F.CAN_STATUS_TX_ACTIVE n = 0) ∧
  (∀ (dt : Nat) (s : State) (n : Fin 16), s.hw.isOn = true → canLive s.hw n = true → s.hw.flag F.CAN_CTRL_AGENT n = true →
    s.hw.get F.CAN_ADDR_ADDR n = 254 → Does (.addressClaim dt n .claim) s fun h =>
    (h.canc n).claiming = some ((s.hw.canc n).claiming.getD (s.hw.get F.CAN_ADDR_PREF n)) ∧ (h.canc n).sent.isSome = true) ∧
  (∀ (dt : Nat) (s : State) (n : Fin 16), s.hw.isOn = true → canLive s.hw n = true → s.hw.flag F.CAN_CTRL_AGENT n = true →
    s.hw.get F.CAN_ADDR_ADDR n ≠ 254 → Does (.addressClaim dt n .claim) s fun h =>
    (h.canc n).sent = some ⟨0x18EEFF00 + s.hw.get F.CAN_ADDR_ADDR n + 2 ^ 29, 8, false, false, leBytes 8 (canName s.hw n)⟩) ∧
  (∀ (dt : Nat) (s : State) (n : Fin 16) (a : Nat), s.hw.isOn = true → canLive s.hw n = true →
    s.hw.flag F.CAN_CTRL_AGENT n = true → (s.hw.canc n).claiming = some a → Does (.addressClaim dt n .settled) s fun h =>
    h.get F.CAN_ADDR_ADDR n = a % 2 ^ F.CAN_ADDR_ADDR.w ∧ (h.canc n).claiming = none) ∧
  (∀ (dt : Nat) (s : State) (n : Fin 16) (name : DWord) (sa : Byte), s.hw.isOn = true → canLive s.hw n = true →
    s.hw.flag F.CAN_CTRL_AGENT n = true → s.hw.get F.CAN_ADDR_ADDR n ≠ sa.toNat → (s.hw.canc n).claiming ≠ some sa.toNat →
    Does (.addressClaim dt n (.other name sa)) s fun h => mget (h.canc n).others sa.toNat = some name.toNat ∧
    (h.canc n).claiming = (s.hw.canc n).claiming) ∧
  (∀ (dt : Nat) (s : State) (n : Fin 16), s.hw.isOn = true → (s.hw.canc n).hbAt + 100000000 ≤ s.hw.now + dt →
    Does (.heartbeatSend dt n) s fun h => (h.canc n).hbAt = s.hw.now + dt) ∧
  (∀ (dt : Nat) (s : State) (n : Fin 16), s.hw.isOn = true → canOn s.hw n = true → s.hw.flag F.CAN_HB_WATCH_EN n = true →
    s.hw.flag F.CAN_HB_LOST n = false → (s.hw.canc n).seenAt + 300000000 ≤ s.hw.now + dt → Does (.watchTimeout dt n) s fun h =>
    h.flag F.CAN_HB_LOST n = true)

/-- LINSCHED, LINPUB, LIN_SLOT and LIN_WAKE answer a next state: a well-formed schedule is in force, or waits for the end of the
slot in progress; publish data stand in their entry; the next slot begins with the schedule that waits or with the next entry;
and a wake-up is reported. (R649, R650, R651, R652, R654) -/
def Obligations.LinCommandsComplete : Prop :=
  (∀ (dt : Nat) (s : State) (id : Nat) (f : Flight) (es : List (List Byte)), s.hw.isOn = true → OpRuns s.hw id 5 5 f →
    (match (s.hw.lin (fld f.desc 1 1 % 2)).wait with | some (_, w) => w == id | none => false) = false → s.hw.ecc = [] →
    s.hw.rdN (fld f.desc 8 8) 2 = 1 → es.length = s.hw.rdN ((fld f.desc 8 8) + 2) 2 → 1 ≤ es.length → es.length ≤ 64 →
    allZero (s.hw.rd ((fld f.desc 8 8) + 4) 12) = true →
    es = (List.range es.length).map (fun i => s.hw.rd ((fld f.desc 8 8) + 16 + 16 * i) 16) →
    es.all (linEntryOk (s.hw.get F.CAN_LIN_CFG_RATE (fld f.desc 1 1 % 2))) = true → (s.hw.lin (fld f.desc 1 1 % 2)).cur = none →
    Does (.linsched dt id) s fun h => OpEnded h id ST_OK ∧ (h.lin (fld f.desc 1 1 % 2)).sched = es) ∧
  (∀ (dt : Nat) (s : State) (id : Nat) (f : Flight) (es : List (List Byte)), s.hw.isOn = true → OpRuns s.hw id 5 5 f →
    (match (s.hw.lin (fld f.desc 1 1 % 2)).wait with | some (_, w) => w == id | none => false) = false → s.hw.ecc = [] →
    s.hw.rdN (fld f.desc 8 8) 2 = 1 → es.length = s.hw.rdN ((fld f.desc 8 8) + 2) 2 → 1 ≤ es.length → es.length ≤ 64 →
    allZero (s.hw.rd ((fld f.desc 8 8) + 4) 12) = true →
    es = (List.range es.length).map (fun i => s.hw.rd ((fld f.desc 8 8) + 16 + 16 * i) 16) →
    es.all (linEntryOk (s.hw.get F.CAN_LIN_CFG_RATE (fld f.desc 1 1 % 2))) = true →
    (s.hw.lin (fld f.desc 1 1 % 2)).cur.isSome = true → s.hw.flag F.CAN_LIN_CFG_EN (fld f.desc 1 1 % 2) = true →
    Does (.linsched dt id) s fun h => (h.lin (fld f.desc 1 1 % 2)).wait = some (es, id) ∧
    h.get F.CAN_LIN_STATUS_PEND (fld f.desc 1 1 % 2) = 1 ∧
    (h.lin (fld f.desc 1 1 % 2)).sched = (s.hw.lin (fld f.desc 1 1 % 2)).sched) ∧
  (∀ (dt : Nat) (s : State) (id : Nat) (f : Flight) (e : List Byte), s.hw.isOn = true → OpRuns s.hw id 5 6 f →
    (s.hw.lin (fld f.desc 1 1 % 2)).sched[fld f.desc 2 1]? = some e → Does (.linpub dt id) s fun h => OpEnded h id ST_OK ∧
    (h.lin (fld f.desc 1 1 % 2)).sched = (s.hw.lin (fld f.desc 1 1 % 2)).sched.set (fld f.desc 2 1) (patch e 8 (slice f.desc 8
      8))) ∧
  (∀ (dt : Nat) (s : State) (c : Fin 2) (noResp chk bitErr frameErr : Bool) (data : List Byte) (i : Nat) (e : List Byte),
      s.hw.isOn = true → s.hw.flag F.CAN_LIN_CFG_EN c = true → (s.hw.lin c).slotAt ≤ s.hw.now + dt → (s.hw.lin c).wait = none →
    i = (match (s.hw.lin c).cur with | some k => if k + 1 < (s.hw.lin c).sched.length then k + 1 else 0 | none => 0) →
    (s.hw.lin c).sched[i]? = some e → Does (.linSlot dt c noResp chk bitErr frameErr data) s fun h => (h.lin c).cur = some i ∧
    (h.lin c).slotAt = (s.hw.lin c).slotAt + 1000000 * fld e 3 1) ∧
  (∀ (dt : Nat) (s : State) (c : Fin 2) (noResp chk bitErr frameErr : Bool) (data : List Byte) (es : List (List Byte)) (id :
      Nat) (e : List Byte), s.hw.isOn = true → s.hw.flag F.CAN_LIN_CFG_EN c = true → (s.hw.lin c).slotAt ≤ s.hw.now + dt →
    (s.hw.lin c).wait = some (es, id) → es[0]? = some e → Does (.linSlot dt c noResp chk bitErr frameErr data) s fun h =>
    (h.lin c).cur = some 0 ∧ (h.lin c).sched = es ∧ (h.lin c).wait = none) ∧
  (∀ (dt : Nat) (s : State) (c : Fin 2), s.hw.isOn = true → Does (.linWake dt c) s fun h => h.get F.CAN_LIN_STATUS_WAKE c = 1 ∧
    h.can = s.hw.can)

/-- ETH_ENABLE, ETH_DISABLE, ETH_LINK_CHANGE, ETH_LINK_RETRY, TXPKT, ETH_RXBUF, GCL, GATE_LIST_TAKES_EFFECT, ETH_FRAME_SEND,
ETH_FRAME_RECEIVE, GPTP_SYNC and PDELAY_EXCHANGE answer a next state: an enabled port trains, comes up and goes down with its
events, a frame joins the queue of its class and goes to the wire or is ended, an accepted gate list takes effect at its
instant, a received frame is counted or recorded, and gPTP messages leave. (R661, R663, R667, R668, R670, R671, R673, R674,
R675, R676, R677, R691) -/
def Obligations.EthernetCommandsComplete : Prop :=
  (∀ (dt : Nat) (s : State) (hart : Fin 19) (n : Fin 12) (v : Word), s.hw.isOn = true → s.hw.byOwner hart (312 + n) = true →
    s.hw.flag F.ETH_PORT_CFG_EN n = false →
    ethCheck ((s.hw.elapse dt).setReg (F.ETH_PORT_CFG_EN.at n 0) (BitVec.ofNat 32 ((v ||| 1).toNat % 2 ^ 12 - 1))) n = ST_OK →
    Does (.ethEnable dt hart n v) s fun h => h.flag F.ETH_PORT_CFG_EN n = true ∧ h.get F.ETH_PORT_STATUS_LINK n = 1 ∧
    h.get F.ETH_PORT_STATUS_ERR n = ST_OK ∧ (h.ethPort n).linkAt = s.hw.now + dt) ∧
  (∀ (dt : Nat) (s : State) (hart : Fin 19) (n : Fin 12) (v : Word), s.hw.isOn = true → s.hw.byOwner hart (312 + n) = true →
    s.hw.flag F.ETH_PORT_CFG_EN n = true → Does (.ethDisable dt hart n v) s fun h => h.flag F.ETH_PORT_CFG_EN n = false ∧
    h.get F.ETH_PORT_STATUS_LINK n = 0 ∧ (h.ethPort n).txq = []) ∧
  (∀ (dt : Nat) (s : State) (n : Fin 12) (up : Bool), s.hw.isOn = true → s.hw.get F.ETH_PORT_STATUS_LINK n = 1 → up = true →
    Does (.ethLinkChange dt n up) s fun h => h.get F.ETH_PORT_STATUS_LINK n = 2 ∧ h.diag = s.hw.diag ++ [⟨0x0F02, n, false⟩]) ∧
  (∀ (dt : Nat) (s : State) (n : Fin 12) (up : Bool), s.hw.isOn = true → up = false →
    s.hw.get F.ETH_PORT_STATUS_LINK n = 2 ∨ (s.hw.get F.ETH_PORT_STATUS_LINK n = 1 ∧
    (s.hw.ethPort n).linkAt + 200000000 ≤ s.hw.now + dt) → Does (.ethLinkChange dt n up) s fun h =>
    h.get F.ETH_PORT_STATUS_LINK n = 3 ∧ (h.ethPort n).linkAt = s.hw.now + dt ∧ h.diag = s.hw.diag ++ [⟨0x0F01, n, false⟩]) ∧
  (∀ (dt : Nat) (s : State) (n : Fin 12), s.hw.isOn = true → s.hw.get F.ETH_PORT_STATUS_LINK n = 3 →
    (s.hw.ethPort n).linkAt + 500000000 ≤ s.hw.now + dt → Does (.ethLinkRetry dt n) s fun h =>
    h.get F.ETH_PORT_STATUS_LINK n = 1 ∧ (h.ethPort n).linkAt = s.hw.now + dt) ∧
  (∀ (dt : Nat) (s : State) (id : Nat) (f : Flight), s.hw.isOn = true → OpRuns s.hw id 3 1 f →
    ((s.hw.ethPort (fld f.desc 1 1 % 16)).q (fld f.desc 2 1 % 8)).contains id = false →
    s.hw.flag F.ETH_PORT_CFG_EN (fld f.desc 1 1 % 16) = true → Does (.txpkt dt id) s fun h =>
    (h.ethPort (fld f.desc 1 1 % 16)).q (fld f.desc 2 1 % 8) = (s.hw.ethPort (fld f.desc 1 1 % 16)).q (fld f.desc 2 1 % 8) ++
      [id]) ∧
  (∀ (dt : Nat) (s : State) (id : Nat) (f : Flight), s.hw.isOn = true → OpRuns s.hw id 3 1 f →
    ((s.hw.ethPort (fld f.desc 1 1 % 16)).q (fld f.desc 2 1 % 8)).contains id = false →
    s.hw.flag F.ETH_PORT_CFG_EN (fld f.desc 1 1 % 16) = false → Does (.txpkt dt id) s fun h => OpEnded h id ST_ETH_DISABLED) ∧
  (∀ (dt : Nat) (s : State) (id : Nat) (f : Flight), s.hw.isOn = true → OpRuns s.hw id 3 2 f →
    (s.hw.bufq (rxKey (fld f.desc 2 2 - 312) (fld f.desc 1 1 % 8))).bufs.contains id = false →
    (s.hw.bufq (rxKey (fld f.desc 2 2 - 312) (fld f.desc 1 1 % 8))).bufs.length < 64 → Does (.ethRxbuf dt id) s fun h =>
    (h.bufq (rxKey (fld f.desc 2 2 - 312) (fld f.desc 1 1 % 8))).bufs = (s.hw.bufq (rxKey (fld f.desc 2 2 - 312) (fld f.desc 1 1
      % 8))).bufs ++ [id]) ∧
  (∀ (dt : Nat) (s : State) (id : Nat) (f : Flight) (g : GateList), s.hw.isOn = true → OpRuns s.hw id 3 3 f →
    (s.hw.ethPort (fld f.desc 1 1 % 16)).gates.any (fun g => g.1 == id) = false → s.hw.ecc = [] →
    gateImage s.hw (fld f.desc 8 8) = some g → Does (.gcl dt id) s fun h =>
    (h.ethPort (fld f.desc 1 1 % 16)).gates = (s.hw.ethPort (fld f.desc 1 1 % 16)).gates ++ [(id, g, gateStart g (cycleEnd
      (s.hw.ethPort (fld f.desc 1 1 % 16)).gate (s.hw.elapse dt).tb))]) ∧
  (∀ (dt : Nat) (s : State) (n : Fin 12) (id : Nat) (g : GateList) (t : Nat) (r : List (Nat × GateList × Nat)), s.hw.isOn = true
      → (s.hw.ethPort n).gates = (id, g, t) :: r → t ≤ (s.hw.elapse dt).tb → Does (.gateListTakesEffect dt n) s fun h =>
    (h.ethPort n).gate = some { g with base := t } ∧ (h.ethPort n).gates = r) ∧
  (∀ (dt : Nat) (s : State) (n : Fin 12) (x : Nat × Flight), s.hw.isOn = true → s.hw.get F.ETH_PORT_STATUS_LINK n = 2 →
    (s.hw.ethPort n).busyTill ≤ s.hw.now + dt →
    (heads (creditTick (s.hw.elapse dt) n) n).find? (fun x => gateNever (creditTick (s.hw.elapse dt) n) n x.1 (txLen x.2.desc))
      = none →
    (heads (creditTick (s.hw.elapse dt) n) n).find? (fun x => mayStart (creditTick (s.hw.elapse dt) n) n x.1 x.2.desc) = some x
      → Does (.ethFrameSend dt n) s fun h => h = ethSend (creditTick (s.hw.elapse dt) n) n x.1 x.2) ∧
  (∀ (dt : Nat) (s : State) (n : Fin 12) (x : Nat × Flight), s.hw.isOn = true → s.hw.get F.ETH_PORT_STATUS_LINK n = 2 →
    (s.hw.ethPort n).busyTill ≤ s.hw.now + dt →
    (heads (creditTick (s.hw.elapse dt) n) n).find? (fun x => gateNever (creditTick (s.hw.elapse dt) n) n x.1 (txLen x.2.desc))
      = some x → Does (.ethFrameSend dt n) s fun h =>
    h = (((creditTick (s.hw.elapse dt) n).setEth n (((creditTick (s.hw.elapse dt) n).ethPort n).pop x.1 (creditTick (s.hw.elapse
      dt) n).tb)).bump F.ETH_CNT_COUNT n 3).finish x.2 ST_ETH_GATE (creditTick (s.hw.elapse dt) n).tb) ∧
  (∀ (dt : Nat) (s : State) (n : Fin 12) (bs : List Byte) (fcsOk : Bool) (age : Nat), s.hw.isOn = true →
    s.hw.get F.ETH_PORT_STATUS_LINK n = 2 → fcsOk = false → Does (.ethFrameReceive dt n bs fcsOk age) s fun h =>
    h = (s.hw.elapse dt).bump F.ETH_CNT_COUNT n 1) ∧
  (∀ (dt : Nat) (s : State) (n : Fin 12) (bs : List Byte) (fcsOk : Bool) (age : Nat), s.hw.isOn = true →
    s.hw.get F.ETH_PORT_STATUS_LINK n = 2 → fcsOk = true → 14 ≤ bs.length → bs.length ≤ 9212 → ethAccept s.hw n bs = false →
    Does (.ethFrameReceive dt n bs fcsOk age) s fun h => h = (s.hw.elapse dt).bump F.ETH_CNT_COUNT n 2) ∧
  (∀ (dt : Nat) (s : State) (n : Fin 12) (bs : List Byte) (fcsOk : Bool) (age : Nat), s.hw.isOn = true →
    s.hw.get F.ETH_PORT_STATUS_LINK n = 2 → fcsOk = true → 14 ≤ bs.length → bs.length ≤ 9212 → ethAccept s.hw n bs = true →
    etherType bs ≠ 0x88F7 → etherType bs ≠ 0x8100 → etherType bs ≠ 0x88B5 →
    (s.hw.bufq (rxKey n (bits (s.hw.get F.ETH_PORT_PCP_MAP n) 2 0))).bufs = [] →
    Does (.ethFrameReceive dt n bs fcsOk age) s fun h =>
    (h.bufq (rxKey n (bits (s.hw.get F.ETH_PORT_PCP_MAP n) 2 0))).drops = (s.hw.bufq (rxKey n (bits (s.hw.get F.ETH_PORT_PCP_MAP
      n) 2 0))).drops + 1 ∧ h.get F.ETH_CNT_COUNT n 0 = satN 32 (s.hw.get F.ETH_CNT_COUNT n 0 + 1) ∧
    h.diag = s.hw.diag ++ [⟨0x0F03, n, true⟩]) ∧
  (∀ (dt : Nat) (s : State) (n : Fin 12), s.hw.isOn = true → s.hw.flag F.ETH_PORT_CFG_GPTP_EN n = true →
    s.hw.get F.ETH_PORT_STATUS_LINK n = 2 → (s.hw.ethPort n).syncAt + syncNs s.hw ≤ s.hw.now + dt →
    Does (.gptpSync dt n) s fun h => (h.ethPort n).syncAt = s.hw.now + dt ∧
    (h.ethPort n).gptp.head? = some ⟨0, gptpTime (s.hw.elapse dt), clockClass s.hw, s.hw.get F.ETH_GPTP_CFG_PRIO1, s.hw.get
      F.ETH_GPTP_CFG_PRIO2⟩) ∧
  (∀ (dt : Nat) (s : State) (n : Fin 12) (measured : Option Nat) (d : Nat), s.hw.isOn = true →
    s.hw.flag F.ETH_PORT_CFG_GPTP_EN n = true → s.hw.get F.ETH_PORT_STATUS_LINK n = 2 → measured = some d →
    Does (.pdelayExchange dt n measured) s fun h => (h.ethPort n).delay = some d)

/-- SWARM_ENABLE, SWARM_PERIOD, ANNOUNCE_RECEIVED, JOIN_RECEIVED, JOIN_TIMEOUT and LEADER_LOST answer a next state: an enabled
agent leads with group offset 0, sends at each period, joins the leader of the smaller identifier, becomes its member at the
first ANNOUNCE that lists it with the offset of R687, corrects the offset by a quarter afterwards, lists those that join it,
and leads again when it is not listed or loses its leader. (R682, R683, R684, R685, R686, R687, R688, R691) -/
def Obligations.SwarmCommandsComplete : Prop :=
  (∀ (dt : Nat) (s : State) (hart : Fin 19), s.hw.isOn = true → s.hw.byOwner hart (312 + swarmPort s.hw) = true →
    s.hw.flag F.ETH_SWARM_CTRL_EN = false → 100 ≤ s.hw.get F.ETH_SWARM_CFG_PERIOD → s.hw.get F.ETH_SWARM_CFG_PERIOD ≤ 10000 →
    swarmPort s.hw < 12 → Does (.swarmEnable dt hart) s fun h => h.flag F.ETH_SWARM_CTRL_EN = true ∧ swarmState h = 1 ∧
    swarmG h = 0 ∧ h.eth.swarm.members = [] ∧ h.eth.swarm.sentAt = s.hw.now + dt) ∧
  (∀ (dt : Nat) (s : State), s.hw.isOn = true → swarmState s.hw = 1 → s.hw.eth.swarm.sentAt + swarmPeriod s.hw ≤ s.hw.now + dt →
    Does (.swarmPeriod dt) s fun h =>
    h = swarmAnnounce ((s.hw.elapse dt).setSwarm { s.hw.eth.swarm with sentAt := s.hw.eth.swarm.sentAt + swarmPeriod s.hw })) ∧
  (∀ (dt : Nat) (s : State), s.hw.isOn = true → swarmState s.hw ≠ 0 → swarmState s.hw ≠ 1 →
    s.hw.eth.swarm.sentAt + swarmPeriod s.hw ≤ s.hw.now + dt → Does (.swarmPeriod dt) s fun h =>
    h = swarmJoin ((s.hw.elapse dt).setSwarm { s.hw.eth.swarm with sentAt := s.hw.eth.swarm.sentAt + swarmPeriod s.hw })) ∧
  (∀ (dt : Nat) (s : State) (sender : BitVec 160) (field : Word) (tSend : DWord) (ents : List (BitVec 160 × DWord)) (age back :
      Nat), s.hw.isOn = true → swarmState s.hw = 1 → field.toNat = s.hw.get F.ETH_SWARM_FIELD_FIELD →
    sender.toNat ≠ s.hw.grd.serial → sender.toNat < s.hw.grd.serial → s.hw.eth.swarm.ignore = [] →
    Does (.announceReceived dt sender field tSend ents age back) s fun h => swarmState h = 2 ∧
    h.eth.swarm.leader = sender.toNat ∧ h.eth.swarm.members = [] ∧ h.eth.swarm.joinAt = s.hw.now + dt) ∧
  (∀ (dt : Nat) (s : State) (sender : BitVec 160) (field : Word) (tSend : DWord) (ents : List (BitVec 160 × DWord)) (age back :
      Nat) (e : BitVec 160 × DWord) (t1 : Nat), s.hw.isOn = true → swarmState s.hw = 2 →
    field.toNat = s.hw.get F.ETH_SWARM_FIELD_FIELD → sender.toNat ≠ s.hw.grd.serial → sender.toNat = s.hw.eth.swarm.leader →
    ents.find? (fun e => e.1.toNat == s.hw.grd.serial) = some e → s.hw.eth.swarm.joins[back]? = some t1 →
    Does (.announceReceived dt sender field tSend ents age back) s fun h => swarmState h = 3 ∧
    swarmG h = sx 64 (ux 64 ((s.hw.elapse dt).openRound (swarmTheta (sx 64 e.2.toNat) (sx 64 tSend.toNat) t1 (((s.hw.elapse
      dt).tb : Int) - age))).1) ∧ h.eth.swarm.heardAt = s.hw.now + dt ∧ h.diag = s.hw.diag ++ [⟨0x0F05, 0xFFFF, false⟩]) ∧
  (∀ (dt : Nat) (s : State) (sender : BitVec 160) (field : Word) (tSend : DWord) (ents : List (BitVec 160 × DWord)) (age back :
      Nat) (e : BitVec 160 × DWord) (t1 : Nat), s.hw.isOn = true → swarmState s.hw = 3 →
    field.toNat = s.hw.get F.ETH_SWARM_FIELD_FIELD → sender.toNat ≠ s.hw.grd.serial → sender.toNat = s.hw.eth.swarm.leader →
    ents.find? (fun e => e.1.toNat == s.hw.grd.serial) = some e → s.hw.eth.swarm.joins[back]? = some t1 →
    Does (.announceReceived dt sender field tSend ents age back) s fun h => swarmState h = 3 ∧
    swarmG h = sx 64 (ux 64 (swarmG s.hw + Int.tdiv (((s.hw.elapse dt).openRound (swarmTheta (sx 64 e.2.toNat) (sx 64
      tSend.toNat) t1 (((s.hw.elapse dt).tb : Int) - age))).1 - swarmG s.hw) 4))) ∧
  (∀ (dt : Nat) (s : State) (sender : BitVec 160) (field : Word) (tSend : DWord) (ents : List (BitVec 160 × DWord)) (age back :
      Nat), s.hw.isOn = true → swarmState s.hw ≠ 0 → field.toNat = s.hw.get F.ETH_SWARM_FIELD_FIELD →
    sender.toNat = s.hw.grd.serial → Does (.announceReceived dt sender field tSend ents age back) s fun h =>
    h = (s.hw.elapse dt).log 0x0F07 0xFFFF true) ∧
  (∀ (dt : Nat) (s : State) (sender : BitVec 160) (field : Word) (leader : BitVec 160) (age : Nat), s.hw.isOn = true →
    swarmState s.hw = 1 → field.toNat = s.hw.get F.ETH_SWARM_FIELD_FIELD → leader.toNat = s.hw.grd.serial →
    (s.hw.eth.swarm.members.filter (fun y => y.id != sender.toNat)).length < 31 →
    Does (.joinReceived dt sender field leader age) s fun h =>
    h.eth.swarm.members = s.hw.eth.swarm.members.filter (fun y => y.id != sender.toNat) ++ [⟨sender.toNat, ((s.hw.elapse dt).tb
      : Int) - age + swarmG s.hw, s.hw.now + dt, true⟩]) ∧
  (∀ (dt : Nat) (s : State) (sender : BitVec 160) (field : Word) (leader : BitVec 160) (age : Nat), s.hw.isOn = true →
    swarmState s.hw = 1 → field.toNat = s.hw.get F.ETH_SWARM_FIELD_FIELD → leader.toNat = s.hw.grd.serial →
    31 ≤ (s.hw.eth.swarm.members.filter (fun y => y.id != sender.toNat)).length →
    Does (.joinReceived dt sender field leader age) s fun h => h = (s.hw.elapse dt).bump F.ETH_SWARM_STATUS_FULL) ∧
  (∀ (dt : Nat) (s : State), s.hw.isOn = true → swarmState s.hw = 2 →
    s.hw.eth.swarm.joinAt + 3 * swarmPeriod s.hw ≤ s.hw.now + dt → Does (.joinTimeout dt) s fun h => swarmState h = 1 ∧
    h.eth.swarm.leader = s.hw.grd.serial ∧ h.eth.swarm.ignore.head? = some (s.hw.eth.swarm.leader, s.hw.now + dt + 60000000000)) ∧
  (∀ (dt : Nat) (s : State), s.hw.isOn = true → swarmState s.hw = 3 →
    s.hw.eth.swarm.heardAt + 3 * swarmPeriod s.hw ≤ s.hw.now + dt → Does (.leaderLost dt) s fun h => swarmState h = 1 ∧
    swarmG h = swarmG s.hw ∧ h.diag = s.hw.diag ++ [⟨0x0F06, 0xFFFF, false⟩])

/-- SCRUB_WORD, SCRUB_BEHIND, MEM_ERR_LATCH_CLEAR, WRITE and READRAW answer a next state: the scrubber deals with its next word,
a late pass sets BEHIND with its event, the latch is empty, the word is stored with the bits flipped, and the stored word and
check byte are read without correction. (R705, R708, R712, R713, R714) -/
def Obligations.MemoryBlockCommandsComplete : Prop :=
  (∀ (dt : Nat) (s : State) (b : Fin 14) (i : Nat) (found : ScrubFind), s.hw.isOn = true → i < scrubInsts b →
    scrubBase b i = none → found = .clean → Does (.scrubWord dt b i found) s fun h => h = scrubNext (s.hw.elapse dt) b i) ∧
  (∀ (dt : Nat) (s : State) (b : Fin 14) (i : Nat) (found : ScrubFind) (a : Nat), s.hw.isOn = true → i < scrubInsts b →
    scrubBase b i = some a → dirDirty s.hw ((a + 8 * (s.hw.scrubber b i).next) / 64) = false →
    Does (.scrubWord dt b i found) s fun h =>
    h = scrubNext ((s.hw.elapse dt).scan ⟨8, scrubStop b i, true⟩ (a + 8 * (s.hw.scrubber b i).next) 8).1 b i) ∧
  (∀ (dt : Nat) (s : State) (b : Fin 14) (i : Nat), s.hw.isOn = true → i < scrubInsts b →
    11 * scrubPeriod s.hw < 10 * (s.hw.now + dt - (s.hw.scrubber b i).since) →
    bit (s.hw.get F.MEM_SCRUB_STATUS_BEHIND) b = false → Does (.scrubBehind dt b i) s fun h =>
    bit (h.get F.MEM_SCRUB_STATUS_BEHIND) b = true ∧ h.diag = s.hw.diag ++ [⟨0x1003, b, false⟩]) ∧
  (∀ (dt : Nat) (s : State) (hart : Fin 19), s.hw.isOn = true → s.hw.byP0 hart = true →
    Does (.memErrLatchClear dt hart) s fun h => h.get F.MEM_ERR_INFO_VALID 1 = 0 ∧ h.mem = s.hw.mem) ∧
  (∀ (dt : Nat) (s : State) (hart : Fin 19), s.hw.isOn = true → s.hw.byP0 hart = true → injOk s.hw = true →
    Memory.wf s.hw.mem = true → Does (.write dt hart) s fun h => h.get F.MEM_INJ_ST_STATUS = ST_OK ∧
    mget h.dir ((s.hw.get64 F.MEM_INJ_ADDR_LO_ADDR) / 64) = none ∧
    h.rdN (s.hw.get64 F.MEM_INJ_ADDR_LO_ADDR) 8 = Nat.xor (s.hw.get64 F.MEM_INJ_DATA_LO_DATA) (s.hw.get64
      F.MEM_INJ_DFLIP_LO_DFLIP)) ∧
  (∀ (dt : Nat) (s : State) (hart : Fin 19), s.hw.isOn = true → s.hw.byP0 hart = true → injOk s.hw = false →
    Does (.write dt hart) s fun h => h = (s.hw.elapse dt).put F.MEM_INJ_ST_STATUS ST_MEM_INJ) ∧
  (∀ (dt : Nat) (s : State) (hart : Fin 19), s.hw.isOn = true → s.hw.byP0 hart = true → injOk s.hw = true →
    Does (.readraw dt hart) s fun h => h.get F.MEM_INJ_ST_STATUS = ST_OK ∧
    h.get64 F.MEM_INJ_RAW_LO_RAW = s.hw.rdN (s.hw.get64 F.MEM_INJ_ADDR_LO_ADDR) 8 ∧ h.mem = s.hw.mem) ∧
  (∀ (dt : Nat) (s : State) (hart : Fin 19), s.hw.isOn = true → s.hw.byP0 hart = true → injOk s.hw = false →
    Does (.readraw dt hart) s fun h => h = (s.hw.elapse dt).put F.MEM_INJ_ST_STATUS ST_MEM_INJ)

/-- REGION_CREATE, REGION_ENABLE_CHANGE, DELETE, STO_WRITE, STO_READ, TRIM, DIE_LATENCY_WINDOW and DIE_RETIRE answer a next
state: a region is created and enabled, enabled or disabled, or destroyed with its key; blocks are written, read or unmapped;
and dies become slow, recover or retire. (R733, R734, R737, R741, R743, R744, R745, R747, R750) -/
def Obligations.SeasonStoreCommandsComplete : Prop :=
  (∀ (dt : Nat) (s : State) (hart : Fin 19) (r : Fin 16) (v : Word), s.hw.isOn = true → s.hw.byP0 hart = true →
    s.hw.flag F.STO_REG_CFG_CREATED r = false → bit v.toNat 1 = false → s.hw.flag F.STO_REG_CFG_EN r = false →
    s.hw.get F.STO_REG_SIZE_MIB r ≠ 0 → regSum s.hw + s.hw.get F.STO_REG_SIZE_MIB r ≤ 30517578 → bit v.toNat 6 = false →
    Does (.regionCreate dt hart r v) s fun h => h.flag F.STO_REG_CFG_CREATED r = true ∧ h.flag F.STO_REG_CFG_EN r = true ∧
    h.get F.STO_REG_CFG_ERR r = ST_OK ∧ h.get F.STO_REG_CFG_OWNER r = bits v.toNat 5 3) ∧
  (∀ (dt : Nat) (s : State) (hart : Fin 19) (r : Fin 16) (v : Word), s.hw.isOn = true → s.hw.byP0 hart = true →
    s.hw.flag F.STO_REG_CFG_CREATED r = false → bit v.toNat 1 = false → s.hw.flag F.STO_REG_CFG_EN r = false →
    s.hw.get F.STO_REG_SIZE_MIB r = 0 → Does (.regionCreate dt hart r v) s fun h => h.flag F.STO_REG_CFG_CREATED r = false ∧
    h.flag F.STO_REG_CFG_EN r = false ∧ h.get F.STO_REG_CFG_ERR r = ST_STO_CONFIG) ∧
  (∀ (dt : Nat) (s : State) (hart : Fin 19) (r : Fin 16) (v : Word), s.hw.isOn = true → s.hw.byP0 hart = true →
    s.hw.flag F.STO_REG_CFG_CREATED r = true → v.toNat % 2 = 0 → bit v.toNat 1 = false →
    Does (.regionEnableChange dt hart r v) s fun h => h.flag F.STO_REG_CFG_EN r = false ∧
    h.flag F.STO_REG_CFG_CREATED r = true ∧ h.sto = s.hw.sto) ∧
  (∀ (dt : Nat) (s : State) (hart : Fin 19) (r : Fin 16) (v : Word), s.hw.isOn = true → s.hw.byP0 hart = true →
    s.hw.flag F.STO_REG_CFG_CREATED r = true → v.toNat % 2 = 1 → bit v.toNat 1 = false → bit v.toNat 6 = false →
    s.hw.flag F.STO_REG_CFG_EN r = false → Does (.regionEnableChange dt hart r v) s fun h => h.flag F.STO_REG_CFG_EN r = true ∧
    h.get F.STO_REG_CFG_ERR r = ST_OK ∧ h.sto = s.hw.sto) ∧
  (∀ (dt : Nat) (s : State) (hart : Fin 19) (r : Fin 16), s.hw.isOn = true → s.hw.byP0 hart = true →
    s.hw.flag F.STO_REG_CFG_CREATED r = true → s.hw.flag F.STO_REG_CFG_EN r = false → Does (.delete dt hart r) s fun h =>
    h.flag F.STO_REG_CFG_CREATED r = false ∧ regBlocks h r = 0 ∧ h.grd.stoKeys = mdel s.hw.grd.stoKeys r.val) ∧
  (∀ (dt : Nat) (s : State) (id gb : Nat) (f : Flight), s.hw.isOn = true → OpRuns s.hw id 2 1 f → stoBehind s.hw f = false →
    s.hw.ecc = [] → beforeRo s.hw f = true → Does (.stoWrite dt id gb) s fun h => OpEnded h id ST_OK ∧
    h.sto.blks = putBlocks s.hw.sto.blks (sReg f.desc) (sLba f.desc) (cutBlocks (sBlks f.desc) (gather s.hw (dPieces s.hw f.desc
      (fld f.desc 16 8)))) ∧ h.sto.reserve = s.hw.sto.reserve) ∧
  (∀ (dt : Nat) (s : State) (id gb : Nat) (f : Flight), s.hw.isOn = true → OpRuns s.hw id 2 1 f → stoBehind s.hw f = false →
    beforeRo s.hw f = false → s.hw.sto.reserve < sBlks f.desc → Does (.stoWrite dt id gb) s fun h => OpEnded h id ST_STO_FULL ∧
    h.sto = s.hw.sto ∧ h.diag = s.hw.diag ++ [⟨0x1104, 0xFFFF, true⟩]) ∧
  (∀ (dt : Nat) (s : State) (id : Nat) (bad : List Nat) (f : Flight), s.hw.isOn = true → OpRuns s.hw id 2 2 f → bad = [] →
    Does (.stoRead dt id bad) s fun h => OpEnded h id ST_OK ∧
    h.mem = (scatter (s.hw.elapse dt) (dPieces s.hw f.desc (fld f.desc 16 8)) ((List.range (sBlks f.desc)).flatMap (blkBytes
      s.hw f.desc []))).mem ∧ h.sto = s.hw.sto) ∧
  (∀ (dt : Nat) (s : State) (id : Nat) (bad : List Nat) (f : Flight), s.hw.isOn = true → OpRuns s.hw id 2 2 f →
    bad.any (fun i => decide (i < sBlks f.desc)) = true → Does (.stoRead dt id bad) s fun h => OpEnded h id ST_STO_READ_ERROR ∧
    h.diag = s.hw.diag ++ [⟨0x1105, 0xFFFF, true⟩]) ∧
  (∀ (dt : Nat) (s : State) (id : Nat) (f : Flight), s.hw.isOn = true → OpRuns s.hw id 2 3 f → Does (.trim dt id) s fun h =>
    OpEnded h id ST_OK ∧
    h.sto.blks = s.hw.sto.blks.filter (fun x => decide (x.1 < blkKey (sReg f.desc) (sLba f.desc)) || decide (blkKey (sReg
      f.desc) (sLba f.desc) + sBlks f.desc ≤ x.1))) ∧
  (∀ (dt : Nat) (s : State) (slow : List (Fin 128)), s.hw.isOn = true → s.hw.sto.winAt + 1000000000 ≤ s.hw.now + dt →
    Does (.dieLatencyWindow dt slow) s fun h =>
    h = showDies ((List.range 128).foldl (fun g d => dieWindow g d (slow.any (fun x => x.val == d))) { (s.hw.elapse dt) with sto
      := { s.hw.sto with winAt := s.hw.now + dt } })) ∧
  (∀ (dt : Nat) (s : State) (d : Fin 128) (gb : Nat), s.hw.isOn = true → s.hw.flag F.STO_DIE_RETIRED d = false →
    Does (.dieRetire dt d gb) s fun h => h.flag F.STO_DIE_RETIRED d = true ∧ h.flag F.STO_DIE_SLOW d = false ∧
    h.get F.STO_SPARE_GB = s.hw.get F.STO_SPARE_GB - gb)

/-- APPEND, EVR_READ, RECORDER_SCAN, DIAG_EVENT_RECORD and DIAG_HELD_RECORD answer a next state: a partition's record is written
with the next number or refused for its rate, whole records are copied out, the recorder is ready with its torn records
counted, and the oldest waiting or held occurrences are recorded. (R757, R759, R761, R762, R764, R765, R766, R904) -/
def Obligations.RecorderCommandsComplete : Prop :=
  (∀ (dt : Nat) (s : State) (id : Nat) (f : Flight), s.hw.isOn = true → OpRuns s.hw id 8 1 f →
    s.hw.flag F.EVR_STATUS_READY = true → s.hw.ecc = [] →
    ((appRecent (s.hw.elapse dt) f.part).map (·.2)).sum + (40 + fld f.desc 4 2) ≤ 1000 * s.hw.get F.EVR_RATE_KB f.part →
    Does (.append dt id) s fun h => OpEnded h id ST_OK ∧ h.evr.seq = (s.hw.evr.seq + 1) % 2 ^ 64) ∧
  (∀ (dt : Nat) (s : State) (id : Nat) (f : Flight), s.hw.isOn = true → OpRuns s.hw id 8 1 f →
    s.hw.flag F.EVR_STATUS_READY = true →
    1000 * s.hw.get F.EVR_RATE_KB f.part < ((appRecent (s.hw.elapse dt) f.part).map (·.2)).sum + (40 + fld f.desc 4 2) →
    Does (.append dt id) s fun h => OpEnded h id ST_EVR_RATE ∧ h.evr = s.hw.evr) ∧
  (∀ (dt : Nat) (s : State) (id : Nat) (f : Flight), s.hw.isOn = true → OpRuns s.hw id 8 2 f →
    s.hw.flag F.EVR_STATUS_READY = true → Memory.wf s.hw.mem = true → s.hw.ecc = [] → Does (.evrRead dt id) s fun h =>
    OpEnded h id ST_OK ∧ h.evr = s.hw.evr ∧
    h.mem = memWrite s.hw.mem (fld f.desc 16 8) ((recFit (fld f.desc 24 4) ((if bit (fld f.desc 1 1) 0 then s.hw.evr.saf else
      s.hw.evr.gen).recs.filter (fun r => decide (fld f.desc 8 8 ≤ r.seq)))).flatMap (fun r => padTo (recSize r.bytes)
      r.bytes))) ∧
  (∀ (dt : Nat) (s : State) (torn : Nat), s.hw.isOn = true → s.hw.flag F.EVR_STATUS_READY = false →
    Does (.recorderScan dt torn) s fun h =>
    h = (List.range torn).foldl (fun g _ => (g.bump F.EVR_CNT_COUNT 1).log 0x1107) (diagAll ((s.hw.elapse dt).put
      F.EVR_STATUS_READY 1) 256)) ∧
  (∀ (dt : Nat) (s : State) (o : DiagOcc) (os : List DiagOcc), s.hw.isOn = true → s.hw.diag = o :: os →
    s.hw.flag F.EVR_STATUS_READY = true → Does (.diagEventRecord dt) s fun h =>
    h = diagOne { (s.hw.elapse dt) with diag := os } o ∧ (o.limited = false → h.evr.seq = (s.hw.evr.seq + 1) % 2 ^ 64)) ∧
  (∀ (dt : Nat) (s : State) (ty inst : BitVec 16) (t held : Nat), s.hw.isOn = true →
    mget s.hw.evr.rates (rateKey ty.toNat inst.toNat) = some (t, held) → held ≠ 0 → t + 1000000000 ≤ s.hw.now + dt →
    s.hw.flag F.EVR_STATUS_READY = true → Does (.diagHeldRecord dt ty inst) s fun h =>
    mget h.evr.rates (rateKey ty.toNat inst.toNat) = some (s.hw.now + dt, 0) ∧ h.evr.seq = (s.hw.evr.seq + 1) % 2 ^ 64)

/-- STAGE, PUT, APPLY, ACTIVATE, ACTIVATION_COMPLETE, CONFIRM, GRD_ABORT, CONFIRM_WINDOW_EXPIRY and PARKED_FALLBACK answer a
next state: a manifest is checked and opens a session or is refused and counted, payload bytes are staged, the set is built or
the failing component named, an activation starts or is refused, the confirm window starts, the trial set is confirmed with
its counters, and a trial or a session ends as R796 to R799 say. (R782, R783, R784, R787, R789, R793, R794, R795, R796, R797,
R799) -/
def Obligations.UpdateCommandsComplete : Prop :=
  (∀ (dt : Nat) (s : State) (id : Nat) (f : Flight), s.hw.isOn = true → OpRuns s.hw id 7 1 f → s.hw.ecc = [] →
    Does (.stage dt id) s fun h =>
    h = (stageDo (s.hw.elapse dt) ((s.hw.elapse dt).rd (fld f.desc 8 8) (min (fld f.desc 16 4) 16385))).1.finish f (stageDo
      (s.hw.elapse dt) ((s.hw.elapse dt).rd (fld f.desc 8 8) (min (fld f.desc 16 4) 16385))).2 (s.hw.elapse dt).tb ∧
    (∀ m, stageCheck (s.hw.elapse dt) ((s.hw.elapse dt).rd (fld f.desc 8 8) (min (fld f.desc 16 4) 16385)) = (ST_OK, some m) →
    sesState h = 1 ∧ h.grd.man = some m)) ∧
  (∀ (dt : Nat) (s : State) (id : Nat) (f : Flight), s.hw.isOn = true → OpRuns s.hw id 7 1 f → s.hw.ecc = [] →
    sesState s.hw ≠ 0 → Does (.stage dt id) s fun h => OpEnded h id ST_GRD_BUSY ∧ h.get F.GRD_SESSION_ERR = ST_GRD_BUSY ∧
    h.grd = s.hw.grd ∧ h.diag = s.hw.diag ++ [⟨0x1201, 0xFFFF, false⟩]) ∧
  (∀ (dt : Nat) (s : State) (id : Nat) (f : Flight) (c : Comp), s.hw.isOn = true → OpRuns s.hw id 7 2 f → s.hw.ecc = [] →
    sesState s.hw = 1 → grdComp s.hw (fld f.desc 1 1) = some c → Does (.put dt id) s fun h => OpEnded h id ST_OK ∧
    h.grd.stage = mmod s.hw.grd.stage (fld f.desc 1 1) [] (fun m => stagePut m (fld f.desc 16 8) (gather s.hw (dPieces s.hw
      f.desc (fld f.desc 8 8))))) ∧
  (∀ (dt : Nat) (s : State) (id : Nat) (f : Flight), s.hw.isOn = true → OpRuns s.hw id 7 3 f → applyBehind s.hw f = false →
    sesState s.hw = 1 ∨ sesState s.hw = 2 → Does (.apply dt id) s fun h =>
    h = (applyDo (s.hw.elapse dt)).1.finish f (applyDo (s.hw.elapse dt)).2.1 (s.hw.elapse dt).tb (applyDo (s.hw.elapse dt)).2.2
      ∧ (∀ m, s.hw.grd.man = some m → sesState h = (if (applyDo (s.hw.elapse dt)).2.1 = ST_OK then 3 else 1))) ∧
  (∀ (dt : Nat) (s : State) (id : Nat) (f : Flight), s.hw.isOn = true → OpRuns s.hw id 7 4 f → activateCheck s.hw = ST_OK →
    s.hw.flag F.GRD_SESSION_SCOPE = false → Does (.activate dt id) s fun h => OpEnded h id ST_OK ∧
    h.partState (s.hw.get F.GRD_SESSION_PART) = 4 ∧ sesState h = 4 ∧ h.get F.PRP_PART_ST_BUSY = 1 ∧
    h.get F.GRD_SESSION_ERR = ST_OK) ∧
  (∀ (dt : Nat) (s : State) (id : Nat) (f : Flight), s.hw.isOn = true → OpRuns s.hw id 7 4 f → activateCheck s.hw = ST_OK →
    s.hw.flag F.GRD_SESSION_SCOPE = true → Does (.activate dt id) s fun h =>
    h = moduleSwitch (((s.hw.elapse dt).put F.GRD_SESSION_ERR ST_OK).finish f ST_OK (s.hw.elapse dt).tb) true) ∧
  (∀ (dt : Nat) (s : State) (id : Nat) (f : Flight), s.hw.isOn = true → OpRuns s.hw id 7 4 f → activateCheck s.hw ≠ ST_OK →
    Does (.activate dt id) s fun h => OpEnded h id (activateCheck s.hw) ∧ h.get F.GRD_SESSION_ERR = activateCheck s.hw ∧
    h.prp = s.hw.prp) ∧
  (∀ (dt : Nat) (s : State), s.hw.isOn = true → s.hw.pwr.trial = true → Does (.activationComplete dt) s fun h =>
    h.pwr.trial = false ∧ sesState h = 5 ∧
    h.grd.winEnd = some (s.hw.now + dt + ((s.hw.grd.man.bind (·.window)).getD (s.hw.get F.GRD_CONFIRM_WINDOW)) * 1000000000) ∧
    h.diag = s.hw.diag ++ [⟨0x1202, 0xFFFF, false⟩]) ∧
  (∀ (dt : Nat) (s : State) (g : Hw), s.hw.isOn = true → s.hw.pwr.trial = false → sesState s.hw = 4 →
    s.hw.flag F.GRD_SESSION_SCOPE = false →
    partSwitch ((s.hw.elapse dt).put F.GRD_SET_TRIAL 1) (s.hw.get F.GRD_SESSION_PART) = (g, true) →
    Does (.activationComplete dt) s fun h => h = startWindow (g.put F.PRP_PART_ST_BUSY 0)) ∧
  (∀ (dt : Nat) (s : State) (id : Nat) (f : Flight) (m : Manif), s.hw.isOn = true → OpRuns s.hw id 7 5 f → sesState s.hw = 5 →
    s.hw.grd.winEnd.any (fun t => decide (t ≤ f.since)) = false → s.hw.flag F.GRD_SET_EXPIRED = false → s.hw.grd.man = some m →
    Does (.confirm dt id) s fun h => OpEnded h id ST_OK ∧ sesState h = 0 ∧ h.grd.man = none ∧ h.grd.earlier = true ∧
    h.get F.GRD_SET_TRIAL = 0) ∧
  (∀ (dt : Nat) (s : State) (id : Nat) (f : Flight), s.hw.isOn = true → OpRuns s.hw id 7 5 f → sesState s.hw ≠ 5 →
    Does (.confirm dt id) s fun h => OpEnded h id ST_GRD_NO_SESSION ∧ h.grd = s.hw.grd) ∧
  (∀ (dt : Nat) (s : State) (id : Nat) (f : Flight), s.hw.isOn = true → OpRuns s.hw id 7 6 f →
    sesState s.hw = 1 ∨ sesState s.hw = 3 → Does (.grdAbort dt id) s fun h => OpEnded h id ST_OK ∧ sesState h = 0 ∧
    h.grd.man = none ∧ h.grd.stage = []) ∧
  (∀ (dt : Nat) (s : State) (id : Nat) (f : Flight), s.hw.isOn = true → OpRuns s.hw id 7 6 f → sesState s.hw = 0 →
    Does (.grdAbort dt id) s fun h => OpEnded h id ST_GRD_NO_SESSION ∧ h.grd = s.hw.grd) ∧
  (∀ (dt : Nat) (s : State) (t : Nat), s.hw.isOn = true → s.hw.grd.winEnd = some t → sesState s.hw = 5 → t ≤ s.hw.now + dt →
    s.hw.flag F.GRD_SET_EXPIRED = false → Does (.confirmWindowExpiry dt) s fun h => h = fallBack (s.hw.elapse dt) ∧
    (s.hw.flag F.GRD_SESSION_SCOPE = true → grdParked s.hw = false → h.flag F.GRD_SET_EXPIRED = true)) ∧
  (∀ (dt : Nat) (s : State), s.hw.isOn = true → sesState s.hw = 5 → s.hw.flag F.GRD_SET_EXPIRED = true → grdParked s.hw = true →
    Does (.parkedFallback dt) s fun h => h = moduleSwitch (s.hw.elapse dt) false)

/-- RECOVERY_DATAGRAM, UNLOCK, UNLOCK_EXPIRY, NEW_NONCE, LOCK, GETID, HASH, RANDOM and SIGN answer a next state: a datagram is
answered, a refused token is counted and every token uses the nonce, a new nonce stands, an open scope ends, and the identity
record, the digest, the random bytes and the signature stand in memory. (R775, R804, R805, R806, R807, R808, R809) -/
def Obligations.IdentityCommandsComplete : Prop :=
  (∀ (dt : Nat) (s : State) (bytes : List Byte), s.hw.isOn = true → s.hw.flag F.GRD_SET_RECOVERY = true → 64 ≤ bytes.length →
    commonOk (bytes.take 64) = true → dOp (bytes.take 64) = 6 → head0 (bytes.take 64) 0 = true →
    onlyBytes [(0, 1)] (bytes.take 64) = true → sesState s.hw = 1 → Does (.recoveryDatagram dt bytes) s fun h =>
    sesState h = 0 ∧ h.grd.man = none ∧ h.grd.answer.length = 32) ∧
  (∀ (dt : Nat) (s : State) (id : Nat) (f : Flight), s.hw.isOn = true → OpRuns s.hw id 7 7 f → s.hw.ecc = [] →
    1024 < fld f.desc 16 4 → Does (.unlock dt id) s fun h => OpEnded h id ST_GRD_TOKEN ∧ h.grd.nonce = false ∧
    (List.range 4).all (fun i => h.get F.GRD_DBG_NONCE_NONCE i == 0) = true) ∧
  (∀ (dt : Nat) (s : State) (id : Nat) (f : Flight), s.hw.isOn = true → OpRuns s.hw id 7 7 f → s.hw.ecc = [] →
    Does (.unlock dt id) s fun h => h.grd.nonce = false ∧
    (∀ sc d, tokenOk (s.hw.elapse dt) ((s.hw.elapse dt).rd (fld f.desc 8 8) (min (fld f.desc 16 4) 1025)) = some (sc, d) →
    (sc < 2 ∨ grdParked s.hw = true) → OpEnded h id ST_OK ∧ h.grd.dbgEnd = some (s.hw.now + dt + d * 1000000000) ∧
    h.get F.GRD_DBG_STATUS_SCOPE = sc ∧ h.diag = s.hw.diag ++ [⟨0x1207, 0xFFFF, false⟩])) ∧
  (∀ (dt : Nat) (s : State) (t : Nat), s.hw.isOn = true → s.hw.grd.dbgEnd = some t → t ≤ s.hw.now + dt →
    Does (.unlockExpiry dt) s fun h => h.grd.dbgEnd = none ∧ h.get F.GRD_DBG_STATUS_SCOPE = 0 ∧ h.smk.drives = false ∧
    h.diag = s.hw.diag ++ [⟨0x1208, 0xFFFF, false⟩]) ∧
  (∀ (dt : Nat) (s : State) (hart : Fin 19), s.hw.isOn = true → s.hw.byP0 hart = true → Does (.newNonce dt hart) s fun h =>
    h.grd.nonce = true ∧ h.freeCtr = s.hw.freeCtr + 16) ∧
  (∀ (dt : Nat) (s : State) (hart : Fin 19), s.hw.isOn = true → s.hw.byP0 hart = true → s.hw.grd.dbgEnd.isSome = true →
    Does (.lock dt hart) s fun h => h.grd.dbgEnd = none ∧ h.get F.GRD_DBG_STATUS_SCOPE = 0 ∧
    h.diag = s.hw.diag ++ [⟨0x1208, 0xFFFF, false⟩]) ∧
  (∀ (dt : Nat) (s : State) (id : Nat) (f : Flight), s.hw.isOn = true → OpRuns s.hw id 7 8 f → s.hw.ecc = [] →
    Does (.getid dt id) s fun h => OpEnded h id ST_OK ∧ h.mem = memWrite s.hw.mem (fld f.desc 8 8) (idRecord s.hw)) ∧
  (∀ (dt : Nat) (s : State) (id : Nat) (f : Flight), s.hw.isOn = true → OpRuns s.hw id 7 9 f → s.hw.ecc = [] →
    fld f.desc 1 1 = 0 → Does (.hash dt id) s fun h => OpEnded h id ST_OK ∧
    h.mem = memWrite s.hw.mem (fld f.desc 16 8) (sha256 (gather s.hw (dPieces s.hw f.desc (fld f.desc 8 8))) ++ ((List.range (64
      - (sha256 (gather s.hw (dPieces s.hw f.desc (fld f.desc 8 8)))).length)).map (fun i => BitVec.ofNat 8 (Config.freeNat
      (s.hw.freeCtr + i)))))) ∧
  (∀ (dt : Nat) (s : State) (id : Nat) (f : Flight), s.hw.isOn = true → OpRuns s.hw id 7 9 f → s.hw.ecc = [] →
    fld f.desc 1 1 ≠ 0 → Does (.hash dt id) s fun h => OpEnded h id ST_OK ∧
    h.mem = memWrite s.hw.mem (fld f.desc 16 8) (sha384 (gather s.hw (dPieces s.hw f.desc (fld f.desc 8 8))) ++ ((List.range (64
      - (sha384 (gather s.hw (dPieces s.hw f.desc (fld f.desc 8 8)))).length)).map (fun i => BitVec.ofNat 8 (Config.freeNat
      (s.hw.freeCtr + i)))))) ∧
  (∀ (dt : Nat) (s : State) (id : Nat) (f : Flight), s.hw.isOn = true → OpRuns s.hw id 7 10 f → s.hw.ecc = [] →
    Does (.random dt id) s fun h => OpEnded h id ST_OK ∧ h.freeCtr = s.hw.freeCtr + fld f.desc 16 4) ∧
  (∀ (dt : Nat) (s : State) (id : Nat) (f : Flight), s.hw.isOn = true → OpRuns s.hw id 7 11 f → s.hw.ecc = [] →
    Does (.sign dt id) s fun h => OpEnded h id ST_OK ∧
    h.mem = memWrite s.hw.mem (fld f.desc 40 8) (padTo 64 (Config.published 3 (s.hw.grd.pub ++ attestDigest f.part (slice f.desc
      8 32) ++ leBytes 8 (Config.freeNat s.hw.freeCtr)))))

/-- IGNITION_RISE, START_UP, TRAINING_RETRY, LOW_SUPPLY_HALT, VISION_RESUME, BROWNOUT, BROWNOUT_RECOVERY, FEED_UV, FEED_OV,
FEED_RECOVERY and FEED_POWER_UP answer a next state: the logic domain is switched on with its cause, start-up ends or retries,
the vision array halts and resumes, a brown-out records, mirrors and switches off, recovery starts the module or leaves it in
SLEEP, and feeds go out, come back and power up. (R817, R818, R819, R820, R822, R825, R826, R469) -/
def Obligations.SupplyCommandsComplete : Prop :=
  (∀ (dt : Nat) (s : State), s.hw.pwr.state ≠ .on → s.hw.pwr.brown = false → s.hw.pwr.hot = false →
    s.hw.flag F.PWR_WAKE_CFG_IGN_EN = true → Does (.ignitionRise dt) s fun h => h.pwr.state = .on ∧ h.pwr.up = false ∧
    h.get F.PWR_RST_CAUSE_CAUSE = (if s.hw.pwr.state = .off then 1 else 2)) ∧
  (∀ (dt : Nat) (s : State), s.hw.pwr.state = .on → Does (.ignitionRise dt) s fun h =>
    h.pwr = { s.hw.pwr with cmp := s.hw.pwr.cmp ||| 1, ignLow := none } ∧ h.get F.PWR_STATUS_IGN = 1) ∧
  (∀ (dt : Nat) (s : State) (x : StartIn), s.hw.pwr.state = .on → s.hw.pwr.up = false → s.hw.pwr.failedAt = none →
    s.hw.pwr.halted = false → x.fails = none → x.bootSel = false → s.hw.pwr.trial = false →
    bankOk (bankOf s.hw (s.hw.get F.GRD_SET_BANK)) = true → (if s.hw.get F.GRD_SET_BANK = 0 then x.bad0 else x.bad1) = false →
    Does (.startUp dt x) s fun h => h.isOn = true ∧ h.tb = rtcTimebase ((s.hw.elapse dt).rtcTicks) ∧ h.pwr.tries = 0) ∧
  (∀ (dt : Nat) (s : State) (x : StartIn) (t : Nat) (ch : Fin 16), s.hw.pwr.state = .on → s.hw.pwr.failedAt = some t →
    t + 1000000000 ≤ s.hw.now + dt → x.fails = some ch → s.hw.pwr.tries < 3 → Does (.trainingRetry dt x) s fun h =>
    h.pwr.tries = s.hw.pwr.tries + 1 ∧ h.pwr.failedAt = some (s.hw.now + dt) ∧ h.evr.seq = (s.hw.evr.seq + 1) % 2 ^ 64) ∧
  (∀ (dt : Nat) (s : State) (x : StartIn) (t : Nat) (ch : Fin 16), s.hw.pwr.state = .on → s.hw.pwr.failedAt = some t →
    t + 1000000000 ≤ s.hw.now + dt → x.fails = some ch → 3 ≤ s.hw.pwr.tries → Does (.trainingRetry dt x) s fun h =>
    h.pwr.halted = true ∧ h.pwr.failedAt = none) ∧
  (∀ (dt : Nat) (s : State) (x : StartIn) (t : Nat), s.hw.pwr.state = .on → s.hw.pwr.failedAt = some t →
    t + 1000000000 ≤ s.hw.now + dt → x.fails = none → Does (.trainingRetry dt x) s fun h => h = startUp (s.hw.elapse dt) x ∧
    h.pwr.tries = 0 ∧ h.pwr.failedAt = none) ∧
  (∀ (dt : Nat) (s : State) (v : BitVec 16), s.hw.isOn = true → v.toNat < 1800 → s.hw.flag F.PWR_STATUS_LOW_V = false →
    Does (.lowSupplyHalt dt v) s fun h =>
    h = visJudge (((takeVolt (s.hw.elapse dt) v.toNat).put F.PWR_STATUS_LOW_V 1).log 0x1302) ∧ h.flag F.PWR_STATUS_LOW_V = true) ∧
  (∀ (dt : Nat) (s : State) (v : BitVec 16), s.hw.isOn = true → 1850 < v.toNat → s.hw.flag F.PWR_STATUS_LOW_V = true →
    Does (.visionResume dt v) s fun h => h = visJudge ((takeVolt (s.hw.elapse dt) v.toNat).put F.PWR_STATUS_LOW_V 0) ∧
    h.flag F.PWR_STATUS_LOW_V = false) ∧
  (∀ (dt : Nat) (s : State) (v : BitVec 16), s.hw.pwr.state = .on → v.toNat < 1800 → Does (.brownout dt v) s fun h =>
    h.pwr.state = .sleep ∧ h.pwr.up = false ∧ h.pwr.brown = true ∧ h.isOn = false) ∧
  (∀ (dt : Nat) (s : State) (v : BitVec 16) (w : WakeIn), s.hw.pwr.brown = true → 1800 ≤ v.toNat → s.hw.pwr.state ≠ .on →
    wakeActive (takeWake (s.hw.elapse dt) w) = true → s.hw.pwr.hot = false → Does (.brownoutRecovery dt v w) s fun h =>
    h.pwr.state = .on ∧ h.pwr.up = false ∧ h.pwr.brown = false ∧ h.get F.PWR_RST_CAUSE_CAUSE = 3) ∧
  (∀ (dt : Nat) (s : State) (v : BitVec 16) (w : WakeIn), s.hw.pwr.brown = true → 1800 ≤ v.toNat → s.hw.pwr.state ≠ .on →
    wakeActive (takeWake (s.hw.elapse dt) w) = false → Does (.brownoutRecovery dt v w) s fun h => h.pwr.state = .sleep ∧
    h.pwr.brown = false) ∧
  (∀ (dt : Nat) (s : State) (t : Fin 8) (v : BitVec 16), v.toNat < 1200 → s.hw.flag F.PWR_FEED_STATUS_FEED_UV t = false →
    Does (.feedUv dt t v) s fun h => h = feedOut (s.hw.elapse dt) t F.PWR_FEED_STATUS_FEED_UV F.PWR_FEED_STATUS_SEEN_UV ∧
    h.flag F.PWR_FEED_STATUS_FEED_UV t = true) ∧
  (∀ (dt : Nat) (s : State) (t : Fin 8) (v : BitVec 16), 3600 < v.toNat → s.hw.flag F.PWR_FEED_STATUS_FEED_OV t = false →
    Does (.feedOv dt t v) s fun h => h = feedOut (s.hw.elapse dt) t F.PWR_FEED_STATUS_FEED_OV F.PWR_FEED_STATUS_SEEN_OV ∧
    h.flag F.PWR_FEED_STATUS_FEED_OV t = true) ∧
  (∀ (dt : Nat) (s : State) (t : Fin 8) (v : BitVec 16), 1300 < v.toNat → v.toNat < 3400 →
    Does (.feedRecovery dt t v) s fun h => h.flag F.PWR_FEED_STATUS_FEED_UV t = false ∧
    h.flag F.PWR_FEED_STATUS_FEED_OV t = false) ∧
  (∀ (dt : Nat) (s : State) (t : Fin 8), Does (.feedPowerUp dt t) s fun h =>
    (List.range 5).all (fun i => h.get F.LSW_FS_ENTRY t i == 0) = true ∧ h.flag F.LSW_TILE_CTRL_FS_LOCK t = false ∧
    h.flag F.LSW_TILE_STATUS_FS_LOCKED t = false ∧ h.get F.LSW_TILE_STATUS_STATE t = 0)

/-- SOFTWARE_RESET, LOCKSTEP_MISMATCH, GO, AUTO_SLEEP, WAKE, KEEP_ALIVE_MIRROR, KA_LOSS, RTC_WRITE, KEEP_ALIVE_POWER_UP,
PLATE_CAP, PLATE_ABOVE_100, THERMAL_SHUTDOWN, PLATE_SENSOR_INVALID, THERMAL_RESTART and SUP5_CURRENT_LIMIT answer a next
state: the module is reset with its cause, sleeps, is refused sleep or wakes, the kept values are mirrored, lost or set, and
plate temperature reports, shuts down and lets the module start again. (R826, R828, R830, R831, R832, R833, R834, R876, R882,
R883, R884, R885) -/
def Obligations.PowerStateCommandsComplete : Prop :=
  (∀ (dt : Nat) (s : State) (hart : Fin 19) (v : Word), s.hw.isOn = true → s.hw.byP0 hart = true → v.toNat % 65536 = 0x6B5A →
    Does (.softwareReset dt hart v) s fun h => h.pwr.state = .on ∧ h.pwr.up = false ∧ h.get F.PWR_RST_CAUSE_CAUSE = 4 ∧
    h.mem = [] ∧ h.rng.flights = []) ∧
  (∀ (dt : Nat) (s : State) (pair : Fin 3), s.hw.isOn = true → pair.val = 0 → Does (.lockstepMismatch dt pair) s fun h =>
    h.pwr.state = .on ∧ h.pwr.up = false ∧ h.get F.PWR_RST_CAUSE_CAUSE = 6 ∧ h.mem = []) ∧
  (∀ (dt : Nat) (s : State) (pair : Fin 3), s.hw.isOn = true → pair.val ≠ 0 → Does (.lockstepMismatch dt pair) s fun h =>
    h = stopUnasked ((s.hw.elapse dt).log 0x1306 pair) 1) ∧
  (∀ (dt : Nat) (s : State) (hart : Fin 19) (w : WakeIn), s.hw.isOn = true → s.hw.byP0 hart = true →
    wakeActive (takeWake (s.hw.elapse dt) w) = true → Does (.go dt hart w) s fun h =>
    h.get F.PWR_SLEEP_STATUS = ST_PWR_WAKE_ACTIVE ∧ h.pwr.state = s.hw.pwr.state ∧ h.mem = s.hw.mem) ∧
  (∀ (dt : Nat) (s : State) (hart : Fin 19) (w : WakeIn), s.hw.isOn = true → s.hw.byP0 hart = true →
    wakeActive (takeWake (s.hw.elapse dt) w) = false → pwrBusy s.hw = true → Does (.go dt hart w) s fun h =>
    h.get F.PWR_SLEEP_STATUS = ST_PWR_BUSY ∧ h.pwr.state = s.hw.pwr.state) ∧
  (∀ (dt : Nat) (s : State) (hart : Fin 19) (w : WakeIn), s.hw.isOn = true → s.hw.byP0 hart = true →
    wakeActive (takeWake (s.hw.elapse dt) w) = false → pwrBusy s.hw = false → Does (.go dt hart w) s fun h =>
    h.pwr.state = .sleep ∧ h.pwr.up = false ∧ h.isOn = false) ∧
  (∀ (dt : Nat) (s : State) (w : WakeIn) (t : Nat), s.hw.isOn = true → wakeActive (takeWake (s.hw.elapse dt) w) = false →
    pwrBusy s.hw = false → (takeWake (s.hw.elapse dt) w).pwr.ignLow = some t → s.hw.get F.PWR_SLEEP_CFG_AUTO ≠ 0 →
    t + 1000000000 * s.hw.get F.PWR_SLEEP_CFG_AUTO ≤ s.hw.now + dt → Does (.autoSleep dt w) s fun h => h.pwr.state = .sleep ∧
    h.isOn = false) ∧
  (∀ (dt : Nat) (s : State) (w : WakeIn), s.hw.pwr.state = .sleep → s.hw.pwr.brown = false → s.hw.pwr.hot = false →
    wakeActive (takeWake (s.hw.elapse dt) w) = true → Does (.wake dt w) s fun h => h.pwr.state = .on ∧ h.pwr.up = false ∧
    h.get F.PWR_RST_CAUSE_CAUSE = 2) ∧
  (∀ (dt : Nat) (s : State) (w : WakeIn), s.hw.pwr.state = .sleep → wakeActive (takeWake (s.hw.elapse dt) w) = false →
    Does (.wake dt w) s fun h => h = takeWake (s.hw.elapse dt) w ∧ h.pwr.state = .sleep) ∧
  (∀ (dt : Nat) (s : State), s.hw.pwr.state = .on → s.hw.pwr.mirrorAt + 60000000000 ≤ s.hw.now + dt →
    s.hw.get F.WGL_STATUS_DISC ≠ 2 → Does (.keepAliveMirror dt) s fun h => h.pwr.mirrorAt = s.hw.now + dt ∧
    h.pwr.mirror = ((s.hw.elapse dt).rtcTicks, (s.hw.elapse dt).opNs, s.hw.get F.PWR_PCYCLE_VALUE) ∧ h.pwr.rtc = s.hw.pwr.rtc) ∧
  (∀ (dt : Nat) (s : State), s.hw.isOn = true → s.hw.pwr.mirrorAt + 60000000000 ≤ s.hw.now + dt →
    s.hw.get F.WGL_STATUS_DISC = 2 → Does (.keepAliveMirror dt) s fun h => h.pwr.mirrorAt = s.hw.now + dt ∧
    h.pwr.rtc = (s.hw.elapse dt).tb * 32768 / 1000000000 ∧ h.pwr.rtcAt = s.hw.now + dt) ∧
  (∀ (dt : Nat) (s : State) (logic : Bool), s.hw.pwr.state ≠ .on → Does (.kaLoss dt logic) s fun h => h.pwr.kaLost = true ∧
    h.pwr.state = (if logic then s.hw.pwr.state else .off)) ∧
  (∀ (dt : Nat) (s : State) (hart : Fin 19) (v : Word), s.hw.isOn = true → s.hw.byP0 hart = true →
    Does (.rtcWrite dt hart v) s fun h => h.pwr.rtc = v.toNat * 32768 ∧ h.pwr.rtcAt = s.hw.now + dt ∧ h.rtcSec = v.toNat) ∧
  (∀ (dt : Nat) (s : State), s.hw.pwr.state = .off → Does (.keepAlivePowerUp dt) s fun h =>
    h.pwr = { s.hw.pwr with state := .sleep }) ∧
  (∀ (dt : Nat) (s : State) (a b : BitVec 16), s.hw.isOn = true → -500 ≤ a.toInt → a.toInt ≤ 1500 → -500 ≤ b.toInt →
    b.toInt ≤ 1500 → s.hw.flag F.PWR_STATUS_LOW_V = false → Does (.plateCap dt a b) s fun h =>
    h.getS F.PWR_ENV_PLATE = max a.toInt b.toInt ∧ h.get F.PWR_ENV_SENS_A_BAD = 0 ∧ h.get F.PWR_ENV_SENS_B_BAD = 0 ∧
    h.pwr.cap = min s.hw.pwr.vCap (if max a.toInt b.toInt ≤ 800 then 230000 else (230000 - 2300 * (max a.toInt b.toInt -
      800)).toNat)) ∧
  (∀ (dt : Nat) (s : State) (a b : BitVec 16) (t : Nat), s.hw.isOn = true →
    (plateRead (s.hw.elapse dt) a.toInt b.toInt).pwr.hotAt = some t → t + 1000000000 ≤ s.hw.now + dt →
    (plateRead (s.hw.elapse dt) a.toInt b.toInt).get F.PWR_ENV_THERM ≠ 3 → Does (.plateAbove100 dt a b) s fun h =>
    h.get F.PWR_ENV_THERM = 3 ∧ h.diag = (plateRead (s.hw.elapse dt) a.toInt b.toInt).diag ++ [⟨0x1502, 0xFFFF, false⟩]) ∧
  (∀ (dt : Nat) (s : State) (a b : BitVec 16) (t : Nat), s.hw.isOn = true →
    (plateRead (s.hw.elapse dt) a.toInt b.toInt).pwr.overAt = some t → t + 100000000 ≤ s.hw.now + dt →
    Does (.thermalShutdown dt a b) s fun h => h.pwr.state = .sleep ∧ h.pwr.hot = true ∧ h.isOn = false) ∧
  (∀ (dt : Nat) (s : State) (a b : BitVec 16), s.hw.isOn = true → a.toInt < -500 ∨ 1500 < a.toInt → -500 ≤ b.toInt →
    b.toInt ≤ 1500 → s.hw.flag F.PWR_ENV_SENS_A_BAD = false → Does (.plateSensorInvalid dt a b) s fun h =>
    h.getS F.PWR_ENV_PLATE = b.toInt ∧ h.get F.PWR_ENV_SENS_A_BAD = 1 ∧ h.get F.PWR_ENV_SENS_B_BAD = 0 ∧
    h.diag.contains ⟨0x1505, 0xFFFF, false⟩ = true) ∧
  (∀ (dt : Nat) (s : State) (a b : BitVec 16), s.hw.isOn = true → a.toInt < -500 ∨ 1500 < a.toInt →
    b.toInt < -500 ∨ 1500 < b.toInt → Does (.plateSensorInvalid dt a b) s fun h => h.getS F.PWR_ENV_PLATE = 900 ∧
    h.get F.PWR_ENV_SENS_A_BAD = 1 ∧ h.get F.PWR_ENV_SENS_B_BAD = 1 ∧ h.pwr.overAt = none) ∧
  (∀ (dt : Nat) (s : State) (t : BitVec 16) (w : WakeIn), s.hw.pwr.hot = true → t.toInt < 900 → s.hw.pwr.state ≠ .on →
    wakeActive (takeWake (s.hw.elapse dt) w) = true → s.hw.pwr.brown = false → Does (.thermalRestart dt t w) s fun h =>
    h.pwr.state = .on ∧ h.pwr.up = false ∧ h.pwr.hot = false ∧ h.get F.PWR_RST_CAUSE_CAUSE = 2) ∧
  (∀ (dt : Nat) (s : State) (t : BitVec 16) (w : WakeIn), s.hw.pwr.hot = true → t.toInt < 900 → s.hw.pwr.state ≠ .on →
    wakeActive (takeWake (s.hw.elapse dt) w) = false → Does (.thermalRestart dt t w) s fun h => h.pwr.state = .sleep ∧
    h.pwr.hot = false) ∧
  (∀ (dt : Nat) (s : State) (j : Fin 4) (lim : Bool), s.hw.isOn = true → lim = true → j.val ≠ 0 →
    Does (.sup5CurrentLimit dt j lim) s fun h => h.get F.PWR_ENV_SUP_LIM = s.hw.get F.PWR_ENV_SUP_LIM ||| 2 ^ j.val ∧
    h.get F.PWR_ENV_SUP_SEEN = s.hw.get F.PWR_ENV_SUP_SEEN ||| 2 ^ j.val ∧ h.diag = s.hw.diag ++ [⟨0x1504, j.val + 2, true⟩]) ∧
  (∀ (dt : Nat) (s : State) (j : Fin 4) (lim : Bool), s.hw.isOn = true → lim = true → j.val = 0 →
    Does (.sup5CurrentLimit dt j lim) s fun h =>
    h = (List.range 64).foldl (fun g n => showFaultNow g (326 + n)) ((((s.hw.elapse dt).put F.PWR_ENV_SUP_LIM (s.hw.get
      F.PWR_ENV_SUP_LIM ||| 1)).put F.PWR_ENV_SUP_SEEN (s.hw.get F.PWR_ENV_SUP_SEEN ||| 1)).log 0x1504 2 true))

/-- SMOKER_STEP, SMOKER_ABANDON, TILE_TEST, SMOKER_BEHIND, ENTER and TAP_INSTRUCTION answer a next state: a step shows its test
and takes its result, an abandoned pulse leaves its target for later, a tile is taken out of the pool and comes back or fails,
a late cycle is reported, the test mode becomes active, and an instruction of the test access port takes effect. (R843, R845,
R849, R850, R854, R855, R856, R857) -/
def Obligations.SmokerCommandsComplete : Prop :=
  (∀ (dt : Nat) (s : State) (x : SmkStep) (pair : Fin 3) (good : Bool), s.hw.isOn = true → x = .lockstep pair good →
    smkTests s.hw 4 = true → Does (.smokerStep dt x) s fun h =>
    h = smkPass (if good then (s.hw.elapse dt).put F.SMK_STATUS_TEST 4 else (smkFail ((s.hw.elapse dt).put F.SMK_STATUS_TEST 4)
      4).log 0x1405 pair) 4 [pair.val]) ∧
  (∀ (dt : Nat) (s : State) (x : SmkStep) (p : Fin 272), s.hw.isOn = true → x = .pulse p →
    smkTests s.hw (pulseTest s.hw p) = true → s.hw.smk.test = none → outTarget s.hw p = true ∨ inTarget s.hw p = true →
    Does (.smokerStep dt x) s fun h => h.smk.test = some p.val ∧
    h.smk.passed = s.hw.smk.passed ++ [smkKey (pulseTest s.hw p) p]) ∧
  (∀ (dt : Nat) (s : State) (p : Nat), s.hw.isOn = true → s.hw.smk.test = some p → Does (.smokerAbandon dt) s fun h =>
    h.smk.test = none ∧ h.smk.passed = s.hw.smk.passed.filter (fun k => k != smkKey 1 p && k != smkKey 2 p)) ∧
  (∀ (dt : Nat) (s : State) (t : Fin 100) (ev : TileEv), s.hw.isOn = true → ev = .takeOut → s.hw.smk.tile = none →
    smkTests s.hw 6 = true → tileSt s.hw t ≤ 1 → Does (.tileTest dt t ev) s fun h => h = tileTakeOut (s.hw.elapse dt) t) ∧
  (∀ (dt : Nat) (s : State) (t : Fin 100) (ev : TileEv) (good : Bool) (x : Nat × Nat × Option Nat), s.hw.isOn = true →
    ev = .result good → s.hw.smk.tile = some x → x.1 = t.val → Does (.tileTest dt t ev) s fun h =>
    h = smkPass (if good then endTileTest (s.hw.elapse dt) else tileFailed (s.hw.elapse dt) t) 6 [t.val]) ∧
  (∀ (dt : Nat) (s : State), s.hw.isOn = true → smkOn s.hw = true → s.hw.smk.behind = false →
    s.hw.smk.cycleAt + s.hw.get F.SMK_CFG_PERIOD * 1000000000 ≤ s.hw.now + dt → Does (.smokerBehind dt) s fun h =>
    h.smk.behind = true ∧ h.get F.SMK_STATUS_BEHIND = 1 ∧ h.diag = s.hw.diag ++ [⟨0x1408, 0xFFFF, false⟩]) ∧
  (∀ (dt : Nat) (s : State) (hart : Fin 19), s.hw.isOn = true → s.hw.byP0 hart = true →
    bit (s.hw.get F.GRD_DBG_STATUS_SCOPE) 3 = true → Does (.enter dt hart) s fun h => h.get F.SMK_TESTMODE_ACTIVE = 1 ∧
    smkOn h = false) ∧
  (∀ (dt : Nat) (s : State) (ir : TapIr), s.hw.isOn = true → Does (.tapInstruction dt ir) s fun h => h.smk.ir = tapCode ir ∧
    h.smk.drives = (tapCode ir == 3 && bit (s.hw.get F.GRD_DBG_STATUS_SCOPE) 2))

/-- When one of these commands answers a next state, every register outside the pages of the register map that the statement
names reads as before, and every other piece of state stays as it was, all of memory among it, but for the pieces the
statement names and the passing of time: RESERVATION_TAKES_EFFECT, PPS_EDGE, HOLDOVER_ENTRY, DOMAIN_STOP_TIMEOUT,
DOORBELL_READ, RING_IRQ_TIMER, RING_DRAIN_DONE, CAMERA_ENABLE, CAMERA_GEOM_WRITE, CAMERA_LINK_UP, CAMERA_LINK_DOWN,
CAMERA_TRAINING_RETRY, POST, REPROCESS, CCI_TIMEOUT, FRAME_START, ELASTIC_BUFFER_OVERFLOW, FRAME_CAPACITY_OVERRUN,
ARRIVAL_DEADLINE, PIPELINE_PASS_START, PROCESSING_DEADLINE. (R65, R131, R252) -/
def Obligations.WaggleAndImagingFrames : Prop :=
  (∀ (dt : Nat) (s t : State) (p : Fin 8), exec (.reservationTakesEffect dt p) s = .next t →
    t.hw = { s.hw with wgl := s.hw.wgl.elapse dt, prp := t.hw.prp }) ∧
  (∀ (dt : Nat) (s t : State), exec (.ppsEdge dt) s = .next t → RegsKept [0] s.hw t.hw ∧
    t.hw = { s.hw with rf := t.hw.rf, freeCtr := t.hw.freeCtr, wgl := t.hw.wgl, gns := t.hw.gns }) ∧
  (∀ (dt : Nat) (s t : State), exec (.holdoverEntry dt) s = .next t → RegsKept [0] s.hw t.hw ∧
    t.hw = { s.hw with rf := t.hw.rf, diag := t.hw.diag, wgl := t.hw.wgl }) ∧
  (∀ (dt : Nat) (s t : State) (i : Fin 16), exec (.domainStopTimeout dt i) s = .next t → RegsKept [0] s.hw t.hw ∧
    t.hw = { s.hw with rf := t.hw.rf, diag := t.hw.diag, wgl := t.hw.wgl }) ∧
  (∀ (dt : Nat) (s t : State) (r : Fin 1024), exec (.doorbellRead dt r) s = .next t → RegsKept [1] s.hw t.hw ∧
    t.hw = { s.hw with rf := t.hw.rf, diag := t.hw.diag, rng := t.hw.rng, wgl := s.hw.wgl.elapse dt }) ∧
  (∀ (dt : Nat) (s t : State) (r : Fin 1024), exec (.ringIrqTimer dt r) s = .next t →
    t.hw = { s.hw with irqs := t.hw.irqs, rng := t.hw.rng, wgl := s.hw.wgl.elapse dt }) ∧
  (∀ (dt : Nat) (s t : State) (r : Fin 1024), exec (.ringDrainDone dt r) s = .next t → RegsKept [1] s.hw t.hw ∧
    t.hw = { s.hw with rf := t.hw.rf, wgl := s.hw.wgl.elapse dt }) ∧
  (∀ (dt : Nat) (s t : State) (hart : Fin 19) (c : Fin 16), exec (.cameraEnable dt hart c) s = .next t →
    RegsKept [3] s.hw t.hw ∧ t.hw = { s.hw with rf := t.hw.rf, wgl := s.hw.wgl.elapse dt, img := t.hw.img }) ∧
  (∀ (dt : Nat) (s t : State) (hart : Fin 19) (c : Fin 16) (v : Word), exec (.cameraGeomWrite dt hart c v) s = .next t →
    RegsKept [3] s.hw t.hw ∧ t.hw = { s.hw with rf := t.hw.rf, wgl := s.hw.wgl.elapse dt, img := t.hw.img }) ∧
  (∀ (dt : Nat) (s t : State) (c : Fin 16), exec (.cameraLinkUp dt c) s = .next t → RegsKept [3] s.hw t.hw ∧
    t.hw = { s.hw with rf := t.hw.rf, diag := t.hw.diag, wgl := s.hw.wgl.elapse dt }) ∧
  (∀ (dt : Nat) (s t : State) (c : Fin 16), exec (.cameraLinkDown dt c) s = .next t → RegsKept [3] s.hw t.hw ∧
    t.hw = { s.hw with
      rf := t.hw.rf, diag := t.hw.diag, rng := t.hw.rng, wgl := s.hw.wgl.elapse dt, img := t.hw.img }) ∧
  (∀ (dt : Nat) (s t : State) (c : Fin 16), exec (.cameraTrainingRetry dt c) s = .next t → RegsKept [3] s.hw t.hw ∧
    t.hw = { s.hw with rf := t.hw.rf, wgl := s.hw.wgl.elapse dt, img := t.hw.img }) ∧
  (∀ (dt : Nat) (s t : State) (id : Nat), exec (.post dt id) s = .next t →
    t.hw = { s.hw with rng := t.hw.rng, wgl := s.hw.wgl.elapse dt, img := t.hw.img }) ∧
  (∀ (dt : Nat) (s t : State) (id : Nat), exec (.reprocess dt id) s = .next t →
    t.hw = { s.hw with wgl := s.hw.wgl.elapse dt, img := t.hw.img }) ∧
  (∀ (dt : Nat) (s t : State) (id : Nat), exec (.cciTimeout dt id) s = .next t →
    t.hw = { s.hw with rng := t.hw.rng, wgl := s.hw.wgl.elapse dt }) ∧
  (∀ (dt : Nat) (s t : State) (c : Fin 16) (vc : Fin 16) (fmt : Fin 8), exec (.frameStart dt c vc fmt) s = .next t →
    RegsKept [3] s.hw t.hw ∧ t.hw = { s.hw with
      rf := t.hw.rf, diag := t.hw.diag, rng := t.hw.rng, wgl := s.hw.wgl.elapse dt, img := t.hw.img }) ∧
  (∀ (dt : Nat) (s t : State), exec (.elasticBufferOverflow dt) s = .next t → RegsKept [3] s.hw t.hw ∧ t.hw = { s.hw with
      rf := t.hw.rf, diag := t.hw.diag, rng := t.hw.rng, wgl := s.hw.wgl.elapse dt, img := t.hw.img }) ∧
  (∀ (dt : Nat) (s t : State) (c : Fin 16), exec (.frameCapacityOverrun dt c) s = .next t → RegsKept [3] s.hw t.hw ∧
    t.hw = { s.hw with
      rf := t.hw.rf, diag := t.hw.diag, rng := t.hw.rng, wgl := s.hw.wgl.elapse dt, img := t.hw.img }) ∧
  (∀ (dt : Nat) (s t : State) (c : Fin 16), exec (.arrivalDeadline dt c) s = .next t → RegsKept [3] s.hw t.hw ∧
    t.hw = { s.hw with
      rf := t.hw.rf, diag := t.hw.diag, rng := t.hw.rng, wgl := s.hw.wgl.elapse dt, img := t.hw.img }) ∧
  (∀ (dt : Nat) (s t : State) (k : Fin 2), exec (.pipelinePassStart dt k) s = .next t →
    t.hw = { s.hw with wgl := s.hw.wgl.elapse dt, img := t.hw.img }) ∧
  (∀ (dt : Nat) (s t : State) (c : Fin 16), exec (.processingDeadline dt c) s = .next t → RegsKept [3] s.hw t.hw ∧
    t.hw = { s.hw with
      rf := t.hw.rf, diag := t.hw.diag, rng := t.hw.rng, wgl := s.hw.wgl.elapse dt, img := t.hw.img })

/-- When one of these commands answers a next state, every register outside the pages of the register map that the statement
names reads as before, and every other piece of state stays as it was, all of memory among it, but for the pieces the
statement names and the passing of time: RECBUF, BUFFER_FLUSH_TIMEOUT, IMPACT_BEGIN, WIDTH, YIELD_ENABLE, CTL_SLOT_SEL_WRITE,
REC_CMD_READ, CLAMP_LIMIT, LSW_ENABLE, CURRENT_LIMIT_TIMEOUT, OPEN_ON, OFF_HIGH, OVERTEMP, OVERTEMP_RESTART, LSW_FAULT_CLEAR,
WATCHDOG_PERIOD_START, WDANS, FS_LOCK, DIO_ENABLE, DIOBUF, FILTER_CHANGE, DIO_OVERLOAD, DIO_FAULT_DETECT, SILENT,
SENSOR_INPUT_FAULT, DIO_OVERTEMP_RECOVERY, DIO_OPEN_WIRE_ENDS. (R290, R453, R486) -/
def Obligations.SensorsAndLoadsFrames : Prop :=
  (∀ (dt : Nat) (s t : State) (id : Nat), exec (.recbuf dt id) s = .next t →
    t.hw = { s.hw with rng := t.hw.rng, wgl := s.hw.wgl.elapse dt, bufs := t.hw.bufs }) ∧
  (∀ (dt : Nat) (s t : State) (id : Nat), exec (.bufferFlushTimeout dt id) s = .next t →
    t.hw = { s.hw with rng := t.hw.rng, wgl := s.hw.wgl.elapse dt, bufs := t.hw.bufs }) ∧
  (∀ (dt : Nat) (s t : State) (c : Fin 48), exec (.impactBegin dt c) s = .next t →
    t.hw = { s.hw with wgl := s.hw.wgl.elapse dt, sfe := t.hw.sfe }) ∧
  (∀ (dt : Nat) (s t : State) (id : Nat), exec (.width dt id) s = .next t →
    t.hw = { s.hw with rng := t.hw.rng, wgl := s.hw.wgl.elapse dt, yld := t.hw.yld }) ∧
  (∀ (dt : Nat) (s t : State) (hart : Fin 19) (v : Word), exec (.yieldEnable dt hart v) s = .next t → RegsKept [4] s.hw t.hw ∧
    t.hw = { s.hw with rf := t.hw.rf, wgl := s.hw.wgl.elapse dt, yld := t.hw.yld }) ∧
  (∀ (dt : Nat) (s t : State) (hart : Fin 19) (v : Word), exec (.ctlSlotSelWrite dt hart v) s = .next t →
    RegsKept [5] s.hw t.hw ∧ t.hw = { s.hw with rf := t.hw.rf, wgl := s.hw.wgl.elapse dt }) ∧
  (∀ (dt : Nat) (s t : State) (hart : Fin 19), exec (.recCmdRead dt hart) s = .next t → RegsKept [5] s.hw t.hw ∧
    t.hw = { s.hw with rf := t.hw.rf, wgl := s.hw.wgl.elapse dt }) ∧
  (∀ (dt : Nat) (s t : State) (c : Fin 48), exec (.clampLimit dt c) s = .next t → RegsKept [6] s.hw t.hw ∧
    t.hw = { s.hw with rf := t.hw.rf, diag := t.hw.diag, wgl := s.hw.wgl.elapse dt }) ∧
  (∀ (dt : Nat) (s t : State) (hart : Fin 19) (c : Fin 96) (v : Word), exec (.lswEnable dt hart c v) s = .next t →
    RegsKept [7] s.hw t.hw ∧ t.hw = { s.hw with rf := t.hw.rf, wgl := s.hw.wgl.elapse dt, til := t.hw.til, smk := t.hw.smk }) ∧
  (∀ (dt : Nat) (s t : State) (c : Fin 96) (dur : Nat), exec (.currentLimitTimeout dt c dur) s = .next t →
    RegsKept [7] s.hw t.hw ∧ t.hw = { s.hw with
      rf := t.hw.rf, diag := t.hw.diag, wgl := s.hw.wgl.elapse dt, til := t.hw.til, smk := t.hw.smk }) ∧
  (∀ (dt : Nat) (s t : State) (c : Fin 96), exec (.openOn dt c) s = .next t → RegsKept [7] s.hw t.hw ∧
    t.hw = { s.hw with rf := t.hw.rf, diag := t.hw.diag, wgl := s.hw.wgl.elapse dt }) ∧
  (∀ (dt : Nat) (s t : State) (c : Fin 96), exec (.offHigh dt c) s = .next t → RegsKept [7] s.hw t.hw ∧
    t.hw = { s.hw with rf := t.hw.rf, diag := t.hw.diag, wgl := s.hw.wgl.elapse dt }) ∧
  (∀ (dt : Nat) (s t : State) (c : Fin 96), exec (.overtemp dt c) s = .next t → RegsKept [7] s.hw t.hw ∧ t.hw = { s.hw with
      rf := t.hw.rf, diag := t.hw.diag, wgl := s.hw.wgl.elapse dt, til := t.hw.til, smk := t.hw.smk }) ∧
  (∀ (dt : Nat) (s t : State) (c : Fin 96), exec (.overtempRestart dt c) s = .next t → RegsKept [7] s.hw t.hw ∧
    t.hw = { s.hw with rf := t.hw.rf, wgl := s.hw.wgl.elapse dt, til := t.hw.til, smk := t.hw.smk }) ∧
  (∀ (dt : Nat) (s t : State) (hart : Fin 19) (c : Fin 96) (v : Word) (stillHot : Bool), exec (.lswFaultClear dt hart c v
      stillHot) s = .next t → RegsKept [7] s.hw t.hw ∧
    t.hw = { s.hw with rf := t.hw.rf, wgl := s.hw.wgl.elapse dt, til := t.hw.til, smk := t.hw.smk }) ∧
  (∀ (dt : Nat) (s t : State), exec (.watchdogPeriodStart dt) s = .next t → RegsKept [7] s.hw t.hw ∧
    t.hw = { s.hw with rf := t.hw.rf, freeCtr := t.hw.freeCtr, wgl := s.hw.wgl.elapse dt, til := t.hw.til }) ∧
  (∀ (dt : Nat) (s t : State) (id : Nat), exec (.wdans dt id) s = .next t → RegsKept [7] s.hw t.hw ∧ t.hw = { s.hw with
      rf := t.hw.rf, diag := t.hw.diag, rng := t.hw.rng, wgl := s.hw.wgl.elapse dt, til := t.hw.til }) ∧
  (∀ (dt : Nat) (s t : State) (hart : Fin 19) (tile : Fin 8), exec (.fsLock dt hart tile) s = .next t → RegsKept [7] s.hw t.hw ∧
    t.hw = { s.hw with rf := t.hw.rf, wgl := s.hw.wgl.elapse dt }) ∧
  (∀ (dt : Nat) (s t : State) (hart : Fin 19) (c : Fin 128) (v : Word), exec (.dioEnable dt hart c v) s = .next t →
    RegsKept [8] s.hw t.hw ∧ t.hw = { s.hw with
      rf := t.hw.rf, wgl := s.hw.wgl.elapse dt, til := t.hw.til, dios := t.hw.dios, smk := t.hw.smk }) ∧
  (∀ (dt : Nat) (s t : State) (id : Nat), exec (.diobuf dt id) s = .next t →
    t.hw = { s.hw with rng := t.hw.rng, wgl := s.hw.wgl.elapse dt, bufs := t.hw.bufs }) ∧
  (∀ (dt : Nat) (s t : State) (c : Fin 128), exec (.filterChange dt c) s = .next t → RegsKept [8] s.hw t.hw ∧
    t.hw = { s.hw with rf := t.hw.rf, wgl := s.hw.wgl.elapse dt, dios := t.hw.dios }) ∧
  (∀ (dt : Nat) (s t : State) (c : Fin 128), exec (.dioOverload dt c) s = .next t → RegsKept [8] s.hw t.hw ∧ t.hw = { s.hw with
      rf := t.hw.rf, diag := t.hw.diag, wgl := s.hw.wgl.elapse dt, til := t.hw.til, smk := t.hw.smk }) ∧
  (∀ (dt : Nat) (s t : State) (c : Fin 128) (kind : DioFaultKind), exec (.dioFaultDetect dt c kind) s = .next t →
    RegsKept [8] s.hw t.hw ∧ t.hw = { s.hw with
      rf := t.hw.rf, diag := t.hw.diag, wgl := s.hw.wgl.elapse dt, til := t.hw.til, dios := t.hw.dios, smk := t.hw.smk }) ∧
  (∀ (dt : Nat) (s t : State) (tile : Fin 2), exec (.silent dt tile) s = .next t → RegsKept [8] s.hw t.hw ∧
    t.hw = { s.hw with rf := t.hw.rf, diag := t.hw.diag, wgl := s.hw.wgl.elapse dt, til := t.hw.til }) ∧
  (∀ (dt : Nat) (s t : State) (port : Fin 512) (openWire range : Bool), exec (.sensorInputFault dt port openWire range) s =
      .next t → RegsKept [4] s.hw t.hw ∧ t.hw = { s.hw with
      rf := t.hw.rf, diag := t.hw.diag, wgl := s.hw.wgl.elapse dt, sfe := t.hw.sfe, yld := t.hw.yld }) ∧
  (∀ (dt : Nat) (s t : State) (c : Fin 128), exec (.dioOvertempRecovery dt c) s = .next t → RegsKept [8] s.hw t.hw ∧
    t.hw = { s.hw with rf := t.hw.rf, wgl := s.hw.wgl.elapse dt, til := t.hw.til, smk := t.hw.smk }) ∧
  (∀ (dt : Nat) (s t : State) (c : Fin 128), exec (.dioOpenWireEnds dt c) s = .next t → RegsKept [8] s.hw t.hw ∧
    t.hw = { s.hw with rf := t.hw.rf, wgl := s.hw.wgl.elapse dt, dios := t.hw.dios })

/-- When one of these commands answers a next state, every register outside the pages of the register map that the statement
names reads as before, and every other piece of state stays as it was, all of memory among it, but for the pieces the
statement names and the passing of time: FIX, INIT, OUTBUF, IMU_TIMEOUT, EGO_FAULT_EXIT, GNSS_LOST, GNSS_HOLDOFF_END,
SOURCE_STALE, DEGRADATION_RECOVER, BIAS_FAULT, BIAS_RETRY, OBSBUF, ACQUISITION_PEAK, TRACK_REACHED, PULL_IN_TIMEOUT,
SEARCH_TIMEOUT, LOSS_OF_LOCK, INTERNAL_PPS_INVALID, PPS_OUT_PULSE, CAN_RESTART, BUS_OFF_RECOVERY_DONE, CAN_ABORT, CAN_RXBUF,
LINPUB, CAN_TRANSMIT_START, CAN_ARB_LOST, CAN_TX_ERROR, ADDRESS_CLAIM, HEARTBEAT_SEND, LIN_WAKE, ETH_LINK_CHANGE,
ETH_LINK_RETRY, TXPKT, ETH_RXBUF, GATE_LIST_TAKES_EFFECT, GPTP_SYNC, PDELAY_EXCHANGE, SWARM_ENABLE, SWARM_PERIOD,
ANNOUNCE_RECEIVED, JOIN_RECEIVED, JOIN_TIMEOUT, LEADER_LOST, ANTENNA_BIAS_RECOVERY, CAN_RX_ERROR, CAN_BUS_INTEGRATED. (R564,
R602, R617, R663) -/
def Obligations.FusionAndNetworkFrames : Prop :=
  (∀ (dt : Nat) (s t : State) (id : Nat), exec (.fix dt id) s = .next t → RegsKept [10] s.hw t.hw ∧ t.hw = { s.hw with
      rf := t.hw.rf, diag := t.hw.diag, rng := t.hw.rng, wgl := s.hw.wgl.elapse dt, fus := t.hw.fus }) ∧
  (∀ (dt : Nat) (s t : State) (id : Nat), exec (.init dt id) s = .next t →
    t.hw = { s.hw with wgl := s.hw.wgl.elapse dt, fus := t.hw.fus }) ∧
  (∀ (dt : Nat) (s t : State) (id : Nat), exec (.outbuf dt id) s = .next t →
    t.hw = { s.hw with rng := t.hw.rng, wgl := s.hw.wgl.elapse dt, bufs := t.hw.bufs }) ∧
  (∀ (dt : Nat) (s t : State), exec (.imuTimeout dt) s = .next t → RegsKept [10] s.hw t.hw ∧
    t.hw = { s.hw with rf := t.hw.rf, diag := t.hw.diag, wgl := s.hw.wgl.elapse dt, fus := t.hw.fus }) ∧
  (∀ (dt : Nat) (s t : State), exec (.egoFaultExit dt) s = .next t → RegsKept [10] s.hw t.hw ∧
    t.hw = { s.hw with rf := t.hw.rf, diag := t.hw.diag, wgl := s.hw.wgl.elapse dt, fus := t.hw.fus }) ∧
  (∀ (dt : Nat) (s t : State), exec (.gnssLost dt) s = .next t → RegsKept [10] s.hw t.hw ∧
    t.hw = { s.hw with rf := t.hw.rf, diag := t.hw.diag, wgl := s.hw.wgl.elapse dt, fus := t.hw.fus }) ∧
  (∀ (dt : Nat) (s t : State), exec (.gnssHoldoffEnd dt) s = .next t →
    t.hw = { s.hw with wgl := s.hw.wgl.elapse dt, fus := t.hw.fus }) ∧
  (∀ (dt : Nat) (s t : State) (src : Fin 16), exec (.sourceStale dt src) s = .next t → RegsKept [10] s.hw t.hw ∧
    t.hw = { s.hw with rf := t.hw.rf, diag := t.hw.diag, wgl := s.hw.wgl.elapse dt, fus := t.hw.fus }) ∧
  (∀ (dt : Nat) (s t : State), exec (.degradationRecover dt) s = .next t → RegsKept [10] s.hw t.hw ∧
    t.hw = { s.hw with rf := t.hw.rf, diag := t.hw.diag, wgl := s.hw.wgl.elapse dt, fus := t.hw.fus }) ∧
  (∀ (dt : Nat) (s t : State) (a : Fin 2) (short : Bool), exec (.biasFault dt a short) s = .next t → RegsKept [11] s.hw t.hw ∧
    t.hw = { s.hw with rf := t.hw.rf, diag := t.hw.diag, wgl := s.hw.wgl.elapse dt, gns := t.hw.gns }) ∧
  (∀ (dt : Nat) (s t : State) (a : Fin 2) (still : Bool), exec (.biasRetry dt a still) s = .next t → RegsKept [11] s.hw t.hw ∧
    t.hw = { s.hw with rf := t.hw.rf, wgl := s.hw.wgl.elapse dt, gns := t.hw.gns }) ∧
  (∀ (dt : Nat) (s t : State) (id : Nat), exec (.obsbuf dt id) s = .next t →
    t.hw = { s.hw with rng := t.hw.rng, wgl := s.hw.wgl.elapse dt, bufs := t.hw.bufs }) ∧
  (∀ (dt : Nat) (s t : State) (a : Fin 2) (i : Fin 64) (cn0 : BitVec 16), exec (.acquisitionPeak dt a i cn0) s = .next t →
    RegsKept [11] s.hw t.hw ∧ t.hw = { s.hw with rf := t.hw.rf, wgl := s.hw.wgl.elapse dt, gns := t.hw.gns }) ∧
  (∀ (dt : Nat) (s t : State) (a : Fin 2) (i : Fin 64) (b5 : Bool) (doppler code : Word), exec (.trackReached dt a i b5 doppler
      code) s = .next t → RegsKept [11] s.hw t.hw ∧
    t.hw = { s.hw with rf := t.hw.rf, rng := t.hw.rng, wgl := s.hw.wgl.elapse dt, gns := t.hw.gns }) ∧
  (∀ (dt : Nat) (s t : State) (a : Fin 2) (i : Fin 64), exec (.pullInTimeout dt a i) s = .next t → RegsKept [11] s.hw t.hw ∧
    t.hw = { s.hw with rf := t.hw.rf, wgl := s.hw.wgl.elapse dt, gns := t.hw.gns }) ∧
  (∀ (dt : Nat) (s t : State) (a : Fin 2) (i : Fin 64), exec (.searchTimeout dt a i) s = .next t → RegsKept [11] s.hw t.hw ∧
    t.hw = { s.hw with rf := t.hw.rf, rng := t.hw.rng, wgl := s.hw.wgl.elapse dt, gns := t.hw.gns }) ∧
  (∀ (dt : Nat) (s t : State) (a : Fin 2) (i : Fin 64) (b5 : Bool), exec (.lossOfLock dt a i b5) s = .next t →
    RegsKept [11] s.hw t.hw ∧ t.hw = { s.hw with rf := t.hw.rf, diag := t.hw.diag, wgl := s.hw.wgl.elapse dt, gns := t.hw.gns }) ∧
  (∀ (dt : Nat) (s t : State), exec (.internalPpsInvalid dt) s = .next t → RegsKept [11] s.hw t.hw ∧
    t.hw = { s.hw with rf := t.hw.rf, diag := t.hw.diag, wgl := s.hw.wgl.elapse dt }) ∧
  (∀ (dt : Nat) (s t : State), exec (.ppsOutPulse dt) s = .next t →
    t.hw = { s.hw with wgl := s.hw.wgl.elapse dt, gns := t.hw.gns }) ∧
  (∀ (dt : Nat) (s t : State) (hart : Fin 19) (n : Fin 16), exec (.canRestart dt hart n) s = .next t →
    t.hw = { s.hw with wgl := s.hw.wgl.elapse dt, can := t.hw.can }) ∧
  (∀ (dt : Nat) (s t : State) (n : Fin 16), exec (.busOffRecoveryDone dt n) s = .next t → RegsKept [12] s.hw t.hw ∧
    t.hw = { s.hw with rf := t.hw.rf, diag := t.hw.diag, wgl := s.hw.wgl.elapse dt, can := t.hw.can }) ∧
  (∀ (dt : Nat) (s t : State) (id : Nat), exec (.canAbort dt id) s = .next t →
    t.hw = { s.hw with rng := t.hw.rng, wgl := s.hw.wgl.elapse dt, can := t.hw.can }) ∧
  (∀ (dt : Nat) (s t : State) (id : Nat), exec (.canRxbuf dt id) s = .next t →
    t.hw = { s.hw with rng := t.hw.rng, wgl := s.hw.wgl.elapse dt, bufs := t.hw.bufs }) ∧
  (∀ (dt : Nat) (s t : State) (id : Nat), exec (.linpub dt id) s = .next t →
    t.hw = { s.hw with rng := t.hw.rng, wgl := s.hw.wgl.elapse dt, can := t.hw.can }) ∧
  (∀ (dt : Nat) (s t : State) (n : Fin 16), exec (.canTransmitStart dt n) s = .next t → RegsKept [12] s.hw t.hw ∧
    t.hw = { s.hw with rf := t.hw.rf, wgl := s.hw.wgl.elapse dt, can := t.hw.can }) ∧
  (∀ (dt : Nat) (s t : State) (n : Fin 16), exec (.canArbLost dt n) s = .next t → RegsKept [12] s.hw t.hw ∧
    t.hw = { s.hw with rf := t.hw.rf, rng := t.hw.rng, wgl := s.hw.wgl.elapse dt, can := t.hw.can }) ∧
  (∀ (dt : Nat) (s t : State) (n : Fin 16) (counted : Bool), exec (.canTxError dt n counted) s = .next t →
    RegsKept [12] s.hw t.hw ∧ t.hw = { s.hw with
      rf := t.hw.rf, diag := t.hw.diag, rng := t.hw.rng, wgl := s.hw.wgl.elapse dt, can := t.hw.can }) ∧
  (∀ (dt : Nat) (s t : State) (n : Fin 16) (ev : ClaimEv), exec (.addressClaim dt n ev) s = .next t → RegsKept [12] s.hw t.hw ∧
    t.hw = { s.hw with rf := t.hw.rf, diag := t.hw.diag, wgl := s.hw.wgl.elapse dt, can := t.hw.can }) ∧
  (∀ (dt : Nat) (s t : State) (n : Fin 16), exec (.heartbeatSend dt n) s = .next t →
    t.hw = { s.hw with wgl := s.hw.wgl.elapse dt, can := t.hw.can }) ∧
  (∀ (dt : Nat) (s t : State) (c : Fin 2), exec (.linWake dt c) s = .next t → RegsKept [12] s.hw t.hw ∧
    t.hw = { s.hw with rf := t.hw.rf, wgl := s.hw.wgl.elapse dt }) ∧
  (∀ (dt : Nat) (s t : State) (n : Fin 12) (up : Bool), exec (.ethLinkChange dt n up) s = .next t → RegsKept [13] s.hw t.hw ∧
    t.hw = { s.hw with rf := t.hw.rf, diag := t.hw.diag, wgl := s.hw.wgl.elapse dt, eth := t.hw.eth }) ∧
  (∀ (dt : Nat) (s t : State) (n : Fin 12), exec (.ethLinkRetry dt n) s = .next t → RegsKept [13] s.hw t.hw ∧
    t.hw = { s.hw with rf := t.hw.rf, wgl := s.hw.wgl.elapse dt, eth := t.hw.eth }) ∧
  (∀ (dt : Nat) (s t : State) (id : Nat), exec (.txpkt dt id) s = .next t →
    t.hw = { s.hw with rng := t.hw.rng, wgl := s.hw.wgl.elapse dt, eth := t.hw.eth }) ∧
  (∀ (dt : Nat) (s t : State) (id : Nat), exec (.ethRxbuf dt id) s = .next t →
    t.hw = { s.hw with rng := t.hw.rng, wgl := s.hw.wgl.elapse dt, bufs := t.hw.bufs }) ∧
  (∀ (dt : Nat) (s t : State) (n : Fin 12), exec (.gateListTakesEffect dt n) s = .next t →
    t.hw = { s.hw with rng := t.hw.rng, wgl := s.hw.wgl.elapse dt, eth := t.hw.eth }) ∧
  (∀ (dt : Nat) (s t : State) (n : Fin 12), exec (.gptpSync dt n) s = .next t →
    t.hw = { s.hw with wgl := s.hw.wgl.elapse dt, eth := t.hw.eth }) ∧
  (∀ (dt : Nat) (s t : State) (n : Fin 12) (measured : Option Nat), exec (.pdelayExchange dt n measured) s = .next t →
    t.hw = { s.hw with wgl := s.hw.wgl.elapse dt, eth := t.hw.eth }) ∧
  (∀ (dt : Nat) (s t : State) (hart : Fin 19), exec (.swarmEnable dt hart) s = .next t → RegsKept [13] s.hw t.hw ∧
    t.hw = { s.hw with rf := t.hw.rf, wgl := s.hw.wgl.elapse dt, eth := t.hw.eth }) ∧
  (∀ (dt : Nat) (s t : State), exec (.swarmPeriod dt) s = .next t → RegsKept [13] s.hw t.hw ∧
    t.hw = { s.hw with rf := t.hw.rf, wgl := s.hw.wgl.elapse dt, eth := t.hw.eth }) ∧
  (∀ (dt : Nat) (s t : State) (sender : BitVec 160) (field : Word) (tSend : DWord) (ents : List (BitVec 160 × DWord)) (age back
      : Nat), exec (.announceReceived dt sender field tSend ents age back) s = .next t → RegsKept [13] s.hw t.hw ∧
    t.hw = { s.hw with
      rf := t.hw.rf, diag := t.hw.diag, freeCtr := t.hw.freeCtr, wgl := s.hw.wgl.elapse dt, eth := t.hw.eth }) ∧
  (∀ (dt : Nat) (s t : State) (sender : BitVec 160) (field : Word) (leader : BitVec 160) (age : Nat), exec (.joinReceived dt
      sender field leader age) s = .next t → RegsKept [13] s.hw t.hw ∧
    t.hw = { s.hw with rf := t.hw.rf, wgl := s.hw.wgl.elapse dt, eth := t.hw.eth }) ∧
  (∀ (dt : Nat) (s t : State), exec (.joinTimeout dt) s = .next t → RegsKept [13] s.hw t.hw ∧
    t.hw = { s.hw with rf := t.hw.rf, wgl := s.hw.wgl.elapse dt, eth := t.hw.eth }) ∧
  (∀ (dt : Nat) (s t : State), exec (.leaderLost dt) s = .next t → RegsKept [13] s.hw t.hw ∧
    t.hw = { s.hw with rf := t.hw.rf, diag := t.hw.diag, wgl := s.hw.wgl.elapse dt, eth := t.hw.eth }) ∧
  (∀ (dt : Nat) (s t : State) (a : Fin 2), exec (.antennaBiasRecovery dt a) s = .next t → RegsKept [11] s.hw t.hw ∧
    t.hw = { s.hw with rf := t.hw.rf, wgl := s.hw.wgl.elapse dt }) ∧
  (∀ (dt : Nat) (s t : State) (n : Fin 16) (by8 : Bool), exec (.canRxError dt n by8) s = .next t → RegsKept [12] s.hw t.hw ∧
    t.hw = { s.hw with
      rf := t.hw.rf, diag := t.hw.diag, rng := t.hw.rng, wgl := s.hw.wgl.elapse dt, can := t.hw.can }) ∧
  (∀ (dt : Nat) (s t : State) (n : Fin 16), exec (.canBusIntegrated dt n) s = .next t → RegsKept [12] s.hw t.hw ∧
    t.hw = { s.hw with rf := t.hw.rf, wgl := s.hw.wgl.elapse dt })

/-- When one of these commands answers a next state, every register outside the pages of the register map that the statement
names reads as before, and every other piece of state stays as it was, all of memory among it, but for the pieces the
statement names and the passing of time: LINE_WRITEBACK, COMB_SINGLE_BIT_CORRECTED, COMB_UNCORRECTABLE, COMB_TIMEOUT,
LATE_RESPONSE_DISCARD, VISION_POWER_CAP, SCRUB_BEHIND, MEM_ERR_LATCH_CLEAR, READRAW, REGION_CREATE, REGION_ENABLE_CHANGE,
DELETE, TRIM, DIE_LATENCY_WINDOW, DIE_RETIRE, RECORDER_SCAN, DIAG_EVENT_RECORD, DIAG_HELD_RECORD, UNLOCK_EXPIRY, NEW_NONCE,
LOCK, LOW_SUPPLY_HALT, VISION_RESUME, KEEP_ALIVE_MIRROR, KA_LOSS, RTC_WRITE, SMOKER_BEHIND, PLATE_CAP, PLATE_ABOVE_100,
PLATE_SENSOR_INVALID, SUP5_CURRENT_LIMIT, KEEP_ALIVE_POWER_UP, TAP_INSTRUCTION. (R714, R744, R807, R830) -/
def Obligations.StoreAndPowerFrames : Prop :=
  (∀ (dt : Nat) (s t : State) (line : BitVec 36) (c : Fin 4), exec (.lineWriteback dt line c) s = .next t →
    t.hw = { s.hw with dir := t.hw.dir, wgl := s.hw.wgl.elapse dt }) ∧
  (∀ (dt : Nat) (s t : State) (stop : Fin 64) (off : BitVec 40) (b : Fin 72), exec (.combSingleBitCorrected dt stop off b) s =
      .next t → RegsKept [14] s.hw t.hw ∧ t.hw = { s.hw with rf := t.hw.rf, diag := t.hw.diag, wgl := s.hw.wgl.elapse dt }) ∧
  (∀ (dt : Nat) (s t : State) (r : Requester), exec (.combUncorrectable dt r) s = .next t → RegsKept [14] s.hw t.hw ∧
    t.hw = { s.hw with
      rf := t.hw.rf, rdata := t.hw.rdata, rfault := t.hw.rfault, diag := t.hw.diag, rng := t.hw.rng,
      wgl := s.hw.wgl.elapse dt }) ∧
  (∀ (dt : Nat) (s t : State) (r : Requester), exec (.combTimeout dt r) s = .next t → RegsKept [14] s.hw t.hw ∧
    t.hw = { s.hw with
      rf := t.hw.rf, rdata := t.hw.rdata, rfault := t.hw.rfault, diag := t.hw.diag, rng := t.hw.rng,
      wgl := s.hw.wgl.elapse dt }) ∧
  (∀ (dt : Nat) (s t : State), exec (.lateResponseDiscard dt) s = .next t → t.hw = { s.hw with wgl := s.hw.wgl.elapse dt }) ∧
  (∀ (dt : Nat) (s t : State) (v : BitVec 16), exec (.visionPowerCap dt v) s = .next t → RegsKept [18, 19] s.hw t.hw ∧
    t.hw = { s.hw with rf := t.hw.rf, freeCtr := t.hw.freeCtr, wgl := s.hw.wgl.elapse dt, pwr := t.hw.pwr }) ∧
  (∀ (dt : Nat) (s t : State) (b : Fin 14) (i : Nat), exec (.scrubBehind dt b i) s = .next t → RegsKept [14] s.hw t.hw ∧
    t.hw = { s.hw with rf := t.hw.rf, diag := t.hw.diag, wgl := s.hw.wgl.elapse dt }) ∧
  (∀ (dt : Nat) (s t : State) (hart : Fin 19), exec (.memErrLatchClear dt hart) s = .next t → RegsKept [14] s.hw t.hw ∧
    t.hw = { s.hw with rf := t.hw.rf, wgl := s.hw.wgl.elapse dt }) ∧
  (∀ (dt : Nat) (s t : State) (hart : Fin 19), exec (.readraw dt hart) s = .next t → RegsKept [14] s.hw t.hw ∧
    t.hw = { s.hw with rf := t.hw.rf, dir := t.hw.dir, wgl := s.hw.wgl.elapse dt }) ∧
  (∀ (dt : Nat) (s t : State) (hart : Fin 19) (r : Fin 16) (v : Word), exec (.regionCreate dt hart r v) s = .next t →
    RegsKept [15] s.hw t.hw ∧ t.hw = { s.hw with
      rf := t.hw.rf, freeCtr := t.hw.freeCtr, wgl := s.hw.wgl.elapse dt, sto := t.hw.sto, grd := t.hw.grd }) ∧
  (∀ (dt : Nat) (s t : State) (hart : Fin 19) (r : Fin 16) (v : Word), exec (.regionEnableChange dt hart r v) s = .next t →
    RegsKept [15] s.hw t.hw ∧ t.hw = { s.hw with
      rf := t.hw.rf, freeCtr := t.hw.freeCtr, wgl := s.hw.wgl.elapse dt, sto := t.hw.sto, grd := t.hw.grd }) ∧
  (∀ (dt : Nat) (s t : State) (hart : Fin 19) (r : Fin 16), exec (.delete dt hart r) s = .next t → RegsKept [15] s.hw t.hw ∧
    t.hw = { s.hw with rf := t.hw.rf, wgl := s.hw.wgl.elapse dt, sto := t.hw.sto, grd := t.hw.grd }) ∧
  (∀ (dt : Nat) (s t : State) (id : Nat), exec (.trim dt id) s = .next t → RegsKept [15] s.hw t.hw ∧
    t.hw = { s.hw with rf := t.hw.rf, rng := t.hw.rng, wgl := s.hw.wgl.elapse dt, sto := t.hw.sto }) ∧
  (∀ (dt : Nat) (s t : State) (slow : List (Fin 128)), exec (.dieLatencyWindow dt slow) s = .next t → RegsKept [15] s.hw t.hw ∧
    t.hw = { s.hw with rf := t.hw.rf, diag := t.hw.diag, wgl := s.hw.wgl.elapse dt, sto := t.hw.sto }) ∧
  (∀ (dt : Nat) (s t : State) (d : Fin 128) (gb : Nat), exec (.dieRetire dt d gb) s = .next t → RegsKept [15] s.hw t.hw ∧
    t.hw = { s.hw with rf := t.hw.rf, diag := t.hw.diag, wgl := s.hw.wgl.elapse dt, sto := t.hw.sto }) ∧
  (∀ (dt : Nat) (s t : State) (torn : Nat), exec (.recorderScan dt torn) s = .next t → RegsKept [16] s.hw t.hw ∧
    t.hw = { s.hw with rf := t.hw.rf, diag := t.hw.diag, wgl := s.hw.wgl.elapse dt, evr := t.hw.evr }) ∧
  (∀ (dt : Nat) (s t : State), exec (.diagEventRecord dt) s = .next t → RegsKept [16] s.hw t.hw ∧
    t.hw = { s.hw with rf := t.hw.rf, diag := t.hw.diag, wgl := s.hw.wgl.elapse dt, evr := t.hw.evr }) ∧
  (∀ (dt : Nat) (s t : State) (ty inst : BitVec 16), exec (.diagHeldRecord dt ty inst) s = .next t → RegsKept [16] s.hw t.hw ∧
    t.hw = { s.hw with rf := t.hw.rf, wgl := s.hw.wgl.elapse dt, evr := t.hw.evr }) ∧
  (∀ (dt : Nat) (s t : State), exec (.unlockExpiry dt) s = .next t → RegsKept [17] s.hw t.hw ∧ t.hw = { s.hw with
      rf := t.hw.rf, diag := t.hw.diag, wgl := s.hw.wgl.elapse dt, grd := t.hw.grd, smk := t.hw.smk }) ∧
  (∀ (dt : Nat) (s t : State) (hart : Fin 19), exec (.newNonce dt hart) s = .next t → RegsKept [17] s.hw t.hw ∧
    t.hw = { s.hw with rf := t.hw.rf, freeCtr := t.hw.freeCtr, wgl := s.hw.wgl.elapse dt, grd := t.hw.grd }) ∧
  (∀ (dt : Nat) (s t : State) (hart : Fin 19), exec (.lock dt hart) s = .next t → RegsKept [17] s.hw t.hw ∧ t.hw = { s.hw with
      rf := t.hw.rf, diag := t.hw.diag, wgl := s.hw.wgl.elapse dt, grd := t.hw.grd, smk := t.hw.smk }) ∧
  (∀ (dt : Nat) (s t : State) (v : BitVec 16), exec (.lowSupplyHalt dt v) s = .next t → RegsKept [18, 19] s.hw t.hw ∧
    t.hw = { s.hw with
      rf := t.hw.rf, diag := t.hw.diag, freeCtr := t.hw.freeCtr, wgl := s.hw.wgl.elapse dt, pwr := t.hw.pwr }) ∧
  (∀ (dt : Nat) (s t : State) (v : BitVec 16), exec (.visionResume dt v) s = .next t → RegsKept [18, 19] s.hw t.hw ∧
    t.hw = { s.hw with rf := t.hw.rf, freeCtr := t.hw.freeCtr, wgl := s.hw.wgl.elapse dt, pwr := t.hw.pwr }) ∧
  (∀ (dt : Nat) (s t : State), exec (.keepAliveMirror dt) s = .next t →
    t.hw = { s.hw with wgl := s.hw.wgl.elapse dt, pwr := t.hw.pwr }) ∧
  (∀ (dt : Nat) (s t : State) (logic : Bool), exec (.kaLoss dt logic) s = .next t →
    t.hw = { s.hw with wgl := s.hw.wgl.elapse dt, pwr := t.hw.pwr }) ∧
  (∀ (dt : Nat) (s t : State) (hart : Fin 19) (v : Word), exec (.rtcWrite dt hart v) s = .next t →
    t.hw = { s.hw with wgl := s.hw.wgl.elapse dt, pwr := t.hw.pwr }) ∧
  (∀ (dt : Nat) (s t : State), exec (.smokerBehind dt) s = .next t → RegsKept [19] s.hw t.hw ∧
    t.hw = { s.hw with rf := t.hw.rf, diag := t.hw.diag, wgl := s.hw.wgl.elapse dt, smk := t.hw.smk }) ∧
  (∀ (dt : Nat) (s t : State) (a b : BitVec 16), exec (.plateCap dt a b) s = .next t → RegsKept [18, 19] s.hw t.hw ∧
    t.hw = { s.hw with
      rf := t.hw.rf, diag := t.hw.diag, freeCtr := t.hw.freeCtr, wgl := s.hw.wgl.elapse dt, pwr := t.hw.pwr }) ∧
  (∀ (dt : Nat) (s t : State) (a b : BitVec 16), exec (.plateAbove100 dt a b) s = .next t → RegsKept [18, 19] s.hw t.hw ∧
    t.hw = { s.hw with
      rf := t.hw.rf, diag := t.hw.diag, freeCtr := t.hw.freeCtr, wgl := s.hw.wgl.elapse dt, pwr := t.hw.pwr }) ∧
  (∀ (dt : Nat) (s t : State) (a b : BitVec 16), exec (.plateSensorInvalid dt a b) s = .next t → RegsKept [18, 19] s.hw t.hw ∧
    t.hw = { s.hw with
      rf := t.hw.rf, diag := t.hw.diag, freeCtr := t.hw.freeCtr, wgl := s.hw.wgl.elapse dt, pwr := t.hw.pwr }) ∧
  (∀ (dt : Nat) (s t : State) (j : Fin 4) (lim : Bool), exec (.sup5CurrentLimit dt j lim) s = .next t →
    RegsKept [4, 18] s.hw t.hw ∧ t.hw = { s.hw with rf := t.hw.rf, diag := t.hw.diag, wgl := s.hw.wgl.elapse dt }) ∧
  (∀ (dt : Nat) (s t : State), exec (.keepAlivePowerUp dt) s = .next t →
    t.hw = { s.hw with wgl := s.hw.wgl.elapse dt, pwr := t.hw.pwr }) ∧
  (∀ (dt : Nat) (s t : State) (ir : TapIr), exec (.tapInstruction dt ir) s = .next t →
    t.hw = { s.hw with wgl := s.hw.wgl.elapse dt, smk := t.hw.smk })

/-- Whatever the state, while the logic domain is off and no command of the keep-alive domain waits, every step leaves it so,
and changes nothing of the module but what the passing of time changes in Waggle. (R821, R834) -/
def Obligations.OffModuleStaysOff : Prop :=
  ∀ (s t : State), s.Dark → step s = .next t → t.Dark ∧ t.hw = { s.hw with wgl := t.hw.wgl }

/-- For every number of steps from any state whose logic domain is off and whose queue holds no command of the keep-alive
domain: the steps take that many commands from the queue, the logic domain stays off, and nothing of the module changes but
what the passing of time changes in Waggle. (R821, R834) -/
def Obligations.OffModuleRunsNothing : Prop :=
  ∀ (n : Nat) (s t : State), s.Dark → Sys2Proof.core.run n s = .next t → t.Dark ∧ t.hw = { s.hw with wgl := t.hw.wgl } ∧
    t.pending = s.pending.drop n

/-- REGISTER_WRITE, REGISTER_READ_CLEAR, LO_REGISTER_READ, HI_REGISTER_WRITE, CORE_MEMORY_ACCESS, UNMAPPED_ACCESS and
DOORBELL_STORE of a hart whose partition is not RUNNING change nothing but for the passing of time. (R197, R190) -/
def Obligations.HeldHartsAccessNothing : Prop :=
  (∀ (dt : Nat) (s t : State) (hart : Fin 19) (page : Fin 20) (off : BitVec 16) (v : Word) (p : Nat), s.hw.hartPart hart = some
      p → s.hw.partState p ≠ 3 → exec (.registerWrite dt hart page off v) s = .next t →
    t.hw = { s.hw with wgl := s.hw.wgl.elapse dt }) ∧
  (∀ (dt : Nat) (s t : State) (hart : Fin 19) (page : Fin 20) (off : BitVec 16) (p : Nat), s.hw.hartPart hart = some p →
    s.hw.partState p ≠ 3 → exec (.registerReadClear dt hart page off) s = .next t →
    t.hw = { s.hw with wgl := s.hw.wgl.elapse dt }) ∧
  (∀ (dt : Nat) (s t : State) (hart : Fin 19) (page : Fin 20) (off : BitVec 16) (p : Nat), s.hw.hartPart hart = some p →
    s.hw.partState p ≠ 3 → exec (.loRegisterRead dt hart page off) s = .next t → t.hw = { s.hw with wgl := s.hw.wgl.elapse dt }) ∧
  (∀ (dt : Nat) (s t : State) (hart : Fin 19) (page : Fin 20) (off : BitVec 16) (v : Word) (p : Nat), s.hw.hartPart hart = some
      p → s.hw.partState p ≠ 3 → exec (.hiRegisterWrite dt hart page off v) s = .next t →
    t.hw = { s.hw with wgl := s.hw.wgl.elapse dt }) ∧
  (∀ (dt : Nat) (s t : State) (hart : Fin 19) (addr : DWord) (lg : Fin 4) (st : Option DWord) (p : Nat), s.hw.hartPart hart =
      some p → s.hw.partState p ≠ 3 → exec (.coreMemoryAccess dt hart addr lg st) s = .next t →
    t.hw = { s.hw with wgl := s.hw.wgl.elapse dt }) ∧
  (∀ (dt : Nat) (s t : State) (hart : Fin 19) (addr : DWord) (st : Option Word) (p : Nat), s.hw.hartPart hart = some p →
    s.hw.partState p ≠ 3 → exec (.unmappedAccess dt hart addr st) s = .next t → t.hw = { s.hw with wgl := s.hw.wgl.elapse dt }) ∧
  (∀ (dt : Nat) (s t : State) (hart : Fin 19) (addr : DWord) (v : Word) (p : Nat), s.hw.hartPart hart = some p →
    s.hw.partState p ≠ 3 → exec (.doorbellStore dt hart addr v) s = .next t → t.hw = { s.hw with wgl := s.hw.wgl.elapse dt })

/-- LAYOUT_LOAD, START, STOP, RESTART, RECONFIGURE, REGION_CREATE, REGION_ENABLE_CHANGE, DELETE, MEM_ERR_LATCH_CLEAR, WRITE,
READRAW, NEW_NONCE, LOCK, SOFTWARE_RESET, GO, RTC_WRITE and ENTER of a hart that does not run for partition 0 change nothing
but for the passing of time. (R179, R733, R713, R806, R841, R856) -/
def Obligations.OnlyTheSupervisorCommands : Prop :=
  (∀ (dt : Nat) (s t : State) (hart : Fin 19), s.hw.byP0 hart = false → exec (.layoutLoad dt hart) s = .next t →
    t.hw = { s.hw with wgl := s.hw.wgl.elapse dt }) ∧
  (∀ (dt : Nat) (s t : State) (hart : Fin 19) (p : Fin 8), s.hw.byP0 hart = false → exec (.start dt hart p) s = .next t →
    t.hw = { s.hw with wgl := s.hw.wgl.elapse dt }) ∧
  (∀ (dt : Nat) (s t : State) (hart : Fin 19) (p : Fin 8), s.hw.byP0 hart = false → exec (.stop dt hart p) s = .next t →
    t.hw = { s.hw with wgl := s.hw.wgl.elapse dt }) ∧
  (∀ (dt : Nat) (s t : State) (hart : Fin 19) (p : Fin 8), s.hw.byP0 hart = false → exec (.restart dt hart p) s = .next t →
    t.hw = { s.hw with wgl := s.hw.wgl.elapse dt }) ∧
  (∀ (dt : Nat) (s t : State) (hart : Fin 19) (p : Fin 8), s.hw.byP0 hart = false → exec (.reconfigure dt hart p) s = .next t →
    t.hw = { s.hw with wgl := s.hw.wgl.elapse dt }) ∧
  (∀ (dt : Nat) (s t : State) (hart : Fin 19) (r : Fin 16) (v : Word), s.hw.byP0 hart = false →
    exec (.regionCreate dt hart r v) s = .next t → t.hw = { s.hw with wgl := s.hw.wgl.elapse dt }) ∧
  (∀ (dt : Nat) (s t : State) (hart : Fin 19) (r : Fin 16) (v : Word), s.hw.byP0 hart = false →
    exec (.regionEnableChange dt hart r v) s = .next t → t.hw = { s.hw with wgl := s.hw.wgl.elapse dt }) ∧
  (∀ (dt : Nat) (s t : State) (hart : Fin 19) (r : Fin 16), s.hw.byP0 hart = false → exec (.delete dt hart r) s = .next t →
    t.hw = { s.hw with wgl := s.hw.wgl.elapse dt }) ∧
  (∀ (dt : Nat) (s t : State) (hart : Fin 19), s.hw.byP0 hart = false → exec (.memErrLatchClear dt hart) s = .next t →
    t.hw = { s.hw with wgl := s.hw.wgl.elapse dt }) ∧
  (∀ (dt : Nat) (s t : State) (hart : Fin 19), s.hw.byP0 hart = false → exec (.write dt hart) s = .next t →
    t.hw = { s.hw with wgl := s.hw.wgl.elapse dt }) ∧
  (∀ (dt : Nat) (s t : State) (hart : Fin 19), s.hw.byP0 hart = false → exec (.readraw dt hart) s = .next t →
    t.hw = { s.hw with wgl := s.hw.wgl.elapse dt }) ∧
  (∀ (dt : Nat) (s t : State) (hart : Fin 19), s.hw.byP0 hart = false → exec (.newNonce dt hart) s = .next t →
    t.hw = { s.hw with wgl := s.hw.wgl.elapse dt }) ∧
  (∀ (dt : Nat) (s t : State) (hart : Fin 19), s.hw.byP0 hart = false → exec (.lock dt hart) s = .next t →
    t.hw = { s.hw with wgl := s.hw.wgl.elapse dt }) ∧
  (∀ (dt : Nat) (s t : State) (hart : Fin 19) (v : Word), s.hw.byP0 hart = false → exec (.softwareReset dt hart v) s = .next t →
    t.hw = { s.hw with wgl := s.hw.wgl.elapse dt }) ∧
  (∀ (dt : Nat) (s t : State) (hart : Fin 19) (w : WakeIn), s.hw.byP0 hart = false → exec (.go dt hart w) s = .next t →
    t.hw = { s.hw with wgl := s.hw.wgl.elapse dt }) ∧
  (∀ (dt : Nat) (s t : State) (hart : Fin 19) (v : Word), s.hw.byP0 hart = false → exec (.rtcWrite dt hart v) s = .next t →
    t.hw = { s.hw with wgl := s.hw.wgl.elapse dt }) ∧
  (∀ (dt : Nat) (s t : State) (hart : Fin 19), s.hw.byP0 hart = false → exec (.enter dt hart) s = .next t →
    t.hw = { s.hw with wgl := s.hw.wgl.elapse dt })

/-- CAMERA_ENABLE, CAMERA_DISABLE, CAMERA_GEOM_WRITE, SOL_ENABLE, SOL_DISABLE, LSW_ENABLE, DIO_ENABLE, FAN_ENABLE,
GNS_ANT_ENABLE, CAN_ENABLE, CAN_DISABLE, CAN_RESTART, ETH_ENABLE and ETH_DISABLE of a hart that does not run for the partition
that owns the port change nothing but for the passing of time. (R277, R443, R481, R499, R521, R612, R658, R691) -/
def Obligations.OnlyTheOwnerCommandsAPort : Prop :=
  (∀ (dt : Nat) (s t : State) (hart : Fin 19) (c : Fin 16), s.hw.byOwner hart (296 + c) = false →
    exec (.cameraEnable dt hart c) s = .next t → t.hw = { s.hw with wgl := s.hw.wgl.elapse dt }) ∧
  (∀ (dt : Nat) (s t : State) (hart : Fin 19) (c : Fin 16), s.hw.byOwner hart (296 + c) = false →
    exec (.cameraDisable dt hart c) s = .next t → t.hw = { s.hw with wgl := s.hw.wgl.elapse dt }) ∧
  (∀ (dt : Nat) (s t : State) (hart : Fin 19) (c : Fin 16) (v : Word), s.hw.byOwner hart (296 + c) = false →
    exec (.cameraGeomWrite dt hart c v) s = .next t → t.hw = { s.hw with wgl := s.hw.wgl.elapse dt }) ∧
  (∀ (dt : Nat) (s t : State) (hart : Fin 19) (c : Fin 48) (v : Word), s.hw.byOwner hart (c) = false →
    exec (.solEnable dt hart c v) s = .next t → t.hw = { s.hw with wgl := s.hw.wgl.elapse dt }) ∧
  (∀ (dt : Nat) (s t : State) (hart : Fin 19) (c : Fin 48) (v : Word), s.hw.byOwner hart (c) = false →
    exec (.solDisable dt hart c v) s = .next t → t.hw = { s.hw with wgl := s.hw.wgl.elapse dt }) ∧
  (∀ (dt : Nat) (s t : State) (hart : Fin 19) (c : Fin 96) (v : Word), s.hw.byOwner hart (48 + c) = false →
    exec (.lswEnable dt hart c v) s = .next t → t.hw = { s.hw with wgl := s.hw.wgl.elapse dt }) ∧
  (∀ (dt : Nat) (s t : State) (hart : Fin 19) (c : Fin 128) (v : Word), s.hw.byOwner hart (144 + c) = false →
    exec (.dioEnable dt hart c v) s = .next t → t.hw = { s.hw with wgl := s.hw.wgl.elapse dt }) ∧
  (∀ (dt : Nat) (s t : State) (hart : Fin 19) (n : Fin 8) (v : Word), s.hw.byOwner hart (272 + n) = false →
    exec (.fanEnable dt hart n v) s = .next t → t.hw = { s.hw with wgl := s.hw.wgl.elapse dt }) ∧
  (∀ (dt : Nat) (s t : State) (hart : Fin 19) (a : Fin 2) (v : Word), s.hw.byOwner hart (324 + a) = false →
    exec (.gnsAntEnable dt hart a v) s = .next t → t.hw = { s.hw with wgl := s.hw.wgl.elapse dt }) ∧
  (∀ (dt : Nat) (s t : State) (hart : Fin 19) (n : Fin 16) (v : Word), s.hw.byOwner hart (280 + n) = false →
    exec (.canEnable dt hart n v) s = .next t → t.hw = { s.hw with wgl := s.hw.wgl.elapse dt }) ∧
  (∀ (dt : Nat) (s t : State) (hart : Fin 19) (n : Fin 16) (v : Word), s.hw.byOwner hart (280 + n) = false →
    exec (.canDisable dt hart n v) s = .next t → t.hw = { s.hw with wgl := s.hw.wgl.elapse dt }) ∧
  (∀ (dt : Nat) (s t : State) (hart : Fin 19) (n : Fin 16), s.hw.byOwner hart (280 + n) = false →
    exec (.canRestart dt hart n) s = .next t → t.hw = { s.hw with wgl := s.hw.wgl.elapse dt }) ∧
  (∀ (dt : Nat) (s t : State) (hart : Fin 19) (n : Fin 12) (v : Word), s.hw.byOwner hart (312 + n) = false →
    exec (.ethEnable dt hart n v) s = .next t → t.hw = { s.hw with wgl := s.hw.wgl.elapse dt }) ∧
  (∀ (dt : Nat) (s t : State) (hart : Fin 19) (n : Fin 12) (v : Word), s.hw.byOwner hart (312 + n) = false →
    exec (.ethDisable dt hart n v) s = .next t → t.hw = { s.hw with wgl := s.hw.wgl.elapse dt })

/-- CORE_MEMORY_ACCESS (a store), DOORBELL_STORE, COPY and BLOCK_FILL without scatter lists, STO_READ without a scatter list,
EVR_READ, GETID, HASH, RANDOM and SIGN: every byte of memory outside the bytes stored to reads as before, memory keeps its
canonical form, and every register keeps its value. (R3, R146, R745, R766, R775, R808, R809) -/
def Obligations.StoresChangeOnlyTheirBytes : Prop :=
  (∀ (dt : Nat) (s t : State) (hart : Fin 19) (addr v : DWord) (lg : Fin 4) (p : Nat), s.hw.isOn = true → s.hw.ecc = [] →
    Memory.wf s.hw.mem = true → hart.val < 16 → addr.toNat + 2 ^ lg.val ≤ 0xE04000000 → s.hw.hartPart hart = some p →
    s.hw.owns p addr.toNat (2 ^ lg.val) = true → exec (.coreMemoryAccess dt hart addr lg (some v)) s = .next t →
    BytesKept (addr.toNat) (2 ^ lg.val) s.hw t.hw ∧ Memory.wf t.hw.mem = true ∧ t.hw.rf = s.hw.rf) ∧
  (∀ (dt : Nat) (s t : State) (hart : Fin 19) (addr : DWord) (v : Word) (p : Nat), s.hw.isOn = true → s.hw.ecc = [] →
    Memory.wf s.hw.mem = true → hart.val < 16 → addr.toNat + 4 ≤ 0xE04000000 → s.hw.hartPart hart = some p →
    s.hw.owns p addr.toNat 4 = true → exec (.doorbellStore dt hart addr v) s = .next t → BytesKept (addr.toNat) (4) s.hw t.hw ∧
    Memory.wf t.hw.mem = true ∧ t.hw.rf = s.hw.rf) ∧
  (∀ (dt : Nat) (s t : State) (id : Nat) (f : Flight), s.hw.isOn = true → s.hw.ecc = [] → Memory.wf s.hw.mem = true →
    OpRuns s.hw id 0 1 f → bit (fld f.desc 0 1) 4 = false → bit (fld f.desc 0 1) 5 = false → exec (.copy dt id) s = .next t →
    BytesKept (fld f.desc 16 8) (fld f.desc 4 4) s.hw t.hw ∧ Memory.wf t.hw.mem = true ∧ t.hw.rf = s.hw.rf) ∧
  (∀ (dt : Nat) (s t : State) (id : Nat) (f : Flight), s.hw.isOn = true → s.hw.ecc = [] → Memory.wf s.hw.mem = true →
    OpRuns s.hw id 0 2 f → bit (fld f.desc 0 1) 5 = false → exec (.blockFill dt id) s = .next t →
    BytesKept (fld f.desc 16 8) (fld f.desc 4 4) s.hw t.hw ∧ Memory.wf t.hw.mem = true ∧ t.hw.rf = s.hw.rf) ∧
  (∀ (dt : Nat) (s t : State) (id : Nat) (bad : List Nat) (f : Flight), s.hw.isOn = true → s.hw.ecc = [] →
    Memory.wf s.hw.mem = true → OpRuns s.hw id 2 2 f → bit (fld f.desc 0 1) 4 = false → exec (.stoRead dt id bad) s = .next t →
    BytesKept (fld f.desc 16 8) (fld f.desc 4 4) s.hw t.hw ∧ Memory.wf t.hw.mem = true ∧ t.hw.rf = s.hw.rf) ∧
  (∀ (dt : Nat) (s t : State) (id : Nat) (f : Flight), s.hw.isOn = true → s.hw.ecc = [] → Memory.wf s.hw.mem = true →
    OpRuns s.hw id 8 2 f → exec (.evrRead dt id) s = .next t → BytesKept (fld f.desc 16 8) (fld f.desc 24 4) s.hw t.hw ∧
    Memory.wf t.hw.mem = true ∧ t.hw.rf = s.hw.rf) ∧
  (∀ (dt : Nat) (s t : State) (id : Nat) (f : Flight), s.hw.isOn = true → s.hw.ecc = [] → Memory.wf s.hw.mem = true →
    OpRuns s.hw id 7 8 f → exec (.getid dt id) s = .next t → BytesKept (fld f.desc 8 8) ((idRecord s.hw).length) s.hw t.hw ∧
    Memory.wf t.hw.mem = true ∧ t.hw.rf = s.hw.rf) ∧
  (∀ (dt : Nat) (s t : State) (id : Nat) (f : Flight), s.hw.isOn = true → s.hw.ecc = [] → Memory.wf s.hw.mem = true →
    OpRuns s.hw id 7 9 f → exec (.hash dt id) s = .next t → BytesKept (fld f.desc 16 8) (64) s.hw t.hw ∧
    Memory.wf t.hw.mem = true ∧ t.hw.rf = s.hw.rf) ∧
  (∀ (dt : Nat) (s t : State) (id : Nat) (f : Flight), s.hw.isOn = true → s.hw.ecc = [] → Memory.wf s.hw.mem = true →
    OpRuns s.hw id 7 10 f → exec (.random dt id) s = .next t → BytesKept (fld f.desc 8 8) (fld f.desc 16 4) s.hw t.hw ∧
    Memory.wf t.hw.mem = true ∧ t.hw.rf = s.hw.rf) ∧
  (∀ (dt : Nat) (s t : State) (id : Nat) (f : Flight), s.hw.isOn = true → s.hw.ecc = [] → Memory.wf s.hw.mem = true →
    OpRuns s.hw id 7 11 f → exec (.sign dt id) s = .next t → BytesKept (fld f.desc 40 8) (64) s.hw t.hw ∧
    Memory.wf t.hw.mem = true ∧ t.hw.rf = s.hw.rf)

/-- A write of the _LO half of an RW pair changes no register and leaves the halves that other harts or other pairs have pending
as they were; a write of the _HI half that is permitted and not locked takes the half this hart has pending and leaves every
other pending half. (R901) -/
def Obligations.PendingLowHalves : Prop :=
  (∀ (dt : Nat) (s : State) (hart : Fin 19) (page : Fin 20) (off : BitVec 16) (v : Word) (p : Nat) (r : RegRow), s.hw.isOn =
      true → s.hw.hartPart hart = some p → p < 8 → s.hw.partState p = 3 → off.toNat % 4 = 0 →
    regRow? (page.val * 0x10000 + off.toNat) = some r → r.pair = 1 → r.rw ≠ 0 →
    viewWrites s.hw p (page.val * 0x10000 + off.toNat) r = true → Does (.registerWrite dt hart page off v) s fun h =>
    h.rf = s.hw.rf ∧ mget h.pendLo (hartKey hart (page.val * 0x10000 + off.toNat)) = some v ∧
    (∀ k, k ≠ hartKey hart (page.val * 0x10000 + off.toNat) → mget h.pendLo k = mget s.hw.pendLo k)) ∧
  (∀ (dt : Nat) (s : State) (hart : Fin 19) (page : Fin 20) (off : BitVec 16) (v : Word) (p : Nat) (r : RegRow) (lo : Word) (rl
      : RegRow), s.hw.isOn = true → s.hw.hartPart hart = some p → p < 8 → s.hw.partState p = 3 → off.toNat % 4 = 0 →
    regRow? (page.val * 0x10000 + off.toNat) = some r → r.pair = 2 → r.rw ≠ 0 →
    viewWrites s.hw p (page.val * 0x10000 + off.toNat) r = true → regLocked s.hw (page.val * 0x10000 + off.toNat) r = false →
    mget s.hw.pendLo (hartKey hart ((page.val * 0x10000 + off.toNat) - 4)) = some lo →
    regRow? ((page.val * 0x10000 + off.toNat) - 4) = some rl → Does (.hiRegisterWrite dt hart page off v) s fun h =>
    h = hartDone (regApply (stdWrite { (s.hw.elapse dt) with pendLo := mdel s.hw.pendLo (hartKey hart ((page.val * 0x10000 +
      off.toNat) - 4)) } ((page.val * 0x10000 + off.toNat) - 4) rl lo.toNat) (page.val * 0x10000 + off.toNat) r v.toNat) hart
      none)

/-- A response that arrives after its request has timed out is discarded: the command changes nothing but for the passing of
time. (R57) -/
def Obligations.LateResponsesAreDiscarded : Prop :=
  ∀ (dt : Nat) (s : State), exec (.lateResponseDiscard dt) s = .next { s with hw := s.hw.elapse dt }

/-- A write of IMG_CAM_GEOM of a camera that is not enabled, by a hart of its owner, leaves none of the camera's four profiles
valid or stored, and the register holds the value written. (R252) -/
def Obligations.CameraGeometryWriteClearsProfiles : Prop :=
  ∀ (dt : Nat) (s : State) (hart : Fin 19) (c : Fin 16) (v : Word), s.hw.isOn = true → s.hw.byOwner hart (296 + c) = true →
    s.hw.camOn c = false → Does (.cameraGeomWrite dt hart c v) s fun h => h.get F.IMG_CAM_STATUS_PROF_OK c = 0 ∧
    (h.cam c).profs = [] ∧ h.reg (F.IMG_CAM_GEOM_WIDTH.at c 0) = v

/-- Setting ETH_SWARM_CTRL.EN to 1, by a hart of the Swarm port's owner and with settings in their ranges, enters LEADER with G
= 0 and sends an ANNOUNCE at once: the frame on the Swarm port is to the group address, has version 1 and kind 1. (R682) -/
def Obligations.SwarmStartsAsLeader : Prop :=
  ∀ (dt : Nat) (s : State) (hart : Fin 19), s.hw.isOn = true → s.hw.byOwner hart (312 + swarmPort s.hw) = true →
    s.hw.flag F.ETH_SWARM_CTRL_EN = false → 100 ≤ s.hw.get F.ETH_SWARM_CFG_PERIOD → s.hw.get F.ETH_SWARM_CFG_PERIOD ≤ 10000 →
    swarmPort s.hw < 12 → Does (.swarmEnable dt hart) s fun h => swarmState h = 1 ∧ swarmG h = 0 ∧
    (h.ethPort (swarmPort s.hw)).sent.map (fun x => (x.1, x.2.take 6, slice x.2 14 2)) = some ((s.hw.elapse dt).tb, swarmDst,
      [1, 1])

/-- A running hart's access to an address that reaches nothing returns zeros for a load, changes nothing for a store, raises an
access fault, is counted in MEM_ERR_CNT of block 15 and logs event 0x1005, limited to one a second. (R693) -/
def Obligations.UnmappedAccessesFault : Prop :=
  ∀ (dt : Nat) (s : State) (hart : Fin 19) (addr : DWord) (st : Option Word) (p : Nat), s.hw.isOn = true →
    s.hw.hartPart hart = some p → s.hw.partState p = 3 → reach s.hw hart p addr.toNat 4 st.isSome = .unmapped →
    Does (.unmappedAccess dt hart addr st) s fun h => mget h.rfault hart = some true ∧ (st = none →
    mget h.rdata hart = some 0) ∧ h.get F.MEM_ERR_CNT_CE 15 = satN F.MEM_ERR_CNT_CE.w (s.hw.get F.MEM_ERR_CNT_CE 15 + 1) ∧
    h.diag = s.hw.diag ++ [⟨0x1005, 0xFFFF, true⟩] ∧ h.mem = s.hw.mem ∧ (∀ a, a ≠ F.MEM_ERR_CNT_CE.at 15 0 →
    h.reg a = s.hw.reg a)

/-- A write of a running hart through its partition's own view that the register's chapter does not permit to that view changes
no register and is no refusal: the access ends without a fault, and nothing but that and the passing of time changes. (R892)
-/
def Obligations.WritesNotPermittedAreIgnored : Prop :=
  ∀ (dt : Nat) (s : State) (hart : Fin 19) (page : Fin 20) (off : BitVec 16) (v : Word) (p : Nat) (r : RegRow), s.hw.isOn = true
      → s.hw.hartPart hart = some p → p < 8 → s.hw.partState p = 3 → off.toNat % 4 = 0 →
    regRow? (page.val * 0x10000 + off.toNat) = some r → viewWrites s.hw p (page.val * 0x10000 + off.toNat) r = false →
    Does (.registerWrite dt hart page off v) s fun h => h = { (s.hw.elapse dt) with rfault := mset s.hw.rfault hart false }

/-- An access of a running application hart to its partition's own view whose width is not 32 bits or whose address is not a
multiple of 4 is refused as R192 gives, and changes no register but the refusal's count and latch, and no memory. (R894) -/
def Obligations.OnlyWordAccessesReachRegisters : Prop :=
  ∀ (dt : Nat) (s : State) (hart : Fin 19) (addr : DWord) (lg : Fin 4) (st : Option DWord) (p : Nat), s.hw.isOn = true →
    hart.val < 16 → s.hw.hartPart hart = some p → s.hw.partState p = 3 → p < 8 → 0xF00000000 + p * 0x2000000 ≤ addr.toNat →
    addr.toNat < 0xF00000000 + p * 0x2000000 + 0x140000 → lg.val ≠ 2 ∨ addr.toNat % 4 ≠ 0 →
    Does (.coreMemoryAccess dt hart addr lg st) s fun h =>
    h = refuse (s.hw.elapse dt) hart p addr.toNat st.isSome (b2n st.isSome) ∧ mget h.rfault hart = some true ∧ (st = none →
    mget h.rdata hart = some 0) ∧ h.mem = s.hw.mem ∧
    h.get F.PRP_FAULT_CNT_COUNT = satN 32 (s.hw.get F.PRP_FAULT_CNT_COUNT + 1) ∧ (∀ a, a ≠ F.PRP_FAULT_CNT_COUNT.at 0 0 →
    a ≠ F.PRP_FAULT_ADDR_LO_ADDR.at 0 0 → a ≠ F.PRP_FAULT_ADDR_HI_ADDR.at 0 0 → a ≠ F.PRP_FAULT_INFO_TAG.at 0 0 →
    h.reg a = s.hw.reg a)

/-- With the link up and the wire free, a head frame that fits no open interval of its class in the gate list in force completes
with ST_ETH_GATE, and is counted in ETH_CNT instance 3 of its port. (R675) -/
def Obligations.FramesThatFitNoGate : Prop :=
  ∀ (dt : Nat) (s : State) (n : Fin 12) (x : Nat × Flight), s.hw.isOn = true → s.hw.get F.ETH_PORT_STATUS_LINK n = 2 →
    (s.hw.ethPort n).busyTill ≤ s.hw.now + dt →
    (heads (creditTick (s.hw.elapse dt) n) n).find? (fun x => gateNever (creditTick (s.hw.elapse dt) n) n x.1 (txLen x.2.desc))
      = some x → Does (.ethFrameSend dt n) s fun h => OpEnded h x.2.id ST_ETH_GATE ∧
    h.get F.ETH_CNT_COUNT n 3 = satN 32 (s.hw.get F.ETH_CNT_COUNT n 3 + 1) ∧
    (h.ethPort n).q x.1 = ((s.hw.ethPort n).q x.1).drop 1

/-- A store of an aligned 64-bit word of a running application hart to memory its partition owns stores the new data with
correct check bits and ends the word's error or poison, whatever it was. (R702) -/
def Obligations.WholeWordStoresEndPoison : Prop :=
  ∀ (dt : Nat) (s : State) (hart : Fin 19) (addr v : DWord) (p : Nat), s.hw.isOn = true → hart.val < 16 →
    s.hw.hartPart hart = some p → s.hw.partState p = 3 → addr.toNat % 8 = 0 → addr.toNat + 8 ≤ 0xE04000000 →
    s.hw.owns p addr.toNat 8 = true → Memory.wf s.hw.mem = true → Does (.coreMemoryAccess dt hart addr 3 (some v)) s fun h =>
    h.rdN addr.toNat 8 = v.toNat ∧ h.ecc.all (fun x => x.1 != addr.toNat / 8) = true ∧ mget h.rfault hart = some false

/-- When one of these commands, whose effects reach beyond their own unit, answers a next state, every piece of state stays as
it was but for the pieces the statement names and the passing of time, and where it names pages of the register map every
other register reads as before; memory is named only for commands that write to it or may correct a word they read, and the
latter leave it as it was while no word stands in error: DOMAIN_CFG_WRITE, DOMAIN_EDGE, INDEX_EDGE, FUSION_UPDATE_ARRIVAL,
HELD_UPDATE_APPLY, EVENT_ISSUE, DEFERRED_VALVE_START, SLOT_ARM, SLOT_DISARM, SLOT_CMD_ARM, SLOT_CMD_READ, SLOT_CMD_DISARM,
DESCRIPTOR_FETCH, COMPLETION_WRITE, RING_ENABLE, RING_DISABLE, RING_RESET, COPY, BLOCK_FILL, LAYOUT_LOAD, START, STOP,
RESTART, RECONFIGURE, STOP_DRAIN_DONE, FILL_DONE_RELEASE, PRESENCE_LOSS, PRESENCE_RETURN, PRESENCE_LOSS_TIMEOUT,
PRESENCE_ASSERT, RETRY_TIMER_EXPIRY, CHALLENGE_ANSWER, ROUND_DECISION, CAMERA_DISABLE, PROFILE, CCI, FRAME_END,
PIPELINE_PASS_END. (02_waggle_timebase.md, 03_rings_doorbells.md, 04_partitions_header.md, 05_crop_imaging.md) -/
def Obligations.StreamAndEventFrames : Prop :=
  (∀ (dt : Nat) (s t : State) (hart : Fin 19) (i : Fin 16) (div : Bool) (v : Word), exec (.domainCfgWrite dt hart i div v) s =
      .next t → RegsKept [0, 4, 14] s.hw t.hw ∧ t.hw = { s.hw with
      rf := t.hw.rf, mem := t.hw.mem, ecc := t.hw.ecc, eccAt := t.hw.eccAt, dir := t.hw.dir, irqs := t.hw.irqs,
      diag := t.hw.diag, freeCtr := t.hw.freeCtr, rng := t.hw.rng, wgl := t.hw.wgl, bufs := t.hw.bufs, sfe := t.hw.sfe }) ∧
  (∀ (dt : Nat) (s t : State) (i : Fin 16) (level : Bool), exec (.domainEdge dt i level) s = .next t →
    RegsKept [0, 2, 3, 4, 6, 12, 14] s.hw t.hw ∧ t.hw = { s.hw with
      rf := t.hw.rf, mem := t.hw.mem, ecc := t.hw.ecc, eccAt := t.hw.eccAt, dir := t.hw.dir, rdata := t.hw.rdata,
      rfault := t.hw.rfault, irqs := t.hw.irqs, diag := t.hw.diag, freeCtr := t.hw.freeCtr, rng := t.hw.rng, wgl := t.hw.wgl,
      img := t.hw.img, bufs := t.hw.bufs, sfe := t.hw.sfe, til := t.hw.til, vlv := t.hw.vlv, can := t.hw.can, smk := t.hw.smk }) ∧
  (∀ (dt : Nat) (s t : State) (i : Fin 16), exec (.indexEdge dt i) s = .next t → RegsKept [0, 2, 3, 4, 6, 12, 14] s.hw t.hw ∧
    t.hw = { s.hw with
      rf := t.hw.rf, mem := t.hw.mem, ecc := t.hw.ecc, eccAt := t.hw.eccAt, dir := t.hw.dir, rdata := t.hw.rdata,
      rfault := t.hw.rfault, irqs := t.hw.irqs, diag := t.hw.diag, freeCtr := t.hw.freeCtr, rng := t.hw.rng, wgl := t.hw.wgl,
      img := t.hw.img, bufs := t.hw.bufs, sfe := t.hw.sfe, til := t.hw.til, vlv := t.hw.vlv, can := t.hw.can, smk := t.hw.smk }) ∧
  (∀ (dt : Nat) (s t : State) (i : Fin 16) (level : Bool), exec (.fusionUpdateArrival dt i level) s = .next t →
    RegsKept [0, 2, 3, 4, 6, 12, 14] s.hw t.hw ∧ t.hw = { s.hw with
      rf := t.hw.rf, mem := t.hw.mem, ecc := t.hw.ecc, eccAt := t.hw.eccAt, dir := t.hw.dir, rdata := t.hw.rdata,
      rfault := t.hw.rfault, irqs := t.hw.irqs, diag := t.hw.diag, freeCtr := t.hw.freeCtr, rng := t.hw.rng, wgl := t.hw.wgl,
      img := t.hw.img, bufs := t.hw.bufs, sfe := t.hw.sfe, til := t.hw.til, vlv := t.hw.vlv, can := t.hw.can, smk := t.hw.smk }) ∧
  (∀ (dt : Nat) (s t : State) (i : Fin 16) (level : Bool), exec (.heldUpdateApply dt i level) s = .next t →
    RegsKept [0, 2, 3, 4, 6, 12, 14] s.hw t.hw ∧ t.hw = { s.hw with
      rf := t.hw.rf, mem := t.hw.mem, ecc := t.hw.ecc, eccAt := t.hw.eccAt, dir := t.hw.dir, rdata := t.hw.rdata,
      rfault := t.hw.rfault, irqs := t.hw.irqs, diag := t.hw.diag, freeCtr := t.hw.freeCtr, rng := t.hw.rng, wgl := t.hw.wgl,
      img := t.hw.img, bufs := t.hw.bufs, sfe := t.hw.sfe, til := t.hw.til, vlv := t.hw.vlv, can := t.hw.can, smk := t.hw.smk }) ∧
  (∀ (dt : Nat) (s t : State), exec (.eventIssue dt) s = .next t → RegsKept [0, 2, 3, 4, 6, 12, 14] s.hw t.hw ∧
    t.hw = { s.hw with
      rf := t.hw.rf, mem := t.hw.mem, ecc := t.hw.ecc, eccAt := t.hw.eccAt, dir := t.hw.dir, rdata := t.hw.rdata,
      rfault := t.hw.rfault, irqs := t.hw.irqs, diag := t.hw.diag, freeCtr := t.hw.freeCtr, rng := t.hw.rng, wgl := t.hw.wgl,
      img := t.hw.img, bufs := t.hw.bufs, sfe := t.hw.sfe, til := t.hw.til, vlv := t.hw.vlv, can := t.hw.can, smk := t.hw.smk }) ∧
  (∀ (dt : Nat) (s t : State) (c : Fin 48), exec (.deferredValveStart dt c) s = .next t → RegsKept [6] s.hw t.hw ∧
    t.hw = { s.hw with
      rf := t.hw.rf, freeCtr := t.hw.freeCtr, rng := t.hw.rng, wgl := s.hw.wgl.elapse dt, til := t.hw.til, vlv := t.hw.vlv,
      smk := t.hw.smk }) ∧
  (∀ (dt : Nat) (s t : State) (id : Nat), exec (.slotArm dt id) s = .next t → RegsKept [0] s.hw t.hw ∧
    t.hw = { s.hw with rf := t.hw.rf, rng := t.hw.rng, wgl := t.hw.wgl }) ∧
  (∀ (dt : Nat) (s t : State) (id : Nat), exec (.slotDisarm dt id) s = .next t → RegsKept [0] s.hw t.hw ∧
    t.hw = { s.hw with rf := t.hw.rf, rng := t.hw.rng, wgl := t.hw.wgl }) ∧
  (∀ (dt : Nat) (s t : State) (hart : Fin 19), exec (.slotCmdArm dt hart) s = .next t → RegsKept [0] s.hw t.hw ∧
    t.hw = { s.hw with rf := t.hw.rf, rng := t.hw.rng, wgl := t.hw.wgl }) ∧
  (∀ (dt : Nat) (s t : State) (hart : Fin 19), exec (.slotCmdRead dt hart) s = .next t → RegsKept [0] s.hw t.hw ∧
    t.hw = { s.hw with rf := t.hw.rf, rng := t.hw.rng, wgl := t.hw.wgl }) ∧
  (∀ (dt : Nat) (s t : State) (hart : Fin 19), exec (.slotCmdDisarm dt hart) s = .next t → RegsKept [0] s.hw t.hw ∧
    t.hw = { s.hw with rf := t.hw.rf, rng := t.hw.rng, wgl := t.hw.wgl }) ∧
  (∀ (dt : Nat) (s t : State) (eng : Fin 13), exec (.descriptorFetch dt eng) s = .next t → RegsKept [1, 14, 17] s.hw t.hw ∧
    (s.hw.ecc = [] → t.hw.mem = s.hw.mem) ∧ t.hw = { s.hw with
      rf := t.hw.rf, mem := t.hw.mem, ecc := t.hw.ecc, eccAt := t.hw.eccAt, irqs := t.hw.irqs, diag := t.hw.diag,
      freeCtr := t.hw.freeCtr, rng := t.hw.rng, wgl := s.hw.wgl.elapse dt }) ∧
  (∀ (dt : Nat) (s t : State) (op : Option Nat), exec (.completionWrite dt op) s = .next t → RegsKept [1, 14] s.hw t.hw ∧
    t.hw = { s.hw with
      rf := t.hw.rf, mem := t.hw.mem, ecc := t.hw.ecc, eccAt := t.hw.eccAt, dir := t.hw.dir, irqs := t.hw.irqs,
      diag := t.hw.diag, rng := t.hw.rng, wgl := s.hw.wgl.elapse dt }) ∧
  (∀ (dt : Nat) (s t : State) (hart : Fin 19) (r : Fin 1024) (reset : Bool), exec (.ringEnable dt hart r reset) s = .next t →
    RegsKept [1] s.hw t.hw ∧ t.hw = { s.hw with
      rf := t.hw.rf, mem := t.hw.mem, freeCtr := t.hw.freeCtr, rng := t.hw.rng, wgl := s.hw.wgl.elapse dt }) ∧
  (∀ (dt : Nat) (s t : State) (hart : Fin 19) (r : Fin 1024), exec (.ringDisable dt hart r) s = .next t →
    RegsKept [1] s.hw t.hw ∧ t.hw = { s.hw with
      rf := t.hw.rf, mem := t.hw.mem, freeCtr := t.hw.freeCtr, rng := t.hw.rng, wgl := s.hw.wgl.elapse dt }) ∧
  (∀ (dt : Nat) (s t : State) (hart : Fin 19) (r : Fin 1024), exec (.ringReset dt hart r) s = .next t → RegsKept [1] s.hw t.hw ∧
    t.hw = { s.hw with
      rf := t.hw.rf, mem := t.hw.mem, freeCtr := t.hw.freeCtr, rng := t.hw.rng, wgl := s.hw.wgl.elapse dt }) ∧
  (∀ (dt : Nat) (s t : State) (id : Nat), exec (.copy dt id) s = .next t → RegsKept [14] s.hw t.hw ∧ t.hw = { s.hw with
      rf := t.hw.rf, mem := t.hw.mem, ecc := t.hw.ecc, eccAt := t.hw.eccAt, dir := t.hw.dir, irqs := t.hw.irqs,
      diag := t.hw.diag, freeCtr := t.hw.freeCtr, rng := t.hw.rng, wgl := s.hw.wgl.elapse dt }) ∧
  (∀ (dt : Nat) (s t : State) (id : Nat), exec (.blockFill dt id) s = .next t → RegsKept [14] s.hw t.hw ∧ t.hw = { s.hw with
      rf := t.hw.rf, mem := t.hw.mem, ecc := t.hw.ecc, eccAt := t.hw.eccAt, dir := t.hw.dir, irqs := t.hw.irqs,
      diag := t.hw.diag, rng := t.hw.rng, wgl := s.hw.wgl.elapse dt }) ∧
  (∀ (dt : Nat) (s t : State) (hart : Fin 19), exec (.layoutLoad dt hart) s = .next t → RegsKept [0, 1, 2, 4, 19] s.hw t.hw ∧
    t.hw = { s.hw with
      rf := t.hw.rf, diag := t.hw.diag, freeCtr := t.hw.freeCtr, wgl := s.hw.wgl.elapse dt, prp := t.hw.prp, smk := t.hw.smk }) ∧
  (∀ (dt : Nat) (s t : State) (hart : Fin 19) (p : Fin 8), exec (.start dt hart p) s = .next t → RegsKept [2] s.hw t.hw ∧
    t.hw = { s.hw with rf := t.hw.rf, wgl := s.hw.wgl.elapse dt, prp := t.hw.prp }) ∧
  (∀ (dt : Nat) (s t : State) (hart : Fin 19) (p : Fin 8), exec (.stop dt hart p) s = .next t →
    RegsKept [1, 2, 5, 6, 7, 8, 9, 10, 11, 12] s.hw t.hw ∧ t.hw = { s.hw with
      rf := t.hw.rf, diag := t.hw.diag, freeCtr := t.hw.freeCtr, rng := t.hw.rng, wgl := t.hw.wgl, prp := t.hw.prp,
      img := t.hw.img, bufs := t.hw.bufs, ctl := t.hw.ctl, til := t.hw.til, vlv := t.hw.vlv, fans := t.hw.fans, fus := t.hw.fus,
      gns := t.hw.gns, can := t.hw.can, eth := t.hw.eth, smk := t.hw.smk }) ∧
  (∀ (dt : Nat) (s t : State) (hart : Fin 19) (p : Fin 8), exec (.restart dt hart p) s = .next t →
    RegsKept [1, 2, 5, 6, 7, 8, 9, 10, 11, 12, 19] s.hw t.hw ∧ t.hw = { s.hw with
      rf := t.hw.rf, diag := t.hw.diag, freeCtr := t.hw.freeCtr, rng := t.hw.rng, wgl := t.hw.wgl, prp := t.hw.prp,
      img := t.hw.img, bufs := t.hw.bufs, ctl := t.hw.ctl, til := t.hw.til, vlv := t.hw.vlv, fans := t.hw.fans, fus := t.hw.fus,
      gns := t.hw.gns, can := t.hw.can, eth := t.hw.eth, smk := t.hw.smk }) ∧
  (∀ (dt : Nat) (s t : State) (hart : Fin 19) (p : Fin 8), exec (.reconfigure dt hart p) s = .next t →
    RegsKept [0, 1, 2, 4, 19] s.hw t.hw ∧ t.hw = { s.hw with
      rf := t.hw.rf, diag := t.hw.diag, freeCtr := t.hw.freeCtr, wgl := s.hw.wgl.elapse dt, prp := t.hw.prp, smk := t.hw.smk }) ∧
  (∀ (dt : Nat) (s t : State), exec (.stopDrainDone dt) s = .next t → RegsKept [2] s.hw t.hw ∧
    t.hw = { s.hw with rf := t.hw.rf, wgl := s.hw.wgl.elapse dt, prp := t.hw.prp }) ∧
  (∀ (dt : Nat) (s t : State) (p : Fin 8), exec (.fillDoneRelease dt p) s = .next t →
    RegsKept [2, 6, 7, 8, 9, 14, 17] s.hw t.hw ∧ t.hw = { s.hw with
      rf := t.hw.rf, mem := t.hw.mem, ecc := t.hw.ecc, eccAt := t.hw.eccAt, dir := t.hw.dir, irqs := t.hw.irqs,
      diag := t.hw.diag, freeCtr := t.hw.freeCtr, rng := t.hw.rng, wgl := s.hw.wgl.elapse dt, prp := t.hw.prp, til := t.hw.til,
      vlv := t.hw.vlv, fans := t.hw.fans, smk := t.hw.smk }) ∧
  (∀ (dt : Nat) (s t : State), exec (.presenceLoss dt) s = .next t → RegsKept [6, 7, 8, 9] s.hw t.hw ∧ t.hw = { s.hw with
      rf := t.hw.rf, freeCtr := t.hw.freeCtr, rng := t.hw.rng, wgl := s.hw.wgl.elapse dt, prp := t.hw.prp, til := t.hw.til,
      vlv := t.hw.vlv, fans := t.hw.fans, can := t.hw.can, smk := t.hw.smk }) ∧
  (∀ (dt : Nat) (s t : State), exec (.presenceReturn dt) s = .next t → RegsKept [6, 7, 8, 9] s.hw t.hw ∧ t.hw = { s.hw with
      rf := t.hw.rf, freeCtr := t.hw.freeCtr, rng := t.hw.rng, wgl := s.hw.wgl.elapse dt, prp := t.hw.prp, til := t.hw.til,
      vlv := t.hw.vlv, fans := t.hw.fans, can := t.hw.can, smk := t.hw.smk }) ∧
  (∀ (dt : Nat) (s t : State), exec (.presenceLossTimeout dt) s = .next t → RegsKept [2, 6, 7, 8, 9] s.hw t.hw ∧
    t.hw = { s.hw with
      rf := t.hw.rf, diag := t.hw.diag, freeCtr := t.hw.freeCtr, rng := t.hw.rng, wgl := s.hw.wgl.elapse dt, prp := t.hw.prp,
      til := t.hw.til, vlv := t.hw.vlv, fans := t.hw.fans, can := t.hw.can, smk := t.hw.smk }) ∧
  (∀ (dt : Nat) (s t : State), exec (.presenceAssert dt) s = .next t → RegsKept [2, 6, 7, 8, 9] s.hw t.hw ∧ t.hw = { s.hw with
      rf := t.hw.rf, diag := t.hw.diag, freeCtr := t.hw.freeCtr, rng := t.hw.rng, wgl := s.hw.wgl.elapse dt, prp := t.hw.prp,
      til := t.hw.til, vlv := t.hw.vlv, fans := t.hw.fans, can := t.hw.can, smk := t.hw.smk }) ∧
  (∀ (dt : Nat) (s t : State), exec (.retryTimerExpiry dt) s = .next t → RegsKept [2, 6, 7, 8, 9] s.hw t.hw ∧ t.hw = { s.hw with
      rf := t.hw.rf, diag := t.hw.diag, freeCtr := t.hw.freeCtr, rng := t.hw.rng, wgl := s.hw.wgl.elapse dt, prp := t.hw.prp,
      til := t.hw.til, vlv := t.hw.vlv, fans := t.hw.fans, can := t.hw.can, smk := t.hw.smk }) ∧
  (∀ (dt : Nat) (s t : State) (ident : BitVec 24) (sof : Nat) (sig : List Byte), exec (.challengeAnswer dt ident sof sig) s =
      .next t → RegsKept [2] s.hw t.hw ∧ t.hw = { s.hw with rf := t.hw.rf, wgl := s.hw.wgl.elapse dt, prp := t.hw.prp }) ∧
  (∀ (dt : Nat) (s t : State), exec (.roundDecision dt) s = .next t → RegsKept [2, 6, 7, 8, 9] s.hw t.hw ∧ t.hw = { s.hw with
      rf := t.hw.rf, diag := t.hw.diag, freeCtr := t.hw.freeCtr, rng := t.hw.rng, wgl := s.hw.wgl.elapse dt, prp := t.hw.prp,
      til := t.hw.til, vlv := t.hw.vlv, fans := t.hw.fans, can := t.hw.can, smk := t.hw.smk }) ∧
  (∀ (dt : Nat) (s t : State) (hart : Fin 19) (c : Fin 16), exec (.cameraDisable dt hart c) s = .next t →
    RegsKept [3] s.hw t.hw ∧ t.hw = { s.hw with
      rf := t.hw.rf, diag := t.hw.diag, rng := t.hw.rng, wgl := s.hw.wgl.elapse dt, img := t.hw.img }) ∧
  (∀ (dt : Nat) (s t : State) (id : Nat), exec (.profile dt id) s = .next t → RegsKept [3, 14] s.hw t.hw ∧ (s.hw.ecc = [] →
    t.hw.mem = s.hw.mem) ∧ t.hw = { s.hw with
      rf := t.hw.rf, mem := t.hw.mem, ecc := t.hw.ecc, eccAt := t.hw.eccAt, irqs := t.hw.irqs, diag := t.hw.diag,
      freeCtr := t.hw.freeCtr, rng := t.hw.rng, wgl := s.hw.wgl.elapse dt, img := t.hw.img }) ∧
  (∀ (dt : Nat) (s t : State) (id : Nat) (ack : Bool) (data : List Byte), exec (.cci dt id ack data) s = .next t →
    RegsKept [14] s.hw t.hw ∧ t.hw = { s.hw with
      rf := t.hw.rf, mem := t.hw.mem, ecc := t.hw.ecc, eccAt := t.hw.eccAt, dir := t.hw.dir, irqs := t.hw.irqs,
      diag := t.hw.diag, rng := t.hw.rng, wgl := s.hw.wgl.elapse dt }) ∧
  (∀ (dt : Nat) (s t : State) (c : Fin 16) (intact : Bool) (xs : List Nat), exec (.frameEnd dt c intact xs) s = .next t →
    RegsKept [3, 14] s.hw t.hw ∧ t.hw = { s.hw with
      rf := t.hw.rf, mem := t.hw.mem, ecc := t.hw.ecc, eccAt := t.hw.eccAt, dir := t.hw.dir, irqs := t.hw.irqs,
      diag := t.hw.diag, freeCtr := t.hw.freeCtr, rng := t.hw.rng, wgl := s.hw.wgl.elapse dt, img := t.hw.img }) ∧
  (∀ (dt : Nat) (s t : State) (k : Fin 2), exec (.pipelinePassEnd dt k) s = .next t → RegsKept [3, 14] s.hw t.hw ∧
    t.hw = { s.hw with
      rf := t.hw.rf, mem := t.hw.mem, ecc := t.hw.ecc, eccAt := t.hw.eccAt, dir := t.hw.dir, irqs := t.hw.irqs,
      diag := t.hw.diag, freeCtr := t.hw.freeCtr, rng := t.hw.rng, wgl := s.hw.wgl.elapse dt, img := t.hw.img })

/-- When one of these commands, whose effects reach beyond their own unit, answers a next state, every piece of state stays as
it was but for the pieces the statement names and the passing of time, and where it names pages of the register map every
other register reads as before; memory is named only for commands that write to it or may correct a word they read, and the
latter leave it as it was while no word stands in error: LOOPED_FRAME_DELIVERY, CONVERTER_SAMPLE, SFE_CHANNEL_RECONFIG,
SPD_EDGE_CAPTURE, SENT_FRAME, IMPACT_END, LOSS_SAMPLE_STEP, LOSS_WINDOW_LENGTH_END, PADDLE_FILL, CAL, CONVERT, PADDLE_RECORD,
HISTORY_ENTRY, YIELD_BIN_TIMEOUT, CONTROL_TICK, SETPOINT, MEAS, MODE, LOOP_TABLE_LOAD, INJECT, CAPTURE, READCAP,
REC_CMD_WRITE, SOL_ENABLE, SOL_DISABLE, SOLPROF, SOLCUR, PHASE_END, OFFTIME_END, TIME_TO_PEAK, SOL_OVERCURRENT,
SOL_FAULT_DETECT, DRV_HOT, OIL_TEMP_UPDATE, THERMAL_MODEL_STEP, LSWSET, FEED_SHED, FEED_TRIP, TILE_FRAME,
TILE_WATCHDOG_EXPIRY, ARM, DIOSET, COUNTER_FILTER_STEP, DEBOUNCE_EXPIRY, FAN_ENABLE, FANSET, FANTAB, TABLE_MODE_ENTRY,
THERMISTOR_FAULT, THERMISTOR_RELEASE, FAN_OVERCURRENT, STALL, STALL_RESTART, FAN_FAULT_DETECT, XN7200_MEASUREMENT, FUS_ENABLE,
DETECT, EGO_STEP, FUSION_CYCLE, GNS_ANT_ENABLE, CHAN, GNSS_STOP, CLOCK, OBSERVABLE_EPOCH, INTEGRATION_END, NAV_SYMBOL_RECORD,
CAN_ENABLE, CAN_DISABLE, CAN_FRAME_RECEIVED, FIFO_RECORD_WRITE, TXSET, TXREQ, LINSCHED, CAN_TRANSMIT_END, WATCH_TIMEOUT,
LIN_SLOT, ETH_ENABLE, ETH_DISABLE, GCL, ETH_FRAME_SEND, ETH_FRAME_RECEIVE, SOL_FAULT_ENDS, FAN_DRV_HOT_RECOVERY.
(06_flow_loss_yield.md, 07_control_engine.md, 08_valve_drive.md, 09_load_switches.md, 10_digital_io.md, 11_fans_pumps.md,
12_fusion.md, 13_gnss.md, 14_can_lin.md, 15_ethernet_fleet.md) -/
def Obligations.LoadAndTrafficFrames : Prop :=
  (∀ (dt : Nat) (s t : State) (b : Fin 128), exec (.loopedFrameDelivery dt b) s = .next t → RegsKept [12, 14] s.hw t.hw ∧
    t.hw = { s.hw with
      rf := t.hw.rf, mem := t.hw.mem, ecc := t.hw.ecc, eccAt := t.hw.eccAt, dir := t.hw.dir, irqs := t.hw.irqs,
      diag := t.hw.diag, rng := t.hw.rng, wgl := s.hw.wgl.elapse dt, can := t.hw.can }) ∧
  (∀ (dt : Nat) (s t : State) (port : Nat) (vals : List Int), exec (.converterSample dt port vals) s = .next t →
    RegsKept [4, 14] s.hw t.hw ∧ t.hw = { s.hw with
      rf := t.hw.rf, mem := t.hw.mem, ecc := t.hw.ecc, eccAt := t.hw.eccAt, dir := t.hw.dir, irqs := t.hw.irqs,
      diag := t.hw.diag, freeCtr := t.hw.freeCtr, rng := t.hw.rng, wgl := s.hw.wgl.elapse dt, bufs := t.hw.bufs,
      sfe := t.hw.sfe, yld := t.hw.yld }) ∧
  (∀ (dt : Nat) (s t : State) (hart : Fin 19) (port : Fin 512) (v : Word), exec (.sfeChannelReconfig dt hart port v) s = .next t
      → RegsKept [4] s.hw t.hw ∧ t.hw = { s.hw with
      rf := t.hw.rf, rng := t.hw.rng, wgl := s.hw.wgl.elapse dt, bufs := t.hw.bufs, sfe := t.hw.sfe }) ∧
  (∀ (dt : Nat) (s t : State) (k : Fin 40) (partner : Bool) (width : Nat), exec (.spdEdgeCapture dt k partner width) s = .next t
      → RegsKept [4, 14] s.hw t.hw ∧ t.hw = { s.hw with
      rf := t.hw.rf, mem := t.hw.mem, ecc := t.hw.ecc, eccAt := t.hw.eccAt, dir := t.hw.dir, irqs := t.hw.irqs,
      diag := t.hw.diag, freeCtr := t.hw.freeCtr, rng := t.hw.rng, wgl := s.hw.wgl.elapse dt, bufs := t.hw.bufs,
      sfe := t.hw.sfe }) ∧
  (∀ (dt : Nat) (s t : State) (k : Fin 16) (age : Nat) (tick : Nat) (status : Fin 16) (data : List (Fin 16)) (crcOk : Bool)
      (slow : Option (BitVec 8 × BitVec 16 × Bool)), exec (.sentFrame dt k age tick status data crcOk slow) s = .next t →
    RegsKept [4, 14] s.hw t.hw ∧ t.hw = { s.hw with
      rf := t.hw.rf, mem := t.hw.mem, ecc := t.hw.ecc, eccAt := t.hw.eccAt, dir := t.hw.dir, irqs := t.hw.irqs,
      diag := t.hw.diag, freeCtr := t.hw.freeCtr, rng := t.hw.rng, wgl := s.hw.wgl.elapse dt, bufs := t.hw.bufs,
      sfe := t.hw.sfe, yld := t.hw.yld }) ∧
  (∀ (dt : Nat) (s t : State) (c : Fin 48), exec (.impactEnd dt c) s = .next t → RegsKept [4, 14] s.hw t.hw ∧ t.hw = { s.hw with
      rf := t.hw.rf, mem := t.hw.mem, ecc := t.hw.ecc, eccAt := t.hw.eccAt, dir := t.hw.dir, irqs := t.hw.irqs,
      diag := t.hw.diag, freeCtr := t.hw.freeCtr, rng := t.hw.rng, wgl := s.hw.wgl.elapse dt, bufs := t.hw.bufs,
      sfe := t.hw.sfe }) ∧
  (∀ (dt : Nat) (s t : State) (w : Fin 16), exec (.lossSampleStep dt w) s = .next t → RegsKept [4, 14] s.hw t.hw ∧
    t.hw = { s.hw with
      rf := t.hw.rf, mem := t.hw.mem, ecc := t.hw.ecc, eccAt := t.hw.eccAt, dir := t.hw.dir, irqs := t.hw.irqs,
      diag := t.hw.diag, freeCtr := t.hw.freeCtr, rng := t.hw.rng, wgl := s.hw.wgl.elapse dt, bufs := t.hw.bufs,
      sfe := t.hw.sfe }) ∧
  (∀ (dt : Nat) (s t : State) (w : Fin 16), exec (.lossWindowLengthEnd dt w) s = .next t → RegsKept [4, 14] s.hw t.hw ∧
    t.hw = { s.hw with
      rf := t.hw.rf, mem := t.hw.mem, ecc := t.hw.ecc, eccAt := t.hw.eccAt, dir := t.hw.dir, irqs := t.hw.irqs,
      diag := t.hw.diag, freeCtr := t.hw.freeCtr, rng := t.hw.rng, wgl := s.hw.wgl.elapse dt, bufs := t.hw.bufs,
      sfe := t.hw.sfe }) ∧
  (∀ (dt : Nat) (s t : State) (id : Nat), exec (.paddleFill dt id) s = .next t → RegsKept [4] s.hw t.hw ∧ t.hw = { s.hw with
      rf := t.hw.rf, freeCtr := t.hw.freeCtr, rng := t.hw.rng, wgl := s.hw.wgl.elapse dt, yld := t.hw.yld }) ∧
  (∀ (dt : Nat) (s t : State) (id : Nat), exec (.cal dt id) s = .next t → RegsKept [4, 14] s.hw t.hw ∧ (s.hw.ecc = [] →
    t.hw.mem = s.hw.mem) ∧ t.hw = { s.hw with
      rf := t.hw.rf, mem := t.hw.mem, ecc := t.hw.ecc, eccAt := t.hw.eccAt, irqs := t.hw.irqs, diag := t.hw.diag,
      freeCtr := t.hw.freeCtr, rng := t.hw.rng, wgl := s.hw.wgl.elapse dt, yld := t.hw.yld }) ∧
  (∀ (dt : Nat) (s t : State) (id : Nat), exec (.convert dt id) s = .next t → RegsKept [14] s.hw t.hw ∧ t.hw = { s.hw with
      rf := t.hw.rf, mem := t.hw.mem, ecc := t.hw.ecc, eccAt := t.hw.eccAt, dir := t.hw.dir, irqs := t.hw.irqs,
      diag := t.hw.diag, freeCtr := t.hw.freeCtr, rng := t.hw.rng, wgl := s.hw.wgl.elapse dt }) ∧
  (∀ (dt : Nat) (s t : State), exec (.paddleRecord dt) s = .next t → RegsKept [4, 14] s.hw t.hw ∧ t.hw = { s.hw with
      rf := t.hw.rf, mem := t.hw.mem, ecc := t.hw.ecc, eccAt := t.hw.eccAt, dir := t.hw.dir, irqs := t.hw.irqs,
      diag := t.hw.diag, freeCtr := t.hw.freeCtr, rng := t.hw.rng, wgl := s.hw.wgl.elapse dt, bufs := t.hw.bufs,
      sfe := t.hw.sfe, yld := t.hw.yld }) ∧
  (∀ (dt : Nat) (s t : State), exec (.historyEntry dt) s = .next t → RegsKept [14] s.hw t.hw ∧ t.hw = { s.hw with
      rf := t.hw.rf, mem := t.hw.mem, ecc := t.hw.ecc, eccAt := t.hw.eccAt, dir := t.hw.dir, irqs := t.hw.irqs,
      diag := t.hw.diag, rng := t.hw.rng, wgl := s.hw.wgl.elapse dt, yld := t.hw.yld }) ∧
  (∀ (dt : Nat) (s t : State), exec (.yieldBinTimeout dt) s = .next t → RegsKept [4, 14] s.hw t.hw ∧ t.hw = { s.hw with
      rf := t.hw.rf, mem := t.hw.mem, ecc := t.hw.ecc, eccAt := t.hw.eccAt, dir := t.hw.dir, irqs := t.hw.irqs,
      diag := t.hw.diag, freeCtr := t.hw.freeCtr, rng := t.hw.rng, wgl := s.hw.wgl.elapse dt, bufs := t.hw.bufs,
      yld := t.hw.yld }) ∧
  (∀ (dt : Nat) (s t : State), exec (.controlTick dt) s = .next t → RegsKept [0, 2, 5, 6, 7, 8, 9, 12, 14] s.hw t.hw ∧
    t.hw = { s.hw with
      rf := t.hw.rf, mem := t.hw.mem, ecc := t.hw.ecc, eccAt := t.hw.eccAt, dir := t.hw.dir, rdata := t.hw.rdata,
      rfault := t.hw.rfault, irqs := t.hw.irqs, diag := t.hw.diag, freeCtr := t.hw.freeCtr, rng := t.hw.rng,
      wgl := s.hw.wgl.elapse dt, ctl := t.hw.ctl, til := t.hw.til, vlv := t.hw.vlv, fans := t.hw.fans, can := t.hw.can,
      smk := t.hw.smk }) ∧
  (∀ (dt : Nat) (s t : State) (id : Nat), exec (.setpoint dt id) s = .next t → RegsKept [5, 14] s.hw t.hw ∧ t.hw = { s.hw with
      rf := t.hw.rf, mem := t.hw.mem, ecc := t.hw.ecc, eccAt := t.hw.eccAt, dir := t.hw.dir, irqs := t.hw.irqs,
      diag := t.hw.diag, freeCtr := t.hw.freeCtr, rng := t.hw.rng, wgl := s.hw.wgl.elapse dt, ctl := t.hw.ctl }) ∧
  (∀ (dt : Nat) (s t : State) (id : Nat), exec (.meas dt id) s = .next t → RegsKept [5, 14] s.hw t.hw ∧ t.hw = { s.hw with
      rf := t.hw.rf, mem := t.hw.mem, ecc := t.hw.ecc, eccAt := t.hw.eccAt, dir := t.hw.dir, irqs := t.hw.irqs,
      diag := t.hw.diag, freeCtr := t.hw.freeCtr, rng := t.hw.rng, wgl := s.hw.wgl.elapse dt, ctl := t.hw.ctl }) ∧
  (∀ (dt : Nat) (s t : State) (id : Nat), exec (.mode dt id) s = .next t → RegsKept [5, 14] s.hw t.hw ∧ t.hw = { s.hw with
      rf := t.hw.rf, mem := t.hw.mem, ecc := t.hw.ecc, eccAt := t.hw.eccAt, dir := t.hw.dir, irqs := t.hw.irqs,
      diag := t.hw.diag, freeCtr := t.hw.freeCtr, rng := t.hw.rng, wgl := s.hw.wgl.elapse dt, ctl := t.hw.ctl }) ∧
  (∀ (dt : Nat) (s t : State) (id : Nat), exec (.loopTableLoad dt id) s = .next t → RegsKept [5, 14] s.hw t.hw ∧
    t.hw = { s.hw with
      rf := t.hw.rf, mem := t.hw.mem, ecc := t.hw.ecc, eccAt := t.hw.eccAt, dir := t.hw.dir, irqs := t.hw.irqs,
      diag := t.hw.diag, freeCtr := t.hw.freeCtr, rng := t.hw.rng, wgl := s.hw.wgl.elapse dt, ctl := t.hw.ctl }) ∧
  (∀ (dt : Nat) (s t : State) (id : Nat), exec (.inject dt id) s = .next t → RegsKept [5, 14] s.hw t.hw ∧ t.hw = { s.hw with
      rf := t.hw.rf, mem := t.hw.mem, ecc := t.hw.ecc, eccAt := t.hw.eccAt, dir := t.hw.dir, irqs := t.hw.irqs,
      diag := t.hw.diag, freeCtr := t.hw.freeCtr, rng := t.hw.rng, wgl := s.hw.wgl.elapse dt, ctl := t.hw.ctl }) ∧
  (∀ (dt : Nat) (s t : State) (id : Nat), exec (.capture dt id) s = .next t → RegsKept [5, 14] s.hw t.hw ∧ t.hw = { s.hw with
      rf := t.hw.rf, mem := t.hw.mem, ecc := t.hw.ecc, eccAt := t.hw.eccAt, dir := t.hw.dir, irqs := t.hw.irqs,
      diag := t.hw.diag, freeCtr := t.hw.freeCtr, rng := t.hw.rng, wgl := s.hw.wgl.elapse dt, ctl := t.hw.ctl }) ∧
  (∀ (dt : Nat) (s t : State) (id : Nat), exec (.readcap dt id) s = .next t → RegsKept [5, 14] s.hw t.hw ∧ t.hw = { s.hw with
      rf := t.hw.rf, mem := t.hw.mem, ecc := t.hw.ecc, eccAt := t.hw.eccAt, dir := t.hw.dir, irqs := t.hw.irqs,
      diag := t.hw.diag, freeCtr := t.hw.freeCtr, rng := t.hw.rng, wgl := s.hw.wgl.elapse dt, ctl := t.hw.ctl }) ∧
  (∀ (dt : Nat) (s t : State) (hart : Fin 19), exec (.recCmdWrite dt hart) s = .next t → RegsKept [5] s.hw t.hw ∧
    t.hw = { s.hw with rf := t.hw.rf, wgl := s.hw.wgl.elapse dt, ctl := t.hw.ctl }) ∧
  (∀ (dt : Nat) (s t : State) (hart : Fin 19) (c : Fin 48) (v : Word), exec (.solEnable dt hart c v) s = .next t →
    RegsKept [6] s.hw t.hw ∧ t.hw = { s.hw with
      rf := t.hw.rf, diag := t.hw.diag, freeCtr := t.hw.freeCtr, wgl := s.hw.wgl.elapse dt, vlv := t.hw.vlv }) ∧
  (∀ (dt : Nat) (s t : State) (hart : Fin 19) (c : Fin 48) (v : Word), exec (.solDisable dt hart c v) s = .next t →
    RegsKept [6] s.hw t.hw ∧ t.hw = { s.hw with
      rf := t.hw.rf, freeCtr := t.hw.freeCtr, rng := t.hw.rng, wgl := s.hw.wgl.elapse dt, vlv := t.hw.vlv }) ∧
  (∀ (dt : Nat) (s t : State) (id : Nat), exec (.solprof dt id) s = .next t → RegsKept [6, 14] s.hw t.hw ∧ (s.hw.ecc = [] →
    t.hw.mem = s.hw.mem) ∧ t.hw = { s.hw with
      rf := t.hw.rf, mem := t.hw.mem, ecc := t.hw.ecc, eccAt := t.hw.eccAt, irqs := t.hw.irqs, diag := t.hw.diag,
      freeCtr := t.hw.freeCtr, rng := t.hw.rng, wgl := s.hw.wgl.elapse dt, img := t.hw.img, vlv := t.hw.vlv }) ∧
  (∀ (dt : Nat) (s t : State) (id : Nat), exec (.solcur dt id) s = .next t → RegsKept [6] s.hw t.hw ∧ t.hw = { s.hw with
      rf := t.hw.rf, freeCtr := t.hw.freeCtr, rng := t.hw.rng, wgl := s.hw.wgl.elapse dt, til := t.hw.til, vlv := t.hw.vlv,
      smk := t.hw.smk }) ∧
  (∀ (dt : Nat) (s t : State) (c : Fin 48) (peak : Bool), exec (.phaseEnd dt c peak) s = .next t → RegsKept [6] s.hw t.hw ∧
    t.hw = { s.hw with
      rf := t.hw.rf, diag := t.hw.diag, freeCtr := t.hw.freeCtr, wgl := s.hw.wgl.elapse dt, vlv := t.hw.vlv }) ∧
  (∀ (dt : Nat) (s t : State) (c : Fin 48), exec (.offtimeEnd dt c) s = .next t → RegsKept [6] s.hw t.hw ∧ t.hw = { s.hw with
      rf := t.hw.rf, freeCtr := t.hw.freeCtr, rng := t.hw.rng, wgl := s.hw.wgl.elapse dt, til := t.hw.til, vlv := t.hw.vlv,
      smk := t.hw.smk }) ∧
  (∀ (dt : Nat) (s t : State) (c : Fin 48) (reached : Bool), exec (.timeToPeak dt c reached) s = .next t →
    RegsKept [6] s.hw t.hw ∧ t.hw = { s.hw with
      rf := t.hw.rf, diag := t.hw.diag, freeCtr := t.hw.freeCtr, wgl := s.hw.wgl.elapse dt, vlv := t.hw.vlv }) ∧
  (∀ (dt : Nat) (s t : State) (c : Fin 48), exec (.solOvercurrent dt c) s = .next t → RegsKept [6] s.hw t.hw ∧
    t.hw = { s.hw with
      rf := t.hw.rf, diag := t.hw.diag, freeCtr := t.hw.freeCtr, wgl := s.hw.wgl.elapse dt, vlv := t.hw.vlv }) ∧
  (∀ (dt : Nat) (s t : State) (c : Fin 48) (kind : SolFaultKind), exec (.solFaultDetect dt c kind) s = .next t →
    RegsKept [6] s.hw t.hw ∧ t.hw = { s.hw with
      rf := t.hw.rf, diag := t.hw.diag, freeCtr := t.hw.freeCtr, wgl := s.hw.wgl.elapse dt, vlv := t.hw.vlv }) ∧
  (∀ (dt : Nat) (s t : State) (c : Fin 48) (hot : Bool), exec (.drvHot dt c hot) s = .next t → RegsKept [6] s.hw t.hw ∧
    t.hw = { s.hw with
      rf := t.hw.rf, diag := t.hw.diag, freeCtr := t.hw.freeCtr, wgl := s.hw.wgl.elapse dt, vlv := t.hw.vlv }) ∧
  (∀ (dt : Nat) (s t : State), exec (.oilTempUpdate dt) s = .next t → RegsKept [6] s.hw t.hw ∧
    t.hw = { s.hw with rf := t.hw.rf, freeCtr := t.hw.freeCtr, wgl := s.hw.wgl.elapse dt, vlv := t.hw.vlv }) ∧
  (∀ (dt : Nat) (s t : State) (c : Fin 48) (duty vf i irms : Nat), exec (.thermalModelStep dt c duty vf i irms) s = .next t →
    RegsKept [6] s.hw t.hw ∧ t.hw = { s.hw with
      rf := t.hw.rf, diag := t.hw.diag, freeCtr := t.hw.freeCtr, wgl := s.hw.wgl.elapse dt, vlv := t.hw.vlv }) ∧
  (∀ (dt : Nat) (s t : State) (id : Nat), exec (.lswset dt id) s = .next t → RegsKept [7] s.hw t.hw ∧ t.hw = { s.hw with
      rf := t.hw.rf, rng := t.hw.rng, wgl := s.hw.wgl.elapse dt, til := t.hw.til, smk := t.hw.smk }) ∧
  (∀ (dt : Nat) (s t : State) (tile : Fin 8) (mean inst : Nat), exec (.feedShed dt tile mean inst) s = .next t →
    RegsKept [6, 7, 8, 9] s.hw t.hw ∧ t.hw = { s.hw with
      rf := t.hw.rf, diag := t.hw.diag, freeCtr := t.hw.freeCtr, wgl := s.hw.wgl.elapse dt, til := t.hw.til, vlv := t.hw.vlv,
      fans := t.hw.fans, smk := t.hw.smk }) ∧
  (∀ (dt : Nat) (s t : State) (tile : Fin 8) (inst dur : Nat), exec (.feedTrip dt tile inst dur) s = .next t →
    RegsKept [6, 7, 8, 9] s.hw t.hw ∧ t.hw = { s.hw with
      rf := t.hw.rf, diag := t.hw.diag, freeCtr := t.hw.freeCtr, wgl := s.hw.wgl.elapse dt, til := t.hw.til, vlv := t.hw.vlv,
      fans := t.hw.fans, smk := t.hw.smk }) ∧
  (∀ (dt : Nat) (s t : State) (tile : Fin 8) (crcOk : Bool) (meas : List Meas), exec (.tileFrame dt tile crcOk meas) s = .next t
      → RegsKept [6, 7, 9] s.hw t.hw ∧ t.hw = { s.hw with
      rf := t.hw.rf, wgl := s.hw.wgl.elapse dt, sfe := t.hw.sfe, til := t.hw.til, fans := t.hw.fans }) ∧
  (∀ (dt : Nat) (s t : State) (tile : Fin 8), exec (.tileWatchdogExpiry dt tile) s = .next t → RegsKept [6, 7, 8, 9] s.hw t.hw ∧
    t.hw = { s.hw with
      rf := t.hw.rf, diag := t.hw.diag, freeCtr := t.hw.freeCtr, wgl := s.hw.wgl.elapse dt, til := t.hw.til, vlv := t.hw.vlv,
      fans := t.hw.fans, smk := t.hw.smk }) ∧
  (∀ (dt : Nat) (s t : State) (hart : Fin 19) (tile : Fin 8), exec (.arm dt hart tile) s = .next t →
    RegsKept [6, 7, 8, 9] s.hw t.hw ∧ t.hw = { s.hw with
      rf := t.hw.rf, freeCtr := t.hw.freeCtr, wgl := s.hw.wgl.elapse dt, til := t.hw.til, vlv := t.hw.vlv, fans := t.hw.fans,
      smk := t.hw.smk }) ∧
  (∀ (dt : Nat) (s t : State) (id : Nat), exec (.dioset dt id) s = .next t → RegsKept [8] s.hw t.hw ∧ t.hw = { s.hw with
      rf := t.hw.rf, rng := t.hw.rng, wgl := s.hw.wgl.elapse dt, til := t.hw.til, smk := t.hw.smk }) ∧
  (∀ (dt : Nat) (s t : State) (c : Fin 128) (raw : Bool) (age : Nat), exec (.counterFilterStep dt c raw age) s = .next t →
    RegsKept [8, 14] s.hw t.hw ∧ t.hw = { s.hw with
      rf := t.hw.rf, mem := t.hw.mem, ecc := t.hw.ecc, eccAt := t.hw.eccAt, dir := t.hw.dir, irqs := t.hw.irqs,
      diag := t.hw.diag, rng := t.hw.rng, wgl := s.hw.wgl.elapse dt, bufs := t.hw.bufs, dios := t.hw.dios }) ∧
  (∀ (dt : Nat) (s t : State) (c : Fin 128) (raw : Bool) (stable : Nat), exec (.debounceExpiry dt c raw stable) s = .next t →
    RegsKept [8, 14] s.hw t.hw ∧ t.hw = { s.hw with
      rf := t.hw.rf, mem := t.hw.mem, ecc := t.hw.ecc, eccAt := t.hw.eccAt, dir := t.hw.dir, irqs := t.hw.irqs,
      diag := t.hw.diag, rng := t.hw.rng, wgl := s.hw.wgl.elapse dt, bufs := t.hw.bufs, dios := t.hw.dios }) ∧
  (∀ (dt : Nat) (s t : State) (hart : Fin 19) (n : Fin 8) (v : Word), exec (.fanEnable dt hart n v) s = .next t →
    RegsKept [9] s.hw t.hw ∧ t.hw = { s.hw with rf := t.hw.rf, wgl := s.hw.wgl.elapse dt, fans := t.hw.fans }) ∧
  (∀ (dt : Nat) (s t : State) (id : Nat), exec (.fanset dt id) s = .next t → RegsKept [9] s.hw t.hw ∧ t.hw = { s.hw with
      rf := t.hw.rf, rng := t.hw.rng, wgl := s.hw.wgl.elapse dt, til := t.hw.til, fans := t.hw.fans, smk := t.hw.smk }) ∧
  (∀ (dt : Nat) (s t : State) (id : Nat), exec (.fantab dt id) s = .next t → RegsKept [9, 14] s.hw t.hw ∧ (s.hw.ecc = [] →
    t.hw.mem = s.hw.mem) ∧ t.hw = { s.hw with
      rf := t.hw.rf, mem := t.hw.mem, ecc := t.hw.ecc, eccAt := t.hw.eccAt, irqs := t.hw.irqs, diag := t.hw.diag,
      freeCtr := t.hw.freeCtr, rng := t.hw.rng, wgl := s.hw.wgl.elapse dt, fans := t.hw.fans }) ∧
  (∀ (dt : Nat) (s t : State) (n : Fin 8), exec (.tableModeEntry dt n) s = .next t → RegsKept [9] s.hw t.hw ∧
    t.hw = { s.hw with rf := t.hw.rf, wgl := s.hw.wgl.elapse dt, fans := t.hw.fans }) ∧
  (∀ (dt : Nat) (s t : State) (n : Fin 8), exec (.thermistorFault dt n) s = .next t → RegsKept [9] s.hw t.hw ∧
    t.hw = { s.hw with rf := t.hw.rf, diag := t.hw.diag, wgl := s.hw.wgl.elapse dt, fans := t.hw.fans }) ∧
  (∀ (dt : Nat) (s t : State) (n : Fin 8), exec (.thermistorRelease dt n) s = .next t → RegsKept [9] s.hw t.hw ∧
    t.hw = { s.hw with rf := t.hw.rf, wgl := s.hw.wgl.elapse dt, fans := t.hw.fans }) ∧
  (∀ (dt : Nat) (s t : State) (n : Fin 8), exec (.fanOvercurrent dt n) s = .next t → RegsKept [9] s.hw t.hw ∧
    t.hw = { s.hw with rf := t.hw.rf, diag := t.hw.diag, wgl := s.hw.wgl.elapse dt, fans := t.hw.fans }) ∧
  (∀ (dt : Nat) (s t : State) (n : Fin 8) (dur : Nat), exec (.stall dt n dur) s = .next t → RegsKept [9] s.hw t.hw ∧
    t.hw = { s.hw with rf := t.hw.rf, diag := t.hw.diag, wgl := s.hw.wgl.elapse dt, fans := t.hw.fans }) ∧
  (∀ (dt : Nat) (s t : State) (n : Fin 8), exec (.stallRestart dt n) s = .next t → RegsKept [9] s.hw t.hw ∧
    t.hw = { s.hw with rf := t.hw.rf, wgl := s.hw.wgl.elapse dt, fans := t.hw.fans }) ∧
  (∀ (dt : Nat) (s t : State) (n : Fin 8) (kind : FanFaultKind), exec (.fanFaultDetect dt n kind) s = .next t →
    RegsKept [9] s.hw t.hw ∧
    t.hw = { s.hw with rf := t.hw.rf, diag := t.hw.diag, wgl := s.hw.wgl.elapse dt, fans := t.hw.fans }) ∧
  (∀ (dt : Nat) (s t : State) (n : Fin 8) (period : Option Nat), exec (.xn7200Measurement dt n period) s = .next t →
    RegsKept [9] s.hw t.hw ∧ t.hw = { s.hw with
      rf := t.hw.rf, freeCtr := t.hw.freeCtr, wgl := s.hw.wgl.elapse dt, sfe := t.hw.sfe, fans := t.hw.fans }) ∧
  (∀ (dt : Nat) (s t : State) (hart : Fin 19), exec (.fusEnable dt hart) s = .next t → RegsKept [10] s.hw t.hw ∧
    t.hw = { s.hw with rf := t.hw.rf, freeCtr := t.hw.freeCtr, wgl := s.hw.wgl.elapse dt, fus := t.hw.fus }) ∧
  (∀ (dt : Nat) (s t : State) (id : Nat), exec (.detect dt id) s = .next t → RegsKept [10, 14] s.hw t.hw ∧ (s.hw.ecc = [] →
    t.hw.mem = s.hw.mem) ∧ t.hw = { s.hw with
      rf := t.hw.rf, mem := t.hw.mem, ecc := t.hw.ecc, eccAt := t.hw.eccAt, irqs := t.hw.irqs, diag := t.hw.diag,
      freeCtr := t.hw.freeCtr, rng := t.hw.rng, wgl := s.hw.wgl.elapse dt, fus := t.hw.fus }) ∧
  (∀ (dt : Nat) (s t : State) (l0 l1 : Bool), exec (.egoStep dt l0 l1) s = .next t → RegsKept [10, 14] s.hw t.hw ∧
    t.hw = { s.hw with
      rf := t.hw.rf, mem := t.hw.mem, ecc := t.hw.ecc, eccAt := t.hw.eccAt, dir := t.hw.dir, irqs := t.hw.irqs,
      diag := t.hw.diag, freeCtr := t.hw.freeCtr, rng := t.hw.rng, wgl := t.hw.wgl, bufs := t.hw.bufs, fus := t.hw.fus }) ∧
  (∀ (dt : Nat) (s t : State), exec (.fusionCycle dt) s = .next t → RegsKept [10, 14] s.hw t.hw ∧ t.hw = { s.hw with
      rf := t.hw.rf, mem := t.hw.mem, ecc := t.hw.ecc, eccAt := t.hw.eccAt, dir := t.hw.dir, irqs := t.hw.irqs,
      diag := t.hw.diag, freeCtr := t.hw.freeCtr, rng := t.hw.rng, wgl := s.hw.wgl.elapse dt, bufs := t.hw.bufs,
      fus := t.hw.fus }) ∧
  (∀ (dt : Nat) (s t : State) (hart : Fin 19) (a : Fin 2) (v : Word), exec (.gnsAntEnable dt hart a v) s = .next t →
    RegsKept [11] s.hw t.hw ∧ t.hw = { s.hw with
      rf := t.hw.rf, rng := t.hw.rng, wgl := s.hw.wgl.elapse dt, bufs := t.hw.bufs, gns := t.hw.gns }) ∧
  (∀ (dt : Nat) (s t : State) (id : Nat), exec (.chan dt id) s = .next t → RegsKept [11] s.hw t.hw ∧
    t.hw = { s.hw with rf := t.hw.rf, wgl := s.hw.wgl.elapse dt, gns := t.hw.gns }) ∧
  (∀ (dt : Nat) (s t : State) (id : Nat), exec (.gnssStop dt id) s = .next t → RegsKept [11] s.hw t.hw ∧
    t.hw = { s.hw with rf := t.hw.rf, rng := t.hw.rng, wgl := s.hw.wgl.elapse dt, gns := t.hw.gns }) ∧
  (∀ (dt : Nat) (s t : State) (id : Nat), exec (.clock dt id) s = .next t → RegsKept [0, 11] s.hw t.hw ∧ t.hw = { s.hw with
      rf := t.hw.rf, diag := t.hw.diag, freeCtr := t.hw.freeCtr, rng := t.hw.rng, wgl := t.hw.wgl, sfe := t.hw.sfe,
      ctl := t.hw.ctl, fus := t.hw.fus, gns := t.hw.gns }) ∧
  (∀ (dt : Nat) (s t : State) (ms : List GnsMeas), exec (.observableEpoch dt ms) s = .next t → RegsKept [11, 14] s.hw t.hw ∧
    t.hw = { s.hw with
      rf := t.hw.rf, mem := t.hw.mem, ecc := t.hw.ecc, eccAt := t.hw.eccAt, dir := t.hw.dir, irqs := t.hw.irqs,
      diag := t.hw.diag, freeCtr := t.hw.freeCtr, rng := t.hw.rng, wgl := s.hw.wgl.elapse dt, bufs := t.hw.bufs,
      gns := t.hw.gns }) ∧
  (∀ (dt : Nat) (s t : State) (a : Fin 2) (i : Fin 64) (b5 : Bool) (iq : List Word) (sync : Bool), exec (.integrationEnd dt a i
      b5 iq sync) s = .next t → RegsKept [11, 14] s.hw t.hw ∧ t.hw = { s.hw with
      rf := t.hw.rf, mem := t.hw.mem, ecc := t.hw.ecc, eccAt := t.hw.eccAt, dir := t.hw.dir, irqs := t.hw.irqs,
      diag := t.hw.diag, rng := t.hw.rng, wgl := s.hw.wgl.elapse dt, bufs := t.hw.bufs, gns := t.hw.gns }) ∧
  (∀ (dt : Nat) (s t : State) (a : Fin 2) (i : Fin 64) (b5 : Bool) (age : Nat) (syms : List Bool), exec (.navSymbolRecord dt a i
      b5 age syms) s = .next t → RegsKept [11, 14] s.hw t.hw ∧ t.hw = { s.hw with
      rf := t.hw.rf, mem := t.hw.mem, ecc := t.hw.ecc, eccAt := t.hw.eccAt, dir := t.hw.dir, irqs := t.hw.irqs,
      diag := t.hw.diag, rng := t.hw.rng, wgl := s.hw.wgl.elapse dt, bufs := t.hw.bufs, gns := t.hw.gns }) ∧
  (∀ (dt : Nat) (s t : State) (hart : Fin 19) (n : Fin 16) (v : Word), exec (.canEnable dt hart n v) s = .next t →
    RegsKept [12] s.hw t.hw ∧ t.hw = { s.hw with
      rf := t.hw.rf, rng := t.hw.rng, wgl := s.hw.wgl.elapse dt, bufs := t.hw.bufs, can := t.hw.can }) ∧
  (∀ (dt : Nat) (s t : State) (hart : Fin 19) (n : Fin 16) (v : Word), exec (.canDisable dt hart n v) s = .next t →
    RegsKept [12] s.hw t.hw ∧ t.hw = { s.hw with
      rf := t.hw.rf, rng := t.hw.rng, wgl := s.hw.wgl.elapse dt, bufs := t.hw.bufs, can := t.hw.can }) ∧
  (∀ (dt : Nat) (s t : State) (n : Fin 16) (idw : Word) (dlc : Fin 16) (rtr esi : Bool) (data : List Byte) (age : Nat), exec
      (.canFrameReceived dt n idw dlc rtr esi data age) s = .next t → RegsKept [2, 12, 14] s.hw t.hw ∧ t.hw = { s.hw with
      rf := t.hw.rf, mem := t.hw.mem, ecc := t.hw.ecc, eccAt := t.hw.eccAt, dir := t.hw.dir, irqs := t.hw.irqs,
      diag := t.hw.diag, freeCtr := t.hw.freeCtr, rng := t.hw.rng, wgl := s.hw.wgl.elapse dt, can := t.hw.can }) ∧
  (∀ (dt : Nat) (s t : State) (n : Fin 16), exec (.fifoRecordWrite dt n) s = .next t → RegsKept [14] s.hw t.hw ∧
    t.hw = { s.hw with
      rf := t.hw.rf, mem := t.hw.mem, ecc := t.hw.ecc, eccAt := t.hw.eccAt, dir := t.hw.dir, irqs := t.hw.irqs,
      diag := t.hw.diag, rng := t.hw.rng, wgl := s.hw.wgl.elapse dt, bufs := t.hw.bufs, can := t.hw.can }) ∧
  (∀ (dt : Nat) (s t : State) (id : Nat), exec (.txset dt id) s = .next t → RegsKept [2, 12, 14] s.hw t.hw ∧ (s.hw.ecc = [] →
    t.hw.mem = s.hw.mem) ∧ t.hw = { s.hw with
      rf := t.hw.rf, mem := t.hw.mem, ecc := t.hw.ecc, eccAt := t.hw.eccAt, rdata := t.hw.rdata, rfault := t.hw.rfault,
      irqs := t.hw.irqs, diag := t.hw.diag, freeCtr := t.hw.freeCtr, rng := t.hw.rng, wgl := s.hw.wgl.elapse dt,
      can := t.hw.can }) ∧
  (∀ (dt : Nat) (s t : State) (id : Nat), exec (.txreq dt id) s = .next t → RegsKept [2, 12] s.hw t.hw ∧ t.hw = { s.hw with
      rf := t.hw.rf, rdata := t.hw.rdata, rfault := t.hw.rfault, diag := t.hw.diag, rng := t.hw.rng, wgl := s.hw.wgl.elapse dt,
      can := t.hw.can }) ∧
  (∀ (dt : Nat) (s t : State) (id : Nat), exec (.linsched dt id) s = .next t → RegsKept [12, 14] s.hw t.hw ∧ (s.hw.ecc = [] →
    t.hw.mem = s.hw.mem) ∧ t.hw = { s.hw with
      rf := t.hw.rf, mem := t.hw.mem, ecc := t.hw.ecc, eccAt := t.hw.eccAt, irqs := t.hw.irqs, diag := t.hw.diag,
      freeCtr := t.hw.freeCtr, rng := t.hw.rng, wgl := s.hw.wgl.elapse dt, can := t.hw.can }) ∧
  (∀ (dt : Nat) (s t : State) (n : Fin 16) (tdcv : Fin 128), exec (.canTransmitEnd dt n tdcv) s = .next t →
    RegsKept [12, 14] s.hw t.hw ∧ t.hw = { s.hw with
      rf := t.hw.rf, mem := t.hw.mem, ecc := t.hw.ecc, eccAt := t.hw.eccAt, dir := t.hw.dir, irqs := t.hw.irqs,
      diag := t.hw.diag, rng := t.hw.rng, wgl := s.hw.wgl.elapse dt, can := t.hw.can }) ∧
  (∀ (dt : Nat) (s t : State) (n : Fin 16), exec (.watchTimeout dt n) s = .next t → RegsKept [2, 6, 7, 8, 9, 12] s.hw t.hw ∧
    t.hw = { s.hw with
      rf := t.hw.rf, diag := t.hw.diag, freeCtr := t.hw.freeCtr, rng := t.hw.rng, wgl := s.hw.wgl.elapse dt, prp := t.hw.prp,
      til := t.hw.til, vlv := t.hw.vlv, fans := t.hw.fans, can := t.hw.can, smk := t.hw.smk }) ∧
  (∀ (dt : Nat) (s t : State) (c : Fin 2) (noResp chk bitErr frameErr : Bool) (data : List Byte), exec (.linSlot dt c noResp chk
      bitErr frameErr data) s = .next t → RegsKept [12, 14] s.hw t.hw ∧ t.hw = { s.hw with
      rf := t.hw.rf, mem := t.hw.mem, ecc := t.hw.ecc, eccAt := t.hw.eccAt, dir := t.hw.dir, irqs := t.hw.irqs,
      diag := t.hw.diag, rng := t.hw.rng, wgl := s.hw.wgl.elapse dt, bufs := t.hw.bufs, can := t.hw.can }) ∧
  (∀ (dt : Nat) (s t : State) (hart : Fin 19) (n : Fin 12) (v : Word), exec (.ethEnable dt hart n v) s = .next t →
    RegsKept [13] s.hw t.hw ∧ t.hw = { s.hw with
      rf := t.hw.rf, rng := t.hw.rng, wgl := s.hw.wgl.elapse dt, bufs := t.hw.bufs, eth := t.hw.eth }) ∧
  (∀ (dt : Nat) (s t : State) (hart : Fin 19) (n : Fin 12) (v : Word), exec (.ethDisable dt hart n v) s = .next t →
    RegsKept [13] s.hw t.hw ∧ t.hw = { s.hw with
      rf := t.hw.rf, rng := t.hw.rng, wgl := s.hw.wgl.elapse dt, bufs := t.hw.bufs, eth := t.hw.eth }) ∧
  (∀ (dt : Nat) (s t : State) (id : Nat), exec (.gcl dt id) s = .next t → RegsKept [14] s.hw t.hw ∧ (s.hw.ecc = [] →
    t.hw.mem = s.hw.mem) ∧ t.hw = { s.hw with
      rf := t.hw.rf, mem := t.hw.mem, ecc := t.hw.ecc, eccAt := t.hw.eccAt, irqs := t.hw.irqs, diag := t.hw.diag,
      freeCtr := t.hw.freeCtr, rng := t.hw.rng, wgl := s.hw.wgl.elapse dt, eth := t.hw.eth }) ∧
  (∀ (dt : Nat) (s t : State) (n : Fin 12), exec (.ethFrameSend dt n) s = .next t → RegsKept [13, 14] s.hw t.hw ∧
    (s.hw.ecc = [] → t.hw.mem = s.hw.mem) ∧ t.hw = { s.hw with
      rf := t.hw.rf, mem := t.hw.mem, ecc := t.hw.ecc, eccAt := t.hw.eccAt, irqs := t.hw.irqs, diag := t.hw.diag,
      freeCtr := t.hw.freeCtr, rng := t.hw.rng, wgl := s.hw.wgl.elapse dt, eth := t.hw.eth }) ∧
  (∀ (dt : Nat) (s t : State) (n : Fin 12) (bs : List Byte) (fcsOk : Bool) (age : Nat), exec (.ethFrameReceive dt n bs fcsOk
      age) s = .next t → RegsKept [13, 14] s.hw t.hw ∧ t.hw = { s.hw with
      rf := t.hw.rf, mem := t.hw.mem, ecc := t.hw.ecc, eccAt := t.hw.eccAt, dir := t.hw.dir, irqs := t.hw.irqs,
      diag := t.hw.diag, rng := t.hw.rng, wgl := s.hw.wgl.elapse dt, bufs := t.hw.bufs }) ∧
  (∀ (dt : Nat) (s t : State) (c : Fin 48) (kind : SolFaultKind), exec (.solFaultEnds dt c kind) s = .next t →
    RegsKept [6] s.hw t.hw ∧
    t.hw = { s.hw with rf := t.hw.rf, freeCtr := t.hw.freeCtr, wgl := s.hw.wgl.elapse dt, vlv := t.hw.vlv }) ∧
  (∀ (dt : Nat) (s t : State) (n : Fin 8), exec (.fanDrvHotRecovery dt n) s = .next t → RegsKept [9] s.hw t.hw ∧
    t.hw = { s.hw with rf := t.hw.rf, wgl := s.hw.wgl.elapse dt, fans := t.hw.fans })

/-- When one of these commands, whose effects reach beyond their own unit, answers a next state, every piece of state stays as
it was but for the pieces the statement names and the passing of time, and where it names pages of the register map every
other register reads as before; memory is named only for commands that write to it or may correct a word they read, and the
latter leave it as it was while no word stands in error: OWNERSHIP_REQUEST, SCRUB_WORD, WRITE, STO_WRITE, STO_READ, APPEND,
EVR_READ, STAGE, PUT, APPLY, ACTIVATION_COMPLETE, CONFIRM, UNLOCK, GETID, HASH, RANDOM, SIGN, START_UP, TRAINING_RETRY,
BROWNOUT, FEED_UV, FEED_OV, FEED_RECOVERY, FEED_POWER_UP, GO, AUTO_SLEEP, SMOKER_STEP, SMOKER_ABANDON, TILE_TEST, ENTER,
THERMAL_SHUTDOWN. (16_memory_ecc.md, 17_storage_recorder.md, 18_identity_update.md, 19_power_reset_sleep.md,
20_in_service_test.md) -/
def Obligations.ModuleWideFrames : Prop :=
  (∀ (dt : Nat) (s t : State) (line : BitVec 36) (who : List OwnAgent), exec (.ownershipRequest dt line who) s = .next t →
    t.hw = { s.hw with dir := t.hw.dir, dirSeq := t.hw.dirSeq, wgl := s.hw.wgl.elapse dt }) ∧
  (∀ (dt : Nat) (s t : State) (b : Fin 14) (i : Nat) (found : ScrubFind), exec (.scrubWord dt b i found) s = .next t →
    RegsKept [14] s.hw t.hw ∧ (s.hw.ecc = [] → t.hw.mem = s.hw.mem) ∧ t.hw = { s.hw with
      rf := t.hw.rf, mem := t.hw.mem, ecc := t.hw.ecc, eccAt := t.hw.eccAt, scrubs := t.hw.scrubs, irqs := t.hw.irqs,
      diag := t.hw.diag, wgl := s.hw.wgl.elapse dt }) ∧
  (∀ (dt : Nat) (s t : State) (hart : Fin 19), exec (.write dt hart) s = .next t → RegsKept [14] s.hw t.hw ∧ t.hw = { s.hw with
      rf := t.hw.rf, mem := t.hw.mem, ecc := t.hw.ecc, dir := t.hw.dir, wgl := s.hw.wgl.elapse dt }) ∧
  (∀ (dt : Nat) (s t : State) (id gb : Nat), exec (.stoWrite dt id gb) s = .next t → RegsKept [14, 15] s.hw t.hw ∧
    (s.hw.ecc = [] → t.hw.mem = s.hw.mem) ∧ t.hw = { s.hw with
      rf := t.hw.rf, mem := t.hw.mem, ecc := t.hw.ecc, eccAt := t.hw.eccAt, irqs := t.hw.irqs, diag := t.hw.diag,
      freeCtr := t.hw.freeCtr, rng := t.hw.rng, wgl := s.hw.wgl.elapse dt, sto := t.hw.sto }) ∧
  (∀ (dt : Nat) (s t : State) (id : Nat) (bad : List Nat), exec (.stoRead dt id bad) s = .next t → RegsKept [14] s.hw t.hw ∧
    t.hw = { s.hw with
      rf := t.hw.rf, mem := t.hw.mem, ecc := t.hw.ecc, eccAt := t.hw.eccAt, dir := t.hw.dir, irqs := t.hw.irqs,
      diag := t.hw.diag, rng := t.hw.rng, wgl := s.hw.wgl.elapse dt }) ∧
  (∀ (dt : Nat) (s t : State) (id : Nat), exec (.append dt id) s = .next t → RegsKept [14, 16] s.hw t.hw ∧ (s.hw.ecc = [] →
    t.hw.mem = s.hw.mem) ∧ t.hw = { s.hw with
      rf := t.hw.rf, mem := t.hw.mem, ecc := t.hw.ecc, eccAt := t.hw.eccAt, irqs := t.hw.irqs, diag := t.hw.diag,
      freeCtr := t.hw.freeCtr, rng := t.hw.rng, wgl := s.hw.wgl.elapse dt, evr := t.hw.evr }) ∧
  (∀ (dt : Nat) (s t : State) (id : Nat), exec (.evrRead dt id) s = .next t → RegsKept [14] s.hw t.hw ∧ t.hw = { s.hw with
      rf := t.hw.rf, mem := t.hw.mem, ecc := t.hw.ecc, eccAt := t.hw.eccAt, dir := t.hw.dir, irqs := t.hw.irqs,
      diag := t.hw.diag, rng := t.hw.rng, wgl := s.hw.wgl.elapse dt }) ∧
  (∀ (dt : Nat) (s t : State) (id : Nat), exec (.stage dt id) s = .next t → RegsKept [14, 17] s.hw t.hw ∧ (s.hw.ecc = [] →
    t.hw.mem = s.hw.mem) ∧ t.hw = { s.hw with
      rf := t.hw.rf, mem := t.hw.mem, ecc := t.hw.ecc, eccAt := t.hw.eccAt, irqs := t.hw.irqs, diag := t.hw.diag,
      freeCtr := t.hw.freeCtr, rng := t.hw.rng, wgl := s.hw.wgl.elapse dt, grd := t.hw.grd }) ∧
  (∀ (dt : Nat) (s t : State) (id : Nat), exec (.put dt id) s = .next t → RegsKept [14] s.hw t.hw ∧ (s.hw.ecc = [] →
    t.hw.mem = s.hw.mem) ∧ t.hw = { s.hw with
      rf := t.hw.rf, mem := t.hw.mem, ecc := t.hw.ecc, eccAt := t.hw.eccAt, irqs := t.hw.irqs, diag := t.hw.diag,
      freeCtr := t.hw.freeCtr, rng := t.hw.rng, wgl := s.hw.wgl.elapse dt, grd := t.hw.grd }) ∧
  (∀ (dt : Nat) (s t : State) (id : Nat), exec (.apply dt id) s = .next t → RegsKept [17] s.hw t.hw ∧ t.hw = { s.hw with
      rf := t.hw.rf, freeCtr := t.hw.freeCtr, rng := t.hw.rng, wgl := s.hw.wgl.elapse dt, grd := t.hw.grd }) ∧
  (∀ (dt : Nat) (s t : State), exec (.activationComplete dt) s = .next t →
    RegsKept [1, 2, 5, 6, 7, 8, 9, 10, 11, 12, 14, 17] s.hw t.hw ∧ t.hw = { s.hw with
      rf := t.hw.rf, mem := t.hw.mem, ecc := t.hw.ecc, eccAt := t.hw.eccAt, dir := t.hw.dir, irqs := t.hw.irqs,
      diag := t.hw.diag, freeCtr := t.hw.freeCtr, rng := t.hw.rng, wgl := t.hw.wgl, img := t.hw.img, bufs := t.hw.bufs,
      ctl := t.hw.ctl, til := t.hw.til, vlv := t.hw.vlv, fans := t.hw.fans, fus := t.hw.fus, gns := t.hw.gns, can := t.hw.can,
      eth := t.hw.eth, grd := t.hw.grd, smk := t.hw.smk, pwr := t.hw.pwr }) ∧
  (∀ (dt : Nat) (s t : State) (id : Nat), exec (.confirm dt id) s = .next t → RegsKept [17] s.hw t.hw ∧ t.hw = { s.hw with
      rf := t.hw.rf, diag := t.hw.diag, rng := t.hw.rng, wgl := s.hw.wgl.elapse dt, grd := t.hw.grd }) ∧
  (∀ (dt : Nat) (s t : State) (id : Nat), exec (.unlock dt id) s = .next t → RegsKept [14, 17] s.hw t.hw ∧ (s.hw.ecc = [] →
    t.hw.mem = s.hw.mem) ∧ t.hw = { s.hw with
      rf := t.hw.rf, mem := t.hw.mem, ecc := t.hw.ecc, eccAt := t.hw.eccAt, irqs := t.hw.irqs, diag := t.hw.diag,
      freeCtr := t.hw.freeCtr, rng := t.hw.rng, wgl := s.hw.wgl.elapse dt, grd := t.hw.grd, smk := t.hw.smk }) ∧
  (∀ (dt : Nat) (s t : State) (id : Nat), exec (.getid dt id) s = .next t → RegsKept [14] s.hw t.hw ∧ t.hw = { s.hw with
      rf := t.hw.rf, mem := t.hw.mem, ecc := t.hw.ecc, eccAt := t.hw.eccAt, dir := t.hw.dir, irqs := t.hw.irqs,
      diag := t.hw.diag, freeCtr := t.hw.freeCtr, rng := t.hw.rng, wgl := s.hw.wgl.elapse dt }) ∧
  (∀ (dt : Nat) (s t : State) (id : Nat), exec (.hash dt id) s = .next t → RegsKept [14] s.hw t.hw ∧ t.hw = { s.hw with
      rf := t.hw.rf, mem := t.hw.mem, ecc := t.hw.ecc, eccAt := t.hw.eccAt, dir := t.hw.dir, irqs := t.hw.irqs,
      diag := t.hw.diag, freeCtr := t.hw.freeCtr, rng := t.hw.rng, wgl := s.hw.wgl.elapse dt }) ∧
  (∀ (dt : Nat) (s t : State) (id : Nat), exec (.random dt id) s = .next t → RegsKept [14] s.hw t.hw ∧ t.hw = { s.hw with
      rf := t.hw.rf, mem := t.hw.mem, ecc := t.hw.ecc, eccAt := t.hw.eccAt, dir := t.hw.dir, irqs := t.hw.irqs,
      diag := t.hw.diag, freeCtr := t.hw.freeCtr, rng := t.hw.rng, wgl := s.hw.wgl.elapse dt }) ∧
  (∀ (dt : Nat) (s t : State) (id : Nat), exec (.sign dt id) s = .next t → RegsKept [14] s.hw t.hw ∧ t.hw = { s.hw with
      rf := t.hw.rf, mem := t.hw.mem, ecc := t.hw.ecc, eccAt := t.hw.eccAt, dir := t.hw.dir, irqs := t.hw.irqs,
      diag := t.hw.diag, freeCtr := t.hw.freeCtr, rng := t.hw.rng, wgl := s.hw.wgl.elapse dt }) ∧
  (∀ (dt : Nat) (s t : State) (x : StartIn), exec (.startUp dt x) s = .next t → RegsKept [2, 14, 16, 17, 19] s.hw t.hw ∧
    t.hw = { s.hw with
      rf := t.hw.rf, mem := t.hw.mem, ecc := t.hw.ecc, eccAt := t.hw.eccAt, dir := t.hw.dir, irqs := t.hw.irqs,
      diag := t.hw.diag, rng := t.hw.rng, wgl := t.hw.wgl, prp := t.hw.prp, evr := t.hw.evr, grd := t.hw.grd, pwr := t.hw.pwr }) ∧
  (∀ (dt : Nat) (s t : State) (x : StartIn), exec (.trainingRetry dt x) s = .next t → RegsKept [2, 14, 16, 17, 19] s.hw t.hw ∧
    t.hw = { s.hw with
      rf := t.hw.rf, mem := t.hw.mem, ecc := t.hw.ecc, eccAt := t.hw.eccAt, dir := t.hw.dir, irqs := t.hw.irqs,
      diag := t.hw.diag, rng := t.hw.rng, wgl := t.hw.wgl, prp := t.hw.prp, evr := t.hw.evr, grd := t.hw.grd, pwr := t.hw.pwr }) ∧
  (∀ (dt : Nat) (s t : State) (v : BitVec 16), exec (.brownout dt v) s = .next t → RegsKept [6, 7, 8, 9, 15, 16, 18] s.hw t.hw ∧
    t.hw = { s.hw with
      rf := t.hw.rf, diag := t.hw.diag, freeCtr := t.hw.freeCtr, wgl := s.hw.wgl.elapse dt, til := t.hw.til, vlv := t.hw.vlv,
      fans := t.hw.fans, sto := t.hw.sto, evr := t.hw.evr, smk := t.hw.smk, pwr := t.hw.pwr }) ∧
  (∀ (dt : Nat) (s t : State) (tile : Fin 8) (v : BitVec 16), exec (.feedUv dt tile v) s = .next t →
    RegsKept [6, 7, 8, 9, 18] s.hw t.hw ∧ t.hw = { s.hw with
      rf := t.hw.rf, diag := t.hw.diag, freeCtr := t.hw.freeCtr, wgl := s.hw.wgl.elapse dt, til := t.hw.til, vlv := t.hw.vlv,
      fans := t.hw.fans, smk := t.hw.smk }) ∧
  (∀ (dt : Nat) (s t : State) (tile : Fin 8) (v : BitVec 16), exec (.feedOv dt tile v) s = .next t →
    RegsKept [6, 7, 8, 9, 18] s.hw t.hw ∧ t.hw = { s.hw with
      rf := t.hw.rf, diag := t.hw.diag, freeCtr := t.hw.freeCtr, wgl := s.hw.wgl.elapse dt, til := t.hw.til, vlv := t.hw.vlv,
      fans := t.hw.fans, smk := t.hw.smk }) ∧
  (∀ (dt : Nat) (s t : State) (tile : Fin 8) (v : BitVec 16), exec (.feedRecovery dt tile v) s = .next t →
    RegsKept [6, 7, 8, 9, 18] s.hw t.hw ∧
    t.hw = { s.hw with rf := t.hw.rf, freeCtr := t.hw.freeCtr, wgl := s.hw.wgl.elapse dt }) ∧
  (∀ (dt : Nat) (s t : State) (tile : Fin 8), exec (.feedPowerUp dt tile) s = .next t → RegsKept [6, 7, 8, 9] s.hw t.hw ∧
    t.hw = { s.hw with
      rf := t.hw.rf, freeCtr := t.hw.freeCtr, wgl := s.hw.wgl.elapse dt, til := t.hw.til, vlv := t.hw.vlv, fans := t.hw.fans,
      smk := t.hw.smk }) ∧
  (∀ (dt : Nat) (s t : State) (hart : Fin 19) (w : WakeIn), exec (.go dt hart w) s = .next t →
    RegsKept [1, 2, 5, 6, 7, 8, 9, 10, 11, 12, 14, 15, 16, 18] s.hw t.hw ∧ (s.hw.ecc = [] → t.hw.mem = s.hw.mem) ∧
    t.hw = { s.hw with
      rf := t.hw.rf, mem := t.hw.mem, ecc := t.hw.ecc, eccAt := t.hw.eccAt, irqs := t.hw.irqs, diag := t.hw.diag,
      freeCtr := t.hw.freeCtr, rng := t.hw.rng, wgl := t.hw.wgl, img := t.hw.img, bufs := t.hw.bufs, ctl := t.hw.ctl,
      til := t.hw.til, vlv := t.hw.vlv, fans := t.hw.fans, fus := t.hw.fus, gns := t.hw.gns, can := t.hw.can, eth := t.hw.eth,
      sto := t.hw.sto, evr := t.hw.evr, smk := t.hw.smk, pwr := t.hw.pwr }) ∧
  (∀ (dt : Nat) (s t : State) (w : WakeIn), exec (.autoSleep dt w) s = .next t →
    RegsKept [1, 2, 5, 6, 7, 8, 9, 10, 11, 12, 14, 15, 16, 18] s.hw t.hw ∧ (s.hw.ecc = [] → t.hw.mem = s.hw.mem) ∧
    t.hw = { s.hw with
      rf := t.hw.rf, mem := t.hw.mem, ecc := t.hw.ecc, eccAt := t.hw.eccAt, irqs := t.hw.irqs, diag := t.hw.diag,
      freeCtr := t.hw.freeCtr, rng := t.hw.rng, wgl := t.hw.wgl, img := t.hw.img, bufs := t.hw.bufs, ctl := t.hw.ctl,
      til := t.hw.til, vlv := t.hw.vlv, fans := t.hw.fans, fus := t.hw.fus, gns := t.hw.gns, can := t.hw.can, eth := t.hw.eth,
      sto := t.hw.sto, evr := t.hw.evr, smk := t.hw.smk, pwr := t.hw.pwr }) ∧
  (∀ (dt : Nat) (s t : State) (x : SmkStep), exec (.smokerStep dt x) s = .next t → RegsKept [4, 6, 8, 19] s.hw t.hw ∧
    t.hw = { s.hw with
      rf := t.hw.rf, diag := t.hw.diag, wgl := s.hw.wgl.elapse dt, dios := t.hw.dios, smk := t.hw.smk }) ∧
  (∀ (dt : Nat) (s t : State), exec (.smokerAbandon dt) s = .next t → RegsKept [8] s.hw t.hw ∧
    t.hw = { s.hw with rf := t.hw.rf, wgl := s.hw.wgl.elapse dt, dios := t.hw.dios, smk := t.hw.smk }) ∧
  (∀ (dt : Nat) (s t : State) (tile : Fin 100) (ev : TileEv), exec (.tileTest dt tile ev) s = .next t →
    RegsKept [19] s.hw t.hw ∧ t.hw = { s.hw with
      rf := t.hw.rf, diag := t.hw.diag, freeCtr := t.hw.freeCtr, wgl := s.hw.wgl.elapse dt, smk := t.hw.smk }) ∧
  (∀ (dt : Nat) (s t : State) (hart : Fin 19), exec (.enter dt hart) s = .next t →
    RegsKept [1, 2, 5, 6, 7, 8, 9, 10, 11, 12, 19] s.hw t.hw ∧ t.hw = { s.hw with
      rf := t.hw.rf, diag := t.hw.diag, freeCtr := t.hw.freeCtr, rng := t.hw.rng, wgl := t.hw.wgl, img := t.hw.img,
      bufs := t.hw.bufs, ctl := t.hw.ctl, til := t.hw.til, vlv := t.hw.vlv, dios := t.hw.dios, fans := t.hw.fans,
      fus := t.hw.fus, gns := t.hw.gns, can := t.hw.can, eth := t.hw.eth, smk := t.hw.smk }) ∧
  (∀ (dt : Nat) (s t : State) (a b : BitVec 16), exec (.thermalShutdown dt a b) s = .next t →
    RegsKept [6, 7, 8, 9, 15, 16, 18, 19] s.hw t.hw ∧ t.hw = { s.hw with
      rf := t.hw.rf, diag := t.hw.diag, freeCtr := t.hw.freeCtr, wgl := s.hw.wgl.elapse dt, til := t.hw.til, vlv := t.hw.vlv,
      fans := t.hw.fans, sto := t.hw.sto, evr := t.hw.evr, smk := t.hw.smk, pwr := t.hw.pwr })
end

