-- ==== Sys2Proof/Laws/Maps.lean ====
section
/-!
SUPPORT. Laws of sparse tables: a read after a write gives the value written, and other keys keep theirs.
-/
namespace Sys2Proof.Machine

variable {α : Type}

@[simp] theorem mget_nil (a : Nat) : mget ([] : Map α) a = none := rfl

@[simp] theorem mget_mset_same (m : Map α) (a : Nat) (x : α) : mget (mset m a x) a = some x := by
  induction m with
  | nil => simp [mset, mget]
  | cons p m ih =>
    obtain ⟨k, v⟩ := p
    simp only [mset]
    split
    · simp [mget]
    · split
      · simp [mget]
      · rename_i h1 h2
        have : ¬ k = a := fun e => h2 e.symm
        simp [mget, this, ih]

theorem mget_mset_other (m : Map α) (a b : Nat) (x : α) (h : a ≠ b) : mget (mset m a x) b = mget m b := by
  induction m with
  | nil => simp [mset, mget, h]
  | cons p m ih =>
    obtain ⟨k, v⟩ := p
    simp only [mset]
    split
    · simp [mget, h]
    · split
      · rename_i h1 h2
        subst h2
        simp [mget, h]
      · simp [mget, ih]

@[simp] theorem mgetD_mset_same (m : Map α) (a : Nat) (x d : α) : mgetD (mset m a x) a d = x := by simp [mgetD]

theorem mgetD_mset_other (m : Map α) (a b : Nat) (x d : α) (h : a ≠ b) : mgetD (mset m a x) b d = mgetD m b d := by
  simp [mgetD, mget_mset_other m a b x h]

theorem mget_mdel_other (m : Map α) (a b : Nat) (h : a ≠ b) : mget (mdel m a) b = mget m b := by
  induction m with
  | nil => rfl
  | cons p m ih =>
    obtain ⟨k, v⟩ := p
    simp only [mdel]
    split
    · rename_i e
      subst e
      simp [mget, h]
    · simp [mget, ih]

end Sys2Proof.Machine
end

