-- ==== Sys2Proof/Laws/Memory.lean ====
section
/-!
SUPPORT. Laws of memory: a read after a write gives the value written, other bytes keep theirs, and every operation keeps the canonical
form.
-/
namespace Sys2Proof.Machine

/-! ## The canonical form, one cell at a time -/

/-- Every address listed lies above a bound. -/
def memAbove (b : Nat) (m : List Host.Cell) : Prop := ∀ c ∈ m, b < c.1

theorem memSorted_cons {k : Nat} {v : Byte} {m : List Host.Cell} :
    memSorted ((k, v) :: m) = true ↔ memAbove k m ∧ memSorted m = true := by
  induction m generalizing k v with
  | nil => simp [memSorted, memAbove]
  | cons p m ih =>
    obtain ⟨k', v'⟩ := p
    simp only [memSorted, Bool.and_eq_true, decide_eq_true_eq]
    constructor
    · rintro ⟨h1, h2⟩
      refine ⟨?_, h2⟩
      intro c hc
      rcases List.mem_cons.1 hc with rfl | hc
      · exact h1
      · exact Nat.lt_trans h1 ((ih.1 h2).1 c hc)
    · rintro ⟨h1, h2⟩
      exact ⟨h1 (k', v') (by simp), h2⟩

theorem wf_cons {k : Nat} {v : Byte} {m : List Host.Cell} :
    Memory.wf ((k, v) :: m) = true ↔ v ≠ 0 ∧ memAbove k m ∧ Memory.wf m = true := by
  simp only [Memory.wf, Bool.and_eq_true, memSorted_cons, List.all_cons, bne_iff_ne]
  constructor
  · rintro ⟨⟨a, b⟩, c, d⟩; exact ⟨c, a, b, d⟩
  · rintro ⟨c, a, b, d⟩; exact ⟨⟨a, b⟩, c, d⟩

@[simp] theorem wf_nil : Memory.wf [] = true := rfl

/-! ## One byte -/

theorem mem_memSet {m : List Host.Cell} {a : Nat} {x : Byte} {c : Host.Cell} (h : c ∈ memSet m a x) : c = (a, x) ∨ c ∈ m := by
  induction m with
  | nil => simp only [memSet] at h; split at h <;> simp_all
  | cons p m ih =>
    obtain ⟨k, v⟩ := p
    simp only [memSet] at h
    split at h
    · split at h <;> simp_all
    · split at h
      · split at h
        · exact .inr (List.mem_cons_of_mem _ h)
        · rcases List.mem_cons.1 h with rfl | h
          · exact .inl rfl
          · exact .inr (List.mem_cons_of_mem _ h)
      · rcases List.mem_cons.1 h with rfl | h
        · exact .inr (by simp)
        · rcases ih h with e | e
          · exact .inl e
          · exact .inr (List.mem_cons_of_mem _ e)

/-- Storing a byte keeps the canonical form. -/
theorem memSet_wf {m : List Host.Cell} (a : Nat) (x : Byte) (h : Memory.wf m = true) : Memory.wf (memSet m a x) = true := by
  induction m with
  | nil =>
    simp only [memSet]
    split
    · rfl
    · rename_i hx
      exact wf_cons.2 ⟨hx, fun c hc => by simp at hc, rfl⟩
  | cons p m ih =>
    obtain ⟨k, v⟩ := p
    obtain ⟨hv, hk, hm⟩ := wf_cons.1 h
    simp only [memSet]
    split
    · rename_i hlt
      split
      · exact h
      · rename_i hx
        refine wf_cons.2 ⟨hx, ?_, h⟩
        intro c hc
        rcases List.mem_cons.1 hc with rfl | hc
        · exact hlt
        · exact Nat.lt_trans hlt (hk c hc)
    · split
      · rename_i he
        subst he
        split
        · exact hm
        · rename_i hx; exact wf_cons.2 ⟨hx, hk, hm⟩
      · refine wf_cons.2 ⟨hv, ?_, ih hm⟩
        intro c hc
        rcases mem_memSet hc with rfl | hc
        · show k < a; omega
        · exact hk c hc

theorem memGet_above {b : Nat} {m : List Host.Cell} (h : memAbove b m) : memGet m b = 0 := by
  induction m with
  | nil => rfl
  | cons p m ih =>
    obtain ⟨k, v⟩ := p
    have hk : b < k := h (k, v) (by simp)
    have : ¬ k = b := by omega
    simp only [memGet, this, if_false]
    exact ih (fun c hc => h c (List.mem_cons_of_mem _ hc))

/-- A byte reads as it was stored. -/
theorem memGet_memSet_same {m : List Host.Cell} (a : Nat) (x : Byte) (h : Memory.wf m = true) : memGet (memSet m a x) a = x := by
  induction m with
  | nil =>
    simp only [memSet]
    split
    · rename_i hx; simp [memGet, hx]
    · simp [memGet]
  | cons p m ih =>
    obtain ⟨k, v⟩ := p
    obtain ⟨hv, hk, hm⟩ := wf_cons.1 h
    simp only [memSet]
    split
    · rename_i hlt
      split
      · rename_i hx
        have hne : ¬ k = a := by omega
        simp only [memGet, hne, if_false]
        rw [memGet_above (fun c hc => Nat.lt_trans hlt (hk c hc)), hx]
      · simp [memGet]
    · split
      · rename_i he
        subst he
        split
        · rename_i hx; rw [memGet_above hk, hx]
        · simp [memGet]
      · rename_i h1 h2
        have hne : ¬ k = a := by omega
        simp only [memGet, hne, if_false]
        exact ih hm

/-- Storing a byte leaves every other byte as it was. -/
theorem memGet_memSet_other (m : List Host.Cell) (a b : Nat) (x : Byte) (h : a ≠ b) : memGet (memSet m a x) b = memGet m b := by
  induction m with
  | nil =>
    simp only [memSet]
    split <;> simp [memGet, h]
  | cons p m ih =>
    obtain ⟨k, v⟩ := p
    simp only [memSet]
    split
    · split <;> simp [memGet, h]
    · split
      · rename_i he
        subst he
        split <;> simp [memGet, h]
      · simp [memGet, ih]

/-! ## Ranges -/

/-- Storing bytes keeps the canonical form. -/
theorem memWrite_wf (bs : List Byte) {m : List Host.Cell} (a : Nat) (h : Memory.wf m = true) : Memory.wf (memWrite m a bs) = true := by
  induction bs generalizing m a with
  | nil => exact h
  | cons b bs ih => exact ih (a + 1) (memSet_wf a b h)

/-- Storing bytes one address at a time keeps the canonical form. -/
theorem foldl_memSet_wf (l : List (Nat × Byte)) {m : List Host.Cell} (h : Memory.wf m = true) :
    Memory.wf (l.foldl (fun m (x, b) => memSet m x b) m) = true := by
  induction l generalizing m with
  | nil => exact h
  | cons p l ih => exact ih (memSet_wf _ _ h)

theorem memSorted_filter (p : Host.Cell → Bool) {m : List Host.Cell} (h : memSorted m = true) : memSorted (m.filter p) = true := by
  induction m with
  | nil => rfl
  | cons c m ih =>
    obtain ⟨k, v⟩ := c
    obtain ⟨ha, hm⟩ := memSorted_cons.1 h
    simp only [List.filter]
    split
    · exact memSorted_cons.2 ⟨fun c hc => ha c (List.mem_filter.1 hc).1, ih hm⟩
    · exact ih hm

/-- Setting a range to 0 keeps the canonical form. -/
theorem memZero_wf {m : List Host.Cell} (a n : Nat) (h : Memory.wf m = true) : Memory.wf (memZero m a n) = true := by
  simp only [Memory.wf, Bool.and_eq_true, List.all_eq_true] at h ⊢
  exact ⟨memSorted_filter _ h.1, fun c hc => h.2 c (List.mem_filter.1 hc).1⟩

/-- Flipping bits of a word keeps the canonical form. -/
theorem flipWord_wf {m : List Host.Cell} (k x : Nat) (h : Memory.wf m = true) : Memory.wf (flipWord m k x) = true := memWrite_wf _ _ h

/-- A byte outside the bytes stored reads as before. -/
theorem memGet_memWrite_outside (bs : List Byte) (m : List Host.Cell) (a b : Nat) (h : b < a ∨ a + bs.length ≤ b) :
    memGet (memWrite m a bs) b = memGet m b := by
  induction bs generalizing m a with
  | nil => rfl
  | cons x bs ih =>
    simp only [List.length_cons] at h
    rw [memWrite, ih _ _ (by omega), memGet_memSet_other _ _ _ _ (by omega)]

/-- A byte among the bytes stored reads as stored. -/
theorem memGet_memWrite_inside (bs : List Byte) {m : List Host.Cell} (a i : Nat) (hm : Memory.wf m = true) (h : i < bs.length) :
    memGet (memWrite m a bs) (a + i) = bs[i] := by
  induction bs generalizing m a i with
  | nil => simp at h
  | cons x bs ih =>
    cases i with
    | zero =>
      rw [memWrite, memGet_memWrite_outside _ _ _ _ (by omega)]
      exact memGet_memSet_same a x hm
    | succ i =>
      have e : a + (i + 1) = (a + 1) + i := by omega
      rw [memWrite, e, ih (a + 1) i (memSet_wf a x hm) (by simpa using h)]
      rfl

/-! ## Operations of the module on memory -/

/-- Noting an error touches no memory. -/
@[simp] theorem eccNote_mem (h : Hw) (i b a t : Nat) (w : Who) (r : Bool) : (h.eccNote i b a t w r).mem = h.mem := by
  unfold Hw.eccNote
  dsimp only
  repeat' split
  all_goals rfl

@[simp] theorem eccFixed_mem (h : Hw) (b a t : Nat) (w : Who) (r : Bool) : (h.eccFixed b a t w r).mem = h.mem := by
  unfold Hw.eccFixed
  dsimp only
  split <;> exact eccNote_mem ..

@[simp] theorem eccLost_mem (h : Hw) (b a : Nat) (w : Who) : (h.eccLost b a w).mem = h.mem := eccNote_mem ..

/-- A read that meets stored errors keeps the canonical form. -/
theorem eccRead_wf {h : Hw} (w : Who) (k : Nat) (e : EccDev) (hm : Memory.wf h.mem = true) : Memory.wf (h.eccRead w k e).mem = true := by
  unfold Hw.eccRead
  split
  · exact hm
  · rw [eccFixed_mem]
    dsimp only
    repeat' split
    all_goals first | exact hm | exact flipWord_wf _ _ hm
  · rw [eccLost_mem]
    split <;> exact hm

theorem scan_wf {h : Hw} (w : Who) (a n : Nat) (hm : Memory.wf h.mem = true) : Memory.wf (h.scan w a n).1.mem = true := by
  have fold : ∀ (l : List (Nat × EccDev)) (g : Hw), Memory.wf g.mem = true →
      Memory.wf (l.foldl (fun g (k, e) => g.eccRead w k e) g).mem = true := by
    intro l
    induction l with
    | nil => exact fun g hg => hg
    | cons p l ih => exact fun g hg => ih _ (eccRead_wf _ _ _ hg)
  unfold Hw.scan
  split
  · exact hm
  · exact fold _ _ hm

theorem wrEcc_wf {h : Hw} (a n : Nat) (w : Who) (hm : Memory.wf h.mem = true) : Memory.wf (h.wrEcc a n w).mem = true := by
  unfold Hw.wrEcc
  split
  · exact hm
  · dsimp only
    split <;> split <;> first | exact hm | exact scan_wf _ _ _ hm | exact scan_wf _ _ _ (scan_wf _ _ _ hm)

theorem wrMem_wf {h : Hw} (a : Nat) (bs : List Byte) (hm : Memory.wf h.mem = true) : Memory.wf (h.wrMem a bs) = true := by
  unfold Hw.wrMem
  split
  · exact memWrite_wf _ _ hm
  · exact foldl_memSet_wf _ hm

/-- A store keeps the canonical form. -/
theorem wr_wf {h : Hw} (a : Nat) (bs : List Byte) (w : Who) (hm : Memory.wf h.mem = true) : Memory.wf (h.wr a bs w).mem = true := by
  unfold Hw.wr
  split
  · exact hm
  · exact wrMem_wf _ _ (wrEcc_wf _ _ _ hm)

end Sys2Proof.Machine
end

