-- ==== Sys2Proof/WellFormed.lean ====
section
/-!
DEFINITION. Which commands a sender can form: operands that the module's interfaces cannot carry are refused here.
-/
namespace Sys2Proof

/-- A safety pair (hart 16 to 18) issues 32-bit addresses (R18). -/
def pairAddr (hart : Fin 19) (addr : DWord) : Bool := decide (hart.val < 16) || decide (addr.toNat < 2 ^ 32)

/-- The scrubbers of an error block (Table 16.2, R708). -/
def scrubbers (b : Fin 14) : Nat := [1, 1, 1, 1, 4, 4, 3, 100, 4, 1, 1, 0, 64, 64].getD b.val 0

/-- A command that a sender can form. -/
def Instr.wf : Instr → Bool
  | .coreMemoryAccess _ hart addr lg st => pairAddr hart addr && (decide (hart.val < 16) || decide (lg.val < 3)) &&
    (match st with | some v => decide (v.toNat < 256 ^ 2 ^ lg.val) | none => true)
  | .unmappedAccess _ hart addr _ => pairAddr hart addr
  | .spAtomicAliasLoad _ _ addr => decide (0x40000000 ≤ addr.toNat) && decide (addr.toNat < 0x80000000) && decide (addr.toNat % 4 = 0)
  | .ownershipRequest _ line who => decide (line.toNat < 0x38000000) && !who.isEmpty && who.Nodup
  | .lineWriteback _ line _ => decide (line.toNat < 0x38000000)
  | .doorbellStore _ hart addr _ => pairAddr hart addr && decide (addr.toNat % 4 = 0)
  | .challengeAnswer _ _ _ sig => decide (sig.length = 64)
  | .sfeChannelReconfig _ _ port _ => (decide (326 ≤ port.val) && decide (port.val < 390)) || (decide (478 ≤ port.val) && decide (port.val < 494))
  | .sentFrame _ _ _ _ _ data _ _ => decide (1 ≤ data.length) && decide (data.length ≤ 6)
  | .canFrameReceived _ _ _ _ _ _ data _ => decide (data.length ≤ 64)
  | .linSlot _ _ _ _ _ _ data => decide (data.length ≤ 8)
  | .announceReceived _ _ _ _ ents _ _ => decide (ents.length ≤ 31)
  | .scrubWord _ b i _ => decide (i < scrubbers b)
  | .scrubBehind _ b i => decide (i < scrubbers b)
  | .sensorInputFault _ port _ _ => (decide (326 ≤ port.val) && decide (port.val < 390)) || (decide (478 ≤ port.val) && decide (port.val < 494))
  | .registerWrite .. | .registerReadClear .. | .loRegisterRead .. | .hiRegisterWrite .. | .combSingleBitCorrected ..
  | .combUncorrectable .. | .combTimeout .. | .lateResponseDiscard .. | .reservationTakesEffect .. | .visionPowerCap ..
  | .ppsEdge .. | .holdoverEntry .. | .domainCfgWrite .. | .domainEdge .. | .indexEdge .. | .domainStopTimeout ..
  | .fusionUpdateArrival .. | .heldUpdateApply .. | .eventIssue .. | .deferredValveStart .. | .slotArm .. | .slotDisarm ..
  | .slotCmdArm .. | .slotCmdRead .. | .slotCmdDisarm .. | .doorbellRead .. | .descriptorFetch .. | .completionWrite ..
  | .ringIrqTimer .. | .ringEnable .. | .ringDisable .. | .ringDrainDone .. | .ringReset .. | .copy .. | .blockFill ..
  | .layoutLoad .. | .start .. | .stop .. | .restart .. | .reconfigure .. | .stopDrainDone .. | .fillDoneRelease ..
  | .presenceLoss .. | .presenceReturn .. | .presenceLossTimeout .. | .presenceAssert .. | .retryTimerExpiry ..
  | .roundDecision .. | .loopedFrameDelivery .. | .cameraEnable .. | .cameraDisable .. | .cameraGeomWrite .. | .cameraLinkUp ..
  | .cameraLinkDown .. | .cameraTrainingRetry .. | .post .. | .reprocess .. | .profile .. | .cci .. | .cciTimeout ..
  | .frameStart .. | .frameEnd .. | .elasticBufferOverflow .. | .frameCapacityOverrun .. | .arrivalDeadline ..
  | .pipelinePassStart .. | .pipelinePassEnd .. | .processingDeadline .. | .converterSample .. | .spdEdgeCapture .. | .recbuf ..
  | .bufferFlushTimeout .. | .impactBegin .. | .impactEnd .. | .lossSampleStep .. | .lossWindowLengthEnd .. | .paddleFill ..
  | .cal .. | .width .. | .convert .. | .paddleRecord .. | .historyEntry .. | .yieldBinTimeout .. | .yieldEnable ..
  | .controlTick .. | .setpoint .. | .meas .. | .mode .. | .loopTableLoad .. | .inject .. | .capture .. | .readcap ..
  | .ctlSlotSelWrite .. | .recCmdWrite .. | .recCmdRead .. | .solEnable .. | .solDisable .. | .solprof .. | .solcur ..
  | .phaseEnd .. | .offtimeEnd .. | .timeToPeak .. | .solOvercurrent .. | .solFaultDetect .. | .drvHot .. | .clampLimit ..
  | .oilTempUpdate .. | .thermalModelStep .. | .lswEnable .. | .lswset .. | .currentLimitTimeout .. | .openOn .. | .offHigh ..
  | .overtemp .. | .overtempRestart .. | .lswFaultClear .. | .feedShed .. | .feedTrip .. | .tileFrame .. | .tileWatchdogExpiry ..
  | .watchdogPeriodStart .. | .watchdogPeriodEnd .. | .wdans .. | .arm .. | .fsLock .. | .dioEnable .. | .dioset .. | .diobuf ..
  | .counterFilterStep .. | .debounceExpiry .. | .filterChange .. | .dioOverload .. | .dioFaultDetect .. | .silent ..
  | .fanEnable .. | .fanset .. | .fantab .. | .tableModeEntry .. | .thermistorFault .. | .thermistorRelease ..
  | .fanOvercurrent .. | .stall .. | .stallRestart .. | .fanFaultDetect .. | .xn7200Measurement .. | .fusEnable .. | .detect ..
  | .fix .. | .init .. | .outbuf .. | .egoStep .. | .imuTimeout .. | .egoFaultExit .. | .gnssLost .. | .gnssHoldoffEnd ..
  | .fusionCycle .. | .sourceStale .. | .degradationRecover .. | .gnsAntEnable .. | .biasFault .. | .biasRetry .. | .chan ..
  | .gnssStop .. | .obsbuf .. | .clock .. | .acquisitionPeak .. | .trackReached .. | .pullInTimeout .. | .searchTimeout ..
  | .lossOfLock .. | .observableEpoch .. | .integrationEnd .. | .navSymbolRecord .. | .internalPpsInvalid .. | .ppsOutPulse ..
  | .canEnable .. | .canDisable .. | .canRestart .. | .busOffRecoveryDone .. | .fifoRecordWrite .. | .txset .. | .txreq ..
  | .canAbort .. | .canRxbuf .. | .linsched .. | .linpub .. | .canTransmitStart .. | .canTransmitEnd .. | .canArbLost ..
  | .canTxError .. | .addressClaim .. | .heartbeatSend .. | .watchTimeout .. | .linWake .. | .ethEnable .. | .ethDisable ..
  | .ethLinkChange .. | .ethLinkRetry .. | .txpkt .. | .ethRxbuf .. | .gcl .. | .gateListTakesEffect .. | .ethFrameSend ..
  | .ethFrameReceive .. | .gptpSync .. | .pdelayExchange .. | .swarmEnable .. | .swarmPeriod .. | .joinReceived ..
  | .joinTimeout .. | .leaderLost .. | .memErrLatchClear .. | .write .. | .readraw .. | .regionCreate .. | .regionEnableChange ..
  | .delete .. | .stoWrite .. | .stoRead .. | .trim .. | .dieLatencyWindow .. | .dieRetire .. | .append .. | .evrRead ..
  | .recorderScan .. | .diagEventRecord .. | .diagHeldRecord .. | .stage .. | .put .. | .apply .. | .activate ..
  | .activationComplete .. | .confirm .. | .grdAbort .. | .unlock .. | .getid .. | .hash .. | .random .. | .sign ..
  | .confirmWindowExpiry .. | .parkedFallback .. | .recoveryDatagram .. | .unlockExpiry .. | .newNonce .. | .lock ..
  | .ignitionRise .. | .startUp .. | .trainingRetry .. | .lowSupplyHalt .. | .visionResume .. | .brownout ..
  | .brownoutRecovery .. | .feedUv .. | .feedOv .. | .feedRecovery .. | .feedPowerUp .. | .softwareReset ..
  | .lockstepMismatch .. | .go .. | .autoSleep .. | .wake .. | .keepAliveMirror .. | .kaLoss .. | .rtcWrite .. | .smokerStep ..
  | .smokerAbandon .. | .tileTest .. | .smokerBehind .. | .enter .. | .plateCap .. | .plateAbove100 .. | .thermalShutdown ..
  | .plateSensorInvalid .. | .sup5CurrentLimit .. | .solFaultEnds .. | .dioOvertempRecovery .. | .dioOpenWireEnds ..
  | .fanDrvHotRecovery .. | .antennaBiasRecovery .. | .canRxError .. | .canBusIntegrated .. | .keepAlivePowerUp ..
  | .thermalRestart .. | .tapInstruction .. => true

end Sys2Proof
end

