-- ==== Sys2Proof/Laws/PerInstr.lean ====
section
/-!
SUPPORT. The family Operands, one lemma per command: a command that acts while the logic domain is off (R821) carries no operand
that its sender could not form.
-/
namespace Sys2Proof.Laws.Operands
open Sys2Proof Sys2Proof.Machine

/-- A command of the keep-alive domain is well formed whatever its operands. -/
def Statement (i : Instr) : Prop := keepAliveCmd i = true → i.wf = true

theorem registerWrite (dt : Nat) (hart : Fin 19) (page : Fin 20) (off : BitVec 16) (v : Word) : Statement (.registerWrite dt hart page off v) := nofun
theorem registerReadClear (dt : Nat) (hart : Fin 19) (page : Fin 20) (off : BitVec 16) : Statement (.registerReadClear dt hart page off) := nofun
theorem loRegisterRead (dt : Nat) (hart : Fin 19) (page : Fin 20) (off : BitVec 16) : Statement (.loRegisterRead dt hart page off) := nofun
theorem hiRegisterWrite (dt : Nat) (hart : Fin 19) (page : Fin 20) (off : BitVec 16) (v : Word) : Statement (.hiRegisterWrite dt hart page off v) := nofun
theorem coreMemoryAccess (dt : Nat) (hart : Fin 19) (addr : DWord) (lg : Fin 4) (st : Option DWord) : Statement (.coreMemoryAccess dt hart addr lg st) := nofun
theorem unmappedAccess (dt : Nat) (hart : Fin 19) (addr : DWord) (st : Option Word) : Statement (.unmappedAccess dt hart addr st) := nofun
theorem spAtomicAliasLoad (dt : Nat) (pair : Fin 3) (addr : Word) : Statement (.spAtomicAliasLoad dt pair addr) := nofun
theorem ownershipRequest (dt : Nat) (line : BitVec 36) (who : List OwnAgent) : Statement (.ownershipRequest dt line who) := nofun
theorem lineWriteback (dt : Nat) (line : BitVec 36) (c : Fin 4) : Statement (.lineWriteback dt line c) := nofun
theorem combSingleBitCorrected (dt : Nat) (stop : Fin 64) (off : BitVec 40) (b : Fin 72) : Statement (.combSingleBitCorrected dt stop off b) := nofun
theorem combUncorrectable (dt : Nat) (r : Requester) : Statement (.combUncorrectable dt r) := nofun
theorem combTimeout (dt : Nat) (r : Requester) : Statement (.combTimeout dt r) := nofun
theorem lateResponseDiscard (dt : Nat) : Statement (.lateResponseDiscard dt) := nofun
theorem reservationTakesEffect (dt : Nat) (p : Fin 8) : Statement (.reservationTakesEffect dt p) := nofun
theorem visionPowerCap (dt : Nat) (v : BitVec 16) : Statement (.visionPowerCap dt v) := nofun
theorem ppsEdge (dt : Nat) : Statement (.ppsEdge dt) := nofun
theorem holdoverEntry (dt : Nat) : Statement (.holdoverEntry dt) := nofun
theorem domainCfgWrite (dt : Nat) (hart : Fin 19) (i : Fin 16) (div : Bool) (v : Word) : Statement (.domainCfgWrite dt hart i div v) := nofun
theorem domainEdge (dt : Nat) (i : Fin 16) (level : Bool) : Statement (.domainEdge dt i level) := nofun
theorem indexEdge (dt : Nat) (i : Fin 16) : Statement (.indexEdge dt i) := nofun
theorem domainStopTimeout (dt : Nat) (i : Fin 16) : Statement (.domainStopTimeout dt i) := nofun
theorem fusionUpdateArrival (dt : Nat) (i : Fin 16) (level : Bool) : Statement (.fusionUpdateArrival dt i level) := nofun
theorem heldUpdateApply (dt : Nat) (i : Fin 16) (level : Bool) : Statement (.heldUpdateApply dt i level) := nofun
theorem eventIssue (dt : Nat) : Statement (.eventIssue dt) := nofun
theorem deferredValveStart (dt : Nat) (c : Fin 48) : Statement (.deferredValveStart dt c) := nofun
theorem slotArm (dt id : Nat) : Statement (.slotArm dt id) := nofun
theorem slotDisarm (dt id : Nat) : Statement (.slotDisarm dt id) := nofun
theorem slotCmdArm (dt : Nat) (hart : Fin 19) : Statement (.slotCmdArm dt hart) := nofun
theorem slotCmdRead (dt : Nat) (hart : Fin 19) : Statement (.slotCmdRead dt hart) := nofun
theorem slotCmdDisarm (dt : Nat) (hart : Fin 19) : Statement (.slotCmdDisarm dt hart) := nofun
theorem doorbellStore (dt : Nat) (hart : Fin 19) (addr : DWord) (v : Word) : Statement (.doorbellStore dt hart addr v) := nofun
theorem doorbellRead (dt : Nat) (r : Fin 1024) : Statement (.doorbellRead dt r) := nofun
theorem descriptorFetch (dt : Nat) (eng : Fin 13) : Statement (.descriptorFetch dt eng) := nofun
theorem completionWrite (dt : Nat) (op : Option Nat) : Statement (.completionWrite dt op) := nofun
theorem ringIrqTimer (dt : Nat) (r : Fin 1024) : Statement (.ringIrqTimer dt r) := nofun
theorem ringEnable (dt : Nat) (hart : Fin 19) (r : Fin 1024) (reset : Bool) : Statement (.ringEnable dt hart r reset) := nofun
theorem ringDisable (dt : Nat) (hart : Fin 19) (r : Fin 1024) : Statement (.ringDisable dt hart r) := nofun
theorem ringDrainDone (dt : Nat) (r : Fin 1024) : Statement (.ringDrainDone dt r) := nofun
theorem ringReset (dt : Nat) (hart : Fin 19) (r : Fin 1024) : Statement (.ringReset dt hart r) := nofun
theorem copy (dt id : Nat) : Statement (.copy dt id) := nofun
theorem blockFill (dt id : Nat) : Statement (.blockFill dt id) := nofun
theorem layoutLoad (dt : Nat) (hart : Fin 19) : Statement (.layoutLoad dt hart) := nofun
theorem start (dt : Nat) (hart : Fin 19) (p : Fin 8) : Statement (.start dt hart p) := nofun
theorem stop (dt : Nat) (hart : Fin 19) (p : Fin 8) : Statement (.stop dt hart p) := nofun
theorem restart (dt : Nat) (hart : Fin 19) (p : Fin 8) : Statement (.restart dt hart p) := nofun
theorem reconfigure (dt : Nat) (hart : Fin 19) (p : Fin 8) : Statement (.reconfigure dt hart p) := nofun
theorem stopDrainDone (dt : Nat) : Statement (.stopDrainDone dt) := nofun
theorem fillDoneRelease (dt : Nat) (p : Fin 8) : Statement (.fillDoneRelease dt p) := nofun
theorem presenceLoss (dt : Nat) : Statement (.presenceLoss dt) := nofun
theorem presenceReturn (dt : Nat) : Statement (.presenceReturn dt) := nofun
theorem presenceLossTimeout (dt : Nat) : Statement (.presenceLossTimeout dt) := nofun
theorem presenceAssert (dt : Nat) : Statement (.presenceAssert dt) := nofun
theorem retryTimerExpiry (dt : Nat) : Statement (.retryTimerExpiry dt) := nofun
theorem challengeAnswer (dt : Nat) (ident : BitVec 24) (sof : Nat) (sig : List Byte) : Statement (.challengeAnswer dt ident sof sig) := nofun
theorem roundDecision (dt : Nat) : Statement (.roundDecision dt) := nofun
theorem loopedFrameDelivery (dt : Nat) (b : Fin 128) : Statement (.loopedFrameDelivery dt b) := nofun
theorem cameraEnable (dt : Nat) (hart : Fin 19) (c : Fin 16) : Statement (.cameraEnable dt hart c) := nofun
theorem cameraDisable (dt : Nat) (hart : Fin 19) (c : Fin 16) : Statement (.cameraDisable dt hart c) := nofun
theorem cameraGeomWrite (dt : Nat) (hart : Fin 19) (c : Fin 16) (v : Word) : Statement (.cameraGeomWrite dt hart c v) := nofun
theorem cameraLinkUp (dt : Nat) (c : Fin 16) : Statement (.cameraLinkUp dt c) := nofun
theorem cameraLinkDown (dt : Nat) (c : Fin 16) : Statement (.cameraLinkDown dt c) := nofun
theorem cameraTrainingRetry (dt : Nat) (c : Fin 16) : Statement (.cameraTrainingRetry dt c) := nofun
theorem post (dt id : Nat) : Statement (.post dt id) := nofun
theorem reprocess (dt id : Nat) : Statement (.reprocess dt id) := nofun
theorem profile (dt id : Nat) : Statement (.profile dt id) := nofun
theorem cci (dt id : Nat) (ack : Bool) (data : List Byte) : Statement (.cci dt id ack data) := nofun
theorem cciTimeout (dt id : Nat) : Statement (.cciTimeout dt id) := nofun
theorem frameStart (dt : Nat) (c vc : Fin 16) (fmt : Fin 8) : Statement (.frameStart dt c vc fmt) := nofun
theorem frameEnd (dt : Nat) (c : Fin 16) (intact : Bool) (xs : List Nat) : Statement (.frameEnd dt c intact xs) := nofun
theorem elasticBufferOverflow (dt : Nat) : Statement (.elasticBufferOverflow dt) := nofun
theorem frameCapacityOverrun (dt : Nat) (c : Fin 16) : Statement (.frameCapacityOverrun dt c) := nofun
theorem arrivalDeadline (dt : Nat) (c : Fin 16) : Statement (.arrivalDeadline dt c) := nofun
theorem pipelinePassStart (dt : Nat) (k : Fin 2) : Statement (.pipelinePassStart dt k) := nofun
theorem pipelinePassEnd (dt : Nat) (k : Fin 2) : Statement (.pipelinePassEnd dt k) := nofun
theorem processingDeadline (dt : Nat) (c : Fin 16) : Statement (.processingDeadline dt c) := nofun
theorem converterSample (dt port : Nat) (vals : List Int) : Statement (.converterSample dt port vals) := nofun
theorem sfeChannelReconfig (dt : Nat) (hart : Fin 19) (port : Fin 512) (v : Word) : Statement (.sfeChannelReconfig dt hart port v) := nofun
theorem spdEdgeCapture (dt : Nat) (k : Fin 40) (partner : Bool) (width : Nat) : Statement (.spdEdgeCapture dt k partner width) := nofun
theorem sentFrame (dt : Nat) (k : Fin 16) (age tick : Nat) (status : Fin 16) (data : List (Fin 16)) (crcOk : Bool) (slow : Option (BitVec 8 × BitVec 16 × Bool)) : Statement (.sentFrame dt k age tick status data crcOk slow) := nofun
theorem recbuf (dt id : Nat) : Statement (.recbuf dt id) := nofun
theorem bufferFlushTimeout (dt id : Nat) : Statement (.bufferFlushTimeout dt id) := nofun
theorem impactBegin (dt : Nat) (c : Fin 48) : Statement (.impactBegin dt c) := nofun
theorem impactEnd (dt : Nat) (c : Fin 48) : Statement (.impactEnd dt c) := nofun
theorem lossSampleStep (dt : Nat) (w : Fin 16) : Statement (.lossSampleStep dt w) := nofun
theorem lossWindowLengthEnd (dt : Nat) (w : Fin 16) : Statement (.lossWindowLengthEnd dt w) := nofun
theorem paddleFill (dt id : Nat) : Statement (.paddleFill dt id) := nofun
theorem cal (dt id : Nat) : Statement (.cal dt id) := nofun
theorem width (dt id : Nat) : Statement (.width dt id) := nofun
theorem convert (dt id : Nat) : Statement (.convert dt id) := nofun
theorem paddleRecord (dt : Nat) : Statement (.paddleRecord dt) := nofun
theorem historyEntry (dt : Nat) : Statement (.historyEntry dt) := nofun
theorem yieldBinTimeout (dt : Nat) : Statement (.yieldBinTimeout dt) := nofun
theorem yieldEnable (dt : Nat) (hart : Fin 19) (v : Word) : Statement (.yieldEnable dt hart v) := nofun
theorem controlTick (dt : Nat) : Statement (.controlTick dt) := nofun
theorem setpoint (dt id : Nat) : Statement (.setpoint dt id) := nofun
theorem meas (dt id : Nat) : Statement (.meas dt id) := nofun
theorem mode (dt id : Nat) : Statement (.mode dt id) := nofun
theorem loopTableLoad (dt id : Nat) : Statement (.loopTableLoad dt id) := nofun
theorem inject (dt id : Nat) : Statement (.inject dt id) := nofun
theorem capture (dt id : Nat) : Statement (.capture dt id) := nofun
theorem readcap (dt id : Nat) : Statement (.readcap dt id) := nofun
theorem ctlSlotSelWrite (dt : Nat) (hart : Fin 19) (v : Word) : Statement (.ctlSlotSelWrite dt hart v) := nofun
theorem recCmdWrite (dt : Nat) (hart : Fin 19) : Statement (.recCmdWrite dt hart) := nofun
theorem recCmdRead (dt : Nat) (hart : Fin 19) : Statement (.recCmdRead dt hart) := nofun
theorem solEnable (dt : Nat) (hart : Fin 19) (c : Fin 48) (v : Word) : Statement (.solEnable dt hart c v) := nofun
theorem solDisable (dt : Nat) (hart : Fin 19) (c : Fin 48) (v : Word) : Statement (.solDisable dt hart c v) := nofun
theorem solprof (dt id : Nat) : Statement (.solprof dt id) := nofun
theorem solcur (dt id : Nat) : Statement (.solcur dt id) := nofun
theorem phaseEnd (dt : Nat) (c : Fin 48) (peak : Bool) : Statement (.phaseEnd dt c peak) := nofun
theorem offtimeEnd (dt : Nat) (c : Fin 48) : Statement (.offtimeEnd dt c) := nofun
theorem timeToPeak (dt : Nat) (c : Fin 48) (reached : Bool) : Statement (.timeToPeak dt c reached) := nofun
theorem solOvercurrent (dt : Nat) (c : Fin 48) : Statement (.solOvercurrent dt c) := nofun
theorem solFaultDetect (dt : Nat) (c : Fin 48) (kind : SolFaultKind) : Statement (.solFaultDetect dt c kind) := nofun
theorem drvHot (dt : Nat) (c : Fin 48) (hot : Bool) : Statement (.drvHot dt c hot) := nofun
theorem clampLimit (dt : Nat) (c : Fin 48) : Statement (.clampLimit dt c) := nofun
theorem oilTempUpdate (dt : Nat) : Statement (.oilTempUpdate dt) := nofun
theorem thermalModelStep (dt : Nat) (c : Fin 48) (duty vf i irms : Nat) : Statement (.thermalModelStep dt c duty vf i irms) := nofun
theorem lswEnable (dt : Nat) (hart : Fin 19) (c : Fin 96) (v : Word) : Statement (.lswEnable dt hart c v) := nofun
theorem lswset (dt id : Nat) : Statement (.lswset dt id) := nofun
theorem currentLimitTimeout (dt : Nat) (c : Fin 96) (dur : Nat) : Statement (.currentLimitTimeout dt c dur) := nofun
theorem openOn (dt : Nat) (c : Fin 96) : Statement (.openOn dt c) := nofun
theorem offHigh (dt : Nat) (c : Fin 96) : Statement (.offHigh dt c) := nofun
theorem overtemp (dt : Nat) (c : Fin 96) : Statement (.overtemp dt c) := nofun
theorem overtempRestart (dt : Nat) (c : Fin 96) : Statement (.overtempRestart dt c) := nofun
theorem lswFaultClear (dt : Nat) (hart : Fin 19) (c : Fin 96) (v : Word) (stillHot : Bool) : Statement (.lswFaultClear dt hart c v stillHot) := nofun
theorem feedShed (dt : Nat) (t : Fin 8) (mean inst : Nat) : Statement (.feedShed dt t mean inst) := nofun
theorem feedTrip (dt : Nat) (t : Fin 8) (inst dur : Nat) : Statement (.feedTrip dt t inst dur) := nofun
theorem tileFrame (dt : Nat) (t : Fin 8) (crcOk : Bool) (meas : List Meas) : Statement (.tileFrame dt t crcOk meas) := nofun
theorem tileWatchdogExpiry (dt : Nat) (t : Fin 8) : Statement (.tileWatchdogExpiry dt t) := nofun
theorem watchdogPeriodStart (dt : Nat) : Statement (.watchdogPeriodStart dt) := nofun
theorem watchdogPeriodEnd (dt : Nat) : Statement (.watchdogPeriodEnd dt) := nofun
theorem wdans (dt id : Nat) : Statement (.wdans dt id) := nofun
theorem arm (dt : Nat) (hart : Fin 19) (t : Fin 8) : Statement (.arm dt hart t) := nofun
theorem fsLock (dt : Nat) (hart : Fin 19) (t : Fin 8) : Statement (.fsLock dt hart t) := nofun
theorem dioEnable (dt : Nat) (hart : Fin 19) (c : Fin 128) (v : Word) : Statement (.dioEnable dt hart c v) := nofun
theorem dioset (dt id : Nat) : Statement (.dioset dt id) := nofun
theorem diobuf (dt id : Nat) : Statement (.diobuf dt id) := nofun
theorem counterFilterStep (dt : Nat) (c : Fin 128) (raw : Bool) (age : Nat) : Statement (.counterFilterStep dt c raw age) := nofun
theorem debounceExpiry (dt : Nat) (c : Fin 128) (raw : Bool) (stable : Nat) : Statement (.debounceExpiry dt c raw stable) := nofun
theorem filterChange (dt : Nat) (c : Fin 128) : Statement (.filterChange dt c) := nofun
theorem dioOverload (dt : Nat) (c : Fin 128) : Statement (.dioOverload dt c) := nofun
theorem dioFaultDetect (dt : Nat) (c : Fin 128) (kind : DioFaultKind) : Statement (.dioFaultDetect dt c kind) := nofun
theorem silent (dt : Nat) (t : Fin 2) : Statement (.silent dt t) := nofun
theorem fanEnable (dt : Nat) (hart : Fin 19) (n : Fin 8) (v : Word) : Statement (.fanEnable dt hart n v) := nofun
theorem fanset (dt id : Nat) : Statement (.fanset dt id) := nofun
theorem fantab (dt id : Nat) : Statement (.fantab dt id) := nofun
theorem tableModeEntry (dt : Nat) (n : Fin 8) : Statement (.tableModeEntry dt n) := nofun
theorem thermistorFault (dt : Nat) (n : Fin 8) : Statement (.thermistorFault dt n) := nofun
theorem thermistorRelease (dt : Nat) (n : Fin 8) : Statement (.thermistorRelease dt n) := nofun
theorem fanOvercurrent (dt : Nat) (n : Fin 8) : Statement (.fanOvercurrent dt n) := nofun
theorem stall (dt : Nat) (n : Fin 8) (dur : Nat) : Statement (.stall dt n dur) := nofun
theorem stallRestart (dt : Nat) (n : Fin 8) : Statement (.stallRestart dt n) := nofun
theorem fanFaultDetect (dt : Nat) (n : Fin 8) (kind : FanFaultKind) : Statement (.fanFaultDetect dt n kind) := nofun
theorem xn7200Measurement (dt : Nat) (n : Fin 8) (period : Option Nat) : Statement (.xn7200Measurement dt n period) := nofun
theorem fusEnable (dt : Nat) (hart : Fin 19) : Statement (.fusEnable dt hart) := nofun
theorem detect (dt id : Nat) : Statement (.detect dt id) := nofun
theorem fix (dt id : Nat) : Statement (.fix dt id) := nofun
theorem init (dt id : Nat) : Statement (.init dt id) := nofun
theorem outbuf (dt id : Nat) : Statement (.outbuf dt id) := nofun
theorem egoStep (dt : Nat) (l0 l1 : Bool) : Statement (.egoStep dt l0 l1) := nofun
theorem imuTimeout (dt : Nat) : Statement (.imuTimeout dt) := nofun
theorem egoFaultExit (dt : Nat) : Statement (.egoFaultExit dt) := nofun
theorem gnssLost (dt : Nat) : Statement (.gnssLost dt) := nofun
theorem gnssHoldoffEnd (dt : Nat) : Statement (.gnssHoldoffEnd dt) := nofun
theorem fusionCycle (dt : Nat) : Statement (.fusionCycle dt) := nofun
theorem sourceStale (dt : Nat) (src : Fin 16) : Statement (.sourceStale dt src) := nofun
theorem degradationRecover (dt : Nat) : Statement (.degradationRecover dt) := nofun
theorem gnsAntEnable (dt : Nat) (hart : Fin 19) (a : Fin 2) (v : Word) : Statement (.gnsAntEnable dt hart a v) := nofun
theorem biasFault (dt : Nat) (a : Fin 2) (short : Bool) : Statement (.biasFault dt a short) := nofun
theorem biasRetry (dt : Nat) (a : Fin 2) (still : Bool) : Statement (.biasRetry dt a still) := nofun
theorem chan (dt id : Nat) : Statement (.chan dt id) := nofun
theorem gnssStop (dt id : Nat) : Statement (.gnssStop dt id) := nofun
theorem obsbuf (dt id : Nat) : Statement (.obsbuf dt id) := nofun
theorem clock (dt id : Nat) : Statement (.clock dt id) := nofun
theorem acquisitionPeak (dt : Nat) (a : Fin 2) (i : Fin 64) (cn0 : BitVec 16) : Statement (.acquisitionPeak dt a i cn0) := nofun
theorem trackReached (dt : Nat) (a : Fin 2) (i : Fin 64) (b5 : Bool) (doppler code : Word) : Statement (.trackReached dt a i b5 doppler code) := nofun
theorem pullInTimeout (dt : Nat) (a : Fin 2) (i : Fin 64) : Statement (.pullInTimeout dt a i) := nofun
theorem searchTimeout (dt : Nat) (a : Fin 2) (i : Fin 64) : Statement (.searchTimeout dt a i) := nofun
theorem lossOfLock (dt : Nat) (a : Fin 2) (i : Fin 64) (b5 : Bool) : Statement (.lossOfLock dt a i b5) := nofun
theorem observableEpoch (dt : Nat) (ms : List GnsMeas) : Statement (.observableEpoch dt ms) := nofun
theorem integrationEnd (dt : Nat) (a : Fin 2) (i : Fin 64) (b5 : Bool) (iq : List Word) (sync : Bool) : Statement (.integrationEnd dt a i b5 iq sync) := nofun
theorem navSymbolRecord (dt : Nat) (a : Fin 2) (i : Fin 64) (b5 : Bool) (age : Nat) (syms : List Bool) : Statement (.navSymbolRecord dt a i b5 age syms) := nofun
theorem internalPpsInvalid (dt : Nat) : Statement (.internalPpsInvalid dt) := nofun
theorem ppsOutPulse (dt : Nat) : Statement (.ppsOutPulse dt) := nofun
theorem canEnable (dt : Nat) (hart : Fin 19) (n : Fin 16) (v : Word) : Statement (.canEnable dt hart n v) := nofun
theorem canDisable (dt : Nat) (hart : Fin 19) (n : Fin 16) (v : Word) : Statement (.canDisable dt hart n v) := nofun
theorem canRestart (dt : Nat) (hart : Fin 19) (n : Fin 16) : Statement (.canRestart dt hart n) := nofun
theorem busOffRecoveryDone (dt : Nat) (n : Fin 16) : Statement (.busOffRecoveryDone dt n) := nofun
theorem canFrameReceived (dt : Nat) (n : Fin 16) (idw : Word) (dlc : Fin 16) (rtr esi : Bool) (data : List Byte) (age : Nat) : Statement (.canFrameReceived dt n idw dlc rtr esi data age) := nofun
theorem fifoRecordWrite (dt : Nat) (n : Fin 16) : Statement (.fifoRecordWrite dt n) := nofun
theorem txset (dt id : Nat) : Statement (.txset dt id) := nofun
theorem txreq (dt id : Nat) : Statement (.txreq dt id) := nofun
theorem canAbort (dt id : Nat) : Statement (.canAbort dt id) := nofun
theorem canRxbuf (dt id : Nat) : Statement (.canRxbuf dt id) := nofun
theorem linsched (dt id : Nat) : Statement (.linsched dt id) := nofun
theorem linpub (dt id : Nat) : Statement (.linpub dt id) := nofun
theorem canTransmitStart (dt : Nat) (n : Fin 16) : Statement (.canTransmitStart dt n) := nofun
theorem canTransmitEnd (dt : Nat) (n : Fin 16) (tdcv : Fin 128) : Statement (.canTransmitEnd dt n tdcv) := nofun
theorem canArbLost (dt : Nat) (n : Fin 16) : Statement (.canArbLost dt n) := nofun
theorem canTxError (dt : Nat) (n : Fin 16) (counted : Bool) : Statement (.canTxError dt n counted) := nofun
theorem addressClaim (dt : Nat) (n : Fin 16) (ev : ClaimEv) : Statement (.addressClaim dt n ev) := nofun
theorem heartbeatSend (dt : Nat) (n : Fin 16) : Statement (.heartbeatSend dt n) := nofun
theorem watchTimeout (dt : Nat) (n : Fin 16) : Statement (.watchTimeout dt n) := nofun
theorem linSlot (dt : Nat) (c : Fin 2) (noResp chk bitErr frameErr : Bool) (data : List Byte) : Statement (.linSlot dt c noResp chk bitErr frameErr data) := nofun
theorem linWake (dt : Nat) (c : Fin 2) : Statement (.linWake dt c) := nofun
theorem ethEnable (dt : Nat) (hart : Fin 19) (n : Fin 12) (v : Word) : Statement (.ethEnable dt hart n v) := nofun
theorem ethDisable (dt : Nat) (hart : Fin 19) (n : Fin 12) (v : Word) : Statement (.ethDisable dt hart n v) := nofun
theorem ethLinkChange (dt : Nat) (n : Fin 12) (up : Bool) : Statement (.ethLinkChange dt n up) := nofun
theorem ethLinkRetry (dt : Nat) (n : Fin 12) : Statement (.ethLinkRetry dt n) := nofun
theorem txpkt (dt id : Nat) : Statement (.txpkt dt id) := nofun
theorem ethRxbuf (dt id : Nat) : Statement (.ethRxbuf dt id) := nofun
theorem gcl (dt id : Nat) : Statement (.gcl dt id) := nofun
theorem gateListTakesEffect (dt : Nat) (n : Fin 12) : Statement (.gateListTakesEffect dt n) := nofun
theorem ethFrameSend (dt : Nat) (n : Fin 12) : Statement (.ethFrameSend dt n) := nofun
theorem ethFrameReceive (dt : Nat) (n : Fin 12) (bs : List Byte) (fcsOk : Bool) (age : Nat) : Statement (.ethFrameReceive dt n bs fcsOk age) := nofun
theorem gptpSync (dt : Nat) (n : Fin 12) : Statement (.gptpSync dt n) := nofun
theorem pdelayExchange (dt : Nat) (n : Fin 12) (measured : Option Nat) : Statement (.pdelayExchange dt n measured) := nofun
theorem swarmEnable (dt : Nat) (hart : Fin 19) : Statement (.swarmEnable dt hart) := nofun
theorem swarmPeriod (dt : Nat) : Statement (.swarmPeriod dt) := nofun
theorem announceReceived (dt : Nat) (sender : BitVec 160) (field : Word) (tSend : DWord) (ents : List (BitVec 160 × DWord)) (age back : Nat) : Statement (.announceReceived dt sender field tSend ents age back) := nofun
theorem joinReceived (dt : Nat) (sender : BitVec 160) (field : Word) (leader : BitVec 160) (age : Nat) : Statement (.joinReceived dt sender field leader age) := nofun
theorem joinTimeout (dt : Nat) : Statement (.joinTimeout dt) := nofun
theorem leaderLost (dt : Nat) : Statement (.leaderLost dt) := nofun
theorem scrubWord (dt : Nat) (b : Fin 14) (i : Nat) (found : ScrubFind) : Statement (.scrubWord dt b i found) := nofun
theorem scrubBehind (dt : Nat) (b : Fin 14) (i : Nat) : Statement (.scrubBehind dt b i) := nofun
theorem memErrLatchClear (dt : Nat) (hart : Fin 19) : Statement (.memErrLatchClear dt hart) := nofun
theorem write (dt : Nat) (hart : Fin 19) : Statement (.write dt hart) := nofun
theorem readraw (dt : Nat) (hart : Fin 19) : Statement (.readraw dt hart) := nofun
theorem regionCreate (dt : Nat) (hart : Fin 19) (r : Fin 16) (v : Word) : Statement (.regionCreate dt hart r v) := nofun
theorem regionEnableChange (dt : Nat) (hart : Fin 19) (r : Fin 16) (v : Word) : Statement (.regionEnableChange dt hart r v) := nofun
theorem delete (dt : Nat) (hart : Fin 19) (r : Fin 16) : Statement (.delete dt hart r) := nofun
theorem stoWrite (dt id gb : Nat) : Statement (.stoWrite dt id gb) := nofun
theorem stoRead (dt id : Nat) (bad : List Nat) : Statement (.stoRead dt id bad) := nofun
theorem trim (dt id : Nat) : Statement (.trim dt id) := nofun
theorem dieLatencyWindow (dt : Nat) (slow : List (Fin 128)) : Statement (.dieLatencyWindow dt slow) := nofun
theorem dieRetire (dt : Nat) (d : Fin 128) (gb : Nat) : Statement (.dieRetire dt d gb) := nofun
theorem append (dt id : Nat) : Statement (.append dt id) := nofun
theorem evrRead (dt id : Nat) : Statement (.evrRead dt id) := nofun
theorem recorderScan (dt torn : Nat) : Statement (.recorderScan dt torn) := nofun
theorem diagEventRecord (dt : Nat) : Statement (.diagEventRecord dt) := nofun
theorem diagHeldRecord (dt : Nat) (ty inst : BitVec 16) : Statement (.diagHeldRecord dt ty inst) := nofun
theorem stage (dt id : Nat) : Statement (.stage dt id) := nofun
theorem put (dt id : Nat) : Statement (.put dt id) := nofun
theorem apply (dt id : Nat) : Statement (.apply dt id) := nofun
theorem activate (dt id : Nat) : Statement (.activate dt id) := nofun
theorem activationComplete (dt : Nat) : Statement (.activationComplete dt) := nofun
theorem confirm (dt id : Nat) : Statement (.confirm dt id) := nofun
theorem grdAbort (dt id : Nat) : Statement (.grdAbort dt id) := nofun
theorem unlock (dt id : Nat) : Statement (.unlock dt id) := nofun
theorem getid (dt id : Nat) : Statement (.getid dt id) := nofun
theorem hash (dt id : Nat) : Statement (.hash dt id) := nofun
theorem random (dt id : Nat) : Statement (.random dt id) := nofun
theorem sign (dt id : Nat) : Statement (.sign dt id) := nofun
theorem confirmWindowExpiry (dt : Nat) : Statement (.confirmWindowExpiry dt) := nofun
theorem parkedFallback (dt : Nat) : Statement (.parkedFallback dt) := nofun
theorem recoveryDatagram (dt : Nat) (bytes : List Byte) : Statement (.recoveryDatagram dt bytes) := nofun
theorem unlockExpiry (dt : Nat) : Statement (.unlockExpiry dt) := nofun
theorem newNonce (dt : Nat) (hart : Fin 19) : Statement (.newNonce dt hart) := nofun
theorem lock (dt : Nat) (hart : Fin 19) : Statement (.lock dt hart) := nofun
theorem ignitionRise (dt : Nat) : Statement (.ignitionRise dt) := fun _ => rfl
theorem startUp (dt : Nat) (x : StartIn) : Statement (.startUp dt x) := fun _ => rfl
theorem trainingRetry (dt : Nat) (x : StartIn) : Statement (.trainingRetry dt x) := fun _ => rfl
theorem lowSupplyHalt (dt : Nat) (v : BitVec 16) : Statement (.lowSupplyHalt dt v) := nofun
theorem visionResume (dt : Nat) (v : BitVec 16) : Statement (.visionResume dt v) := nofun
theorem brownout (dt : Nat) (v : BitVec 16) : Statement (.brownout dt v) := fun _ => rfl
theorem brownoutRecovery (dt : Nat) (v : BitVec 16) (w : WakeIn) : Statement (.brownoutRecovery dt v w) := fun _ => rfl
theorem feedUv (dt : Nat) (t : Fin 8) (v : BitVec 16) : Statement (.feedUv dt t v) := fun _ => rfl
theorem feedOv (dt : Nat) (t : Fin 8) (v : BitVec 16) : Statement (.feedOv dt t v) := fun _ => rfl
theorem feedRecovery (dt : Nat) (t : Fin 8) (v : BitVec 16) : Statement (.feedRecovery dt t v) := fun _ => rfl
theorem feedPowerUp (dt : Nat) (t : Fin 8) : Statement (.feedPowerUp dt t) := fun _ => rfl
theorem softwareReset (dt : Nat) (hart : Fin 19) (v : Word) : Statement (.softwareReset dt hart v) := nofun
theorem lockstepMismatch (dt : Nat) (pair : Fin 3) : Statement (.lockstepMismatch dt pair) := nofun
theorem go (dt : Nat) (hart : Fin 19) (w : WakeIn) : Statement (.go dt hart w) := nofun
theorem autoSleep (dt : Nat) (w : WakeIn) : Statement (.autoSleep dt w) := nofun
theorem wake (dt : Nat) (w : WakeIn) : Statement (.wake dt w) := fun _ => rfl
theorem keepAliveMirror (dt : Nat) : Statement (.keepAliveMirror dt) := fun _ => rfl
theorem kaLoss (dt : Nat) (logic : Bool) : Statement (.kaLoss dt logic) := fun _ => rfl
theorem rtcWrite (dt : Nat) (hart : Fin 19) (v : Word) : Statement (.rtcWrite dt hart v) := nofun
theorem smokerStep (dt : Nat) (x : SmkStep) : Statement (.smokerStep dt x) := nofun
theorem smokerAbandon (dt : Nat) : Statement (.smokerAbandon dt) := nofun
theorem tileTest (dt : Nat) (t : Fin 100) (ev : TileEv) : Statement (.tileTest dt t ev) := nofun
theorem smokerBehind (dt : Nat) : Statement (.smokerBehind dt) := nofun
theorem enter (dt : Nat) (hart : Fin 19) : Statement (.enter dt hart) := nofun
theorem plateCap (dt : Nat) (a b : BitVec 16) : Statement (.plateCap dt a b) := nofun
theorem plateAbove100 (dt : Nat) (a b : BitVec 16) : Statement (.plateAbove100 dt a b) := nofun
theorem thermalShutdown (dt : Nat) (a b : BitVec 16) : Statement (.thermalShutdown dt a b) := nofun
theorem plateSensorInvalid (dt : Nat) (a b : BitVec 16) : Statement (.plateSensorInvalid dt a b) := nofun
theorem sup5CurrentLimit (dt : Nat) (j : Fin 4) (lim : Bool) : Statement (.sup5CurrentLimit dt j lim) := nofun
theorem sensorInputFault (dt : Nat) (port : Fin 512) (openWire range : Bool) : Statement (.sensorInputFault dt port openWire range) := nofun
theorem solFaultEnds (dt : Nat) (c : Fin 48) (kind : SolFaultKind) : Statement (.solFaultEnds dt c kind) := nofun
theorem dioOvertempRecovery (dt : Nat) (c : Fin 128) : Statement (.dioOvertempRecovery dt c) := nofun
theorem dioOpenWireEnds (dt : Nat) (c : Fin 128) : Statement (.dioOpenWireEnds dt c) := nofun
theorem fanDrvHotRecovery (dt : Nat) (n : Fin 8) : Statement (.fanDrvHotRecovery dt n) := nofun
theorem antennaBiasRecovery (dt : Nat) (a : Fin 2) : Statement (.antennaBiasRecovery dt a) := nofun
theorem canRxError (dt : Nat) (n : Fin 16) (by8 : Bool) : Statement (.canRxError dt n by8) := nofun
theorem canBusIntegrated (dt : Nat) (n : Fin 16) : Statement (.canBusIntegrated dt n) := nofun
theorem keepAlivePowerUp (dt : Nat) : Statement (.keepAlivePowerUp dt) := fun _ => rfl
theorem thermalRestart (dt : Nat) (t : BitVec 16) (w : WakeIn) : Statement (.thermalRestart dt t w) := fun _ => rfl
theorem tapInstruction (dt : Nat) (ir : TapIr) : Statement (.tapInstruction dt ir) := nofun

end Sys2Proof.Laws.Operands
end

