-- ==== Sys2Proof/Laws/Registers.lean ====
section
/-!
SUPPORT. Laws of register fields: a field reads as it was put, and other fields and registers keep their values (R897).
-/
namespace Sys2Proof.Machine

@[simp] theorem reg_setReg_same (h : Hw) (a : Nat) (v : BitVec 32) : (h.setReg a v).reg a = v := by
  simp [Hw.reg, Hw.setReg]

theorem reg_setReg_other (h : Hw) (a b : Nat) (v : BitVec 32) (hn : a ≠ b) : (h.setReg a v).reg b = h.reg b := by
  simp [Hw.reg, Hw.setReg, mget_mset_other _ _ _ _ hn]

theorem reg_put_same (h : Hw) (f : Fld) (v i j : Nat) : (h.put f v i j).reg (f.at i j) =
    ((h.reg (f.at i j) &&& ~~~ f.mask) ||| ((BitVec.ofNat f.w v).setWidth 32 <<< f.lo)) := by simp [Hw.put]

theorem reg_put_other (h : Hw) (f : Fld) (v i j b : Nat) (hn : f.at i j ≠ b) : (h.put f v i j).reg b = h.reg b :=
  reg_setReg_other _ _ _ _ hn

/-- A field reads as it was put, within its width. -/
theorem get_put_same (h : Hw) (f : Fld) (v i j : Nat) (hf : f.lo + f.w ≤ 32 := by decide) :
    (h.put f v i j).get f i j = v % 2 ^ f.w := by
  have e : ((h.reg (f.at i j) &&& ~~~ f.mask) ||| ((BitVec.ofNat f.w v).setWidth 32 <<< f.lo)).extractLsb' f.lo f.w
      = BitVec.ofNat f.w v := by
    apply BitVec.eq_of_getLsbD_eq
    intro k hk
    have a1 : k < 32 := by omega
    have a2 : f.lo + k < 32 := by omega
    simp only [BitVec.getLsbD_extractLsb', BitVec.getLsbD_or, BitVec.getLsbD_and, BitVec.getLsbD_not, Fld.mask,
      BitVec.getLsbD_shiftLeft, BitVec.getLsbD_setWidth, BitVec.getLsbD_allOnes]
    have c1 : ¬ f.lo + k < f.lo := by omega
    simp [hk, a2, a1, c1]
  simp only [Hw.get, reg_put_same, e, BitVec.toNat_ofNat]

/-- A put leaves the fields of other registers alone. -/
theorem get_put_other (h : Hw) (f g : Fld) (v i j k l : Nat) (hn : f.at i j ≠ g.at k l) : (h.put f v i j).get g k l = h.get g k l := by
  simp only [Hw.get, reg_put_other _ _ _ _ _ _ hn]

/-- A put leaves the other fields of its register alone. -/
theorem get_put_disjoint (h : Hw) (f g : Fld) (v i j k l : Nat) (hd : f.lo + f.w ≤ g.lo ∨ g.lo + g.w ≤ f.lo) (hg : g.lo + g.w ≤ 32) :
    (h.put f v i j).get g k l = h.get g k l := by
  by_cases hn : f.at i j = g.at k l
  · have e : ((h.reg (f.at i j) &&& ~~~ f.mask) ||| ((BitVec.ofNat f.w v).setWidth 32 <<< f.lo)).extractLsb' g.lo g.w
        = (h.reg (f.at i j)).extractLsb' g.lo g.w := by
      apply BitVec.eq_of_getLsbD_eq
      intro b hb
      have a2 : g.lo + b < 32 := by omega
      simp only [BitVec.getLsbD_extractLsb', BitVec.getLsbD_or, BitVec.getLsbD_and, BitVec.getLsbD_not, Fld.mask,
        BitVec.getLsbD_shiftLeft, BitVec.getLsbD_setWidth, BitVec.getLsbD_allOnes, BitVec.getLsbD_ofNat]
      rcases hd with hd | hd
      · have c1 : ¬ g.lo + b < f.lo := by omega
        have c2 : ¬ g.lo + b - f.lo < f.w := by omega
        simp [hb, a2, c1, c2]
      · have c1 : g.lo + b < f.lo := by omega
        simp [hb, a2, c1]
    simp only [Hw.get, ← hn, reg_put_same, e]
  · exact get_put_other _ _ _ _ _ _ _ _ hn

/-- A value within the field's width reads back whole. -/
theorem get_put_fits (h : Hw) (f : Fld) (v i j : Nat) (hv : v < 2 ^ f.w) (hf : f.lo + f.w ≤ 32 := by decide) :
    (h.put f v i j).get f i j = v := by rw [get_put_same h f v i j hf, Nat.mod_eq_of_lt hv]

/-- A field's value lies within its width. -/
theorem get_lt (h : Hw) (f : Fld) (i j : Nat) : h.get f i j < 2 ^ f.w := BitVec.isLt _

/-- A counter goes up by one until it is full. -/
theorem get_bump_same (h : Hw) (f : Fld) (i j b : Nat) (hf : f.lo + f.w ≤ 32 := by decide) :
    (h.bump f i j b).get f i j = min (h.get f i j + b) (2 ^ f.w - 1) := by
  unfold Hw.bump
  rw [get_put_fits _ _ _ _ _ _ hf]
  · rfl
  · have := Nat.two_pow_pos f.w
    simp only [satN]
    omega

theorem get_bump_other (h : Hw) (f g : Fld) (i j b k l : Nat) (hn : f.at i j ≠ g.at k l) : (h.bump f i j b).get g k l = h.get g k l :=
  get_put_other _ _ _ _ _ _ _ _ hn

end Sys2Proof.Machine
end

