-- ==== Sys2Proof/Laws/State.lean ====
section
/-!
SUPPORT. What each named operation leaves alone: one lemma for each operation and field of the state, and the shape of a command's
answer.
-/
namespace Sys2Proof.Machine

/-! ## The two parts of the state -/

@[simp] theorem State.with_hw_pending (s : State) (h : Hw) : { s with hw := h }.pending = s.pending := rfl
@[simp] theorem State.with_hw_hw (s : State) (h : Hw) : { s with hw := h }.hw = h := rfl
@[simp] theorem State.with_pending_hw (s : State) (q : List Instr) : { s with pending := q }.hw = s.hw := rfl
@[simp] theorem State.with_pending_pending (s : State) (q : List Instr) : { s with pending := q }.pending = q := rfl

/-! ## Commands -/

/-- A command of the logic domain while it is on. -/
theorem run_on (dt : Nat) (s : State) (act : Hw → Hw) (h : s.hw.isOn = true) : run dt s act = .next { s with hw := act (s.hw.elapse dt) } := by
  have e : (s.hw.elapse dt).isOn = true := h
  simp [run, e]

/-- A command of the logic domain while it is off: only time passes. -/
theorem run_off (dt : Nat) (s : State) (act : Hw → Hw) (h : s.hw.isOn = false) : run dt s act = .next { s with hw := s.hw.elapse dt } := by
  have e : (s.hw.elapse dt).isOn = false := h
  simp [run, e]

@[simp] theorem elapse_isOn (h : Hw) (dt : Nat) : (h.elapse dt).isOn = h.isOn := rfl
@[simp] theorem elapse_reg (h : Hw) (dt a : Nat) : (h.elapse dt).reg a = h.reg a := rfl
@[simp] theorem elapse_get (h : Hw) (dt : Nat) (f : Fld) (i j : Nat) : (h.elapse dt).get f i j = h.get f i j := rfl
@[simp] theorem elapse_flag (h : Hw) (dt : Nat) (f : Fld) (i j : Nat) : (h.elapse dt).flag f i j = h.flag f i j := rfl
@[simp] theorem elapse_now (h : Hw) (dt : Nat) : (h.elapse dt).now = h.now + dt := rfl

/-- The front of the queue is what a step runs. -/
theorem step_cons (c : Instr) (q : List Instr) (h : Hw) : step ⟨c :: q, h⟩ = exec c ⟨q, h⟩ := rfl

/-! ## Fields -/

@[simp] theorem setReg_shadow (h : Hw) (a : Nat) (v : BitVec 32) : (h.setReg a v).shadow = h.shadow := rfl
@[simp] theorem setReg_pendLo (h : Hw) (a : Nat) (v : BitVec 32) : (h.setReg a v).pendLo = h.pendLo := rfl
@[simp] theorem setReg_mem (h : Hw) (a : Nat) (v : BitVec 32) : (h.setReg a v).mem = h.mem := rfl
@[simp] theorem setReg_ecc (h : Hw) (a : Nat) (v : BitVec 32) : (h.setReg a v).ecc = h.ecc := rfl
@[simp] theorem setReg_eccAt (h : Hw) (a : Nat) (v : BitVec 32) : (h.setReg a v).eccAt = h.eccAt := rfl
@[simp] theorem setReg_dir (h : Hw) (a : Nat) (v : BitVec 32) : (h.setReg a v).dir = h.dir := rfl
@[simp] theorem setReg_dirSeq (h : Hw) (a : Nat) (v : BitVec 32) : (h.setReg a v).dirSeq = h.dirSeq := rfl
@[simp] theorem setReg_scrubs (h : Hw) (a : Nat) (v : BitVec 32) : (h.setReg a v).scrubs = h.scrubs := rfl
@[simp] theorem setReg_rdata (h : Hw) (a : Nat) (v : BitVec 32) : (h.setReg a v).rdata = h.rdata := rfl
@[simp] theorem setReg_rfault (h : Hw) (a : Nat) (v : BitVec 32) : (h.setReg a v).rfault = h.rfault := rfl
@[simp] theorem setReg_irqs (h : Hw) (a : Nat) (v : BitVec 32) : (h.setReg a v).irqs = h.irqs := rfl
@[simp] theorem setReg_diag (h : Hw) (a : Nat) (v : BitVec 32) : (h.setReg a v).diag = h.diag := rfl
@[simp] theorem setReg_freeCtr (h : Hw) (a : Nat) (v : BitVec 32) : (h.setReg a v).freeCtr = h.freeCtr := rfl
@[simp] theorem setReg_rng (h : Hw) (a : Nat) (v : BitVec 32) : (h.setReg a v).rng = h.rng := rfl
@[simp] theorem setReg_wgl (h : Hw) (a : Nat) (v : BitVec 32) : (h.setReg a v).wgl = h.wgl := rfl
@[simp] theorem setReg_prp (h : Hw) (a : Nat) (v : BitVec 32) : (h.setReg a v).prp = h.prp := rfl
@[simp] theorem setReg_img (h : Hw) (a : Nat) (v : BitVec 32) : (h.setReg a v).img = h.img := rfl
@[simp] theorem setReg_bufs (h : Hw) (a : Nat) (v : BitVec 32) : (h.setReg a v).bufs = h.bufs := rfl
@[simp] theorem setReg_sfe (h : Hw) (a : Nat) (v : BitVec 32) : (h.setReg a v).sfe = h.sfe := rfl
@[simp] theorem setReg_yld (h : Hw) (a : Nat) (v : BitVec 32) : (h.setReg a v).yld = h.yld := rfl
@[simp] theorem setReg_ctl (h : Hw) (a : Nat) (v : BitVec 32) : (h.setReg a v).ctl = h.ctl := rfl
@[simp] theorem setReg_til (h : Hw) (a : Nat) (v : BitVec 32) : (h.setReg a v).til = h.til := rfl
@[simp] theorem setReg_vlv (h : Hw) (a : Nat) (v : BitVec 32) : (h.setReg a v).vlv = h.vlv := rfl
@[simp] theorem setReg_dios (h : Hw) (a : Nat) (v : BitVec 32) : (h.setReg a v).dios = h.dios := rfl
@[simp] theorem setReg_fans (h : Hw) (a : Nat) (v : BitVec 32) : (h.setReg a v).fans = h.fans := rfl
@[simp] theorem setReg_fus (h : Hw) (a : Nat) (v : BitVec 32) : (h.setReg a v).fus = h.fus := rfl
@[simp] theorem setReg_gns (h : Hw) (a : Nat) (v : BitVec 32) : (h.setReg a v).gns = h.gns := rfl
@[simp] theorem setReg_can (h : Hw) (a : Nat) (v : BitVec 32) : (h.setReg a v).can = h.can := rfl
@[simp] theorem setReg_eth (h : Hw) (a : Nat) (v : BitVec 32) : (h.setReg a v).eth = h.eth := rfl
@[simp] theorem setReg_sto (h : Hw) (a : Nat) (v : BitVec 32) : (h.setReg a v).sto = h.sto := rfl
@[simp] theorem setReg_evr (h : Hw) (a : Nat) (v : BitVec 32) : (h.setReg a v).evr = h.evr := rfl
@[simp] theorem setReg_grd (h : Hw) (a : Nat) (v : BitVec 32) : (h.setReg a v).grd = h.grd := rfl
@[simp] theorem setReg_smk (h : Hw) (a : Nat) (v : BitVec 32) : (h.setReg a v).smk = h.smk := rfl
@[simp] theorem setReg_pwr (h : Hw) (a : Nat) (v : BitVec 32) : (h.setReg a v).pwr = h.pwr := rfl

@[simp] theorem put_shadow (h : Hw) (f : Fld) (v i j : Nat) : (h.put f v i j).shadow = h.shadow := rfl
@[simp] theorem put_pendLo (h : Hw) (f : Fld) (v i j : Nat) : (h.put f v i j).pendLo = h.pendLo := rfl
@[simp] theorem put_mem (h : Hw) (f : Fld) (v i j : Nat) : (h.put f v i j).mem = h.mem := rfl
@[simp] theorem put_ecc (h : Hw) (f : Fld) (v i j : Nat) : (h.put f v i j).ecc = h.ecc := rfl
@[simp] theorem put_eccAt (h : Hw) (f : Fld) (v i j : Nat) : (h.put f v i j).eccAt = h.eccAt := rfl
@[simp] theorem put_dir (h : Hw) (f : Fld) (v i j : Nat) : (h.put f v i j).dir = h.dir := rfl
@[simp] theorem put_dirSeq (h : Hw) (f : Fld) (v i j : Nat) : (h.put f v i j).dirSeq = h.dirSeq := rfl
@[simp] theorem put_scrubs (h : Hw) (f : Fld) (v i j : Nat) : (h.put f v i j).scrubs = h.scrubs := rfl
@[simp] theorem put_rdata (h : Hw) (f : Fld) (v i j : Nat) : (h.put f v i j).rdata = h.rdata := rfl
@[simp] theorem put_rfault (h : Hw) (f : Fld) (v i j : Nat) : (h.put f v i j).rfault = h.rfault := rfl
@[simp] theorem put_irqs (h : Hw) (f : Fld) (v i j : Nat) : (h.put f v i j).irqs = h.irqs := rfl
@[simp] theorem put_diag (h : Hw) (f : Fld) (v i j : Nat) : (h.put f v i j).diag = h.diag := rfl
@[simp] theorem put_freeCtr (h : Hw) (f : Fld) (v i j : Nat) : (h.put f v i j).freeCtr = h.freeCtr := rfl
@[simp] theorem put_rng (h : Hw) (f : Fld) (v i j : Nat) : (h.put f v i j).rng = h.rng := rfl
@[simp] theorem put_wgl (h : Hw) (f : Fld) (v i j : Nat) : (h.put f v i j).wgl = h.wgl := rfl
@[simp] theorem put_prp (h : Hw) (f : Fld) (v i j : Nat) : (h.put f v i j).prp = h.prp := rfl
@[simp] theorem put_img (h : Hw) (f : Fld) (v i j : Nat) : (h.put f v i j).img = h.img := rfl
@[simp] theorem put_bufs (h : Hw) (f : Fld) (v i j : Nat) : (h.put f v i j).bufs = h.bufs := rfl
@[simp] theorem put_sfe (h : Hw) (f : Fld) (v i j : Nat) : (h.put f v i j).sfe = h.sfe := rfl
@[simp] theorem put_yld (h : Hw) (f : Fld) (v i j : Nat) : (h.put f v i j).yld = h.yld := rfl
@[simp] theorem put_ctl (h : Hw) (f : Fld) (v i j : Nat) : (h.put f v i j).ctl = h.ctl := rfl
@[simp] theorem put_til (h : Hw) (f : Fld) (v i j : Nat) : (h.put f v i j).til = h.til := rfl
@[simp] theorem put_vlv (h : Hw) (f : Fld) (v i j : Nat) : (h.put f v i j).vlv = h.vlv := rfl
@[simp] theorem put_dios (h : Hw) (f : Fld) (v i j : Nat) : (h.put f v i j).dios = h.dios := rfl
@[simp] theorem put_fans (h : Hw) (f : Fld) (v i j : Nat) : (h.put f v i j).fans = h.fans := rfl
@[simp] theorem put_fus (h : Hw) (f : Fld) (v i j : Nat) : (h.put f v i j).fus = h.fus := rfl
@[simp] theorem put_gns (h : Hw) (f : Fld) (v i j : Nat) : (h.put f v i j).gns = h.gns := rfl
@[simp] theorem put_can (h : Hw) (f : Fld) (v i j : Nat) : (h.put f v i j).can = h.can := rfl
@[simp] theorem put_eth (h : Hw) (f : Fld) (v i j : Nat) : (h.put f v i j).eth = h.eth := rfl
@[simp] theorem put_sto (h : Hw) (f : Fld) (v i j : Nat) : (h.put f v i j).sto = h.sto := rfl
@[simp] theorem put_evr (h : Hw) (f : Fld) (v i j : Nat) : (h.put f v i j).evr = h.evr := rfl
@[simp] theorem put_grd (h : Hw) (f : Fld) (v i j : Nat) : (h.put f v i j).grd = h.grd := rfl
@[simp] theorem put_smk (h : Hw) (f : Fld) (v i j : Nat) : (h.put f v i j).smk = h.smk := rfl
@[simp] theorem put_pwr (h : Hw) (f : Fld) (v i j : Nat) : (h.put f v i j).pwr = h.pwr := rfl

@[simp] theorem putS_shadow (h : Hw) (f : Fld) (v : Int) (i j : Nat) : (h.putS f v i j).shadow = h.shadow := rfl
@[simp] theorem putS_pendLo (h : Hw) (f : Fld) (v : Int) (i j : Nat) : (h.putS f v i j).pendLo = h.pendLo := rfl
@[simp] theorem putS_mem (h : Hw) (f : Fld) (v : Int) (i j : Nat) : (h.putS f v i j).mem = h.mem := rfl
@[simp] theorem putS_ecc (h : Hw) (f : Fld) (v : Int) (i j : Nat) : (h.putS f v i j).ecc = h.ecc := rfl
@[simp] theorem putS_eccAt (h : Hw) (f : Fld) (v : Int) (i j : Nat) : (h.putS f v i j).eccAt = h.eccAt := rfl
@[simp] theorem putS_dir (h : Hw) (f : Fld) (v : Int) (i j : Nat) : (h.putS f v i j).dir = h.dir := rfl
@[simp] theorem putS_dirSeq (h : Hw) (f : Fld) (v : Int) (i j : Nat) : (h.putS f v i j).dirSeq = h.dirSeq := rfl
@[simp] theorem putS_scrubs (h : Hw) (f : Fld) (v : Int) (i j : Nat) : (h.putS f v i j).scrubs = h.scrubs := rfl
@[simp] theorem putS_rdata (h : Hw) (f : Fld) (v : Int) (i j : Nat) : (h.putS f v i j).rdata = h.rdata := rfl
@[simp] theorem putS_rfault (h : Hw) (f : Fld) (v : Int) (i j : Nat) : (h.putS f v i j).rfault = h.rfault := rfl
@[simp] theorem putS_irqs (h : Hw) (f : Fld) (v : Int) (i j : Nat) : (h.putS f v i j).irqs = h.irqs := rfl
@[simp] theorem putS_diag (h : Hw) (f : Fld) (v : Int) (i j : Nat) : (h.putS f v i j).diag = h.diag := rfl
@[simp] theorem putS_freeCtr (h : Hw) (f : Fld) (v : Int) (i j : Nat) : (h.putS f v i j).freeCtr = h.freeCtr := rfl
@[simp] theorem putS_rng (h : Hw) (f : Fld) (v : Int) (i j : Nat) : (h.putS f v i j).rng = h.rng := rfl
@[simp] theorem putS_wgl (h : Hw) (f : Fld) (v : Int) (i j : Nat) : (h.putS f v i j).wgl = h.wgl := rfl
@[simp] theorem putS_prp (h : Hw) (f : Fld) (v : Int) (i j : Nat) : (h.putS f v i j).prp = h.prp := rfl
@[simp] theorem putS_img (h : Hw) (f : Fld) (v : Int) (i j : Nat) : (h.putS f v i j).img = h.img := rfl
@[simp] theorem putS_bufs (h : Hw) (f : Fld) (v : Int) (i j : Nat) : (h.putS f v i j).bufs = h.bufs := rfl
@[simp] theorem putS_sfe (h : Hw) (f : Fld) (v : Int) (i j : Nat) : (h.putS f v i j).sfe = h.sfe := rfl
@[simp] theorem putS_yld (h : Hw) (f : Fld) (v : Int) (i j : Nat) : (h.putS f v i j).yld = h.yld := rfl
@[simp] theorem putS_ctl (h : Hw) (f : Fld) (v : Int) (i j : Nat) : (h.putS f v i j).ctl = h.ctl := rfl
@[simp] theorem putS_til (h : Hw) (f : Fld) (v : Int) (i j : Nat) : (h.putS f v i j).til = h.til := rfl
@[simp] theorem putS_vlv (h : Hw) (f : Fld) (v : Int) (i j : Nat) : (h.putS f v i j).vlv = h.vlv := rfl
@[simp] theorem putS_dios (h : Hw) (f : Fld) (v : Int) (i j : Nat) : (h.putS f v i j).dios = h.dios := rfl
@[simp] theorem putS_fans (h : Hw) (f : Fld) (v : Int) (i j : Nat) : (h.putS f v i j).fans = h.fans := rfl
@[simp] theorem putS_fus (h : Hw) (f : Fld) (v : Int) (i j : Nat) : (h.putS f v i j).fus = h.fus := rfl
@[simp] theorem putS_gns (h : Hw) (f : Fld) (v : Int) (i j : Nat) : (h.putS f v i j).gns = h.gns := rfl
@[simp] theorem putS_can (h : Hw) (f : Fld) (v : Int) (i j : Nat) : (h.putS f v i j).can = h.can := rfl
@[simp] theorem putS_eth (h : Hw) (f : Fld) (v : Int) (i j : Nat) : (h.putS f v i j).eth = h.eth := rfl
@[simp] theorem putS_sto (h : Hw) (f : Fld) (v : Int) (i j : Nat) : (h.putS f v i j).sto = h.sto := rfl
@[simp] theorem putS_evr (h : Hw) (f : Fld) (v : Int) (i j : Nat) : (h.putS f v i j).evr = h.evr := rfl
@[simp] theorem putS_grd (h : Hw) (f : Fld) (v : Int) (i j : Nat) : (h.putS f v i j).grd = h.grd := rfl
@[simp] theorem putS_smk (h : Hw) (f : Fld) (v : Int) (i j : Nat) : (h.putS f v i j).smk = h.smk := rfl
@[simp] theorem putS_pwr (h : Hw) (f : Fld) (v : Int) (i j : Nat) : (h.putS f v i j).pwr = h.pwr := rfl

@[simp] theorem bump_shadow (h : Hw) (f : Fld) (i j b : Nat) : (h.bump f i j b).shadow = h.shadow := rfl
@[simp] theorem bump_pendLo (h : Hw) (f : Fld) (i j b : Nat) : (h.bump f i j b).pendLo = h.pendLo := rfl
@[simp] theorem bump_mem (h : Hw) (f : Fld) (i j b : Nat) : (h.bump f i j b).mem = h.mem := rfl
@[simp] theorem bump_ecc (h : Hw) (f : Fld) (i j b : Nat) : (h.bump f i j b).ecc = h.ecc := rfl
@[simp] theorem bump_eccAt (h : Hw) (f : Fld) (i j b : Nat) : (h.bump f i j b).eccAt = h.eccAt := rfl
@[simp] theorem bump_dir (h : Hw) (f : Fld) (i j b : Nat) : (h.bump f i j b).dir = h.dir := rfl
@[simp] theorem bump_dirSeq (h : Hw) (f : Fld) (i j b : Nat) : (h.bump f i j b).dirSeq = h.dirSeq := rfl
@[simp] theorem bump_scrubs (h : Hw) (f : Fld) (i j b : Nat) : (h.bump f i j b).scrubs = h.scrubs := rfl
@[simp] theorem bump_rdata (h : Hw) (f : Fld) (i j b : Nat) : (h.bump f i j b).rdata = h.rdata := rfl
@[simp] theorem bump_rfault (h : Hw) (f : Fld) (i j b : Nat) : (h.bump f i j b).rfault = h.rfault := rfl
@[simp] theorem bump_irqs (h : Hw) (f : Fld) (i j b : Nat) : (h.bump f i j b).irqs = h.irqs := rfl
@[simp] theorem bump_diag (h : Hw) (f : Fld) (i j b : Nat) : (h.bump f i j b).diag = h.diag := rfl
@[simp] theorem bump_freeCtr (h : Hw) (f : Fld) (i j b : Nat) : (h.bump f i j b).freeCtr = h.freeCtr := rfl
@[simp] theorem bump_rng (h : Hw) (f : Fld) (i j b : Nat) : (h.bump f i j b).rng = h.rng := rfl
@[simp] theorem bump_wgl (h : Hw) (f : Fld) (i j b : Nat) : (h.bump f i j b).wgl = h.wgl := rfl
@[simp] theorem bump_prp (h : Hw) (f : Fld) (i j b : Nat) : (h.bump f i j b).prp = h.prp := rfl
@[simp] theorem bump_img (h : Hw) (f : Fld) (i j b : Nat) : (h.bump f i j b).img = h.img := rfl
@[simp] theorem bump_bufs (h : Hw) (f : Fld) (i j b : Nat) : (h.bump f i j b).bufs = h.bufs := rfl
@[simp] theorem bump_sfe (h : Hw) (f : Fld) (i j b : Nat) : (h.bump f i j b).sfe = h.sfe := rfl
@[simp] theorem bump_yld (h : Hw) (f : Fld) (i j b : Nat) : (h.bump f i j b).yld = h.yld := rfl
@[simp] theorem bump_ctl (h : Hw) (f : Fld) (i j b : Nat) : (h.bump f i j b).ctl = h.ctl := rfl
@[simp] theorem bump_til (h : Hw) (f : Fld) (i j b : Nat) : (h.bump f i j b).til = h.til := rfl
@[simp] theorem bump_vlv (h : Hw) (f : Fld) (i j b : Nat) : (h.bump f i j b).vlv = h.vlv := rfl
@[simp] theorem bump_dios (h : Hw) (f : Fld) (i j b : Nat) : (h.bump f i j b).dios = h.dios := rfl
@[simp] theorem bump_fans (h : Hw) (f : Fld) (i j b : Nat) : (h.bump f i j b).fans = h.fans := rfl
@[simp] theorem bump_fus (h : Hw) (f : Fld) (i j b : Nat) : (h.bump f i j b).fus = h.fus := rfl
@[simp] theorem bump_gns (h : Hw) (f : Fld) (i j b : Nat) : (h.bump f i j b).gns = h.gns := rfl
@[simp] theorem bump_can (h : Hw) (f : Fld) (i j b : Nat) : (h.bump f i j b).can = h.can := rfl
@[simp] theorem bump_eth (h : Hw) (f : Fld) (i j b : Nat) : (h.bump f i j b).eth = h.eth := rfl
@[simp] theorem bump_sto (h : Hw) (f : Fld) (i j b : Nat) : (h.bump f i j b).sto = h.sto := rfl
@[simp] theorem bump_evr (h : Hw) (f : Fld) (i j b : Nat) : (h.bump f i j b).evr = h.evr := rfl
@[simp] theorem bump_grd (h : Hw) (f : Fld) (i j b : Nat) : (h.bump f i j b).grd = h.grd := rfl
@[simp] theorem bump_smk (h : Hw) (f : Fld) (i j b : Nat) : (h.bump f i j b).smk = h.smk := rfl
@[simp] theorem bump_pwr (h : Hw) (f : Fld) (i j b : Nat) : (h.bump f i j b).pwr = h.pwr := rfl

@[simp] theorem put64_shadow (h : Hw) (f : Fld) (v i : Nat) : (h.put64 f v i).shadow = h.shadow := rfl
@[simp] theorem put64_pendLo (h : Hw) (f : Fld) (v i : Nat) : (h.put64 f v i).pendLo = h.pendLo := rfl
@[simp] theorem put64_mem (h : Hw) (f : Fld) (v i : Nat) : (h.put64 f v i).mem = h.mem := rfl
@[simp] theorem put64_ecc (h : Hw) (f : Fld) (v i : Nat) : (h.put64 f v i).ecc = h.ecc := rfl
@[simp] theorem put64_eccAt (h : Hw) (f : Fld) (v i : Nat) : (h.put64 f v i).eccAt = h.eccAt := rfl
@[simp] theorem put64_dir (h : Hw) (f : Fld) (v i : Nat) : (h.put64 f v i).dir = h.dir := rfl
@[simp] theorem put64_dirSeq (h : Hw) (f : Fld) (v i : Nat) : (h.put64 f v i).dirSeq = h.dirSeq := rfl
@[simp] theorem put64_scrubs (h : Hw) (f : Fld) (v i : Nat) : (h.put64 f v i).scrubs = h.scrubs := rfl
@[simp] theorem put64_rdata (h : Hw) (f : Fld) (v i : Nat) : (h.put64 f v i).rdata = h.rdata := rfl
@[simp] theorem put64_rfault (h : Hw) (f : Fld) (v i : Nat) : (h.put64 f v i).rfault = h.rfault := rfl
@[simp] theorem put64_irqs (h : Hw) (f : Fld) (v i : Nat) : (h.put64 f v i).irqs = h.irqs := rfl
@[simp] theorem put64_diag (h : Hw) (f : Fld) (v i : Nat) : (h.put64 f v i).diag = h.diag := rfl
@[simp] theorem put64_freeCtr (h : Hw) (f : Fld) (v i : Nat) : (h.put64 f v i).freeCtr = h.freeCtr := rfl
@[simp] theorem put64_rng (h : Hw) (f : Fld) (v i : Nat) : (h.put64 f v i).rng = h.rng := rfl
@[simp] theorem put64_wgl (h : Hw) (f : Fld) (v i : Nat) : (h.put64 f v i).wgl = h.wgl := rfl
@[simp] theorem put64_prp (h : Hw) (f : Fld) (v i : Nat) : (h.put64 f v i).prp = h.prp := rfl
@[simp] theorem put64_img (h : Hw) (f : Fld) (v i : Nat) : (h.put64 f v i).img = h.img := rfl
@[simp] theorem put64_bufs (h : Hw) (f : Fld) (v i : Nat) : (h.put64 f v i).bufs = h.bufs := rfl
@[simp] theorem put64_sfe (h : Hw) (f : Fld) (v i : Nat) : (h.put64 f v i).sfe = h.sfe := rfl
@[simp] theorem put64_yld (h : Hw) (f : Fld) (v i : Nat) : (h.put64 f v i).yld = h.yld := rfl
@[simp] theorem put64_ctl (h : Hw) (f : Fld) (v i : Nat) : (h.put64 f v i).ctl = h.ctl := rfl
@[simp] theorem put64_til (h : Hw) (f : Fld) (v i : Nat) : (h.put64 f v i).til = h.til := rfl
@[simp] theorem put64_vlv (h : Hw) (f : Fld) (v i : Nat) : (h.put64 f v i).vlv = h.vlv := rfl
@[simp] theorem put64_dios (h : Hw) (f : Fld) (v i : Nat) : (h.put64 f v i).dios = h.dios := rfl
@[simp] theorem put64_fans (h : Hw) (f : Fld) (v i : Nat) : (h.put64 f v i).fans = h.fans := rfl
@[simp] theorem put64_fus (h : Hw) (f : Fld) (v i : Nat) : (h.put64 f v i).fus = h.fus := rfl
@[simp] theorem put64_gns (h : Hw) (f : Fld) (v i : Nat) : (h.put64 f v i).gns = h.gns := rfl
@[simp] theorem put64_can (h : Hw) (f : Fld) (v i : Nat) : (h.put64 f v i).can = h.can := rfl
@[simp] theorem put64_eth (h : Hw) (f : Fld) (v i : Nat) : (h.put64 f v i).eth = h.eth := rfl
@[simp] theorem put64_sto (h : Hw) (f : Fld) (v i : Nat) : (h.put64 f v i).sto = h.sto := rfl
@[simp] theorem put64_evr (h : Hw) (f : Fld) (v i : Nat) : (h.put64 f v i).evr = h.evr := rfl
@[simp] theorem put64_grd (h : Hw) (f : Fld) (v i : Nat) : (h.put64 f v i).grd = h.grd := rfl
@[simp] theorem put64_smk (h : Hw) (f : Fld) (v i : Nat) : (h.put64 f v i).smk = h.smk := rfl
@[simp] theorem put64_pwr (h : Hw) (f : Fld) (v i : Nat) : (h.put64 f v i).pwr = h.pwr := rfl

@[simp] theorem log_rf (h : Hw) (ty inst : Nat) (l : Bool) : (h.log ty inst l).rf = h.rf := rfl
@[simp] theorem log_shadow (h : Hw) (ty inst : Nat) (l : Bool) : (h.log ty inst l).shadow = h.shadow := rfl
@[simp] theorem log_pendLo (h : Hw) (ty inst : Nat) (l : Bool) : (h.log ty inst l).pendLo = h.pendLo := rfl
@[simp] theorem log_mem (h : Hw) (ty inst : Nat) (l : Bool) : (h.log ty inst l).mem = h.mem := rfl
@[simp] theorem log_ecc (h : Hw) (ty inst : Nat) (l : Bool) : (h.log ty inst l).ecc = h.ecc := rfl
@[simp] theorem log_eccAt (h : Hw) (ty inst : Nat) (l : Bool) : (h.log ty inst l).eccAt = h.eccAt := rfl
@[simp] theorem log_dir (h : Hw) (ty inst : Nat) (l : Bool) : (h.log ty inst l).dir = h.dir := rfl
@[simp] theorem log_dirSeq (h : Hw) (ty inst : Nat) (l : Bool) : (h.log ty inst l).dirSeq = h.dirSeq := rfl
@[simp] theorem log_scrubs (h : Hw) (ty inst : Nat) (l : Bool) : (h.log ty inst l).scrubs = h.scrubs := rfl
@[simp] theorem log_rdata (h : Hw) (ty inst : Nat) (l : Bool) : (h.log ty inst l).rdata = h.rdata := rfl
@[simp] theorem log_rfault (h : Hw) (ty inst : Nat) (l : Bool) : (h.log ty inst l).rfault = h.rfault := rfl
@[simp] theorem log_irqs (h : Hw) (ty inst : Nat) (l : Bool) : (h.log ty inst l).irqs = h.irqs := rfl
@[simp] theorem log_freeCtr (h : Hw) (ty inst : Nat) (l : Bool) : (h.log ty inst l).freeCtr = h.freeCtr := rfl
@[simp] theorem log_rng (h : Hw) (ty inst : Nat) (l : Bool) : (h.log ty inst l).rng = h.rng := rfl
@[simp] theorem log_wgl (h : Hw) (ty inst : Nat) (l : Bool) : (h.log ty inst l).wgl = h.wgl := rfl
@[simp] theorem log_prp (h : Hw) (ty inst : Nat) (l : Bool) : (h.log ty inst l).prp = h.prp := rfl
@[simp] theorem log_img (h : Hw) (ty inst : Nat) (l : Bool) : (h.log ty inst l).img = h.img := rfl
@[simp] theorem log_bufs (h : Hw) (ty inst : Nat) (l : Bool) : (h.log ty inst l).bufs = h.bufs := rfl
@[simp] theorem log_sfe (h : Hw) (ty inst : Nat) (l : Bool) : (h.log ty inst l).sfe = h.sfe := rfl
@[simp] theorem log_yld (h : Hw) (ty inst : Nat) (l : Bool) : (h.log ty inst l).yld = h.yld := rfl
@[simp] theorem log_ctl (h : Hw) (ty inst : Nat) (l : Bool) : (h.log ty inst l).ctl = h.ctl := rfl
@[simp] theorem log_til (h : Hw) (ty inst : Nat) (l : Bool) : (h.log ty inst l).til = h.til := rfl
@[simp] theorem log_vlv (h : Hw) (ty inst : Nat) (l : Bool) : (h.log ty inst l).vlv = h.vlv := rfl
@[simp] theorem log_dios (h : Hw) (ty inst : Nat) (l : Bool) : (h.log ty inst l).dios = h.dios := rfl
@[simp] theorem log_fans (h : Hw) (ty inst : Nat) (l : Bool) : (h.log ty inst l).fans = h.fans := rfl
@[simp] theorem log_fus (h : Hw) (ty inst : Nat) (l : Bool) : (h.log ty inst l).fus = h.fus := rfl
@[simp] theorem log_gns (h : Hw) (ty inst : Nat) (l : Bool) : (h.log ty inst l).gns = h.gns := rfl
@[simp] theorem log_can (h : Hw) (ty inst : Nat) (l : Bool) : (h.log ty inst l).can = h.can := rfl
@[simp] theorem log_eth (h : Hw) (ty inst : Nat) (l : Bool) : (h.log ty inst l).eth = h.eth := rfl
@[simp] theorem log_sto (h : Hw) (ty inst : Nat) (l : Bool) : (h.log ty inst l).sto = h.sto := rfl
@[simp] theorem log_evr (h : Hw) (ty inst : Nat) (l : Bool) : (h.log ty inst l).evr = h.evr := rfl
@[simp] theorem log_grd (h : Hw) (ty inst : Nat) (l : Bool) : (h.log ty inst l).grd = h.grd := rfl
@[simp] theorem log_smk (h : Hw) (ty inst : Nat) (l : Bool) : (h.log ty inst l).smk = h.smk := rfl
@[simp] theorem log_pwr (h : Hw) (ty inst : Nat) (l : Bool) : (h.log ty inst l).pwr = h.pwr := rfl

@[simp] theorem raiseIrq_rf (h : Hw) (t : Nat) : (h.raiseIrq t).rf = h.rf := rfl
@[simp] theorem raiseIrq_shadow (h : Hw) (t : Nat) : (h.raiseIrq t).shadow = h.shadow := rfl
@[simp] theorem raiseIrq_pendLo (h : Hw) (t : Nat) : (h.raiseIrq t).pendLo = h.pendLo := rfl
@[simp] theorem raiseIrq_mem (h : Hw) (t : Nat) : (h.raiseIrq t).mem = h.mem := rfl
@[simp] theorem raiseIrq_ecc (h : Hw) (t : Nat) : (h.raiseIrq t).ecc = h.ecc := rfl
@[simp] theorem raiseIrq_eccAt (h : Hw) (t : Nat) : (h.raiseIrq t).eccAt = h.eccAt := rfl
@[simp] theorem raiseIrq_dir (h : Hw) (t : Nat) : (h.raiseIrq t).dir = h.dir := rfl
@[simp] theorem raiseIrq_dirSeq (h : Hw) (t : Nat) : (h.raiseIrq t).dirSeq = h.dirSeq := rfl
@[simp] theorem raiseIrq_scrubs (h : Hw) (t : Nat) : (h.raiseIrq t).scrubs = h.scrubs := rfl
@[simp] theorem raiseIrq_rdata (h : Hw) (t : Nat) : (h.raiseIrq t).rdata = h.rdata := rfl
@[simp] theorem raiseIrq_rfault (h : Hw) (t : Nat) : (h.raiseIrq t).rfault = h.rfault := rfl
@[simp] theorem raiseIrq_diag (h : Hw) (t : Nat) : (h.raiseIrq t).diag = h.diag := rfl
@[simp] theorem raiseIrq_freeCtr (h : Hw) (t : Nat) : (h.raiseIrq t).freeCtr = h.freeCtr := rfl
@[simp] theorem raiseIrq_rng (h : Hw) (t : Nat) : (h.raiseIrq t).rng = h.rng := rfl
@[simp] theorem raiseIrq_wgl (h : Hw) (t : Nat) : (h.raiseIrq t).wgl = h.wgl := rfl
@[simp] theorem raiseIrq_prp (h : Hw) (t : Nat) : (h.raiseIrq t).prp = h.prp := rfl
@[simp] theorem raiseIrq_img (h : Hw) (t : Nat) : (h.raiseIrq t).img = h.img := rfl
@[simp] theorem raiseIrq_bufs (h : Hw) (t : Nat) : (h.raiseIrq t).bufs = h.bufs := rfl
@[simp] theorem raiseIrq_sfe (h : Hw) (t : Nat) : (h.raiseIrq t).sfe = h.sfe := rfl
@[simp] theorem raiseIrq_yld (h : Hw) (t : Nat) : (h.raiseIrq t).yld = h.yld := rfl
@[simp] theorem raiseIrq_ctl (h : Hw) (t : Nat) : (h.raiseIrq t).ctl = h.ctl := rfl
@[simp] theorem raiseIrq_til (h : Hw) (t : Nat) : (h.raiseIrq t).til = h.til := rfl
@[simp] theorem raiseIrq_vlv (h : Hw) (t : Nat) : (h.raiseIrq t).vlv = h.vlv := rfl
@[simp] theorem raiseIrq_dios (h : Hw) (t : Nat) : (h.raiseIrq t).dios = h.dios := rfl
@[simp] theorem raiseIrq_fans (h : Hw) (t : Nat) : (h.raiseIrq t).fans = h.fans := rfl
@[simp] theorem raiseIrq_fus (h : Hw) (t : Nat) : (h.raiseIrq t).fus = h.fus := rfl
@[simp] theorem raiseIrq_gns (h : Hw) (t : Nat) : (h.raiseIrq t).gns = h.gns := rfl
@[simp] theorem raiseIrq_can (h : Hw) (t : Nat) : (h.raiseIrq t).can = h.can := rfl
@[simp] theorem raiseIrq_eth (h : Hw) (t : Nat) : (h.raiseIrq t).eth = h.eth := rfl
@[simp] theorem raiseIrq_sto (h : Hw) (t : Nat) : (h.raiseIrq t).sto = h.sto := rfl
@[simp] theorem raiseIrq_evr (h : Hw) (t : Nat) : (h.raiseIrq t).evr = h.evr := rfl
@[simp] theorem raiseIrq_grd (h : Hw) (t : Nat) : (h.raiseIrq t).grd = h.grd := rfl
@[simp] theorem raiseIrq_smk (h : Hw) (t : Nat) : (h.raiseIrq t).smk = h.smk := rfl
@[simp] theorem raiseIrq_pwr (h : Hw) (t : Nat) : (h.raiseIrq t).pwr = h.pwr := rfl

@[simp] theorem fresh_rf (h : Hw) : h.fresh.2.rf = h.rf := rfl
@[simp] theorem fresh_shadow (h : Hw) : h.fresh.2.shadow = h.shadow := rfl
@[simp] theorem fresh_pendLo (h : Hw) : h.fresh.2.pendLo = h.pendLo := rfl
@[simp] theorem fresh_mem (h : Hw) : h.fresh.2.mem = h.mem := rfl
@[simp] theorem fresh_ecc (h : Hw) : h.fresh.2.ecc = h.ecc := rfl
@[simp] theorem fresh_eccAt (h : Hw) : h.fresh.2.eccAt = h.eccAt := rfl
@[simp] theorem fresh_dir (h : Hw) : h.fresh.2.dir = h.dir := rfl
@[simp] theorem fresh_dirSeq (h : Hw) : h.fresh.2.dirSeq = h.dirSeq := rfl
@[simp] theorem fresh_scrubs (h : Hw) : h.fresh.2.scrubs = h.scrubs := rfl
@[simp] theorem fresh_rdata (h : Hw) : h.fresh.2.rdata = h.rdata := rfl
@[simp] theorem fresh_rfault (h : Hw) : h.fresh.2.rfault = h.rfault := rfl
@[simp] theorem fresh_irqs (h : Hw) : h.fresh.2.irqs = h.irqs := rfl
@[simp] theorem fresh_diag (h : Hw) : h.fresh.2.diag = h.diag := rfl
@[simp] theorem fresh_rng (h : Hw) : h.fresh.2.rng = h.rng := rfl
@[simp] theorem fresh_wgl (h : Hw) : h.fresh.2.wgl = h.wgl := rfl
@[simp] theorem fresh_prp (h : Hw) : h.fresh.2.prp = h.prp := rfl
@[simp] theorem fresh_img (h : Hw) : h.fresh.2.img = h.img := rfl
@[simp] theorem fresh_bufs (h : Hw) : h.fresh.2.bufs = h.bufs := rfl
@[simp] theorem fresh_sfe (h : Hw) : h.fresh.2.sfe = h.sfe := rfl
@[simp] theorem fresh_yld (h : Hw) : h.fresh.2.yld = h.yld := rfl
@[simp] theorem fresh_ctl (h : Hw) : h.fresh.2.ctl = h.ctl := rfl
@[simp] theorem fresh_til (h : Hw) : h.fresh.2.til = h.til := rfl
@[simp] theorem fresh_vlv (h : Hw) : h.fresh.2.vlv = h.vlv := rfl
@[simp] theorem fresh_dios (h : Hw) : h.fresh.2.dios = h.dios := rfl
@[simp] theorem fresh_fans (h : Hw) : h.fresh.2.fans = h.fans := rfl
@[simp] theorem fresh_fus (h : Hw) : h.fresh.2.fus = h.fus := rfl
@[simp] theorem fresh_gns (h : Hw) : h.fresh.2.gns = h.gns := rfl
@[simp] theorem fresh_can (h : Hw) : h.fresh.2.can = h.can := rfl
@[simp] theorem fresh_eth (h : Hw) : h.fresh.2.eth = h.eth := rfl
@[simp] theorem fresh_sto (h : Hw) : h.fresh.2.sto = h.sto := rfl
@[simp] theorem fresh_evr (h : Hw) : h.fresh.2.evr = h.evr := rfl
@[simp] theorem fresh_grd (h : Hw) : h.fresh.2.grd = h.grd := rfl
@[simp] theorem fresh_smk (h : Hw) : h.fresh.2.smk = h.smk := rfl
@[simp] theorem fresh_pwr (h : Hw) : h.fresh.2.pwr = h.pwr := rfl

@[simp] theorem setFlight_rf (h : Hw) (f : Flight) : (h.setFlight f).rf = h.rf := rfl
@[simp] theorem setFlight_shadow (h : Hw) (f : Flight) : (h.setFlight f).shadow = h.shadow := rfl
@[simp] theorem setFlight_pendLo (h : Hw) (f : Flight) : (h.setFlight f).pendLo = h.pendLo := rfl
@[simp] theorem setFlight_mem (h : Hw) (f : Flight) : (h.setFlight f).mem = h.mem := rfl
@[simp] theorem setFlight_ecc (h : Hw) (f : Flight) : (h.setFlight f).ecc = h.ecc := rfl
@[simp] theorem setFlight_eccAt (h : Hw) (f : Flight) : (h.setFlight f).eccAt = h.eccAt := rfl
@[simp] theorem setFlight_dir (h : Hw) (f : Flight) : (h.setFlight f).dir = h.dir := rfl
@[simp] theorem setFlight_dirSeq (h : Hw) (f : Flight) : (h.setFlight f).dirSeq = h.dirSeq := rfl
@[simp] theorem setFlight_scrubs (h : Hw) (f : Flight) : (h.setFlight f).scrubs = h.scrubs := rfl
@[simp] theorem setFlight_rdata (h : Hw) (f : Flight) : (h.setFlight f).rdata = h.rdata := rfl
@[simp] theorem setFlight_rfault (h : Hw) (f : Flight) : (h.setFlight f).rfault = h.rfault := rfl
@[simp] theorem setFlight_irqs (h : Hw) (f : Flight) : (h.setFlight f).irqs = h.irqs := rfl
@[simp] theorem setFlight_diag (h : Hw) (f : Flight) : (h.setFlight f).diag = h.diag := rfl
@[simp] theorem setFlight_freeCtr (h : Hw) (f : Flight) : (h.setFlight f).freeCtr = h.freeCtr := rfl
@[simp] theorem setFlight_wgl (h : Hw) (f : Flight) : (h.setFlight f).wgl = h.wgl := rfl
@[simp] theorem setFlight_prp (h : Hw) (f : Flight) : (h.setFlight f).prp = h.prp := rfl
@[simp] theorem setFlight_img (h : Hw) (f : Flight) : (h.setFlight f).img = h.img := rfl
@[simp] theorem setFlight_bufs (h : Hw) (f : Flight) : (h.setFlight f).bufs = h.bufs := rfl
@[simp] theorem setFlight_sfe (h : Hw) (f : Flight) : (h.setFlight f).sfe = h.sfe := rfl
@[simp] theorem setFlight_yld (h : Hw) (f : Flight) : (h.setFlight f).yld = h.yld := rfl
@[simp] theorem setFlight_ctl (h : Hw) (f : Flight) : (h.setFlight f).ctl = h.ctl := rfl
@[simp] theorem setFlight_til (h : Hw) (f : Flight) : (h.setFlight f).til = h.til := rfl
@[simp] theorem setFlight_vlv (h : Hw) (f : Flight) : (h.setFlight f).vlv = h.vlv := rfl
@[simp] theorem setFlight_dios (h : Hw) (f : Flight) : (h.setFlight f).dios = h.dios := rfl
@[simp] theorem setFlight_fans (h : Hw) (f : Flight) : (h.setFlight f).fans = h.fans := rfl
@[simp] theorem setFlight_fus (h : Hw) (f : Flight) : (h.setFlight f).fus = h.fus := rfl
@[simp] theorem setFlight_gns (h : Hw) (f : Flight) : (h.setFlight f).gns = h.gns := rfl
@[simp] theorem setFlight_can (h : Hw) (f : Flight) : (h.setFlight f).can = h.can := rfl
@[simp] theorem setFlight_eth (h : Hw) (f : Flight) : (h.setFlight f).eth = h.eth := rfl
@[simp] theorem setFlight_sto (h : Hw) (f : Flight) : (h.setFlight f).sto = h.sto := rfl
@[simp] theorem setFlight_evr (h : Hw) (f : Flight) : (h.setFlight f).evr = h.evr := rfl
@[simp] theorem setFlight_grd (h : Hw) (f : Flight) : (h.setFlight f).grd = h.grd := rfl
@[simp] theorem setFlight_smk (h : Hw) (f : Flight) : (h.setFlight f).smk = h.smk := rfl
@[simp] theorem setFlight_pwr (h : Hw) (f : Flight) : (h.setFlight f).pwr = h.pwr := rfl

@[simp] theorem finish_rf (h : Hw) (f : Flight) (st t a b c d : Nat) : (h.finish f st t a b c d).rf = h.rf := rfl
@[simp] theorem finish_shadow (h : Hw) (f : Flight) (st t a b c d : Nat) : (h.finish f st t a b c d).shadow = h.shadow := rfl
@[simp] theorem finish_pendLo (h : Hw) (f : Flight) (st t a b c d : Nat) : (h.finish f st t a b c d).pendLo = h.pendLo := rfl
@[simp] theorem finish_mem (h : Hw) (f : Flight) (st t a b c d : Nat) : (h.finish f st t a b c d).mem = h.mem := rfl
@[simp] theorem finish_ecc (h : Hw) (f : Flight) (st t a b c d : Nat) : (h.finish f st t a b c d).ecc = h.ecc := rfl
@[simp] theorem finish_eccAt (h : Hw) (f : Flight) (st t a b c d : Nat) : (h.finish f st t a b c d).eccAt = h.eccAt := rfl
@[simp] theorem finish_dir (h : Hw) (f : Flight) (st t a b c d : Nat) : (h.finish f st t a b c d).dir = h.dir := rfl
@[simp] theorem finish_dirSeq (h : Hw) (f : Flight) (st t a b c d : Nat) : (h.finish f st t a b c d).dirSeq = h.dirSeq := rfl
@[simp] theorem finish_scrubs (h : Hw) (f : Flight) (st t a b c d : Nat) : (h.finish f st t a b c d).scrubs = h.scrubs := rfl
@[simp] theorem finish_rdata (h : Hw) (f : Flight) (st t a b c d : Nat) : (h.finish f st t a b c d).rdata = h.rdata := rfl
@[simp] theorem finish_rfault (h : Hw) (f : Flight) (st t a b c d : Nat) : (h.finish f st t a b c d).rfault = h.rfault := rfl
@[simp] theorem finish_irqs (h : Hw) (f : Flight) (st t a b c d : Nat) : (h.finish f st t a b c d).irqs = h.irqs := rfl
@[simp] theorem finish_diag (h : Hw) (f : Flight) (st t a b c d : Nat) : (h.finish f st t a b c d).diag = h.diag := rfl
@[simp] theorem finish_freeCtr (h : Hw) (f : Flight) (st t a b c d : Nat) : (h.finish f st t a b c d).freeCtr = h.freeCtr := rfl
@[simp] theorem finish_wgl (h : Hw) (f : Flight) (st t a b c d : Nat) : (h.finish f st t a b c d).wgl = h.wgl := rfl
@[simp] theorem finish_prp (h : Hw) (f : Flight) (st t a b c d : Nat) : (h.finish f st t a b c d).prp = h.prp := rfl
@[simp] theorem finish_img (h : Hw) (f : Flight) (st t a b c d : Nat) : (h.finish f st t a b c d).img = h.img := rfl
@[simp] theorem finish_bufs (h : Hw) (f : Flight) (st t a b c d : Nat) : (h.finish f st t a b c d).bufs = h.bufs := rfl
@[simp] theorem finish_sfe (h : Hw) (f : Flight) (st t a b c d : Nat) : (h.finish f st t a b c d).sfe = h.sfe := rfl
@[simp] theorem finish_yld (h : Hw) (f : Flight) (st t a b c d : Nat) : (h.finish f st t a b c d).yld = h.yld := rfl
@[simp] theorem finish_ctl (h : Hw) (f : Flight) (st t a b c d : Nat) : (h.finish f st t a b c d).ctl = h.ctl := rfl
@[simp] theorem finish_til (h : Hw) (f : Flight) (st t a b c d : Nat) : (h.finish f st t a b c d).til = h.til := rfl
@[simp] theorem finish_vlv (h : Hw) (f : Flight) (st t a b c d : Nat) : (h.finish f st t a b c d).vlv = h.vlv := rfl
@[simp] theorem finish_dios (h : Hw) (f : Flight) (st t a b c d : Nat) : (h.finish f st t a b c d).dios = h.dios := rfl
@[simp] theorem finish_fans (h : Hw) (f : Flight) (st t a b c d : Nat) : (h.finish f st t a b c d).fans = h.fans := rfl
@[simp] theorem finish_fus (h : Hw) (f : Flight) (st t a b c d : Nat) : (h.finish f st t a b c d).fus = h.fus := rfl
@[simp] theorem finish_gns (h : Hw) (f : Flight) (st t a b c d : Nat) : (h.finish f st t a b c d).gns = h.gns := rfl
@[simp] theorem finish_can (h : Hw) (f : Flight) (st t a b c d : Nat) : (h.finish f st t a b c d).can = h.can := rfl
@[simp] theorem finish_eth (h : Hw) (f : Flight) (st t a b c d : Nat) : (h.finish f st t a b c d).eth = h.eth := rfl
@[simp] theorem finish_sto (h : Hw) (f : Flight) (st t a b c d : Nat) : (h.finish f st t a b c d).sto = h.sto := rfl
@[simp] theorem finish_evr (h : Hw) (f : Flight) (st t a b c d : Nat) : (h.finish f st t a b c d).evr = h.evr := rfl
@[simp] theorem finish_grd (h : Hw) (f : Flight) (st t a b c d : Nat) : (h.finish f st t a b c d).grd = h.grd := rfl
@[simp] theorem finish_smk (h : Hw) (f : Flight) (st t a b c d : Nat) : (h.finish f st t a b c d).smk = h.smk := rfl
@[simp] theorem finish_pwr (h : Hw) (f : Flight) (st t a b c d : Nat) : (h.finish f st t a b c d).pwr = h.pwr := rfl

@[simp] theorem unreserved_rf (h : Hw) (r p : Nat) (c : Cpl) : (h.unreserved r p c).rf = h.rf := rfl
@[simp] theorem unreserved_shadow (h : Hw) (r p : Nat) (c : Cpl) : (h.unreserved r p c).shadow = h.shadow := rfl
@[simp] theorem unreserved_pendLo (h : Hw) (r p : Nat) (c : Cpl) : (h.unreserved r p c).pendLo = h.pendLo := rfl
@[simp] theorem unreserved_mem (h : Hw) (r p : Nat) (c : Cpl) : (h.unreserved r p c).mem = h.mem := rfl
@[simp] theorem unreserved_ecc (h : Hw) (r p : Nat) (c : Cpl) : (h.unreserved r p c).ecc = h.ecc := rfl
@[simp] theorem unreserved_eccAt (h : Hw) (r p : Nat) (c : Cpl) : (h.unreserved r p c).eccAt = h.eccAt := rfl
@[simp] theorem unreserved_dir (h : Hw) (r p : Nat) (c : Cpl) : (h.unreserved r p c).dir = h.dir := rfl
@[simp] theorem unreserved_dirSeq (h : Hw) (r p : Nat) (c : Cpl) : (h.unreserved r p c).dirSeq = h.dirSeq := rfl
@[simp] theorem unreserved_scrubs (h : Hw) (r p : Nat) (c : Cpl) : (h.unreserved r p c).scrubs = h.scrubs := rfl
@[simp] theorem unreserved_rdata (h : Hw) (r p : Nat) (c : Cpl) : (h.unreserved r p c).rdata = h.rdata := rfl
@[simp] theorem unreserved_rfault (h : Hw) (r p : Nat) (c : Cpl) : (h.unreserved r p c).rfault = h.rfault := rfl
@[simp] theorem unreserved_irqs (h : Hw) (r p : Nat) (c : Cpl) : (h.unreserved r p c).irqs = h.irqs := rfl
@[simp] theorem unreserved_diag (h : Hw) (r p : Nat) (c : Cpl) : (h.unreserved r p c).diag = h.diag := rfl
@[simp] theorem unreserved_freeCtr (h : Hw) (r p : Nat) (c : Cpl) : (h.unreserved r p c).freeCtr = h.freeCtr := rfl
@[simp] theorem unreserved_wgl (h : Hw) (r p : Nat) (c : Cpl) : (h.unreserved r p c).wgl = h.wgl := rfl
@[simp] theorem unreserved_prp (h : Hw) (r p : Nat) (c : Cpl) : (h.unreserved r p c).prp = h.prp := rfl
@[simp] theorem unreserved_img (h : Hw) (r p : Nat) (c : Cpl) : (h.unreserved r p c).img = h.img := rfl
@[simp] theorem unreserved_bufs (h : Hw) (r p : Nat) (c : Cpl) : (h.unreserved r p c).bufs = h.bufs := rfl
@[simp] theorem unreserved_sfe (h : Hw) (r p : Nat) (c : Cpl) : (h.unreserved r p c).sfe = h.sfe := rfl
@[simp] theorem unreserved_yld (h : Hw) (r p : Nat) (c : Cpl) : (h.unreserved r p c).yld = h.yld := rfl
@[simp] theorem unreserved_ctl (h : Hw) (r p : Nat) (c : Cpl) : (h.unreserved r p c).ctl = h.ctl := rfl
@[simp] theorem unreserved_til (h : Hw) (r p : Nat) (c : Cpl) : (h.unreserved r p c).til = h.til := rfl
@[simp] theorem unreserved_vlv (h : Hw) (r p : Nat) (c : Cpl) : (h.unreserved r p c).vlv = h.vlv := rfl
@[simp] theorem unreserved_dios (h : Hw) (r p : Nat) (c : Cpl) : (h.unreserved r p c).dios = h.dios := rfl
@[simp] theorem unreserved_fans (h : Hw) (r p : Nat) (c : Cpl) : (h.unreserved r p c).fans = h.fans := rfl
@[simp] theorem unreserved_fus (h : Hw) (r p : Nat) (c : Cpl) : (h.unreserved r p c).fus = h.fus := rfl
@[simp] theorem unreserved_gns (h : Hw) (r p : Nat) (c : Cpl) : (h.unreserved r p c).gns = h.gns := rfl
@[simp] theorem unreserved_can (h : Hw) (r p : Nat) (c : Cpl) : (h.unreserved r p c).can = h.can := rfl
@[simp] theorem unreserved_eth (h : Hw) (r p : Nat) (c : Cpl) : (h.unreserved r p c).eth = h.eth := rfl
@[simp] theorem unreserved_sto (h : Hw) (r p : Nat) (c : Cpl) : (h.unreserved r p c).sto = h.sto := rfl
@[simp] theorem unreserved_evr (h : Hw) (r p : Nat) (c : Cpl) : (h.unreserved r p c).evr = h.evr := rfl
@[simp] theorem unreserved_grd (h : Hw) (r p : Nat) (c : Cpl) : (h.unreserved r p c).grd = h.grd := rfl
@[simp] theorem unreserved_smk (h : Hw) (r p : Nat) (c : Cpl) : (h.unreserved r p c).smk = h.smk := rfl
@[simp] theorem unreserved_pwr (h : Hw) (r p : Nat) (c : Cpl) : (h.unreserved r p c).pwr = h.pwr := rfl

@[simp] theorem setRing_rf (h : Hw) (r : Nat) (g : Ring) : (h.setRing r g).rf = h.rf := rfl
@[simp] theorem setRing_shadow (h : Hw) (r : Nat) (g : Ring) : (h.setRing r g).shadow = h.shadow := rfl
@[simp] theorem setRing_pendLo (h : Hw) (r : Nat) (g : Ring) : (h.setRing r g).pendLo = h.pendLo := rfl
@[simp] theorem setRing_mem (h : Hw) (r : Nat) (g : Ring) : (h.setRing r g).mem = h.mem := rfl
@[simp] theorem setRing_ecc (h : Hw) (r : Nat) (g : Ring) : (h.setRing r g).ecc = h.ecc := rfl
@[simp] theorem setRing_eccAt (h : Hw) (r : Nat) (g : Ring) : (h.setRing r g).eccAt = h.eccAt := rfl
@[simp] theorem setRing_dir (h : Hw) (r : Nat) (g : Ring) : (h.setRing r g).dir = h.dir := rfl
@[simp] theorem setRing_dirSeq (h : Hw) (r : Nat) (g : Ring) : (h.setRing r g).dirSeq = h.dirSeq := rfl
@[simp] theorem setRing_scrubs (h : Hw) (r : Nat) (g : Ring) : (h.setRing r g).scrubs = h.scrubs := rfl
@[simp] theorem setRing_rdata (h : Hw) (r : Nat) (g : Ring) : (h.setRing r g).rdata = h.rdata := rfl
@[simp] theorem setRing_rfault (h : Hw) (r : Nat) (g : Ring) : (h.setRing r g).rfault = h.rfault := rfl
@[simp] theorem setRing_irqs (h : Hw) (r : Nat) (g : Ring) : (h.setRing r g).irqs = h.irqs := rfl
@[simp] theorem setRing_diag (h : Hw) (r : Nat) (g : Ring) : (h.setRing r g).diag = h.diag := rfl
@[simp] theorem setRing_freeCtr (h : Hw) (r : Nat) (g : Ring) : (h.setRing r g).freeCtr = h.freeCtr := rfl
@[simp] theorem setRing_wgl (h : Hw) (r : Nat) (g : Ring) : (h.setRing r g).wgl = h.wgl := rfl
@[simp] theorem setRing_prp (h : Hw) (r : Nat) (g : Ring) : (h.setRing r g).prp = h.prp := rfl
@[simp] theorem setRing_img (h : Hw) (r : Nat) (g : Ring) : (h.setRing r g).img = h.img := rfl
@[simp] theorem setRing_bufs (h : Hw) (r : Nat) (g : Ring) : (h.setRing r g).bufs = h.bufs := rfl
@[simp] theorem setRing_sfe (h : Hw) (r : Nat) (g : Ring) : (h.setRing r g).sfe = h.sfe := rfl
@[simp] theorem setRing_yld (h : Hw) (r : Nat) (g : Ring) : (h.setRing r g).yld = h.yld := rfl
@[simp] theorem setRing_ctl (h : Hw) (r : Nat) (g : Ring) : (h.setRing r g).ctl = h.ctl := rfl
@[simp] theorem setRing_til (h : Hw) (r : Nat) (g : Ring) : (h.setRing r g).til = h.til := rfl
@[simp] theorem setRing_vlv (h : Hw) (r : Nat) (g : Ring) : (h.setRing r g).vlv = h.vlv := rfl
@[simp] theorem setRing_dios (h : Hw) (r : Nat) (g : Ring) : (h.setRing r g).dios = h.dios := rfl
@[simp] theorem setRing_fans (h : Hw) (r : Nat) (g : Ring) : (h.setRing r g).fans = h.fans := rfl
@[simp] theorem setRing_fus (h : Hw) (r : Nat) (g : Ring) : (h.setRing r g).fus = h.fus := rfl
@[simp] theorem setRing_gns (h : Hw) (r : Nat) (g : Ring) : (h.setRing r g).gns = h.gns := rfl
@[simp] theorem setRing_can (h : Hw) (r : Nat) (g : Ring) : (h.setRing r g).can = h.can := rfl
@[simp] theorem setRing_eth (h : Hw) (r : Nat) (g : Ring) : (h.setRing r g).eth = h.eth := rfl
@[simp] theorem setRing_sto (h : Hw) (r : Nat) (g : Ring) : (h.setRing r g).sto = h.sto := rfl
@[simp] theorem setRing_evr (h : Hw) (r : Nat) (g : Ring) : (h.setRing r g).evr = h.evr := rfl
@[simp] theorem setRing_grd (h : Hw) (r : Nat) (g : Ring) : (h.setRing r g).grd = h.grd := rfl
@[simp] theorem setRing_smk (h : Hw) (r : Nat) (g : Ring) : (h.setRing r g).smk = h.smk := rfl
@[simp] theorem setRing_pwr (h : Hw) (r : Nat) (g : Ring) : (h.setRing r g).pwr = h.pwr := rfl

@[simp] theorem elapse_rf (h : Hw) (dt : Nat) : (h.elapse dt).rf = h.rf := rfl
@[simp] theorem elapse_shadow (h : Hw) (dt : Nat) : (h.elapse dt).shadow = h.shadow := rfl
@[simp] theorem elapse_pendLo (h : Hw) (dt : Nat) : (h.elapse dt).pendLo = h.pendLo := rfl
@[simp] theorem elapse_mem (h : Hw) (dt : Nat) : (h.elapse dt).mem = h.mem := rfl
@[simp] theorem elapse_ecc (h : Hw) (dt : Nat) : (h.elapse dt).ecc = h.ecc := rfl
@[simp] theorem elapse_eccAt (h : Hw) (dt : Nat) : (h.elapse dt).eccAt = h.eccAt := rfl
@[simp] theorem elapse_dir (h : Hw) (dt : Nat) : (h.elapse dt).dir = h.dir := rfl
@[simp] theorem elapse_dirSeq (h : Hw) (dt : Nat) : (h.elapse dt).dirSeq = h.dirSeq := rfl
@[simp] theorem elapse_scrubs (h : Hw) (dt : Nat) : (h.elapse dt).scrubs = h.scrubs := rfl
@[simp] theorem elapse_rdata (h : Hw) (dt : Nat) : (h.elapse dt).rdata = h.rdata := rfl
@[simp] theorem elapse_rfault (h : Hw) (dt : Nat) : (h.elapse dt).rfault = h.rfault := rfl
@[simp] theorem elapse_irqs (h : Hw) (dt : Nat) : (h.elapse dt).irqs = h.irqs := rfl
@[simp] theorem elapse_diag (h : Hw) (dt : Nat) : (h.elapse dt).diag = h.diag := rfl
@[simp] theorem elapse_freeCtr (h : Hw) (dt : Nat) : (h.elapse dt).freeCtr = h.freeCtr := rfl
@[simp] theorem elapse_rng (h : Hw) (dt : Nat) : (h.elapse dt).rng = h.rng := rfl
@[simp] theorem elapse_prp (h : Hw) (dt : Nat) : (h.elapse dt).prp = h.prp := rfl
@[simp] theorem elapse_img (h : Hw) (dt : Nat) : (h.elapse dt).img = h.img := rfl
@[simp] theorem elapse_bufs (h : Hw) (dt : Nat) : (h.elapse dt).bufs = h.bufs := rfl
@[simp] theorem elapse_sfe (h : Hw) (dt : Nat) : (h.elapse dt).sfe = h.sfe := rfl
@[simp] theorem elapse_yld (h : Hw) (dt : Nat) : (h.elapse dt).yld = h.yld := rfl
@[simp] theorem elapse_ctl (h : Hw) (dt : Nat) : (h.elapse dt).ctl = h.ctl := rfl
@[simp] theorem elapse_til (h : Hw) (dt : Nat) : (h.elapse dt).til = h.til := rfl
@[simp] theorem elapse_vlv (h : Hw) (dt : Nat) : (h.elapse dt).vlv = h.vlv := rfl
@[simp] theorem elapse_dios (h : Hw) (dt : Nat) : (h.elapse dt).dios = h.dios := rfl
@[simp] theorem elapse_fans (h : Hw) (dt : Nat) : (h.elapse dt).fans = h.fans := rfl
@[simp] theorem elapse_fus (h : Hw) (dt : Nat) : (h.elapse dt).fus = h.fus := rfl
@[simp] theorem elapse_gns (h : Hw) (dt : Nat) : (h.elapse dt).gns = h.gns := rfl
@[simp] theorem elapse_can (h : Hw) (dt : Nat) : (h.elapse dt).can = h.can := rfl
@[simp] theorem elapse_eth (h : Hw) (dt : Nat) : (h.elapse dt).eth = h.eth := rfl
@[simp] theorem elapse_sto (h : Hw) (dt : Nat) : (h.elapse dt).sto = h.sto := rfl
@[simp] theorem elapse_evr (h : Hw) (dt : Nat) : (h.elapse dt).evr = h.evr := rfl
@[simp] theorem elapse_grd (h : Hw) (dt : Nat) : (h.elapse dt).grd = h.grd := rfl
@[simp] theorem elapse_smk (h : Hw) (dt : Nat) : (h.elapse dt).smk = h.smk := rfl
@[simp] theorem elapse_pwr (h : Hw) (dt : Nat) : (h.elapse dt).pwr = h.pwr := rfl

@[simp] theorem setReg_isOn (h : Hw) (a : Nat) (v : BitVec 32) : (h.setReg a v).isOn = h.isOn := rfl
@[simp] theorem put_isOn (h : Hw) (f : Fld) (v i j : Nat) : (h.put f v i j).isOn = h.isOn := rfl
@[simp] theorem bump_isOn (h : Hw) (f : Fld) (i j b : Nat) : (h.bump f i j b).isOn = h.isOn := rfl
@[simp] theorem log_isOn (h : Hw) (ty inst : Nat) (l : Bool) : (h.log ty inst l).isOn = h.isOn := rfl
@[simp] theorem log_get (h : Hw) (ty inst : Nat) (l : Bool) (f : Fld) (i j : Nat) : (h.log ty inst l).get f i j = h.get f i j := rfl
@[simp] theorem finish_get (h : Hw) (g : Flight) (st t a b c d : Nat) (f : Fld) (i j : Nat) :
    (h.finish g st t a b c d).get f i j = h.get f i j := rfl

/-! ## Operations -/

/-- An operation found by its number carries it. -/
theorem flight_id {h : Hw} {id : Nat} {f : Flight} (hf : h.flight id = some f) : f.id = id := by
  have := List.find?_some hf
  simpa using this

/-- Replacing the operation found under a number is seen under that number. -/
theorem flight_setFlight {h : Hw} {id : Nat} {f g : Flight} (hf : h.flight id = some f) (hg : g.id = id) :
    (h.setFlight g).flight id = some g := by
  unfold Hw.flight at hf ⊢
  unfold Hw.setFlight
  dsimp only
  generalize h.rng.flights = l at hf
  induction l with
  | nil => simp at hf
  | cons x l ih =>
    by_cases e : x.id = id
    · simp [e, hg]
    · have e2 : ¬ x.id = g.id := by rw [hg]; exact e
      simp only [List.find?, beq_eq_false_iff_ne.2 e, List.map_cons, e2, if_false] at hf ⊢
      exact ih hf

/-- An operation that ends is at stage 2 with the status it ends with. -/
theorem flight_finish {h : Hw} {id : Nat} {f : Flight} (hf : h.flight id = some f) (st t a b c d : Nat) :
    ∃ g, (h.finish f st t a b c d).flight id = some g ∧ g.stage = 2 ∧ g.cpl.status = st ∧ g.cpl.tov = t ∧ g.cpl.d8 = a ∧ g.cpl.d20 = b := by
  have e : f.id = id := flight_id hf
  exact ⟨_, flight_setFlight hf e, rfl, rfl, rfl, rfl, rfl⟩

end Sys2Proof.Machine
end

