-- ==== Sys2Proof/Tests/Slice0.lean ====
section
/-!
SUPPORT. Tests. First commands that a sender can form and commands it cannot, then values the spec works out, then for every
statement with hypotheses states and operands that meet them, clause by clause: test_<statement>_met.
-/
set_option maxRecDepth 100000
set_option linter.unusedVariables false
set_option Elab.async false
namespace Sys2Proof.Machine

/-! ## Small states -/

/-- A module that runs: all four feeds, partitions 1 and 2 RUNNING with 512 bytes each. -/
def wHw (rf : Map (BitVec 32)) : Hw :=
  { rf := rf ++ [(0x20100, 3), (0x20104, 3)], prp := { layout := [⟨2, 0, 0, 512⟩, ⟨7, 0, 0, 512⟩, ⟨1, 1, 1, 0⟩, ⟨2, 1, 512, 512⟩] } }
/-- That module with registers and a change, and no command waiting. -/
def ws (rf : Map (BitVec 32)) (f : Hw → Hw := id) : State := ⟨[], f (wHw rf)⟩
def wOp (f : Flight) (h : Hw) : Hw := { h with rng := { h.rng with flights := [f] } }
def wFl (eng : Nat) (desc : List Byte) : Flight := ⟨1, 0, 0, eng, 0, desc, true, 1, { tov := 0 }, 0⟩
/-- A slot record: the timebase at 3 ns, action 0. -/
def wSlot : List Byte := [3] ++ zeros 14 ++ [31] ++ zeros 16
def wArm : Flight := wFl 1 (wSlot ++ [0, 0, 1] ++ zeros 29)
def wDisarm : Flight := wFl 1 (wSlot ++ [0, 0, 2] ++ zeros 29)
/-- A layout of partition 1 alone, and its image at 0x1000. -/
def wLayout : List LEnt := [⟨1, 1, 0, 0⟩]
def wImage (h : Hw) : Hw := { h with mem := [(0, 1), (2, 1), (16, 1), (17, 1)] }
def wCopy : List Byte := [1, 0, 0, 0, 4, 0, 0, 0] ++ leBytes 8 0x100 ++ leBytes 8 0x200 ++ zeros 40
def wFill : List Byte := [2, 0, 0, 0, 4, 0, 0, 0] ++ leBytes 8 0x0102030405060708 ++ leBytes 8 0x200 ++ zeros 40
/-- Ring 0, a completion ring of 16 entries at 0 for partition 0, its doorbell word at 0x1000. -/
def wCplRing : Map (BitVec 32) := [(0x18008, 0x24), (0x1800c, 0x100), (0x18010, 0x1000), (0x18018, 0x4000000)]
def wRings : State := ws [(0x18008, 0x24), (0x1800c, 0x100), (0x1801c, 5), (0x18020, 0x2000), (0x18028, 0x204), (0x1802c, 0x100), (0x1803c, 5), (0x14004, 0x40000)]
  (fun h => h.setRing 1 { p := 1 })
def wRow : RegRow := ⟨0, 1, 0, 1, 0, 0, 0, 0, 0, 0, 0, .none, 0⟩
def wCci : List Byte := [4, 0, 0, 0, 2, 0, 0, 0] ++ leBytes 8 0x200 ++ zeros 48
def State.link (s : State) (v : Nat) : State := { s with hw := s.hw.put F.IMG_CAM_STATUS_LINK v 0 }
def wCam : Map (BitVec 32) := [(0x31000, 2), (0x31004, 0x20010), (0x3100c, 1)]
theorem slice_memRead (m : List Host.Cell) (a n i k : Nat) (h : i + k ≤ n) : slice (memRead m a n) i k = memRead m (a + i) k := by
  apply List.ext_getElem
  · simp [slice, memRead]; omega
  · intro j h1 h2
    simp [slice, memRead]; congr 1; omega
theorem fld_memRead (m : List Host.Cell) (a n i k : Nat) (h : i + k ≤ n) : fld (memRead m a n) i k = leNat (memRead m (a + i) k) := by
  rw [fld, slice_memRead _ _ _ _ _ h]
def wProfMem : List Host.Cell := [(0, 1), (52, 2), (54, 2), (62, 1), (63, 1)]
theorem wProf_len (n : Nat) (hn : n = profLen) : profOk (memRead wProfMem 0 n) 16 2 = true := by
  have hl : (memRead wProfMem 0 n).length = n := by simp [memRead]
  have hb : (n == profLen) = true := by rw [hn]; rfl
  have ge : 8896 ≤ n := by rw [hn]; decide
  have h46 : fld (memRead wProfMem 0 n) 46 2 = 0 := by rw [fld_memRead _ _ _ _ _ (by omega)]; decide
  have h0 : ∀ b w h, defectsOk b w h 0 0 = true := fun _ _ _ => rfl
  unfold profOk profCrop
  rw [h46, h0, hl, hb]
  clear hl hb hn
  simp only [fld_memRead wProfMem 0 n 0 2 (by omega), fld_memRead wProfMem 0 n 2 1 (by omega), fld_memRead wProfMem 0 n 3 1 (by omega), fld_memRead wProfMem 0 n 48 2 (by omega), fld_memRead wProfMem 0 n 50 2 (by omega), fld_memRead wProfMem 0 n 52 2 (by omega), fld_memRead wProfMem 0 n 54 2 (by omega), fld_memRead wProfMem 0 n 56 2 (by omega), fld_memRead wProfMem 0 n 58 2 (by omega), fld_memRead wProfMem 0 n 60 1 (by omega), fld_memRead wProfMem 0 n 61 1 (by omega), fld_memRead wProfMem 0 n 62 1 (by omega), fld_memRead wProfMem 0 n 63 1 (by omega),
    slice_memRead wProfMem 0 n 66 62 (by omega), slice_memRead wProfMem 0 n 8840 56 (by omega)]
  decide +kernel
theorem wProf_ok : profOk (memRead wProfMem 0 profLen) 16 2 = true := wProf_len _ rfl
def wFillD : List Byte := [2, 1, 0, 0, 0, 0, 0, 0] ++ zeros 8 ++ [7, 0, 9, 0]
def wXn : List Byte := [5, 0, 0, 0, 1, 0, 0, 0] ++ leBytes 8 0x100 ++ leBytes 8 0x200 ++ zeros 40
def wCtl (d : List Byte) (c : Ctl) (h : Hw) : Hw := wOp (wFl 6 d) { h with ctl := c }
/-- A slot record that keeps to Table 07.1: no source, no destination, DIV 1. -/
def wRec : List Byte := zeros 12 ++ [1] ++ zeros 81 ++ [1] ++ zeros 33
def wCtlD1 : List Byte := [1, 1] ++ zeros 6 ++ [0, 0, 0, 0, 7]
def wCtlD2 : List Byte := [2, 1] ++ zeros 6 ++ [3, 1, 0, 0, 7]
def wCtlD3 : List Byte := [3, 1] ++ zeros 6 ++ [0, 2]
def wCtlD7 : List Byte := [7, 0, 0, 0, 0, 0, 0, 0] ++ leBytes 8 0x200 ++ leBytes 4 1
def wProfD : List Byte := [1, 0, 0, 0, 0, 0, 0, 0] ++ zeros 8 ++ [96]
def wCurD : List Byte := [2, 1, 0, 0, 0, 0, 0, 0, 0, 5]
/-- A profile of two phases: PEAK at code 16 with a checked time to peak for 100 µs, then OFF. -/
def wProf2 : List Byte := [0, 2] ++ zeros 14 ++ [16, 0, 0x11, 0, 10, 0, 0, 0, 0, 0, 3, 0, 0, 0, 0, 0] ++ zeros 48
def wLsD : List Byte := [3, 1, 0, 0, 0, 0, 0, 0, 0, 1]
def wDioD : List Byte := [5, 1, 0, 0, 0, 0, 0, 0, 0, 1]
def wFanD : List Byte := [7, 1, 0, 0, 0, 0, 0, 0, 0, 0, 100]
def State.ego (s : State) (v : Nat) : State := { s with hw := s.hw.put F.FUS_STATUS_EGO v }
def State.gnss (s : State) (v : Nat) : State := { s with hw := s.hw.put F.FUS_STATUS_GNSS v }
def State.src (s : State) (v : Nat) : State := { s with hw := s.hw.put F.FUS_SRC_STATUS_STATE v 0 }
def wForager : Forager := ⟨7, false, [1], 0⟩
def State.bias (s : State) (v : Nat) : State := { s with hw := s.hw.put F.GNS_ANT_STATUS_BIAS v 0 }
def State.band (s : State) (v : Nat) : State := { s with hw := s.hw.put F.GNS_FOR_STATUS_B1 v 0 }
/-- A module with one field set. -/
def State.fp (s : State) (f : Fld) (v : Nat) (i : Nat := 0) : State := { s with hw := s.hw.put f v i }
def wSwm (x : Swarm) (h : Hw) : Hw := h.setSwarm x
/-- A gate list image at 0x1000: one entry of 1000 ns, class 0 open. -/
def wGcl (h : Hw) : Hw := { h with mem := [(0x1000, 1), (0x1002, 1), (0x1004, 0xe8), (0x1005, 3), (0x1010, 1), (0x1014, 0xe8), (0x1015, 3)] }
/-- A manifest of one component, configuration record, of partition scope 1. -/
def wMan : Manif := ⟨9, 0, 0, none, 0, 1, none, [⟨6, 0, 1, none, [], 1, 1, [], some (0, 5), 0⟩]⟩
def wSes (st : Nat) (h : Hw) : Hw := ({ h with grd := { h.grd with man := some wMan } }.put F.GRD_SESSION_STATE st).put F.GRD_SESSION_PART 1
/-- A module whose power state is another. -/
def wPwr (f : Pwr → Pwr) (h : Hw) : Hw := { h with pwr := f h.pwr }
def wWake (ign : Bool) : WakeIn := ⟨ign, none, 0, 0⟩
def wStart (fails : Option (Fin 16)) : StartIn := ⟨fails, false, false, false, 0⟩

def wProfS : State := ws [(0x31004, 0x20010)] (fun h => wOp (wFl 4 [3]) { h with mem := wProfMem })
theorem wProfS_ok : profOk (wProfS.hw.rd (fld (wFl 4 [3]).desc 8 8) profLen) (wProfS.hw.camW (iCam (wFl 4 [3]).desc)) (wProfS.hw.camH (iCam (wFl 4 [3]).desc)) = true := by
  have hw : wProfS.hw.camW (iCam (wFl 4 [3]).desc) = 16 := by decide +kernel
  have hh : wProfS.hw.camH (iCam (wFl 4 [3]).desc) = 2 := by decide +kernel
  have ha : fld (wFl 4 [3]).desc 8 8 = 0 := by decide
  rw [hw, hh, ha]
  exact wProf_ok

/-- The module after a command, where it answers a next state. -/
def after (c : Instr) (s : State) : Option Hw := match exec c s with | .next t => some t.hw | _ => none

/-! ## Commands a sender can form and commands it cannot -/

theorem test_wf_core_memory_access : (Instr.coreMemoryAccess 0 0 0x40000000 2 (some 7)).wf = true ∧
    (Instr.coreMemoryAccess 0 0 0x40000000 2 (some 0x100000000)).wf = false ∧ (Instr.coreMemoryAccess 0 16 0x40000000 3 none).wf = false ∧
    (Instr.coreMemoryAccess 0 16 0x100000000 2 none).wf = false := by decide
theorem test_wf_unmapped_access : (Instr.unmappedAccess 0 16 0x20000000 none).wf = true ∧ (Instr.unmappedAccess 0 16 0x100000000 none).wf = false := by decide
theorem test_wf_sp_atomic_alias_load : (Instr.spAtomicAliasLoad 0 0 0x40000000).wf = true ∧ (Instr.spAtomicAliasLoad 0 0 0x80000000).wf = false := by decide
theorem test_wf_ownership_request : (Instr.ownershipRequest 0 5 [.cluster 1]).wf = true ∧ (Instr.ownershipRequest 0 5 []).wf = false := by decide
theorem test_wf_line_writeback : (Instr.lineWriteback 0 5 1).wf = true ∧ (Instr.lineWriteback 0 0x38000000 1).wf = false := by decide
theorem test_wf_doorbell_store : (Instr.doorbellStore 0 0 0x1004 6).wf = true ∧ (Instr.doorbellStore 0 0 0x1002 6).wf = false := by decide
theorem test_wf_challenge_answer : (Instr.challengeAnswer 0 5 0 (zeros 64)).wf = true ∧ (Instr.challengeAnswer 0 5 0 (zeros 63)).wf = false := by decide
theorem test_wf_sfe_channel_reconfig : (Instr.sfeChannelReconfig 0 0 326 0).wf = true ∧ (Instr.sfeChannelReconfig 0 0 400 0).wf = false := by decide
theorem test_wf_sent_frame : (Instr.sentFrame 0 0 0 0 0 [1] true none).wf = true ∧ (Instr.sentFrame 0 0 0 0 0 [] true none).wf = false := by decide
theorem test_wf_can_frame_received : (Instr.canFrameReceived 0 0 0 0 false false [1] 0).wf = true ∧
    (Instr.canFrameReceived 0 0 0 0 false false (zeros 65) 0).wf = false := by decide
theorem test_wf_lin_slot : (Instr.linSlot 0 0 false true false false [1]).wf = true ∧ (Instr.linSlot 0 0 false true false false (zeros 9)).wf = false := by decide
theorem test_wf_announce_received : (Instr.announceReceived 0 0 0 0 [] 0 0).wf = true ∧
    (Instr.announceReceived 0 0 0 0 (List.replicate 32 (0, 0)) 0 0).wf = false := by decide
theorem test_wf_scrub_word : (Instr.scrubWord 0 7 99 .clean).wf = true ∧ (Instr.scrubWord 0 7 100 .clean).wf = false := by decide
theorem test_wf_scrub_behind : (Instr.scrubBehind 0 0 0).wf = true ∧ (Instr.scrubBehind 0 0 1).wf = false := by decide
theorem test_wf_sensor_input_fault : (Instr.sensorInputFault 0 326 false false).wf = true ∧ (Instr.sensorInputFault 0 144 false false).wf = false := by decide
theorem test_no_word_spells_a_command : decodeTableWord 32 5 = none := by decide

/-! ## Values the spec works out -/

/-- Chapter 09: token 0x1234 is answered by 0xCBFA. -/
theorem test_watchdog_answer : wdAnswer 0x1234 = 0xCBFA := by decide
/-- Chapter 15: the offset between two fleet clocks is −2,400 ns. -/
theorem test_swarm_theta : swarmTheta 8100000 1000000000 4102400 1004002400 = qi (-2400) := by decide
/-- R33: at 18.0 V the array may draw 230 W less 17 W for each of 4 V. -/
theorem test_vision_cap_at_18_volts : (after (.visionPowerCap 0 1800) (ws [])).map (·.pwr.vCap) = some 162000 := by decide +kernel
/-- R883: at 90 °C the cap is 0 W. -/
theorem test_plate_cap_at_90 : (after (.plateCap 0 900 900) (ws [])).map (·.pwr.cap) = some 0 := by decide +kernel
/-- Table 06.7 and the example of chapter 06: 35 grains over a metre are a RATE of 560. -/
theorem test_loss_rate : lossRate 35 1000000 = 560 := by decide
/-- Chapter 11: 78.0 °C on the radiator fan's table gives 1,826 rpm. -/
theorem test_fan_table :
    tableSpeed ([4] ++ zeros 31 ++ leBytes 2 400 ++ leBytes 2 600 ++ leBytes 2 700 ++ leBytes 2 1400 ++ leBytes 2 850 ++ leBytes 2 2200
      ++ leBytes 2 950 ++ leBytes 2 2800) 780 = 1826 := by decide +kernel
/-- R608: after 600 s of holdover the estimate is 24 × 600 + 0.0155 × 600² = 19,980 ns. -/
theorem test_holdover_estimate : holdEst (((ws [] (fun h => { h with wgl := { h.wgl with now := 600000000000 } })).fp F.WGL_STATUS_DISC 3).hw) = qi 19980 := by decide +kernel
/-- Chapter 03: a completion ring of 64 entries writes PHASE 1 on its first pass and 0 from the 65th completion on. -/
theorem test_completion_phase : phaseOf 62 64 = 1 ∧ phaseOf 64 64 = 0 := by decide
/-- Table 07.7, slot 11: an error of −15.0 beyond BO 6.0 gives act −1 and an output 10.0 lower. -/
theorem test_step_law : lawStep ([0, 8] ++ zeros 46 ++ leBytes 4 (6 * 65536) ++ leBytes 4 (2 * 65536) ++ leBytes 4 (650 * 65536)
      ++ leBytes 4 (1250 * 65536) ++ zeros 4 ++ leBytes 4 (10 * 65536) ++ zeros 56) 0 (1050 * 65536) (-15 * 65536)
    = (-1, 1040 * 65536) := by decide +kernel
/-- Chapter 08: a hold target of 1,475 corrected by 1.045 is 1,541 codes. -/
theorem test_hold_target : correctCode (mkQ 1045 1000) 1475 = 1541 := by decide +kernel
/-- The SHA-256 digest of "abc", as FIPS 180-4 publishes it. -/
theorem test_sha256_abc : (sha256 [0x61, 0x62, 0x63]).take 4 = [0xba, 0x78, 0x16, 0xbf] := by decide +kernel
/-- The SHA-384 digest of "abc", as FIPS 180-4 publishes it. -/
theorem test_sha384_abc : (sha384 [0x61, 0x62, 0x63]).take 4 = [0xcb, 0x00, 0x75, 0x3f] := by decide +kernel
/-- The check value of CRC-32 for "123456789", as published. -/
theorem test_crc32_check : crc32 [0x31, 0x32, 0x33, 0x34, 0x35, 0x36, 0x37, 0x38, 0x39] = 0xCBF43926 := by decide +kernel
/-- Chapter 22: with the timebase at 0x1FFFFFF80 a read of WGL_TIME_LO returns 0xFFFFFF80 and keeps 1 for the read of WGL_TIME_HI. -/
theorem test_time_halves :
    (after (.loRegisterRead 0 16 0 0x10) (ws [(0x20104, 3)] (fun h => { h with wgl := { h.wgl with tb := 0x1FFFFFF80 } }))).map
      (fun h => (mget h.rdata 16, h.shadow.map (·.2.1))) = some (some 0xFFFFFF80, [1]) := by decide +kernel
/-- R693: a load of a running hart from an unmapped address returns zeros with an access fault. -/
theorem test_unmapped_load : (after (.unmappedAccess 0 16 0x20000000 none) (ws [])).map (fun h => (mget h.rdata 16, mget h.rfault 16))
    = some (some 0, some true) := by decide +kernel
/-- R57: a late response changes nothing. -/
theorem test_late_response : (after (.lateResponseDiscard 0) (ws [])).map (·.mem) = some [] := by decide +kernel
/-- A command that waits runs in the next step, and the one behind it moves up. -/
theorem test_step_takes_the_front : (match step ⟨[.lateResponseDiscard 5, .domainStopTimeout 0 3], wHw []⟩ with
    | .next t => some (t.pending, t.hw.now) | _ => none) = some ([.domainStopTimeout 0 3], 5) := by decide +kernel
/-- The queue of the state after reset is empty and memory lists nothing. -/
theorem test_reset : State.reset.pending = [] ∧ State.reset.hw.mem = [] ∧ State.reset.hw.pwr.up = false := by decide +kernel


/-! ## States and operands that meet the hypotheses of each statement -/

theorem test_WaggleTimebaseAndEdgesComplete_met :
    (∃ (dt : Nat) (s : State) (g : Int) (te : Int), s.hw.isOn = true ∧ ppsDue (s.hw.elapse dt) = some (g, te) ∧
      s.hw.flag F.WGL_CTRL_DISC_EN = true ∧ s.hw.flag F.GNS_CLK_STATUS_PPS_VALID = true) ∧
    (∃ (s : State), s.hw.isOn = true ∧ s.hw.flag F.GNS_CLK_STATUS_PPS_VALID = false ∧ s.hw.get F.WGL_STATUS_DISC = 2) ∧
    (∃ (s : State) (hart : Fin 19) (i : Fin 16) (v : Word), s.hw.isOn = true ∧ s.hw.byP0 hart = true ∧
      s.hw.get F.WGL_DOM_CFG_TYPE i = 0 ∧ 1 ≤ v.toNat ∧ v.toNat < 2 ^ 20) ∧
    (∃ (s : State) (i : Fin 16), s.hw.isOn = true ∧ s.hw.get F.WGL_DOM_CFG_TYPE i ≠ 0 ∧ s.hw.get F.WGL_DOM_CFG_SRC i = 0 ∧
      s.hw.wgl.slots = [] ∧ (s.hw.dom i).n = 0) ∧
    (∃ (s : State) (i : Fin 16), s.hw.isOn = true ∧ s.hw.domRotary i = true ∧ s.hw.flag F.WGL_DOM_CFG_IDX_EN i = true ∧
      s.hw.wgl.slots = []) ∧
    (∃ (dt : Nat) (s : State) (i : Fin 16), s.hw.isOn = true ∧ (s.hw.dom i).p.state = 2 ∧
      (s.hw.dom i).lastAt + 1000 * s.hw.get F.WGL_DOM_STOP_TIMEOUT i ≤ s.hw.now + dt) ∧
    (∃ (dt : Nat) (s : State) (i : Fin 16) (u : Upd) (r : List Upd), s.hw.isOn = true ∧ mgetD s.hw.wgl.sent i [] = u :: r ∧
      s.hw.get F.WGL_DOM_CFG_TYPE i = 2 ∧ s.hw.get F.WGL_DOM_CFG_SRC i = 1 ∧ ((s.hw.elapse dt).wgl.tb : Int) < u.tov) ∧
    (∃ (dt : Nat) (s : State) (i : Fin 16) (u : Upd) (r : List Upd), s.hw.isOn = true ∧ (s.hw.dom i).held = u :: r ∧
      u.tov ≤ ((s.hw.elapse dt).wgl.tb : Int) ∧ s.hw.wgl.slots = []) :=
  ⟨⟨0, ws [(0, 1), (0xb002c, 1)] (fun h => { h with gns := { h.gns with sol := some (zeros 64) } }), 0, 0, by decide +kernel⟩,
    ⟨ws [(4, 2)], by decide +kernel⟩,
    ⟨ws [], 16, 3, 5, by decide +kernel⟩,
    ⟨ws [(0x1000, 2)], 0, by decide +kernel⟩,
    ⟨ws [(0x1000, 0x4001)], 0, by decide +kernel⟩,
    ⟨10000000000, ws [] (fun h => h.setDom 0 { domOff with p := heldPred 2 0 0 1 }), 0, by decide +kernel⟩,
    ⟨0, ws [(0x1000, 6)] (fun h => { h with wgl := { h.wgl with sent := [(0, [⟨0, qi 0, qi 0, 5⟩])] } }), 0, ⟨0, qi 0, qi 0, 5⟩,
      [], by decide +kernel⟩,
    ⟨5, ws [] (fun h => h.setDom 0 { domOff with held := [⟨0, qi 0, qi 0, 5⟩] }), 0, ⟨0, qi 0, qi 0, 5⟩, [], by decide +kernel⟩⟩

theorem test_WaggleSlotsComplete_met :
    (∃ (dt : Nat) (s : State) (t : Int) (c : Nat) (n : Nat) (k : Nat) (f : Fire) (x : Slot), s.hw.isOn = true ∧
      firstDue (s.hw.elapse dt) = some (t, c, n, f, k) ∧ s.hw.slot n = some x ∧
      s.hw.wgl.last2 + 5 ≤ 2 * (s.hw.elapse dt).wgl.tb + 1 ∧ sAction f.raw = 0) ∧
    (∃ (dt : Nat) (s : State) (c : Fin 48) (n : Nat) (src : Option Fire), s.hw.isOn = true ∧ (s.hw.sol c).pend = some (n, src) ∧
      (s.hw.sol c).out ≠ 3 ∧ (s.hw.sol c).offEnd ≤ s.hw.now + dt ∧ startCheck (s.hw.elapse dt) c n = ST_OK) ∧
    (∃ (dt : Nat) (s : State) (id : Nat) (f : Flight), s.hw.isOn = true ∧ s.hw.flight id = some f ∧ f.stage = 1 ∧ f.eng = 1 ∧
      fld f.desc 34 1 = 1 ∧ armCheck (s.hw.elapse dt) f.part (fld f.desc 32 2) (f.desc.take 32) = ST_OK) ∧
    (∃ (s : State) (id : Nat) (f : Flight), s.hw.isOn = true ∧ s.hw.flight id = some f ∧ f.stage = 1 ∧ f.eng = 1 ∧
      fld f.desc 34 1 = 2 ∧ slotOwned s.hw f.part (fld f.desc 32 2) = true) ∧
    (∃ (dt : Nat) (s : State) (hart : Fin 19), s.hw.isOn = true ∧ s.hw.byP0 hart = true ∧
      armCheck (s.hw.elapse dt) 0 (s.hw.get F.WGL_SLOT_SEL_SLOT) (slotData s.hw) = ST_OK) ∧
    (∃ (s : State) (hart : Fin 19) (x : Slot), s.hw.isOn = true ∧ s.hw.byP0 hart = true ∧
      slotOwned s.hw 0 (s.hw.get F.WGL_SLOT_SEL_SLOT) = true ∧ s.hw.slot (s.hw.get F.WGL_SLOT_SEL_SLOT) = some x) ∧
    (∃ (s : State) (hart : Fin 19) (x : Slot), s.hw.isOn = true ∧ s.hw.byP0 hart = true ∧
      slotOwned s.hw 0 (s.hw.get F.WGL_SLOT_SEL_SLOT) = true ∧ s.hw.slot (s.hw.get F.WGL_SLOT_SEL_SLOT) = some x) :=
  ⟨⟨5, ws [] (fun h => h.setSlot 2 ⟨wSlot, 0, 0, 0, 0, 0, false⟩), 3, 1, 2, 1, ⟨2, wSlot, 0, 0, false, 0, 3, 3, 0, false,
      false⟩, ⟨wSlot, 0, 0, 0, 0, 0, false⟩, by decide +kernel⟩,
    ⟨0, ws [(0x61000, 0x2b), (0x70104, 1)] (fun h =>
      { h.setSol 0 { pend := some (0, none) } with vlv := { (h.setSol 0 { pend := some (0, none) }).vlv with profs := [(0, 0, wProf2)] } }),
      0, 0, none, by decide +kernel⟩,
    ⟨0, ws [(0x80, 0x00100000)] (wOp wArm), 1, wArm, by decide +kernel⟩,
    ⟨ws [(0x80, 0x00100000)] (wOp wDisarm), 1, wDisarm, by decide +kernel⟩,
    ⟨0, ws [(0x80, 0x00100000), (0x12c, 0x1f000000)], 16, by decide +kernel⟩,
    ⟨ws [(0x80, 0x00100000)] (fun h => h.setSlot 0 ⟨wSlot, 0, 0, 0, 0, 0, false⟩), 16, ⟨wSlot, 0, 0, 0, 0, 0, false⟩,
      by decide +kernel⟩,
    ⟨ws [(0x80, 0x00100000)] (fun h => h.setSlot 0 ⟨wSlot, 0, 0, 0, 0, 0, false⟩), 16, ⟨wSlot, 0, 0, 0, 0, 0, false⟩,
      by decide +kernel⟩⟩

theorem test_CoreAccessesComplete_met :
    (∃ (s : State) (hart : Fin 19) (off : BitVec 16) (p : Nat), s.hw.isOn = true ∧ s.hw.hartPart hart = some p ∧ p < 8 ∧
      s.hw.partState p = 3 ∧ off.toNat % 4 = 0) ∧
    (∃ (s : State) (hart : Fin 19) (page : Fin 20) (off : BitVec 16) (p : Nat) (r : RegRow), s.hw.isOn = true ∧
      s.hw.hartPart hart = some p ∧ p < 8 ∧ s.hw.partState p = 3 ∧ off.toNat % 4 = 0 ∧
      readRow? (page.val * 0x10000 + off.toNat) = some r ∧ r.rc ≠ 0 ∧ r.pair = 0) ∧
    (∃ (s : State) (hart : Fin 19) (page : Fin 20) (off : BitVec 16) (p : Nat) (r : RegRow), s.hw.isOn = true ∧
      s.hw.hartPart hart = some p ∧ p < 8 ∧ s.hw.partState p = 3 ∧ off.toNat % 4 = 0 ∧
      readRow? (page.val * 0x10000 + off.toNat) = some r ∧ r.pair = 1) ∧
    (∃ (s : State) (hart : Fin 19) (page : Fin 20) (off : BitVec 16) (p : Nat) (r : RegRow), s.hw.isOn = true ∧
      s.hw.hartPart hart = some p ∧ p < 8 ∧ s.hw.partState p = 3 ∧ off.toNat % 4 = 0 ∧
      regRow? (page.val * 0x10000 + off.toNat) = some r ∧ r.pair = 2 ∧ r.rw ≠ 0 ∧
      viewWrites s.hw p (page.val * 0x10000 + off.toNat) r = true ∧ regLocked s.hw (page.val * 0x10000 + off.toNat) r = false) ∧
    (∃ (s : State) (hart : Fin 19) (addr : DWord) (lg : Fin 4) (p : Nat), s.hw.isOn = true ∧ hart.val < 16 ∧
      s.hw.hartPart hart = some p ∧ s.hw.partState p = 3 ∧ addr.toNat + 2 ^ lg.val ≤ 0xE04000000 ∧
      s.hw.owns p addr.toNat (2 ^ lg.val) = true ∧ s.hw.ecc = [] ∧ Memory.wf s.hw.mem = true) ∧
    (∃ (s : State) (hart : Fin 19) (addr : DWord) (lg : Fin 4) (p : Nat), s.hw.isOn = true ∧ hart.val < 16 ∧
      s.hw.hartPart hart = some p ∧ s.hw.partState p = 3 ∧ addr.toNat + 2 ^ lg.val ≤ 0xE04000000 ∧
      s.hw.mayRead p addr.toNat (2 ^ lg.val) = true ∧ s.hw.ecc = []) ∧
    (∃ (s : State) (hart : Fin 19) (addr : DWord) (st : Option Word) (p : Nat), s.hw.isOn = true ∧ s.hw.hartPart hart = some p ∧
      s.hw.partState p = 3 ∧ reach s.hw hart p addr.toNat 4 st.isSome = .unmapped) ∧
    (∃ (s : State) (pair : Fin 3) (addr : Word) (p : Nat), s.hw.isOn = true ∧ s.hw.hartPart (16 + pair.val) = some p ∧
      s.hw.partState p = 3 ∧ 0x40000000 ≤ addr.toNat ∧ addr.toNat < 0x80000000 ∧ addr.toNat % 4 = 0 ∧
      winAddr s.hw pair (addr.toNat + 0x40000000) + 4 ≤ 0xE04000000 ∧
      s.hw.owns p (winAddr s.hw pair (addr.toNat + 0x40000000)) 4 = true ∧ s.hw.ecc = [] ∧ Memory.wf s.hw.mem = true) :=
  ⟨⟨ws [], 16, 0x2000, 0, by decide +kernel⟩,
    ⟨ws [(0x2020c, 5)], 16, 2, 0x20c, 0, (readRow? 0x2020c).getD wRow, by decide +kernel⟩,
    ⟨ws [], 16, 0, 0x10, 0, (readRow? 0x10).getD wRow, by decide +kernel⟩,
    ⟨ws [], 16, 2, 4, 0, (regRow? 0x20004).getD wRow, by decide +kernel⟩,
    ⟨ws [], 0, 0x40000008, 3, 1, by decide +kernel⟩,
    ⟨ws [], 0, 0x40000008, 3, 1, by decide +kernel⟩,
    ⟨ws [], 16, 0x20000000, none, 0, by decide +kernel⟩,
    ⟨ws [(0x24100, 12)] (fun h => { h with mem := [(0x100, 10)] }), 0, 0x40000100, 0, by decide +kernel⟩⟩

theorem test_CombAndCoherencyComplete_met :
    (∃ (s : State) (line : BitVec 36), s.hw.isOn = true ∧ inMain (64 * line.toNat) 64 = true) ∧
    (∃ (s : State) (line : BitVec 36) (c : Fin 4) (x : DLine), s.hw.isOn = true ∧ mget s.hw.dir line.toNat = some x ∧
      x.own = some c.val) ∧
    (∃ (s : State), s.hw.isOn = true) ∧
    (∃ (s : State) (id : Nat) (f : Flight), s.hw.isOn = true ∧ s.hw.flight id = some f ∧ f.stage = 1) ∧
    (∃ (s : State), s.hw.isOn = true) ∧
    (∃ (s : State), s.hw.isOn = true) :=
  ⟨⟨ws [], 5, by decide +kernel⟩,
    ⟨ws [] (fun h => { h with dir := [(5, ⟨[2], some 2, true, 0⟩)] }), 5, 2, ⟨[2], some 2, true, 0⟩, by decide +kernel⟩,
    ⟨ws [], by decide +kernel⟩,
    ⟨ws [] (wOp wArm), 1, wArm, by decide +kernel⟩,
    ⟨ws [], by decide +kernel⟩,
    ⟨ws [], by decide +kernel⟩⟩

theorem test_PartitionCommandsComplete_met :
    (∃ (s : State), s.hw.isOn = true) ∧
    (∃ (s : State), s.hw.isOn = true) ∧
    (∃ (s : State) (hart : Fin 19) (l : List LEnt), s.hw.isOn = true ∧ s.hw.byP0 hart = true ∧ s.hw.prp.cmd = none ∧
      s.hw.flag F.PRP_PART_ST_BUSY = false ∧ (List.range 7).all (fun k => decide (s.hw.partState (k + 1) < 2)) = true ∧
      readImage s.hw (s.hw.get64 F.PRP_LAYOUT_ADDR_LO_ADDR) = some l ∧ layoutStatus s.hw l = ST_OK) ∧
    (∃ (s : State) (hart : Fin 19) (p : Fin 8), s.hw.isOn = true ∧ s.hw.byP0 hart = true ∧ cmdOk s.hw p [1] = true) ∧
    (∃ (s : State) (hart : Fin 19) (p : Fin 8), s.hw.isOn = true ∧ s.hw.byP0 hart = true ∧ cmdOk s.hw p [3, 4] = true) ∧
    (∃ (s : State) (hart : Fin 19) (p : Fin 8), s.hw.isOn = true ∧ s.hw.byP0 hart = true ∧ cmdOk s.hw p [3, 4] = true) ∧
    (∃ (s : State) (hart : Fin 19) (p : Fin 8) (es : List LEnt), s.hw.isOn = true ∧ s.hw.byP0 hart = true ∧
      cmdOk s.hw p [1] = true ∧ readImage s.hw (s.hw.get64 F.PRP_LAYOUT_ADDR_LO_ADDR) = some es ∧
      es.all (fun e => e.part == p.val) = true ∧
      layoutStatus s.hw (s.hw.prp.layout.filter (fun e => e.part != p.val) ++ es) = ST_OK) ∧
    (∃ (s : State) (c : PCmd), s.hw.isOn = true ∧ s.hw.prp.cmd = some c ∧ c.kind = 2) ∧
    (∃ (dt : Nat) (s : State) (p : Fin 8) (g : Hw) (c : PCmd), s.hw.isOn = true ∧ s.hw.partState p = 2 ∧
      loadComponents (fillPart (s.hw.elapse dt) p) p = (g, true) ∧ s.hw.prp.cmd = some c ∧ c.kind = 1 ∧ c.part = p.val ∧
      g.prp.cmd = some c) :=
  ⟨⟨ws [] (fun h => { h with prp := { h.prp with resv := [⟨1, 0, 1, 1, 1, false, false⟩] } }), by decide +kernel⟩,
    ⟨ws [], by decide +kernel⟩,
    ⟨ws [(0x20104, 1), (0x130008, 608)] wImage, 16, wLayout, by decide +kernel⟩,
    ⟨ws [(0x20104, 1)], 16, 1, by decide +kernel⟩,
    ⟨ws [], 16, 1, by decide +kernel⟩,
    ⟨ws [], 16, 1, by decide +kernel⟩,
    ⟨ws [(0x20104, 1), (0x130008, 608)] (fun h => wImage { h with prp := { h.prp with layout := [] } }), 16, 1, wLayout,
      by decide +kernel⟩,
    ⟨ws [] (fun h => { h with prp := { h.prp with cmd := some ⟨2, 1, false⟩ } }), ⟨2, 1, false⟩, by decide +kernel⟩,
    ⟨0, ws [(0x20104, 2)] (fun h => { h with prp := { h.prp with cmd := some ⟨1, 1, false⟩ } }), 1, fillPart (wHw [(0x20104, 2)]
      |> fun h => { h with prp := { h.prp with cmd := some ⟨1, 1, false⟩ } }) 1, ⟨1, 1, false⟩, by decide +kernel⟩⟩

theorem test_RingCommandsComplete_met :
    (∃ (s : State) (hart : Fin 19) (addr : DWord) (p : Nat), s.hw.isOn = true ∧ hart.val < 16 ∧ s.hw.hartPart hart = some p ∧
      s.hw.partState p = 3 ∧ addr.toNat + 4 ≤ 0xE04000000 ∧ watchedAt s.hw addr.toNat = true ∧ s.hw.owns p addr.toNat 4 = true ∧
      s.hw.ecc = [] ∧ Memory.wf s.hw.mem = true) ∧
    (∃ (s : State) (r : Fin 1024), s.hw.isOn = true ∧ (s.hw.ring r).woken = true ∧ s.hw.ringState r = 1 ∧ s.hw.isCpl r = true) ∧
    (∃ (dt : Nat) (s : State) (eng : Fin 13) (r : Nat), s.hw.isOn = true ∧ (s.hw.elapse dt).pickRing eng = some r) ∧
    (∃ (s : State) (id : Nat) (f : Flight), s.hw.isOn = true ∧ s.hw.flight id = some f ∧ s.hw.mayComplete f = true) ∧
    (∃ (dt : Nat) (s : State) (r : Fin 1024) (t : Nat), s.hw.isOn = true ∧ (s.hw.ring r).unsignalled = some t ∧
      s.hw.get F.RNG_IRQ_TIME r ≠ 0 ∧ s.hw.isCpl r = true ∧ t + 1000 * s.hw.get F.RNG_IRQ_TIME r ≤ s.hw.now + dt) ∧
    (∃ (s : State) (hart : Fin 19) (r : Fin 1024), s.hw.isOn = true ∧ s.hw.mayWriteRing hart r = true ∧ s.hw.ringState r = 0 ∧
      ringCheck s.hw r = ST_OK) ∧
    (∃ (s : State) (hart : Fin 19) (r : Fin 1024), s.hw.isOn = true ∧ s.hw.mayWriteRing hart r = true ∧ s.hw.ringState r = 1 ∧
      s.hw.isCpl r = false) ∧
    (∃ (s : State) (r : Fin 1024), s.hw.isOn = true ∧ s.hw.ringState r = 2 ∧
      s.hw.rng.flights.all (fun f => f.ring != r.val) = true ∧ (s.hw.ring r).reserved = 0) ∧
    (∃ (s : State) (hart : Fin 19) (r : Fin 1024), s.hw.isOn = true ∧ s.hw.mayWriteRing hart r = true ∧ s.hw.ringState r = 0) ∧
    (∃ (s : State) (id : Nat) (f : Flight), s.hw.isOn = true ∧ OpRuns s.hw id 0 1 f ∧ bit (fld f.desc 0 1) 4 = false ∧
      bit (fld f.desc 0 1) 5 = false ∧ s.hw.ecc = [] ∧ Memory.wf s.hw.mem = true ∧
      fld f.desc 8 8 + fld f.desc 4 4 ≤ fld f.desc 16 8) ∧
    (∃ (s : State) (id : Nat) (f : Flight), s.hw.isOn = true ∧ OpRuns s.hw id 0 2 f ∧ bit (fld f.desc 0 1) 5 = false ∧
      s.hw.ecc = [] ∧ Memory.wf s.hw.mem = true) :=
  ⟨⟨ws [(0x18010, 0x40000100)] (fun h => h.setRing 0 { watched := true }), 0, 0x40000104, 1, by decide +kernel⟩,
    ⟨ws [(0x18008, 0x20), (0x1801c, 5)] (fun h => h.setRing 0 { woken := true }), 0, by decide +kernel⟩,
    ⟨0, wRings, 0, 1, by decide +kernel⟩,
    ⟨ws [] (wOp { wArm with stage := 2 }), 1, { wArm with stage := 2 }, by decide +kernel⟩,
    ⟨5000000000, ws [(0x18008, 0x20), (0x18018, 0xffffffff)] (fun h => h.setRing 0 { unsignalled := some 0 }), 0, 0,
      by decide +kernel⟩,
    ⟨ws wCplRing, 16, 0, by decide +kernel⟩,
    ⟨ws [(0x1801c, 5)], 16, 0, by decide +kernel⟩,
    ⟨ws [(0x1801c, 8)], 0, by decide +kernel⟩,
    ⟨ws [], 16, 0, by decide +kernel⟩,
    ⟨ws [] (fun h => wOp (wFl 0 wCopy) { h with mem := [(0x102, 7)] }), 1, wFl 0 wCopy, by decide +kernel⟩,
    ⟨ws [] (wOp (wFl 0 wFill)), 1, wFl 0 wFill, by decide +kernel⟩⟩

theorem test_HeaderCommandsComplete_met :
    (∃ (s : State), s.hw.isOn = true ∧ s.hw.prp.loop = true) ∧
    (∃ (dt : Nat) (s : State) (t : Nat), s.hw.isOn = true ∧ s.hw.prp.lostAt = some t ∧ s.hw.now + dt ≤ t + 50000000) ∧
    (∃ (dt : Nat) (s : State) (t : Nat), s.hw.isOn = true ∧ s.hw.prp.lostAt = some t ∧ t + 50000000 < s.hw.now + dt) ∧
    (∃ (s : State), s.hw.isOn = true ∧ s.hw.get F.PRP_HDR_STATUS_STATE = 0 ∧ challengeable s.hw = true) ∧
    (∃ (dt : Nat) (s : State) (t : Nat), s.hw.isOn = true ∧ s.hw.prp.retryAt = some t ∧ t ≤ s.hw.now + dt ∧
      s.hw.prp.loop = true ∧ 3 ≤ s.hw.get F.PRP_HDR_STATUS_STATE ∧ challengeable s.hw = true) ∧
    (∃ (s : State) (ident : BitVec 24) (sof : Nat) (c : Chal), s.hw.isOn = true ∧ s.hw.prp.chal = some c ∧
      sof / 2000000 = ident.toNat / 2 ^ (22 - c.r)) ∧
    (∃ (dt : Nat) (s : State) (c : Chal) (st : Nat) (ev : Option Nat), s.hw.isOn = true ∧ s.hw.prp.chal = some c ∧
      c.endAt + 2000000 * roundSlots c.r ≤ s.hw.now + dt ∧ roundOutcome c.r c.ans = some (st, ev)) ∧
    (∃ (s : State) (b : Fin 128) (t : CanTx), s.hw.isOn = true ∧ (s.hw.canc 1).loops.find? (fun t => t.mb == b.val) = some t) :=
  ⟨⟨ws [] (fun h => { h with prp := { h.prp with loop := true } }), by decide +kernel⟩,
    ⟨5, ws [] (fun h => { h with prp := { h.prp with lostAt := some 0 } }), 0, by decide +kernel⟩,
    ⟨50000001, ws [] (fun h => { h with prp := { h.prp with lostAt := some 0 } }), 0, by decide +kernel⟩,
    ⟨ws [(0xc1100, 0x11), (0xc1108, 0)], by decide +kernel⟩,
    ⟨0, ws [(0x23004, 3), (0xc1100, 0x11), (0xc1108, 0)] (fun h =>
      { h with prp := { h.prp with loop := true, retryAt := some 0 } }), 0, by decide +kernel⟩,
    ⟨ws [] (fun h => { h with prp := { h.prp with chal := some ⟨zeros 16, 0, 0, []⟩ } }), 0x400000, 2000001, ⟨zeros 16, 0, 0,
      []⟩, by decide +kernel⟩,
    ⟨8000000, ws [] (fun h => { h with prp := { h.prp with chal := some ⟨zeros 16, 0, 0, []⟩ } }), ⟨zeros 16, 0, 0, []⟩, 3,
      none, by decide +kernel⟩,
    ⟨ws [] (fun h => h.setCanc 1 { loops := [⟨5, ⟨1, 0, false, false, []⟩, 0, none⟩] }), 5, ⟨5, ⟨1, 0, false, false, []⟩, 0,
      none⟩, by decide +kernel⟩⟩

theorem test_CameraCommandsComplete_met :
    (∃ (s : State) (hart : Fin 19) (c : Fin 16), s.hw.isOn = true ∧ s.hw.byOwner hart (296 + c) = true ∧ s.hw.camOn c = false ∧
      camCheck s.hw c = ST_OK) ∧
    (∃ (s : State) (hart : Fin 19) (c : Fin 16), s.hw.isOn = true ∧ s.hw.byOwner hart (296 + c) = true ∧ s.hw.camOn c = true) ∧
    (∃ (s : State) (hart : Fin 19) (c : Fin 16), s.hw.isOn = true ∧ s.hw.byOwner hart (296 + c) = true ∧ s.hw.camOn c = false) ∧
    (∃ (s : State) (c : Fin 16), s.hw.isOn = true ∧ s.hw.get F.IMG_CAM_STATUS_LINK c = 1) ∧
    (∃ (s : State) (c : Fin 16), s.hw.isOn = true ∧ s.hw.get F.IMG_CAM_STATUS_LINK c = 2) ∧
    (∃ (dt : Nat) (s : State) (c : Fin 16), s.hw.isOn = true ∧ s.hw.get F.IMG_CAM_STATUS_LINK c = 3 ∧ s.hw.camOn c = true ∧
      (s.hw.cam c).linkAt + 500000000 ≤ s.hw.now + dt) ∧
    (∃ (s : State) (id : Nat) (f : Flight), s.hw.isOn = true ∧ OpRuns s.hw id 4 4 f ∧
      s.hw.get F.IMG_CAM_STATUS_LINK (iCam f.desc) = 2 ∧ s.hw.ecc = [] ∧ Memory.wf s.hw.mem = true) ∧
    (∃ (dt : Nat) (s : State) (id : Nat) (f : Flight), s.hw.isOn = true ∧ OpRuns s.hw id 4 4 f ∧
      f.since + 10000000 ≤ s.hw.now + dt) :=
  ⟨⟨ws wCam, 16, 0, by decide +kernel⟩,
    ⟨ws [(0x31000, 1)] (fun h => h.setCam 0 { posted := [7] }), 16, 0, by decide +kernel⟩,
    ⟨ws [], 16, 0, by decide +kernel⟩,
    ⟨(ws []).link 1, 0, by decide +kernel⟩,
    ⟨(ws []).link 2, 0, by decide +kernel⟩,
    ⟨500000000, (ws [(0x31000, 1)]).link 3, 0, by decide +kernel⟩,
    ⟨(ws [] (wOp (wFl 4 wCci))).link 2, 1, wFl 4 wCci, by decide +kernel⟩,
    ⟨10000000, ws [] (wOp (wFl 4 wCci)), 1, wFl 4 wCci, by decide +kernel⟩⟩

theorem test_FrameCommandsComplete_met :
    (∃ (s : State) (id : Nat) (f : Flight), s.hw.isOn = true ∧ OpRuns s.hw id 4 1 f ∧
      (s.hw.cam (iCam f.desc)).posted.contains id = false ∧ (s.hw.cam (iCam f.desc)).recs.any (fun r => r.op == id) = false ∧
      (s.hw.cam (iCam f.desc)).posted.length < 256) ∧
    (∃ (s : State) (id : Nat) (f : Flight), s.hw.isOn = true ∧ OpRuns s.hw id 4 2 f ∧
      (s.hw.pipe (camPipe s.hw (iCam f.desc))).reproc.contains id = false ∧
      (s.hw.pipe (camPipe s.hw (iCam f.desc))).busy.map (·.op) ≠ some id) ∧
    (∃ (s : State) (id : Nat) (f : Flight), s.hw.isOn = true ∧ OpRuns s.hw id 4 3 f ∧ s.hw.ecc = [] ∧
      profOk (s.hw.rd (fld f.desc 8 8) profLen) (s.hw.camW (iCam f.desc)) (s.hw.camH (iCam f.desc)) = true) ∧
    (∃ (dt : Nat) (s : State) (c : Fin 16) (vc : Fin 16) (fmt : Fin 8) (r : FrameRec), s.hw.isOn = true ∧
      s.hw.get F.IMG_CAM_STATUS_LINK c = 2 ∧ vc.val = s.hw.get F.IMG_CAM_CFG_VC c ∧ fmt.val = s.hw.get F.IMG_CAM_CFG_FMT c ∧
      newest ((s.hw.cam c).recs.filter (fun r => !r.started && decide (r.cross + 1000 * s.hw.get F.IMG_CAM_TRIG_FS_MIN c ≤
        (s.hw.elapse dt).wgl.tb))) = some r) ∧
    (∃ (s : State) (c : Fin 16) (xs : List Nat) (q : Nat) (r : FrameRec) (f : Flight), s.hw.isOn = true ∧
      (s.hw.cam c).incoming = some (some q) ∧ (s.hw.cam c).recs.find? (fun r => r.seq == q) = some r ∧
      xs.length = s.hw.camPix c ∧ s.hw.flight r.op = some f) ∧
    (∃ (s : State) (q : Nat) (r : FrameRec), s.hw.isOn = true ∧ (s.hw.cam 0).incoming = some (some q) ∧
      s.hw.get F.IMG_CAM_CFG_PIPE 0 = 0 ∧ (s.hw.cam 0).recs.find? (fun r => r.seq == q) = some r) ∧
    (∃ (s : State) (c : Fin 16) (q : Nat) (r : FrameRec), s.hw.isOn = true ∧ (s.hw.cam c).incoming = some (some q) ∧
      (s.hw.cam c).recs.find? (fun r => r.seq == q) = some r) ∧
    (∃ (s : State), s.hw.isOn = true) ∧
    (∃ (s : State) (k : Fin 2) (x : Nat × FrameRec), s.hw.isOn = true ∧ (s.hw.pipe k).busy = none ∧
      (earliest ((readyFrames s.hw k).filter (·.2.inShare))).or (earliest (readyFrames s.hw k)) = some x) ∧
    (∃ (s : State) (k : Fin 2) (b : Pass) (f : Flight), s.hw.isOn = true ∧ (s.hw.pipe k).busy = some b ∧ b.seq = none ∧
      s.hw.flight b.op = some f ∧ s.hw.ecc = []) ∧
    (∃ (s : State) (k : Fin 2) (b : Pass) (q : Nat) (f : Flight) (r : FrameRec), s.hw.isOn = true ∧
      (s.hw.pipe k).busy = some b ∧ b.seq = some q ∧ s.hw.flight b.op = some f ∧
      (s.hw.cam b.cam).recs.find? (fun r => r.seq == q) = some r) ∧
    (∃ (s : State), s.hw.isOn = true) :=
  ⟨⟨ws [] (wOp (wFl 4 [1])), 1, wFl 4 [1], by decide +kernel⟩,
    ⟨ws [] (wOp (wFl 4 [2])), 1, wFl 4 [2], by decide +kernel⟩,
    ⟨wProfS, 1, wFl 4 [3], by decide +kernel, by decide +kernel, rfl, wProfS_ok⟩,
    ⟨1000000000, (ws [] (fun h => h.setCam 0
      { recs := [⟨4, 0, 0, 0, 1, false, false, 1, false, false, false, [], 0, 0⟩] })).link 2, 0, 0, 0, ⟨4, 0, 0, 0, 1, false,
      false, 1, false, false, false, [], 0, 0⟩, by decide +kernel⟩,
    ⟨ws [(0x31004, 0x20010)] (fun h => wOp (wFl 4 [1]) (h.setCam 0
      { recs := [⟨4, 0, 0, 0, 1, false, false, 1, false, false, false, [], 0, 0⟩], incoming := some (some 4) })), 0,
      List.replicate 32 3, 4, ⟨4, 0, 0, 0, 1, false, false, 1, false, false, false, [], 0, 0⟩, wFl 4 [1], by decide +kernel⟩,
    ⟨ws [(0x31000, 0)] (fun h => h.setCam 0
      { recs := [⟨4, 0, 0, 0, 1, false, false, 1, false, false, false, [], 0, 0⟩], incoming := some (some 4) }), 4, ⟨4, 0, 0, 0,
      1, false, false, 1, false, false, false, [], 0, 0⟩, by decide +kernel⟩,
    ⟨ws [] (fun h => h.setCam 0
      { recs := [⟨4, 0, 0, 0, 1, false, false, 1, false, false, false, [], 0, 0⟩], incoming := some (some 4) }), 0, 4, ⟨4, 0, 0,
      0, 1, false, false, 1, false, false, false, [], 0, 0⟩, by decide +kernel⟩,
    ⟨ws [] (fun h => h.setCam 0 { recs := [⟨4, 0, 0, 0, 1, false, false, 1, false, false, false, [], 0, 0⟩] }),
      by decide +kernel⟩,
    ⟨ws [(0x31000, 0x81)] (fun h => h.setCam 0
      { recs := [{ (⟨4, 0, 0, 0, 1, false, false, 1, false, false, false, [], 0, 0⟩ : FrameRec) with ready := true }] }), 0, (0,
      { (⟨4, 0, 0, 0, 1, false, false, 1, false, false, false, [], 0, 0⟩ : FrameRec) with ready := true }), by decide +kernel⟩,
    ⟨ws [(0x31004, 0x20010)] (fun h => wOp (wFl 4 [2]) (h.setPipe 0 { busy := some ⟨0, none, 1, []⟩ })), 0, ⟨0, none, 1, []⟩,
      wFl 4 [2], by decide +kernel⟩,
    ⟨ws [(0x31004, 0x20010)] (fun h => wOp (wFl 4 [1]) ((h.setPipe 0 { busy := some ⟨0, some 4, 1, []⟩ }).setCam 0
      { recs := [⟨4, 0, 0, 0, 1, false, false, 1, false, false, false, [], 0, 0⟩] })), 0, ⟨0, some 4, 1, []⟩, 4, wFl 4 [1], ⟨4,
      0, 0, 0, 1, false, false, 1, false, false, false, [], 0, 0⟩, by decide +kernel⟩,
    ⟨ws [] (fun h => h.setCam 0
      { recs := [{ (⟨4, 0, 0, 0, 1, false, false, 1, false, false, false, [], 0, 0⟩ : FrameRec) with ready := true }] }),
      by decide +kernel⟩⟩

theorem test_SensorCommandsComplete_met :
    (∃ (dt : Nat) (s : State) (port : Nat) (vals : List Int) (t : Nat), s.hw.isOn = true ∧
      (isAin port || isImp port || isBrg port || port == imuPort) = true ∧ s.hw.sfeOn port = true ∧ vals ≠ [] ∧
      sampleTov (s.hw.elapse dt) port = some t) ∧
    (∃ (s : State) (hart : Fin 19) (port : Fin 512), s.hw.isOn = true ∧ (isAin port || isBrg port) = true ∧
      s.hw.byOwner hart port = true) ∧
    (∃ (s : State) (k : Fin 40) (width : Nat), s.hw.isOn = true ∧ s.hw.sfeOn (390 + k.val) = true ∧
      100 * s.hw.get F.SFE_SPD_CFG_MINPULSE k ≤ width) ∧
    (∃ (s : State) (k : Fin 16) (tick : Nat) (data : List (Fin 16)), s.hw.isOn = true ∧ s.hw.sfeOn (494 + k.val) = true ∧
      data.length = s.hw.get F.SFE_SNT_CFG_NIB k ∧ 1500 * s.hw.get F.SFE_SNT_CFG_TICK k ≤ 4 * tick ∧
      4 * tick ≤ 2500 * s.hw.get F.SFE_SNT_CFG_TICK k) ∧
    (∃ (s : State) (id : Nat) (f : Flight), s.hw.isOn = true ∧ OpRuns s.hw id 11 1 f ∧
      (s.hw.bufq (qKey (fld f.desc 1 1) (if fld f.desc 1 1 = 0 then fld f.desc 2 2 else f.part))).bufs.contains id = false ∧
      (s.hw.bufq (qKey (fld f.desc 1 1) (if fld f.desc 1 1 = 0 then fld f.desc 2 2 else f.part))).bufs.length < 64) ∧
    (∃ (dt : Nat) (s : State) (id : Nat) (k : Nat) (t : Nat) (f : Flight), s.hw.isOn = true ∧ s.hw.queueOf id = some k ∧
      s.hw.flight id = some f ∧ f.stage ≠ 2 ∧ (s.hw.bufq k).bufs.head? = some id ∧ (s.hw.bufq k).first = some t ∧
      fld f.desc 20 4 ≠ 0 ∧ t + 1000 * fld f.desc 20 4 ≤ s.hw.now + dt) ∧
    (∃ (s : State) (c : Fin 48) (b : Nat), s.hw.isOn = true ∧ (mgetD s.hw.sfe.dets c {}).hit = some b ∧
      (mgetD s.hw.sfe.dets c {}).begun = false) ∧
    (∃ (s : State) (c : Fin 48) (b : Nat) (e : Nat) (long : Bool), s.hw.isOn = true ∧ (mgetD s.hw.sfe.dets c {}).hit = some b ∧
      (mgetD s.hw.sfe.dets c {}).ended = some (e, long) ∧ (mgetD s.hw.sfe.dets c {}).begun = true) ∧
    (∃ (dt : Nat) (s : State) (w : Fin 16), s.hw.isOn = true ∧ (s.hw.win w).openAt.isSome = true ∧
      s.hw.get F.SFE_WIN_STEP_STEP w ≠ 0 ∧
      (s.hw.win w).start + s.hw.get F.SFE_WIN_STEP_STEP w ≤ (s.hw.elapse dt).domHwm (s.hw.get F.SFE_WIN_CFG_DOMAIN w)) ∧
    (∃ (dt : Nat) (s : State) (w : Fin 16), s.hw.isOn = true ∧ (s.hw.win w).openAt.isSome = true ∧
      lengthReached (s.hw.elapse dt) (s.hw.win w) = true) ∧
    (∃ (s : State) (port : Fin 512), s.hw.isOn = true ∧ (isAin port || isBrg port) = true) :=
  ⟨⟨0, ws [(0x41500, 1)], 326, [7], 0, by decide +kernel⟩,
    ⟨ws [], 16, 326, by decide +kernel⟩,
    ⟨ws [(0x41600, 1)], 0, 1000, by decide +kernel⟩,
    ⟨ws [(0x41700, 0xc0d)], 0, 3000, [1, 2, 3, 4, 5, 6], by decide +kernel⟩,
    ⟨ws [] (wOp (wFl 11 [1, 0, 0x46, 1])), 1, wFl 11 [1, 0, 0x46, 1], by decide +kernel⟩,
    ⟨1000, ws [] (fun h => wOp (wFl 11 (zeros 20 ++ [1])) (h.setBufq 3 { bufs := [1], first := some 0 })), 1, 3, 0, wFl 11
      (zeros 20 ++ [1]), by decide +kernel⟩,
    ⟨ws [] (fun h => { h with sfe := { h.sfe with dets := [(2, { hit := some 0, xs := [5] })] } }), 2, 0, by decide +kernel⟩,
    ⟨ws [] (fun h =>
      { h with sfe := { h.sfe with dets := [(2, { hit := some 0, begun := true, xs := [5], ended := some (9, false) })] } }), 2,
      0, 9, false, by decide +kernel⟩,
    ⟨0, ws [(0x4200c, 5)] (fun h => h.setWin 0 { openAt := some 0, start := -10 }), 0, by decide +kernel⟩,
    ⟨5, ws [] (fun h => h.setWin 0 { openAt := some 0, len := some (31, 4) }), 0, by decide +kernel⟩,
    ⟨ws [], 326, by decide +kernel⟩⟩

theorem test_YieldCommandsComplete_met :
    (∃ (dt : Nat) (s : State) (id : Nat) (n : Nat) (f : Flight) (g : Hw), s.hw.isOn = true ∧ OpRuns s.hw id 11 2 f ∧
      takeFills ((List.range (fld f.desc 1 1)).map (fun i => (fld f.desc (8 + 12 * i) 8, fld f.desc (16 + 12 * i) 2, fld f.desc
        (18 + 12 * i) 2))) ST_OK 0 (yldAdvance (s.hw.elapse dt)) = (ST_OK, n, g)) ∧
    (∃ (s : State) (id : Nat) (f : Flight), s.hw.isOn = true ∧ OpRuns s.hw id 11 3 f ∧ s.hw.ecc = [] ∧
      calOk (s.hw.rd (fld f.desc 8 8) 160) = true) ∧
    (∃ (s : State) (id : Nat) (f : Flight), s.hw.isOn = true ∧ OpRuns s.hw id 11 4 f ∧ s.hw.yld.widths.length < 16) ∧
    (∃ (dt : Nat) (s : State) (id : Nat) (k : Nat) (f : Flight) (bs : List Byte) (g : Hw), s.hw.isOn = true ∧
      OpRuns s.hw id 11 5 f ∧ s.hw.ecc = [] ∧
      xnConvert ((List.range (fld f.desc 4 4)).map (fun i => slice (gather s.hw (if bit (fld f.desc 0 1) 4 then sgPieces s.hw
        (fld f.desc 8 8) (fld f.desc 24 2) else [(fld f.desc 8 8, 32 * fld f.desc 4 4)])) (32 * i) 32)) none 0 0 (s.hw.elapse
        dt) = (bs, k, true, g)) ∧
    (∃ (dt : Nat) (s : State) (p : Pad), s.hw.isOn = true ∧ yldOn s.hw = true ∧ padReady (yldAdvance (s.hw.elapse dt)) = some p) ∧
    (∃ (dt : Nat) (s : State), s.hw.isOn = true ∧ yldOn s.hw = true ∧
      (decide (s.hw.yld.base.g + s.hw.get F.SFE_YLD_RES_GND * 1000 ≤ (histNow (s.hw.elapse dt)).g) || (List.range (s.hw.get
        F.SFE_YLD_CFG_NSEG)).any (fun i => decide (s.hw.yld.base.at (i + 1) + (s.hw.get F.SFE_YLD_RES_ROT * 2 ^ 16 : Nat) ≤
        (histNow (s.hw.elapse dt)).at (i + 1)))) = true ∧
      (s.hw.yld.base.t == 0 || decide (s.hw.yld.base.t + 100000 ≤ (histNow (s.hw.elapse dt)).t)) = true) ∧
    (∃ (dt : Nat) (s : State), s.hw.isOn = true ∧ yldOn s.hw = true ∧ s.hw.yld.lastAdd + 10000000000 ≤ s.hw.now + dt) ∧
    (∃ (dt : Nat) (s : State) (hart : Fin 19) (v : Word), s.hw.isOn = true ∧ s.hw.byP0 hart = true ∧
      s.hw.flag F.SFE_YLD_CFG_EN = false ∧
      yldCheck ((s.hw.elapse dt).setReg (F.SFE_YLD_CFG_EN.at 0 0) (v &&& 0x0FFFFFFE#32)) = ST_OK) :=
  ⟨⟨0, ws [(0x43000, 0x00100001), (0x43040, 1)] (wOp (wFl 11 wFillD)), 1, 1, wFl 11 wFillD, (takeFills [(0, 7, 9)] 0 0
      (yldAdvance (wOp (wFl 11 wFillD) (wHw [(0x43000, 0x00100001), (0x43040, 1)])))).2.2, by decide +kernel⟩,
    ⟨ws [] (fun h => wOp (wFl 11 [3]) { h with mem := [(0, 1), (2, 1), (4, 2), (12, 1), (40, 1)] }), 1, wFl 11 [3],
      by decide +kernel⟩,
    ⟨ws [] (wOp (wFl 11 [4])), 1, wFl 11 [4], by decide +kernel⟩,
    ⟨0, ws [] (wOp (wFl 11 wXn)), 1, 1, wFl 11 wXn, (xnConvert [zeros 32] none 0 0 (wOp (wFl 11 wXn) (wHw []))).1, (xnConvert
      [zeros 32] none 0 0 (wOp (wFl 11 wXn) (wHw []))).2.2.2, by decide +kernel⟩,
    ⟨0, ws [(0x43000, 0x00100001), (0x43040, 1)] (fun h => h.setYld { nextJ := 20, pads := [⟨3, 0, some 5, [], false, none⟩] }),
      ⟨3, 0, some 5, [], false, none⟩, by decide +kernel⟩,
    ⟨0, ws [(0x43000, 0x00100001), (0x43040, 1), (0x43028, 0x00010001)] (fun h => h.setYld { base := ⟨0, -5000, 0, 0, 0⟩ }),
      by decide +kernel⟩,
    ⟨10000000000, ws [(0x43040, 1)], by decide +kernel⟩,
    ⟨0, ws [(0x1000, 1), (0x1040, 2)], 16, 0x00100201, by decide +kernel⟩⟩

theorem test_ControlCommandsComplete_met :
    (∃ (dt : Nat) (s : State), s.hw.isOn = true ∧ s.hw.ctl.nextAt ≤ (s.hw.elapse dt).wgl.tb) ∧
    (∃ (dt : Nat) (s : State) (id : Nat) (f : Flight), s.hw.isOn = true ∧ OpRuns s.hw id 6 1 f ∧
      ctlFirst (s.hw.elapse dt) f = true ∧ (ctlEntries f.desc).any (fun e => (outerOf s.hw (e.1 % 256)).isSome) = false) ∧
    (∃ (dt : Nat) (s : State) (id : Nat) (f : Flight), s.hw.isOn = true ∧ OpRuns s.hw id 6 2 f ∧
      ctlFirst (s.hw.elapse dt) f = true) ∧
    (∃ (dt : Nat) (s : State) (id : Nat) (f : Flight), s.hw.isOn = true ∧ OpRuns s.hw id 6 3 f ∧
      ctlFirst (s.hw.elapse dt) f = true ∧
      (ctlEntries f.desc).all (fun e => modeCheck (s.hw.elapse dt) s.hw.ctl.nextAt e == ST_OK) = true) ∧
    (∃ (dt : Nat) (s : State) (id : Nat) (f : Flight) (new : List (Nat × List Byte)), s.hw.isOn = true ∧ OpRuns s.hw id 6 4 f ∧
      ctlFirst (s.hw.elapse dt) f = true ∧ s.hw.ecc = [] ∧ s.hw.rdN (fld f.desc 8 8) 2 = 1 ∧
      new.length = s.hw.rdN (fld f.desc 8 8 + 2) 2 ∧ 1 ≤ new.length ∧ new.length ≤ 256 ∧
      allZero (s.hw.rd (fld f.desc 8 8 + 4) 12) = true ∧
      new = (List.range new.length).map (fun i => (s.hw.rdN (fld f.desc 8 8 + 16 + 128 * i) 1, s.hw.rd (fld f.desc 8 8 + 16 +
        128 * i) 128)) ∧ rising (new.map (·.1)) = true ∧ loadCheck s.hw new = ST_OK) ∧
    (∃ (dt : Nat) (s : State) (id : Nat) (f : Flight), s.hw.isOn = true ∧ OpRuns s.hw id 6 5 f ∧
      ctlFirst (s.hw.elapse dt) f = true ∧ mget s.hw.ctl.inj (fld f.desc 1 1 / 64) = none ∧
      (s.hw.cslot (fld f.desc 1 1)).state = 1 ∧ fld f.desc 24 4 ≤ 50000000 / rDiv (s.hw.cslot (fld f.desc 1 1)).rec_ ∧
      fld f.desc 28 4 ≤ 50000000 / rDiv (s.hw.cslot (fld f.desc 1 1)).rec_) ∧
    (∃ (dt : Nat) (s : State) (id : Nat) (f : Flight), s.hw.isOn = true ∧ OpRuns s.hw id 6 6 f ∧
      ctlFirst (s.hw.elapse dt) f = true ∧ s.hw.ctl.capt = none) ∧
    (∃ (dt : Nat) (s : State) (id : Nat) (f : Flight) (bs : List Byte), s.hw.isOn = true ∧ OpRuns s.hw id 6 7 f ∧
      ctlFirst (s.hw.elapse dt) f = true ∧ s.hw.ecc = [] ∧ Memory.wf s.hw.mem = true ∧
      bs = (List.range (fld f.desc 16 4)).flatMap (fun i => mgetD s.hw.ctl.sram (fld f.desc 4 4 + i) (zeros 32))) ∧
    (∃ (s : State) (hart : Fin 19), s.hw.isOn = true ∧ s.hw.byCtl hart = true) ∧
    (∃ (s : State) (hart : Fin 19) (n : Nat) (r : List Byte), s.hw.isOn = true ∧ s.hw.byCtl hart = true ∧
      n = s.hw.get F.CTL_SLOT_SEL_SLOT ∧ r = (List.range 32).flatMap (fun i => leBytes 4 (s.hw.get F.CTL_REC_DATA_DATA i)) ∧
      fld r 0 1 = n ∧ (s.hw.cslot n).state = 0 ∧ loadCheck s.hw [(n, r)] = ST_OK) ∧
    (∃ (s : State) (hart : Fin 19), s.hw.isOn = true ∧ s.hw.byCtl hart = true) :=
  ⟨⟨0, ws [], by decide +kernel⟩,
    ⟨5, ws [] (wCtl wCtlD1 { nextAt := 1 }), 1, wFl 6 wCtlD1, by decide +kernel⟩,
    ⟨5, ws [] (wCtl wCtlD2 { nextAt := 1 }), 1, wFl 6 wCtlD2, by decide +kernel⟩,
    ⟨5, ws [] (wCtl wCtlD3 { nextAt := 1, slots := [(0, { raw := some wRec })] }), 1, wFl 6 wCtlD3, by decide +kernel⟩,
    ⟨5, ws [] (fun h => wCtl [4] { nextAt := 1 } { h with mem := [(0, 1), (2, 1), (28, 1), (110, 1)] }), 1, wFl 6 [4], [(0,
      wRec)], by decide +kernel⟩,
    ⟨5, ws [] (wCtl [5] { nextAt := 1, slots := [(0, { raw := some wRec, state := 1 })] }), 1, wFl 6 [5], by decide +kernel⟩,
    ⟨5, ws [] (wCtl [6, 1] { nextAt := 1 }), 1, wFl 6 [6, 1], by decide +kernel⟩,
    ⟨5, ws [] (wCtl wCtlD7 { nextAt := 1, sram := [(0, List.replicate 32 9)] }), 1, wFl 6 wCtlD7, List.replicate 32 9,
      by decide +kernel⟩,
    ⟨ws [], 17, by decide +kernel⟩,
    ⟨ws [(F.CTL_REC_DATA_DATA.at 3 0, 1), (F.CTL_REC_DATA_DATA.at 23 0, 0x10000)], 17, 0, wRec, by decide +kernel⟩,
    ⟨ws [], 17, by decide +kernel⟩⟩

theorem test_ValveCommandsComplete_met :
    (∃ (dt : Nat) (s : State) (hart : Fin 19) (c : Fin 48) (v : Word), s.hw.isOn = true ∧ s.hw.byOwner hart c = true ∧
      solOn s.hw c = false ∧
      solCheck ((s.hw.elapse dt).setReg (F.SOL_CFG_ENABLE.at c 0) (BitVec.ofNat 32 ((v.toNat % 2 ^ 12 + v.toNat / 2 ^ 16 * 2 ^
        16) / 2 * 2))) c = ST_OK) ∧
    (∃ (s : State) (hart : Fin 19) (c : Fin 48), s.hw.isOn = true ∧ s.hw.byOwner hart c = true ∧ solOn s.hw c = true) ∧
    (∃ (s : State) (id : Nat) (f : Flight) (img : List Byte), s.hw.isOn = true ∧ OpRuns s.hw id 12 1 f ∧ s.hw.ecc = [] ∧
      img = s.hw.rd (fld f.desc 8 8) (fld f.desc 16 4) ∧ profCheck s.hw f.part img (fld f.desc 16 4) = ST_OK) ∧
    (∃ (s : State) (id : Nat) (f : Flight), s.hw.isOn = true ∧ OpRuns s.hw id 12 2 f) ∧
    (∃ (dt : Nat) (s : State) (c : Fin 48), s.hw.isOn = true ∧ (s.hw.sol c).out = 3 ∧ ttpOpen s.hw c = false ∧
      phDur (s.hw.sol c).prof (s.hw.sol c).phase ≠ 0 ∧
      (s.hw.sol c).phaseAt + phDur (s.hw.sol c).prof (s.hw.sol c).phase ≤ s.hw.now + dt) ∧
    (∃ (dt : Nat) (s : State) (c : Fin 48), s.hw.isOn = true ∧ (s.hw.sol c).out = 3 ∧
      phKind (s.hw.sol c).prof (s.hw.sol c).phase = 1 ∧ ttpOpen s.hw c = false ∧
      s.hw.now + dt ≤ (s.hw.sol c).phaseAt + phDur (s.hw.sol c).prof (s.hw.sol c).phase) ∧
    (∃ (dt : Nat) (s : State) (c : Fin 48), s.hw.isOn = true ∧ (s.hw.sol c).out ≠ 3 ∧ (s.hw.sol c).offEnd ≤ s.hw.now + dt) ∧
    (∃ (dt : Nat) (s : State) (c : Fin 48) (reached : Bool), s.hw.isOn = true ∧ ttpOpen s.hw c = true ∧
      (reached = true ∨ (s.hw.sol c).phaseAt + 10000 * (s.hw.sol c).ttpMax ≤ s.hw.now + dt)) ∧
    (∃ (dt : Nat) (s : State), s.hw.isOn = true ∧ s.hw.vlv.oilMs ≠ some ((s.hw.now + dt) / 1000000)) ∧
    (∃ (dt : Nat) (s : State) (c : Fin 48), s.hw.isOn = true ∧ solOn s.hw c = true ∧
      (s.hw.sol c).stepMs ≠ some ((s.hw.now + dt) / 1000000)) :=
  ⟨⟨0, ws [], 16, 0, 0x29, by decide +kernel⟩,
    ⟨ws [(0x61000, 0x29)], 16, 0, by decide +kernel⟩,
    ⟨ws [] (fun h => wOp (wFl 12 wProfD) { h with mem := [(0, 1), (2, 1), (17, 1)] }), 1, wFl 12 wProfD, [1, 0, 1] ++ zeros 14
      ++ [1] ++ zeros 78, by decide +kernel⟩,
    ⟨ws [(0x61000, 0x2d)] (wOp (wFl 12 wCurD)), 1, wFl 12 wCurD, by decide +kernel⟩,
    ⟨100000, ws [] (fun h => h.setSol 0 { out := 3, prof := wProf2 }), 0, by decide +kernel⟩,
    ⟨1, ws [] (fun h => h.setSol 0 { out := 3, prof := wProf2 }), 0, by decide +kernel⟩,
    ⟨5, ws [] (fun h => h.setSol 0 { offEnd := 5 }), 0, by decide +kernel⟩,
    ⟨9000, ws [] (fun h => h.setSol 0 { out := 3, prof := wProf2, ttpMax := 5 }), 0, true, by decide +kernel⟩,
    ⟨0, ws [], by decide +kernel⟩,
    ⟨0, ws [(0x61000, 0x29)], 0, by decide +kernel⟩⟩

theorem test_ValveFaultsComplete_met :
    (∃ (s : State) (c : Fin 48), s.hw.isOn = true ∧ (s.hw.sol c).out ≠ 0) ∧
    (∃ (dt : Nat) (s : State) (c : Fin 48), s.hw.isOn = true ∧ (showSol (s.hw.elapse dt) c).get F.SOL_CURRENT_CODE c = 0 ∧
      (s.hw.sol c).shortBat = false) ∧
    (∃ (dt : Nat) (s : State) (c : Fin 48), s.hw.isOn = true ∧ 256 ≤ (showSol (s.hw.elapse dt) c).get F.SOL_CURRENT_CODE c ∧
      (s.hw.sol c).openNow = false) ∧
    (∃ (s : State) (c : Fin 48), s.hw.isOn = true ∧ ((s.hw.sol c).out = 1 ∨ (s.hw.sol c).out = 2 ∨ ((s.hw.sol c).out = 3 ∧
      phKind (s.hw.sol c).prof (s.hw.sol c).phase = 0))) ∧
    (∃ (s : State), s.hw.isOn = true) ∧
    (∃ (s : State), s.hw.isOn = true) ∧
    (∃ (s : State) (c : Fin 48), s.hw.isOn = true ∧ (s.hw.sol c).drvHot = false) ∧
    (∃ (s : State), s.hw.isOn = true) ∧
    (∃ (s : State), s.hw.isOn = true) :=
  ⟨⟨ws [] (fun h => h.setSol 0 { out := 1, base := 9 }), 0, by decide +kernel⟩,
    ⟨0, ws [], 0, by decide +kernel⟩,
    ⟨0, ws [] (fun h => h.setSol 0 { out := 1, base := 300 }), 0, by decide +kernel⟩,
    ⟨ws [] (fun h => h.setSol 0 { out := 1, base := 9 }), 0, by decide +kernel⟩,
    ⟨ws [], by decide +kernel⟩,
    ⟨ws [], by decide +kernel⟩,
    ⟨ws [], 0, by decide +kernel⟩,
    ⟨ws [], by decide +kernel⟩,
    ⟨ws [], by decide +kernel⟩⟩

theorem test_LoadSwitchCommandsComplete_met :
    (∃ (s : State) (hart : Fin 19) (c : Fin 96) (v : Word), s.hw.isOn = true ∧ s.hw.byOwner hart (48 + c) = true ∧
      s.hw.flag F.LSW_CFG_ENABLE c = false ∧ bits (v ||| 1).toNat 15 8 ≠ 0 ∧ bits (v ||| 1).toNat 7 7 = 0 ∧
      bits (v ||| 1).toNat 31 16 = 0) ∧
    (∃ (s : State) (id : Nat) (f : Flight), s.hw.isOn = true ∧ OpRuns s.hw id 12 3 f) ∧
    (∃ (s : State) (c : Fin 96) (dur : Nat), s.hw.isOn = true ∧ lsOn s.hw c = true ∧
      100000 * s.hw.get F.LSW_CFG_LIMIT_T c < dur) ∧
    (∃ (s : State) (c : Fin 96), s.hw.isOn = true ∧ lsOn s.hw c = true) ∧
    (∃ (s : State) (c : Fin 96), s.hw.isOn = true ∧ lsOn s.hw c = false ∧ s.hw.flag F.LSW_CFG_OL_OFF c = true) ∧
    (∃ (s : State) (c : Fin 96), s.hw.isOn = true ∧ (s.hw.out (48 + c)).ot = false) ∧
    (∃ (s : State) (c : Fin 96), s.hw.isOn = true ∧ (s.hw.out (48 + c)).ot = true ∧ (s.hw.out (48 + c)).otLatch = false) ∧
    (∃ (s : State) (hart : Fin 19) (c : Fin 96), s.hw.isOn = true ∧ s.hw.byOwner hart (48 + c) = true) :=
  ⟨⟨ws [], 16, 0, 0x101, by decide +kernel⟩,
    ⟨ws [(0x71000, 3)] (wOp (wFl 12 wLsD)), 1, wFl 12 wLsD, by decide +kernel⟩,
    ⟨ws [(0x71000, 0x101), (0x70004, 1)] (fun h => h.setOut 48 { cmd := true, stay := false }), 0, 1000000000,
      by decide +kernel⟩,
    ⟨ws [(0x71000, 0x101), (0x70004, 1)] (fun h => h.setOut 48 { cmd := true, stay := false }), 0, by decide +kernel⟩,
    ⟨ws [(0x71000, 0xffffffff)], 0, by decide +kernel⟩,
    ⟨ws [], 0, by decide +kernel⟩,
    ⟨ws [] (fun h => h.setOut 48 { ot := true }), 0, by decide +kernel⟩,
    ⟨ws [(0x71008, 0x1f)], 16, 0, by decide +kernel⟩⟩

theorem test_TileAndWatchdogCommandsComplete_met :
    (∃ (dt : Nat) (s : State) (t : Fin 8), s.hw.isOn = true ∧ mget s.hw.til.shedMs t ≠ some ((s.hw.now + dt) / 1000000)) ∧
    (∃ (s : State) (t : Fin 8) (inst : Nat) (dur : Nat), s.hw.isOn = true ∧ 2 * feedLimit t < inst ∧ 1000000 ≤ dur ∧
      s.hw.tileState t ≠ 2) ∧
    (∃ (s : State), s.hw.isOn = true) ∧
    (∃ (dt : Nat) (s : State) (t : Fin 8), s.hw.isOn = true ∧ mgetD s.hw.til.feedAt t 0 + 100000 ≤ s.hw.now + dt ∧
      s.hw.tileState t = 1) ∧
    (∃ (s : State) (hart : Fin 19) (t : Fin 8), s.hw.isOn = true ∧ s.hw.byP0 hart = true ∧
      s.hw.flag F.SMK_TESTMODE_ACTIVE = false ∧ s.hw.til.hub.feed = true ∧ 2 ≤ s.hw.til.hub.done ∧ s.hw.tileState t ≠ 1) ∧
    (∃ (s : State) (hart : Fin 19), s.hw.isOn = true ∧ s.hw.byP0 hart = true) ∧
    (∃ (s : State), s.hw.isOn = true ∧ s.hw.flag F.LSW_WD_CFG_EN = true ∧ s.hw.til.hub.ended = true) ∧
    (∃ (dt : Nat) (s : State), s.hw.isOn = true ∧ s.hw.flag F.LSW_WD_CFG_EN = true ∧ s.hw.til.hub.ended = false ∧
      s.hw.til.hub.periodAt + wdPeriod s.hw ≤ s.hw.now + dt ∧ s.hw.til.hub.answered = true) ∧
    (∃ (dt : Nat) (s : State), s.hw.isOn = true ∧ s.hw.flag F.LSW_WD_CFG_EN = true ∧ s.hw.til.hub.ended = false ∧
      s.hw.til.hub.periodAt + wdPeriod s.hw ≤ s.hw.now + dt ∧ s.hw.til.hub.answered = false ∧ s.hw.til.hub.failed = false ∧
      (s.hw.get F.PWR_RST_CFG_WD_RESET = 0 ∨ s.hw.til.hub.fails + 1 < s.hw.get F.PWR_RST_CFG_WD_RESET)) ∧
    (∃ (s : State) (id : Nat) (f : Flight), s.hw.isOn = true ∧ OpRuns s.hw id 12 4 f ∧ s.hw.flag F.LSW_WD_CFG_EN = true ∧
      s.hw.til.hub.ended = false ∧ fld f.desc 4 2 = s.hw.get F.LSW_WD_TOKEN_TOKEN ∧
      fld f.desc 6 2 = wdAnswer (s.hw.get F.LSW_WD_TOKEN_TOKEN) ∧ s.hw.til.hub.periodAt + wdPeriod s.hw / 2 ≤ f.since ∧
      s.hw.til.hub.nAns = 0) :=
  ⟨⟨0, ws [], 0, by decide +kernel⟩,
    ⟨ws [], 0, 130000, 1000000, by decide +kernel⟩,
    ⟨ws [], by decide +kernel⟩,
    ⟨100000, ws [(0x70004, 1)], 0, by decide +kernel⟩,
    ⟨ws [] (fun h => { h with til := { h.til with hub := { h.til.hub with feed := true, done := 2 } } }), 16, 0,
      by decide +kernel⟩,
    ⟨ws [], 16, by decide +kernel⟩,
    ⟨ws [(0x70800, 0x15)] (fun h => { h with til := { h.til with hub := { ended := true } } }), by decide +kernel⟩,
    ⟨10000000, ws [(0x70800, 0x15)] (fun h => { h with til := { h.til with hub := { ended := false, answered := true } } }),
      by decide +kernel⟩,
    ⟨10000000, ws [(0x70800, 0x15), (0x120038, 0)] (fun h => { h with til := { h.til with hub := { ended := false } } }),
      by decide +kernel⟩,
    ⟨ws [(0x70800, 0x15), (0x70804, 0)] (fun h => wOp { wFl 12 [4, 0, 0, 0, 0, 0, 0x5A, 0x5A] with since := 8000000 }
      { h with til := { h.til with hub := { ended := false } } }), 1,
      { wFl 12 [4, 0, 0, 0, 0, 0, 0x5A, 0x5A] with since := 8000000 }, by decide +kernel⟩⟩

theorem test_DioCommandsComplete_met :
    (∃ (s : State) (hart : Fin 19) (c : Fin 128) (v : Word), s.hw.isOn = true ∧ s.hw.byOwner hart (144 + c) = true ∧
      s.hw.flag F.DIO_CFG_ENABLE c = false ∧ s.hw.get F.DIO_FILT_LIMIT c ≠ 0 ∧ s.hw.get F.DIO_FILT_DEB c ≠ 0 ∧
      bits ((v ||| 1).toNat % 2 ^ 16) 3 2 ≠ 3 ∧ bits (v ||| 1).toNat 31 16 = 0) ∧
    (∃ (s : State) (id : Nat) (f : Flight), s.hw.isOn = true ∧ OpRuns s.hw id 12 5 f) ∧
    (∃ (s : State) (id : Nat) (f : Flight), s.hw.isOn = true ∧ OpRuns s.hw id 12 6 f ∧
      (s.hw.bufq (qKey 6 f.part)).bufs.contains id = false ∧ (s.hw.bufq (qKey 6 f.part)).bufs.length < 64) ∧
    (∃ (dt : Nat) (s : State) (c : Fin 128), s.hw.isOn = true ∧ dioInput s.hw c = true ∧
      ((syncFilter (s.hw.elapse dt) c).dio c).deb = false ∧
      ((syncFilter (s.hw.elapse dt) c).dio c).stepAt + 1000 * 2 ^ s.hw.get F.DIO_FILT_PRE c ≤ s.hw.now + dt) ∧
    (∃ (dt : Nat) (s : State) (c : Fin 128) (stable : Nat), s.hw.isOn = true ∧ dioInput s.hw c = true ∧
      ((syncFilter (s.hw.elapse dt) c).dio c).deb = true ∧ ((syncFilter (s.hw.elapse dt) c).dio c).openNow = false ∧
      s.hw.smk.test ≠ some (144 + c.val) ∧ 1000 * s.hw.get F.DIO_FILT_DEB c ≤ stable ∧
      ((syncFilter (s.hw.elapse dt) c).dio c).debAt + 1000 * s.hw.get F.DIO_FILT_DEB c ≤ s.hw.now + dt) ∧
    (∃ (s : State), s.hw.isOn = true) ∧
    (∃ (s : State) (c : Fin 128), s.hw.isOn = true ∧ dioOn s.hw c = true) ∧
    (∃ (s : State) (c : Fin 128), s.hw.isOn = true ∧ dioOn s.hw c = true) ∧
    (∃ (s : State) (c : Fin 128), s.hw.isOn = true ∧ dioInput s.hw c = true ∧ s.hw.flag F.DIO_CFG_OW_EN c = true ∧
      (s.hw.dio c).openNow = false) ∧
    (∃ (s : State) (c : Fin 128), s.hw.isOn = true ∧ s.hw.flag F.DIO_CFG_DIR c = true ∧ (s.hw.out (144 + c)).ot = false) ∧
    (∃ (dt : Nat) (s : State) (t : Fin 2), s.hw.isOn = true ∧ mgetD s.hw.til.goodAt (6 + t.val) 0 + 10000000 ≤ s.hw.now + dt ∧
      s.hw.til.silent.contains (6 + t.val) = false) ∧
    (∃ (s : State), s.hw.isOn = true) ∧
    (∃ (s : State), s.hw.isOn = true) :=
  ⟨⟨ws [], 16, 0, 3, by decide +kernel⟩,
    ⟨ws [(0x81000, 7), (0x70184, 1)] (wOp (wFl 12 wDioD)), 1, wFl 12 wDioD, by decide +kernel⟩,
    ⟨ws [] (wOp (wFl 12 [6])), 1, wFl 12 [6], by decide +kernel⟩,
    ⟨1000000, ws [(0x81000, 1), (0x70184, 1)] (fun h => h.setDio 0 { deb := false, cnt := 2 }), 0, by decide +kernel⟩,
    ⟨100000000, ws [(0x81000, 1)] (fun h => h.setDio 0 { deb := true }), 0, 100000000, by decide +kernel⟩,
    ⟨ws [], by decide +kernel⟩,
    ⟨ws [(0x81000, 3), (0x70184, 1)] (fun h => h.setOut 144 { cmd := true, stay := false }), 0, by decide +kernel⟩,
    ⟨ws [(0x81000, 3), (0x70184, 1)] (fun h => h.setOut 144 { cmd := true, stay := false }), 0, by decide +kernel⟩,
    ⟨ws [(0x81000, 0xfffd)], 0, by decide +kernel⟩,
    ⟨ws [(0x81000, 3)], 0, by decide +kernel⟩,
    ⟨10000000, ws [], 0, by decide +kernel⟩,
    ⟨ws [], by decide +kernel⟩,
    ⟨ws [], by decide +kernel⟩⟩

theorem test_FanCommandsComplete_met :
    (∃ (dt : Nat) (s : State) (hart : Fin 19) (n : Fin 8) (v : Word), s.hw.isOn = true ∧ s.hw.byOwner hart (272 + n) = true ∧
      s.hw.flag F.FAN_CFG_ENABLE n = false ∧
      fanCheck ((fanAnchor (s.hw.elapse dt) n).setReg (F.FAN_CFG_ENABLE.at n 0) (BitVec.ofNat 32 ((v ||| 1).toNat % 2 ^ 7 - 1)))
        n = ST_OK) ∧
    (∃ (s : State) (id : Nat) (f : Flight), s.hw.isOn = true ∧ OpRuns s.hw id 12 7 f) ∧
    (∃ (s : State) (id : Nat) (f : Flight), s.hw.isOn = true ∧ OpRuns s.hw id 12 8 f ∧ s.hw.ecc = [] ∧
      s.hw.ownsPort f.part (272 + fld f.desc 1 1 % 8) = true ∧ fanTableOk (s.hw.rd (fld f.desc 8 8) 64) = true) ∧
    (∃ (dt : Nat) (s : State) (n : Fin 8), s.hw.isOn = true ∧ (s.hw.fan n).table.isSome = true ∧ (s.hw.fan n).tmode = false ∧
      (fanOn s.hw n || s.hw.held (272 + n)) = true ∧ ((s.hw.out (272 + n)).stay && (s.hw.out (272 + n)).fs == 0) = false ∧
      (s.hw.fan n).cmdAt + 2000000000 ≤ s.hw.now + dt) ∧
    (∃ (dt : Nat) (s : State) (n : Fin 8), s.hw.isOn = true ∧ s.hw.get F.FAN_CFG_TYPE n = 2 ∧ fanOn s.hw n = true ∧
      (s.hw.fan n).measAt + 400000000 ≤ s.hw.now + dt) :=
  ⟨⟨0, ws [], 16, 0, 1, by decide +kernel⟩,
    ⟨ws [(0x91000, 9), (0x70184, 1)] (wOp (wFl 12 wFanD)), 1, wFl 12 wFanD, by decide +kernel⟩,
    ⟨ws [] (fun h => wOp (wFl 12 [8]) { h with mem := [(0, 2), (36, 10)] }), 1, wFl 12 [8], by decide +kernel⟩,
    ⟨2000000000, ws [(0x91000, 1)] (fun h => (h.setFan 0 { table := some ([2] ++ zeros 35 ++ [10] ++ zeros 27) }).setOut 272
      { stay := false }), 0, by decide +kernel⟩,
    ⟨400000000, ws [(0x91000, 5)], 0, by decide +kernel⟩⟩

theorem test_FanFaultsComplete_met :
    (∃ (s : State) (n : Fin 8), s.hw.isOn = true ∧ (s.hw.fan n).sensor = false) ∧
    (∃ (s : State), s.hw.isOn = true) ∧
    (∃ (s : State) (n : Fin 8), s.hw.isOn = true ∧ fanOff s.hw n = false) ∧
    (∃ (dt : Nat) (s : State) (n : Fin 8) (dur : Nat), s.hw.isOn = true ∧ 300 ≤ (fanTarget (s.hw.elapse dt) n).1.natAbs ∧
      10 * (s.hw.getS F.FAN_SPEED_SPEED n).natAbs < (fanTarget (s.hw.elapse dt) n).1.natAbs ∧ 2000000000 ≤ dur) ∧
    (∃ (dt : Nat) (s : State) (n : Fin 8) (t : Nat), s.hw.isOn = true ∧ (s.hw.fan n).stall = some t ∧
      t + 5000000000 ≤ s.hw.now + dt) ∧
    (∃ (s : State) (n : Fin 8), s.hw.isOn = true ∧ s.hw.get F.FAN_CFG_TYPE n = 1) ∧
    (∃ (s : State) (n : Fin 8), s.hw.isOn = true ∧ (s.hw.fan n).hot = false) ∧
    (∃ (s : State), s.hw.isOn = true) :=
  ⟨⟨ws [], 0, by decide +kernel⟩,
    ⟨ws [], by decide +kernel⟩,
    ⟨ws [], 0, by decide +kernel⟩,
    ⟨0, ws [(0x91000, 1), (0x70184, 1)] (fun h => (h.setFan 0 { req := 1000 }).setOut 272 { stay := false }), 0, 2000000000,
      by decide +kernel⟩,
    ⟨5000000000, ws [] (fun h => h.setFan 0 { stall := some 0 }), 0, 0, by decide +kernel⟩,
    ⟨ws [(0x91000, 2)], 0, by decide +kernel⟩,
    ⟨ws [], 0, by decide +kernel⟩,
    ⟨ws [], by decide +kernel⟩⟩

theorem test_FusionCommandsComplete_met :
    (∃ (s : State) (hart : Fin 19), s.hw.isOn = true ∧ s.hw.byFus hart = true ∧ s.hw.flag F.FUS_CTRL_EN = false ∧
      fusCheck s.hw = ST_OK) ∧
    (∃ (s : State) (id : Nat) (f : Flight), s.hw.isOn = true ∧ OpRuns s.hw id 9 1 f ∧
      s.hw.fus.batches.any (fun b => b.op == id) = false ∧ (s.hw.fus.batches.map (·.dets.length)).sum + fld f.desc 2 2 ≤ 16384 ∧
      batchLate s.hw (fld f.desc 8 8) = false ∧ s.hw.ecc = [] ∧
      (chunks64 (fld f.desc 2 2) (gather s.hw (detPieces s.hw f.desc))).all detOk = true) ∧
    (∃ (dt : Nat) (s : State) (id : Nat) (f : Flight), s.hw.isOn = true ∧ OpRuns s.hw id 9 2 f ∧
      (dropFixes (s.hw.elapse dt)).fus.fixes.any (fun x => x.op == id) = false ∧
      (dropFixes (s.hw.elapse dt)).fus.fixes.length < 64) ∧
    (∃ (s : State) (id : Nat) (f : Flight), s.hw.isOn = true ∧ OpRuns s.hw id 9 3 f ∧ s.hw.fus.inits.contains id = false) ∧
    (∃ (s : State) (id : Nat) (f : Flight), s.hw.isOn = true ∧ OpRuns s.hw id 9 4 f ∧
      (s.hw.bufq (qKey (7 + fld f.desc 1 1 % 2) f.part)).bufs.contains id = false ∧
      (s.hw.bufq (qKey (7 + fld f.desc 1 1 % 2) f.part)).bufs.length < 64) ∧
    (∃ (dt : Nat) (s : State), s.hw.isOn = true ∧ s.hw.flag F.FUS_CTRL_EN = true ∧ 500000 * s.hw.fus.step ≤ (s.hw.elapse dt).tb) ∧
    (∃ (dt : Nat) (s : State), s.hw.isOn = true ∧ s.hw.flag F.FUS_CTRL_EN = true ∧ s.hw.get F.FUS_STATUS_EGO ≠ 2 ∧
      imuWithin (s.hw.elapse dt) 2000000 = false) ∧
    (∃ (dt : Nat) (s : State) (t : Nat), s.hw.isOn = true ∧ s.hw.flag F.FUS_CTRL_EN = true ∧ s.hw.get F.FUS_STATUS_EGO = 2 ∧
      imuWithin (s.hw.elapse dt) 2000000 = true ∧ imuSince s.hw = some t ∧ t + 100000000 ≤ (s.hw.elapse dt).tb) ∧
    (∃ (dt : Nat) (s : State), s.hw.isOn = true ∧ s.hw.flag F.FUS_CTRL_EN = true ∧ s.hw.get F.FUS_STATUS_GNSS = 1 ∧
      s.hw.fus.fixTov.all (fun t => decide (t + 1000000 * s.hw.get F.FUS_FIX_STALE ≤ (s.hw.elapse dt).tb)) = true) ∧
    (∃ (dt : Nat) (s : State), s.hw.isOn = true ∧ s.hw.flag F.FUS_CTRL_EN = true ∧ s.hw.get F.FUS_STATUS_GNSS = 3 ∧
      s.hw.fus.gnss.open_ = false ∧ s.hw.fus.gnss.since + 1000000000 * s.hw.get F.FUS_DEG_HOLDOFF ≤ s.hw.now + dt) ∧
    (∃ (dt : Nat) (s : State), s.hw.isOn = true ∧ s.hw.flag F.FUS_CTRL_EN = true ∧
      s.hw.fus.cyc * cycleNs s.hw ≤ (s.hw.elapse dt).tb) ∧
    (∃ (dt : Nat) (s : State) (src : Fin 16), s.hw.isOn = true ∧ s.hw.flag F.FUS_CTRL_EN = true ∧
      s.hw.flag F.FUS_SRC_EN src = true ∧ (s.hw.get F.FUS_SRC_STATUS_STATE src = 1 ∨ s.hw.get F.FUS_SRC_STATUS_STATE src = 3) ∧
      mgetD s.hw.fus.srcAt src 0 + 1000000 * s.hw.get F.FUS_SRC_STALE src ≤ s.hw.now + dt) ∧
    (∃ (dt : Nat) (s : State) (x : Nat) (t : Nat), s.hw.isOn = true ∧ s.hw.flag F.FUS_CTRL_EN = true ∧
      s.hw.fus.lower = some (x, t) ∧ t + 100000000 * s.hw.get F.FUS_DEG_RECOVER ≤ s.hw.now + dt) :=
  ⟨⟨ws [(0xa0000, 0x400)], 16, by decide +kernel⟩,
    ⟨ws [] (fun h => wOp (wFl 9 [1, 0, 1]) { h with fus := { h.fus with step := 0 } }), 1, wFl 9 [1, 0, 1], by decide +kernel⟩,
    ⟨0, ws [] (fun h => wOp (wFl 9 [2]) { h with fus := { h.fus with step := 0 } }), 1, wFl 9 [2], by decide +kernel⟩,
    ⟨ws [] (fun h => wOp (wFl 9 [3]) { h with fus := { h.fus with step := 0 } }), 1, wFl 9 [3], by decide +kernel⟩,
    ⟨ws [] (fun h => wOp (wFl 9 [4, 1]) { h with fus := { h.fus with step := 0 } }), 1, wFl 9 [4, 1], by decide +kernel⟩,
    ⟨500000, ws [(0xa0004, 1)] (fun h => { h with fus := { h.fus with step := 1 } }), by decide +kernel⟩,
    ⟨2000000, ws [(0xa0004, 1)], by decide +kernel⟩,
    ⟨100000000, (ws [(0xa0004, 1)] (fun h =>
      { h with sfe := { h.sfe with imu := (List.range 101).map (fun i => (100000000 - 1000000 * i, [])) } })).ego 2, 0,
      by decide +kernel⟩,
    ⟨0, (ws [(0xa0004, 1)]).gnss 1, by decide +kernel⟩,
    ⟨1000000000000, (ws [(0xa0004, 1)]).gnss 3, by decide +kernel⟩,
    ⟨0, ws [(0xa0004, 1)], by decide +kernel⟩,
    ⟨100000000000, (ws [(0xa0004, 1), (0xa1000, 0x10001)]).src 1, 0, by decide +kernel⟩,
    ⟨100000000000, ws [(0xa0004, 1)] (fun h => { h with fus := { h.fus with lower := some (2, 0) } }), 2, 0, by decide +kernel⟩⟩

theorem test_AntennaCommandsComplete_met :
    (∃ (s : State) (hart : Fin 19) (a : Fin 2), s.hw.isOn = true ∧ s.hw.byOwner hart (324 + a) = true ∧
      s.hw.flag F.GNS_ANT_CFG_EN a = false) ∧
    (∃ (s : State) (a : Fin 2) (short : Bool), s.hw.isOn = true ∧ (s.hw.get F.GNS_ANT_STATUS_BIAS a = 1 ∨ (short = true ∧
      s.hw.get F.GNS_ANT_STATUS_BIAS a = 2))) ∧
    (∃ (dt : Nat) (s : State) (a : Fin 2), s.hw.isOn = true ∧ s.hw.get F.GNS_ANT_STATUS_BIAS a = 3 ∧
      mgetD s.hw.gns.biasAt a 0 + 1000000000 ≤ s.hw.now + dt) ∧
    (∃ (s : State) (a : Fin 2), s.hw.isOn = true ∧ s.hw.get F.GNS_ANT_STATUS_BIAS a = 2) ∧
    (∃ (dt : Nat) (s : State) (id : Nat) (f : Flight), s.hw.isOn = true ∧ OpRuns s.hw id 10 4 f ∧
      clkCheck (s.hw.elapse dt) f = ST_OK) ∧
    (∃ (dt : Nat) (s : State), s.hw.isOn = true ∧ s.hw.flag F.GNS_CLK_STATUS_PPS_VALID = true ∧
      ppsHolds (s.hw.elapse dt) = false) ∧
    (∃ (dt : Nat) (s : State), s.hw.isOn = true ∧ s.hw.gns.pps = true ∧
      s.hw.gns.ppsAt + 1000000 * s.hw.get F.GNS_PPS_OUT_WIDTH ≤ s.hw.now + dt) ∧
    (∃ (dt : Nat) (s : State), s.hw.isOn = true ∧ s.hw.gns.pps = false ∧ s.hw.flag F.GNS_PPS_OUT_EN = true ∧
      s.hw.gns.ppsSec < ppsSecond (s.hw.elapse dt)) :=
  ⟨⟨ws [], 16, 0, by decide +kernel⟩,
    ⟨(ws []).bias 1, 0, true, by decide +kernel⟩,
    ⟨1000000000, (ws []).bias 3, 0, by decide +kernel⟩,
    ⟨(ws []).bias 2, 0, by decide +kernel⟩,
    ⟨0, ws [] (wOp (wFl 10 [4, 1])), 1, wFl 10 [4, 1], by decide +kernel⟩,
    ⟨0, ws [(0xb002c, 1)], by decide +kernel⟩,
    ⟨1000000000, ws [] (fun h => { h with gns := { h.gns with pps := true } }), by decide +kernel⟩,
    ⟨1000000000, ws [(0xb0030, 0x29)], by decide +kernel⟩⟩

theorem test_ForagerCommandsComplete_met :
    (∃ (s : State) (id : Nat) (f : Flight), s.hw.isOn = true ∧ OpRuns s.hw id 10 1 f ∧
      s.hw.forager (forNo (gAnt f.desc) (fld f.desc 1 1 % 64)) = none) ∧
    (∃ (s : State) (id : Nat) (f : Flight), s.hw.isOn = true ∧ OpRuns s.hw id 10 2 f) ∧
    (∃ (s : State) (id : Nat) (f : Flight), s.hw.isOn = true ∧ OpRuns s.hw id 10 3 f ∧
      (s.hw.bufq (qKey (9 + fld f.desc 1 1 % 4) (gAnt f.desc))).bufs.contains id = false ∧
      (s.hw.bufq (qKey (9 + fld f.desc 1 1 % 4) (gAnt f.desc))).bufs.length < 64) ∧
    (∃ (s : State) (a : Fin 2) (i : Fin 64) (cn0 : BitVec 16) (x : Forager), s.hw.isOn = true ∧
      s.hw.forager (forNo a i) = some x ∧ (served s.hw a).contains (forNo a i) = true ∧ fld x.desc 20 2 ≤ cn0.toNat) ∧
    (∃ (dt : Nat) (s : State) (a : Fin 2) (i : Fin 64) (b5 : Bool) (x : Forager), s.hw.isOn = true ∧
      s.hw.forager (forNo a i) = some x ∧ bandState s.hw (forNo a i) (b2n b5) = 2 ∧
      (b5 = true ∨ s.hw.now + dt ≤ (s.hw.gband (forNo a i) 0).peakAt + 500000000)) ∧
    (∃ (dt : Nat) (s : State) (a : Fin 2) (i : Fin 64), s.hw.isOn = true ∧ bandState s.hw (forNo a i) 0 = 2 ∧
      (s.hw.gband (forNo a i) 0).peakAt + 500000000 ≤ s.hw.now + dt) ∧
    (∃ (dt : Nat) (s : State) (a : Fin 2) (i : Fin 64) (x : Forager), s.hw.isOn = true ∧ s.hw.forager (forNo a i) = some x ∧
      x.pending = true ∧ bandState s.hw (forNo a i) 0 = 1 ∧ x.since + 1000000000 * fld x.desc 30 2 ≤ s.hw.now + dt) ∧
    (∃ (s : State) (a : Fin 2) (i : Fin 64) (b5 : Bool) (x : Forager), s.hw.isOn = true ∧ s.hw.forager (forNo a i) = some x ∧
      bandState s.hw (forNo a i) (b2n b5) = 3) ∧
    (∃ (dt : Nat) (s : State), s.hw.isOn = true ∧ (s.hw.flag F.GNS_ANT_CFG_EN 0 || s.hw.flag F.GNS_ANT_CFG_EN 1) = true ∧
      s.hw.gns.lastEpoch < (s.hw.elapse dt).tb - (s.hw.elapse dt).tb % epochNs s.hw) ∧
    (∃ (s : State) (a : Fin 2) (i : Fin 64) (b5 : Bool) (x : Forager), s.hw.isOn = true ∧ s.hw.forager (forNo a i) = some x ∧
      (bandState s.hw (forNo a i) (b2n b5) = 2 ∨ bandState s.hw (forNo a i) (b2n b5) = 3)) ∧
    (∃ (s : State) (a : Fin 2) (i : Fin 64) (b5 : Bool) (syms : List Bool) (x : Forager), s.hw.isOn = true ∧
      s.hw.forager (forNo a i) = some x ∧ chBit x.desc 6 = true ∧ (s.hw.gband (forNo a i) (b2n b5)).left = true ∧
      1 ≤ syms.length ∧ syms.length ≤ 254) ∧
    (∃ (s : State) (a : Fin 2) (i : Fin 64) (b5 : Bool) (syms : List Bool) (x : Forager), s.hw.isOn = true ∧
      s.hw.forager (forNo a i) = some x ∧ chBit x.desc 6 = true ∧ syms.length = 255 ∧ bandState s.hw (forNo a i) (b2n b5) = 3 ∧
      (s.hw.gband (forNo a i) (b2n b5)).sync = true) :=
  ⟨⟨ws [] (wOp (wFl 10 [1])), 1, wFl 10 [1], by decide +kernel⟩,
    ⟨ws [] (fun h => wOp (wFl 10 [2, 0, 0, 0, 0, 0, 0, 0, 1]) (h.setForager 0 wForager)), 1, wFl 10 [2, 0, 0, 0, 0, 0, 0, 0, 1],
      by decide +kernel⟩,
    ⟨ws [] (wOp (wFl 10 [3, 1])), 1, wFl 10 [3, 1], by decide +kernel⟩,
    ⟨(ws [] (fun h => h.setForager 0 { wForager with pending := false })).band 1, 0, 0, 9, { wForager with pending := false },
      by decide +kernel⟩,
    ⟨0, (ws [] (fun h => h.setForager 0 { wForager with pending := false })).band 2, 0, 0, false,
      { wForager with pending := false }, by decide +kernel⟩,
    ⟨500000000, (ws [] (fun h => h.setForager 0 { wForager with pending := false })).band 2, 0, 0, by decide +kernel⟩,
    ⟨0, (ws [] (fun h => h.setForager 0 { wForager with pending := true })).band 1, 0, 0, { wForager with pending := true },
      by decide +kernel⟩,
    ⟨(ws [] (fun h => h.setForager 0 { wForager with pending := false })).band 3, 0, 0, false,
      { wForager with pending := false }, by decide +kernel⟩,
    ⟨2000000000, ws [(0xb0000, 1)], by decide +kernel⟩,
    ⟨(ws [] (fun h => h.setForager 0 { wForager with pending := false })).band 3, 0, 0, false,
      { wForager with pending := false }, by decide +kernel⟩,
    ⟨ws [] (fun h => (h.setForager 0 { wForager with desc := [1, 0, 0x40] }).setGband 0 0 { left := true }), 0, 0, false,
      [true], { wForager with desc := [1, 0, 0x40] }, by decide +kernel⟩,
    ⟨(ws [] (fun h => (h.setForager 0 { wForager with desc := [1, 0, 0x40] }).setGband 0 0 { sync := true })).band 3, 0, 0,
      false, List.replicate 255 true, { wForager with desc := [1, 0, 0x40] }, by decide +kernel⟩⟩

theorem test_CanControllerCommandsComplete_met :
    (∃ (dt : Nat) (s : State) (hart : Fin 19) (n : Fin 16) (v : Word), s.hw.isOn = true ∧ s.hw.byOwner hart (280 + n) = true ∧
      s.hw.flag F.CAN_CTRL_EN n = false ∧
      canCheck ((s.hw.elapse dt).setReg (F.CAN_CTRL_EN.at n 0) (BitVec.ofNat 32 ((v ||| 1).toNat % 2 ^ 18 / 4 * 4))) n = ST_OK) ∧
    (∃ (s : State) (hart : Fin 19) (n : Fin 16), s.hw.isOn = true ∧ s.hw.byOwner hart (280 + n) = true ∧ canOn s.hw n = true) ∧
    (∃ (s : State) (hart : Fin 19) (n : Fin 16), s.hw.isOn = true ∧ s.hw.byOwner hart (280 + n) = true ∧ canOn s.hw n = true ∧
      canState s.hw n = 3) ∧
    (∃ (s : State) (n : Fin 16), s.hw.isOn = true ∧ canOn s.hw n = true ∧ canState s.hw n = 0) ∧
    (∃ (s : State) (n : Fin 16), s.hw.isOn = true ∧ canState s.hw n = 3 ∧ (s.hw.canc n).recov = true) ∧
    (∃ (s : State) (id : Nat) (f : Flight), s.hw.isOn = true ∧ OpRuns s.hw id 5 1 f ∧ opAsked s.hw f = false ∧ s.hw.ecc = []) ∧
    (∃ (s : State) (id : Nat) (f : Flight), s.hw.isOn = true ∧ OpRuns s.hw id 5 2 f ∧ opAsked s.hw f = false ∧
      canTxOk s.hw (opCtl f.desc) (opMb f.desc) = true) ∧
    (∃ (s : State) (id : Nat) (f : Flight), s.hw.isOn = true ∧ OpRuns s.hw id 5 3 f ∧ opAsked s.hw f = false ∧
      (s.hw.canc (opCtl f.desc)).tx = none ∧ (s.hw.canc (opCtl f.desc)).loops = []) ∧
    (∃ (s : State) (id : Nat) (f : Flight), s.hw.isOn = true ∧ OpRuns s.hw id 5 4 f ∧
      (s.hw.bufq (qKey (12 + fld f.desc 1 1 % 2) (fld f.desc 2 2))).bufs.contains id = false ∧
      (s.hw.bufq (qKey (12 + fld f.desc 1 1 % 2) (fld f.desc 2 2))).bufs.length < 64) :=
  ⟨⟨0, ws [], 16, 0, 0x841, by decide +kernel⟩,
    ⟨ws [(0xc1000, 0x841), (0xc1010, 1)] (fun h => h.setCanc 0 { tx := some ⟨5, ⟨1, 0, false, false, []⟩, 0, none⟩ }), 16, 0,
      by decide +kernel⟩,
    ⟨ws [(0xc1000, 0x841), (0xc1010, 3)], 16, 0, by decide +kernel⟩,
    ⟨ws [(0xc1000, 0x841)], 0, by decide +kernel⟩,
    ⟨ws [(0xc1010, 3)] (fun h => h.setCanc 0 { recov := true }), 0, by decide +kernel⟩,
    ⟨ws [] (wOp (wFl 5 [1, 0, 3, 2, 9])), 1, wFl 5 [1, 0, 3, 2, 9], by decide +kernel⟩,
    ⟨ws [(0xc1000, 0x841), (0xc1010, 1), (F.CAN_MB_CFG_DIR.at 0 3, 0xa)] (wOp (wFl 5 [2, 0, 3])), 1, wFl 5 [2, 0, 3],
      by decide +kernel⟩,
    ⟨ws [] (fun h => wOp (wFl 5 [3, 0, 3]) (h.setCanb 0 3 { req := some ⟨none, 0, 0⟩ })), 1, wFl 5 [3, 0, 3], by decide +kernel⟩,
    ⟨ws [] (wOp (wFl 5 [4, 0, 0x18, 1])), 1, wFl 5 [4, 0, 0x18, 1], by decide +kernel⟩⟩

theorem test_CanTrafficCommandsComplete_met :
    (∃ (s : State) (n : Fin 16) (idw : Word), s.hw.isOn = true ∧ canLive s.hw n = true ∧
      (!frameFdf idw.toNat || s.hw.flag F.CAN_CTRL_FD_EN n) = true) ∧
    (∃ (s : State) (n : Fin 16), s.hw.isOn = true ∧ canLive s.hw n = true) ∧
    (∃ (s : State) (n : Fin 16) (x : Nat × List Byte) (r : List (Nat × List Byte)), s.hw.isOn = true ∧
      (s.hw.canc n).fifo = x :: r ∧ (s.hw.bufq (qKey 12 (280 + n))).bufs ≠ []) ∧
    (∃ (s : State) (n : Fin 16) (b : Nat), s.hw.isOn = true ∧ canLive s.hw n = true ∧ s.hw.get F.CAN_CTRL_MODE n ≠ 1 ∧
      canFirst s.hw n = some b) ∧
    (∃ (s : State) (n : Fin 16) (t : CanTx), s.hw.isOn = true ∧ (s.hw.canc n).tx = some t) ∧
    (∃ (s : State) (n : Fin 16) (t : CanTx), s.hw.isOn = true ∧ (s.hw.canc n).tx = some t) ∧
    (∃ (s : State) (n : Fin 16) (t : CanTx), s.hw.isOn = true ∧ (s.hw.canc n).tx = some t) ∧
    (∃ (s : State) (n : Fin 16), s.hw.isOn = true ∧ canLive s.hw n = true ∧ s.hw.flag F.CAN_CTRL_AGENT n = true ∧
      s.hw.get F.CAN_ADDR_ADDR n = 254) ∧
    (∃ (s : State) (n : Fin 16), s.hw.isOn = true ∧ canLive s.hw n = true ∧ s.hw.flag F.CAN_CTRL_AGENT n = true ∧
      s.hw.get F.CAN_ADDR_ADDR n ≠ 254) ∧
    (∃ (s : State) (n : Fin 16) (a : Nat), s.hw.isOn = true ∧ canLive s.hw n = true ∧ s.hw.flag F.CAN_CTRL_AGENT n = true ∧
      (s.hw.canc n).claiming = some a) ∧
    (∃ (s : State) (n : Fin 16) (sa : Byte), s.hw.isOn = true ∧ canLive s.hw n = true ∧ s.hw.flag F.CAN_CTRL_AGENT n = true ∧
      s.hw.get F.CAN_ADDR_ADDR n ≠ sa.toNat ∧ (s.hw.canc n).claiming ≠ some sa.toNat) ∧
    (∃ (dt : Nat) (s : State) (n : Fin 16), s.hw.isOn = true ∧ (s.hw.canc n).hbAt + 100000000 ≤ s.hw.now + dt) ∧
    (∃ (dt : Nat) (s : State) (n : Fin 16), s.hw.isOn = true ∧ canOn s.hw n = true ∧ s.hw.flag F.CAN_HB_WATCH_EN n = true ∧
      s.hw.flag F.CAN_HB_LOST n = false ∧ (s.hw.canc n).seenAt + 300000000 ≤ s.hw.now + dt) :=
  ⟨⟨ws [(0xc1000, 0x841), (0xc1010, 1)], 0, 5, by decide +kernel⟩,
    ⟨ws [(0xc1000, 0x841), (0xc1010, 1)], 0, by decide +kernel⟩,
    ⟨ws [] (fun h => wOp (wFl 5 (zeros 17 ++ [2])) ((h.setCanc 0 { fifo := [(0, zeros 128)] }).setBufq (qKey 12 280)
      { bufs := [1] })), 0, (0, zeros 128), [], by decide +kernel⟩,
    ⟨ws [(0xc1000, 0x841), (0xc1010, 1), (F.CAN_MB_CFG_DIR.at 0 3, 0xa)] (fun h => h.setCanb 0 3 { req := some ⟨none, 0, 0⟩ }),
      0, 3, by decide +kernel⟩,
    ⟨ws [(0xc1000, 0x841), (0xc1010, 1)] (fun h => h.setCanc 0 { tx := some ⟨5, ⟨1, 0, false, false, []⟩, 0, none⟩ }), 0, ⟨5,
      ⟨1, 0, false, false, []⟩, 0, none⟩, by decide +kernel⟩,
    ⟨ws [(0xc1000, 0x841), (0xc1010, 1)] (fun h => h.setCanc 0 { tx := some ⟨5, ⟨1, 0, false, false, []⟩, 0, none⟩ }), 0, ⟨5,
      ⟨1, 0, false, false, []⟩, 0, none⟩, by decide +kernel⟩,
    ⟨ws [(0xc1000, 0x841), (0xc1010, 1)] (fun h => h.setCanc 0 { tx := some ⟨5, ⟨1, 0, false, false, []⟩, 0, none⟩ }), 0, ⟨5,
      ⟨1, 0, false, false, []⟩, 0, none⟩, by decide +kernel⟩,
    ⟨ws [(0xc1000, 0xa41), (0xc1010, 1)], 0, by decide +kernel⟩,
    ⟨ws [(0xc1000, 0xa41), (0xc1010, 1), (0xc1058, 0x80808080)], 0, by decide +kernel⟩,
    ⟨ws [(0xc1000, 0xa41), (0xc1010, 1)] (fun h => h.setCanc 0 { claiming := some 128 }), 0, 128, by decide +kernel⟩,
    ⟨ws [(0xc1000, 0xa41), (0xc1010, 1)], 0, 4, by decide +kernel⟩,
    ⟨100000000, ws [], 0, by decide +kernel⟩,
    ⟨300000000, ws [(0xc1000, 0x841), (0xc1010, 1), (F.CAN_HB_WATCH_EN.at 0 0, 2)], 0, by decide +kernel⟩⟩

theorem test_LinCommandsComplete_met :
    (∃ (s : State) (id : Nat) (f : Flight) (es : List (List Byte)), s.hw.isOn = true ∧ OpRuns s.hw id 5 5 f ∧
      (match (s.hw.lin (fld f.desc 1 1 % 2)).wait with | some (_, w) => w == id | none => false) = false ∧ s.hw.ecc = [] ∧
      s.hw.rdN (fld f.desc 8 8) 2 = 1 ∧ es.length = s.hw.rdN ((fld f.desc 8 8) + 2) 2 ∧ 1 ≤ es.length ∧ es.length ≤ 64 ∧
      allZero (s.hw.rd ((fld f.desc 8 8) + 4) 12) = true ∧
      es = (List.range es.length).map (fun i => s.hw.rd ((fld f.desc 8 8) + 16 + 16 * i) 16) ∧
      es.all (linEntryOk (s.hw.get F.CAN_LIN_CFG_RATE (fld f.desc 1 1 % 2))) = true ∧
      (s.hw.lin (fld f.desc 1 1 % 2)).cur = none) ∧
    (∃ (s : State) (id : Nat) (f : Flight) (es : List (List Byte)), s.hw.isOn = true ∧ OpRuns s.hw id 5 5 f ∧
      (match (s.hw.lin (fld f.desc 1 1 % 2)).wait with | some (_, w) => w == id | none => false) = false ∧ s.hw.ecc = [] ∧
      s.hw.rdN (fld f.desc 8 8) 2 = 1 ∧ es.length = s.hw.rdN ((fld f.desc 8 8) + 2) 2 ∧ 1 ≤ es.length ∧ es.length ≤ 64 ∧
      allZero (s.hw.rd ((fld f.desc 8 8) + 4) 12) = true ∧
      es = (List.range es.length).map (fun i => s.hw.rd ((fld f.desc 8 8) + 16 + 16 * i) 16) ∧
      es.all (linEntryOk (s.hw.get F.CAN_LIN_CFG_RATE (fld f.desc 1 1 % 2))) = true ∧
      (s.hw.lin (fld f.desc 1 1 % 2)).cur.isSome = true ∧ s.hw.flag F.CAN_LIN_CFG_EN (fld f.desc 1 1 % 2) = true) ∧
    (∃ (s : State) (id : Nat) (f : Flight) (e : List Byte), s.hw.isOn = true ∧ OpRuns s.hw id 5 6 f ∧
      (s.hw.lin (fld f.desc 1 1 % 2)).sched[fld f.desc 2 1]? = some e) ∧
    (∃ (dt : Nat) (s : State) (c : Fin 2) (i : Nat) (e : List Byte), s.hw.isOn = true ∧ s.hw.flag F.CAN_LIN_CFG_EN c = true ∧
      (s.hw.lin c).slotAt ≤ s.hw.now + dt ∧ (s.hw.lin c).wait = none ∧
      i = (match (s.hw.lin c).cur with | some k => if k + 1 < (s.hw.lin c).sched.length then k + 1 else 0 | none => 0) ∧
      (s.hw.lin c).sched[i]? = some e) ∧
    (∃ (dt : Nat) (s : State) (c : Fin 2) (es : List (List Byte)) (id : Nat) (e : List Byte), s.hw.isOn = true ∧
      s.hw.flag F.CAN_LIN_CFG_EN c = true ∧ (s.hw.lin c).slotAt ≤ s.hw.now + dt ∧ (s.hw.lin c).wait = some (es, id) ∧
      es[0]? = some e) ∧
    (∃ (s : State), s.hw.isOn = true) :=
  ⟨⟨ws [] (fun h => wOp (wFl 5 [5]) { h with mem := [(0, 1), (2, 1), (18, 1), (19, 200)] }), 1, wFl 5 [5], [[0, 0, 1, 200] ++
      zeros 12], by decide +kernel⟩,
    ⟨ws [(0xc3000, 0x9601)] (fun h => wOp (wFl 5 [5])
      { h.setLin 0 { cur := some 0 } with mem := [(0, 1), (2, 1), (18, 1), (19, 200)] }), 1, wFl 5 [5], [[0, 0, 1, 200] ++ zeros
      12], by decide +kernel⟩,
    ⟨ws [] (fun h => wOp (wFl 5 [6]) (h.setLin 0 { sched := [zeros 16] })), 1, wFl 5 [6], zeros 16, by decide +kernel⟩,
    ⟨0, ws [(0xc3000, 0x9601)] (fun h => h.setLin 0 { sched := [[0, 0, 1, 200] ++ zeros 12] }), 0, 0, [0, 0, 1, 200] ++ zeros
      12, by decide +kernel⟩,
    ⟨0, ws [(0xc3000, 0x9601)] (fun h => h.setLin 0 { wait := some ([[0, 0, 1, 200] ++ zeros 12], 1) }), 0, [[0, 0, 1, 200] ++
      zeros 12], 1, [0, 0, 1, 200] ++ zeros 12, by decide +kernel⟩,
    ⟨ws [], by decide +kernel⟩⟩

theorem test_EthernetCommandsComplete_met :
    (∃ (dt : Nat) (s : State) (hart : Fin 19) (n : Fin 12) (v : Word), s.hw.isOn = true ∧ s.hw.byOwner hart (312 + n) = true ∧
      s.hw.flag F.ETH_PORT_CFG_EN n = false ∧
      ethCheck ((s.hw.elapse dt).setReg (F.ETH_PORT_CFG_EN.at n 0) (BitVec.ofNat 32 ((v ||| 1).toNat % 2 ^ 12 - 1))) n = ST_OK) ∧
    (∃ (s : State) (hart : Fin 19) (n : Fin 12), s.hw.isOn = true ∧ s.hw.byOwner hart (312 + n) = true ∧
      s.hw.flag F.ETH_PORT_CFG_EN n = true) ∧
    (∃ (s : State) (n : Fin 12) (up : Bool), s.hw.isOn = true ∧ s.hw.get F.ETH_PORT_STATUS_LINK n = 1 ∧ up = true) ∧
    (∃ (dt : Nat) (s : State) (n : Fin 12) (up : Bool), s.hw.isOn = true ∧ up = false ∧
      (s.hw.get F.ETH_PORT_STATUS_LINK n = 2 ∨ (s.hw.get F.ETH_PORT_STATUS_LINK n = 1 ∧
      (s.hw.ethPort n).linkAt + 200000000 ≤ s.hw.now + dt))) ∧
    (∃ (dt : Nat) (s : State) (n : Fin 12), s.hw.isOn = true ∧ s.hw.get F.ETH_PORT_STATUS_LINK n = 3 ∧
      (s.hw.ethPort n).linkAt + 500000000 ≤ s.hw.now + dt) ∧
    (∃ (s : State) (id : Nat) (f : Flight), s.hw.isOn = true ∧ OpRuns s.hw id 3 1 f ∧
      ((s.hw.ethPort (fld f.desc 1 1 % 16)).q (fld f.desc 2 1 % 8)).contains id = false ∧
      s.hw.flag F.ETH_PORT_CFG_EN (fld f.desc 1 1 % 16) = true) ∧
    (∃ (s : State) (id : Nat) (f : Flight), s.hw.isOn = true ∧ OpRuns s.hw id 3 1 f ∧
      ((s.hw.ethPort (fld f.desc 1 1 % 16)).q (fld f.desc 2 1 % 8)).contains id = false ∧
      s.hw.flag F.ETH_PORT_CFG_EN (fld f.desc 1 1 % 16) = false) ∧
    (∃ (s : State) (id : Nat) (f : Flight), s.hw.isOn = true ∧ OpRuns s.hw id 3 2 f ∧
      (s.hw.bufq (rxKey (fld f.desc 2 2 - 312) (fld f.desc 1 1 % 8))).bufs.contains id = false ∧
      (s.hw.bufq (rxKey (fld f.desc 2 2 - 312) (fld f.desc 1 1 % 8))).bufs.length < 64) ∧
    (∃ (s : State) (id : Nat) (f : Flight) (g : GateList), s.hw.isOn = true ∧ OpRuns s.hw id 3 3 f ∧
      (s.hw.ethPort (fld f.desc 1 1 % 16)).gates.any (fun g => g.1 == id) = false ∧ s.hw.ecc = [] ∧
      gateImage s.hw (fld f.desc 8 8) = some g) ∧
    (∃ (dt : Nat) (s : State) (n : Fin 12) (id : Nat) (g : GateList) (t : Nat) (r : List (Nat × GateList × Nat)), s.hw.isOn =
        true ∧ (s.hw.ethPort n).gates = (id, g, t) :: r ∧ t ≤ (s.hw.elapse dt).tb) ∧
    (∃ (dt : Nat) (s : State) (n : Fin 12) (x : Nat × Flight), s.hw.isOn = true ∧ s.hw.get F.ETH_PORT_STATUS_LINK n = 2 ∧
      (s.hw.ethPort n).busyTill ≤ s.hw.now + dt ∧
      (heads (creditTick (s.hw.elapse dt) n) n).find? (fun x => gateNever (creditTick (s.hw.elapse dt) n) n x.1 (txLen
        x.2.desc)) = none ∧
      (heads (creditTick (s.hw.elapse dt) n) n).find? (fun x => mayStart (creditTick (s.hw.elapse dt) n) n x.1 x.2.desc) = some
        x) ∧
    (∃ (dt : Nat) (s : State) (n : Fin 12) (x : Nat × Flight), s.hw.isOn = true ∧ s.hw.get F.ETH_PORT_STATUS_LINK n = 2 ∧
      (s.hw.ethPort n).busyTill ≤ s.hw.now + dt ∧
      (heads (creditTick (s.hw.elapse dt) n) n).find? (fun x => gateNever (creditTick (s.hw.elapse dt) n) n x.1 (txLen
        x.2.desc)) = some x) ∧
    (∃ (s : State) (n : Fin 12) (fcsOk : Bool), s.hw.isOn = true ∧ s.hw.get F.ETH_PORT_STATUS_LINK n = 2 ∧ fcsOk = false) ∧
    (∃ (s : State) (n : Fin 12) (bs : List Byte) (fcsOk : Bool), s.hw.isOn = true ∧ s.hw.get F.ETH_PORT_STATUS_LINK n = 2 ∧
      fcsOk = true ∧ 14 ≤ bs.length ∧ bs.length ≤ 9212 ∧ ethAccept s.hw n bs = false) ∧
    (∃ (s : State) (n : Fin 12) (bs : List Byte) (fcsOk : Bool), s.hw.isOn = true ∧ s.hw.get F.ETH_PORT_STATUS_LINK n = 2 ∧
      fcsOk = true ∧ 14 ≤ bs.length ∧ bs.length ≤ 9212 ∧ ethAccept s.hw n bs = true ∧ etherType bs ≠ 0x88F7 ∧
      etherType bs ≠ 0x8100 ∧ etherType bs ≠ 0x88B5 ∧
      (s.hw.bufq (rxKey n (bits (s.hw.get F.ETH_PORT_PCP_MAP n) 2 0))).bufs = []) ∧
    (∃ (dt : Nat) (s : State) (n : Fin 12), s.hw.isOn = true ∧ s.hw.flag F.ETH_PORT_CFG_GPTP_EN n = true ∧
      s.hw.get F.ETH_PORT_STATUS_LINK n = 2 ∧ (s.hw.ethPort n).syncAt + syncNs s.hw ≤ s.hw.now + dt) ∧
    (∃ (s : State) (n : Fin 12) (measured : Option Nat) (d : Nat), s.hw.isOn = true ∧
      s.hw.flag F.ETH_PORT_CFG_GPTP_EN n = true ∧ s.hw.get F.ETH_PORT_STATUS_LINK n = 2 ∧ measured = some d) :=
  ⟨⟨0, ws [], 16, 0, 1, by decide +kernel⟩,
    ⟨ws [(0xd1000, 1)], 16, 0, by decide +kernel⟩,
    ⟨(ws [] ).fp F.ETH_PORT_STATUS_LINK 1, 0, true, by decide +kernel⟩,
    ⟨0, (ws [] ).fp F.ETH_PORT_STATUS_LINK 2, 0, false, by decide +kernel⟩,
    ⟨500000000, (ws [] ).fp F.ETH_PORT_STATUS_LINK 3, 0, by decide +kernel⟩,
    ⟨ws [(0xd1000, 1)] (wOp (wFl 3 [1, 0, 5])), 1, wFl 3 [1, 0, 5], by decide +kernel⟩,
    ⟨ws [] (wOp (wFl 3 [1, 0, 5])), 1, wFl 3 [1, 0, 5], by decide +kernel⟩,
    ⟨ws [] (wOp (wFl 3 [2, 0, 0x38, 1])), 1, wFl 3 [2, 0, 0x38, 1], by decide +kernel⟩,
    ⟨ws [] (fun h => wGcl (wOp (wFl 3 (3 :: zeros 8 ++ [0x10])) h)), 1, wFl 3 (3 :: zeros 8 ++ [0x10]), ⟨0, 1000, [(1, 1000)]⟩,
      by decide +kernel⟩,
    ⟨0, ws [] (fun h => h.setEth 0 { gates := [(1, ⟨0, 1000, [(1, 1000)]⟩, 0)] }), 0, 1, ⟨0, 1000, [(1, 1000)]⟩, 0, [],
      by decide +kernel⟩,
    ⟨0, (ws [] (fun h => wOp (wFl 3 [1, 0, 5, 0, 0, 0, 60]) (h.setEth 0 { txq := [(5, [1])] }))).fp F.ETH_PORT_STATUS_LINK 2, 0,
      (5, wFl 3 [1, 0, 5, 0, 0, 0, 60]), by decide +kernel⟩,
    ⟨0, (ws [] (fun h => wOp (wFl 3 [1, 0, 5, 0, 0, 0, 60]) (h.setEth 0
      { txq := [(5, [1])], gate := some ⟨0, 1000, [(1, 1000)]⟩ }))).fp F.ETH_PORT_STATUS_LINK 2, 0, (5, wFl 3 [1, 0, 5, 0, 0, 0,
      60]), by decide +kernel⟩,
    ⟨(ws [] ).fp F.ETH_PORT_STATUS_LINK 2, 0, false, by decide +kernel⟩,
    ⟨(ws [] ).fp F.ETH_PORT_STATUS_LINK 2, 0, 2 :: zeros 59, true, by decide +kernel⟩,
    ⟨(ws [] ).fp F.ETH_PORT_STATUS_LINK 2, 0, zeros 60, true, by decide +kernel⟩,
    ⟨2000000000, ((ws []).fp F.ETH_PORT_STATUS_LINK 2).fp F.ETH_PORT_CFG_GPTP_EN 1, 0, by decide +kernel⟩,
    ⟨((ws []).fp F.ETH_PORT_STATUS_LINK 2).fp F.ETH_PORT_CFG_GPTP_EN 1, 0, some 30, 30, by decide +kernel⟩⟩

theorem test_SwarmCommandsComplete_met :
    (∃ (s : State) (hart : Fin 19), s.hw.isOn = true ∧ s.hw.byOwner hart (312 + swarmPort s.hw) = true ∧
      s.hw.flag F.ETH_SWARM_CTRL_EN = false ∧ 100 ≤ s.hw.get F.ETH_SWARM_CFG_PERIOD ∧ s.hw.get F.ETH_SWARM_CFG_PERIOD ≤ 10000 ∧
      swarmPort s.hw < 12) ∧
    (∃ (dt : Nat) (s : State), s.hw.isOn = true ∧ swarmState s.hw = 1 ∧
      s.hw.eth.swarm.sentAt + swarmPeriod s.hw ≤ s.hw.now + dt) ∧
    (∃ (dt : Nat) (s : State), s.hw.isOn = true ∧ swarmState s.hw ≠ 0 ∧ swarmState s.hw ≠ 1 ∧
      s.hw.eth.swarm.sentAt + swarmPeriod s.hw ≤ s.hw.now + dt) ∧
    (∃ (s : State) (sender : BitVec 160) (field : Word), s.hw.isOn = true ∧ swarmState s.hw = 1 ∧
      field.toNat = s.hw.get F.ETH_SWARM_FIELD_FIELD ∧ sender.toNat ≠ s.hw.grd.serial ∧ sender.toNat < s.hw.grd.serial ∧
      s.hw.eth.swarm.ignore = []) ∧
    (∃ (s : State) (sender : BitVec 160) (field : Word) (ents : List (BitVec 160 × DWord)) (back : Nat) (e : BitVec 160 × DWord)
        (t1 : Nat), s.hw.isOn = true ∧ swarmState s.hw = 2 ∧ field.toNat = s.hw.get F.ETH_SWARM_FIELD_FIELD ∧
      sender.toNat ≠ s.hw.grd.serial ∧ sender.toNat = s.hw.eth.swarm.leader ∧
      ents.find? (fun e => e.1.toNat == s.hw.grd.serial) = some e ∧ s.hw.eth.swarm.joins[back]? = some t1) ∧
    (∃ (s : State) (sender : BitVec 160) (field : Word) (ents : List (BitVec 160 × DWord)) (back : Nat) (e : BitVec 160 × DWord)
        (t1 : Nat), s.hw.isOn = true ∧ swarmState s.hw = 3 ∧ field.toNat = s.hw.get F.ETH_SWARM_FIELD_FIELD ∧
      sender.toNat ≠ s.hw.grd.serial ∧ sender.toNat = s.hw.eth.swarm.leader ∧
      ents.find? (fun e => e.1.toNat == s.hw.grd.serial) = some e ∧ s.hw.eth.swarm.joins[back]? = some t1) ∧
    (∃ (s : State) (sender : BitVec 160) (field : Word), s.hw.isOn = true ∧ swarmState s.hw ≠ 0 ∧
      field.toNat = s.hw.get F.ETH_SWARM_FIELD_FIELD ∧ sender.toNat = s.hw.grd.serial) ∧
    (∃ (s : State) (sender : BitVec 160) (field : Word) (leader : BitVec 160), s.hw.isOn = true ∧ swarmState s.hw = 1 ∧
      field.toNat = s.hw.get F.ETH_SWARM_FIELD_FIELD ∧ leader.toNat = s.hw.grd.serial ∧
      (s.hw.eth.swarm.members.filter (fun y => y.id != sender.toNat)).length < 31) ∧
    (∃ (s : State) (sender : BitVec 160) (field : Word) (leader : BitVec 160), s.hw.isOn = true ∧ swarmState s.hw = 1 ∧
      field.toNat = s.hw.get F.ETH_SWARM_FIELD_FIELD ∧ leader.toNat = s.hw.grd.serial ∧
      31 ≤ (s.hw.eth.swarm.members.filter (fun y => y.id != sender.toNat)).length) ∧
    (∃ (dt : Nat) (s : State), s.hw.isOn = true ∧ swarmState s.hw = 2 ∧
      s.hw.eth.swarm.joinAt + 3 * swarmPeriod s.hw ≤ s.hw.now + dt) ∧
    (∃ (dt : Nat) (s : State), s.hw.isOn = true ∧ swarmState s.hw = 3 ∧
      s.hw.eth.swarm.heardAt + 3 * swarmPeriod s.hw ≤ s.hw.now + dt) :=
  ⟨⟨ws [(0xd0100, 0x640)], 16, by decide +kernel⟩,
    ⟨1000000000, (ws [(0xd0104, 1), (0xd0100, 0x640)] ).fp F.ETH_SWARM_STATUS_STATE 1, by decide +kernel⟩,
    ⟨1000000000, (ws [(0xd0104, 1), (0xd0100, 0x640)] ).fp F.ETH_SWARM_STATUS_STATE 2, by decide +kernel⟩,
    ⟨(ws [(0xd0104, 1), (0xd0100, 0x640)] (fun h => { h with grd := { h.grd with serial := 9 } })).fp F.ETH_SWARM_STATUS_STATE
      1, 5, 0, by decide +kernel⟩,
    ⟨(ws [(0xd0104, 1), (0xd0100, 0x640)] (fun h => wSwm { leader := 5, joins := [4] }
      { h with grd := { h.grd with serial := 9 } })).fp F.ETH_SWARM_STATUS_STATE 2, 5, 0, [(9, 6)], 0, (9, 6), 4,
      by decide +kernel⟩,
    ⟨(ws [(0xd0104, 1), (0xd0100, 0x640)] (fun h => wSwm { leader := 5, joins := [4] }
      { h with grd := { h.grd with serial := 9 } })).fp F.ETH_SWARM_STATUS_STATE 3, 5, 0, [(9, 6)], 0, (9, 6), 4,
      by decide +kernel⟩,
    ⟨(ws [(0xd0104, 1), (0xd0100, 0x640)] (fun h => { h with grd := { h.grd with serial := 9 } })).fp F.ETH_SWARM_STATUS_STATE
      1, 9, 0, by decide +kernel⟩,
    ⟨(ws [(0xd0104, 1), (0xd0100, 0x640)] (fun h => { h with grd := { h.grd with serial := 9 } })).fp F.ETH_SWARM_STATUS_STATE
      1, 12, 0, 9, by decide +kernel⟩,
    ⟨(ws [(0xd0104, 1), (0xd0100, 0x640)] (fun h => wSwm { members := List.replicate 31 ⟨3, 0, 0, true⟩ }
      { h with grd := { h.grd with serial := 9 } })).fp F.ETH_SWARM_STATUS_STATE 1, 12, 0, 9, by decide +kernel⟩,
    ⟨3000000000, (ws [(0xd0104, 1), (0xd0100, 0x640)] ).fp F.ETH_SWARM_STATUS_STATE 2, by decide +kernel⟩,
    ⟨3000000000, (ws [(0xd0104, 1), (0xd0100, 0x640)] ).fp F.ETH_SWARM_STATUS_STATE 3, by decide +kernel⟩⟩

theorem test_MemoryBlockCommandsComplete_met :
    (∃ (s : State) (b : Fin 14) (i : Nat) (found : ScrubFind), s.hw.isOn = true ∧ i < scrubInsts b ∧ scrubBase b i = none ∧
      found = .clean) ∧
    (∃ (s : State) (b : Fin 14) (i : Nat) (a : Nat), s.hw.isOn = true ∧ i < scrubInsts b ∧ scrubBase b i = some a ∧
      dirDirty s.hw ((a + 8 * (s.hw.scrubber b i).next) / 64) = false) ∧
    (∃ (dt : Nat) (s : State) (b : Fin 14) (i : Nat), s.hw.isOn = true ∧ i < scrubInsts b ∧
      11 * scrubPeriod s.hw < 10 * (s.hw.now + dt - (s.hw.scrubber b i).since) ∧
      bit (s.hw.get F.MEM_SCRUB_STATUS_BEHIND) b = false) ∧
    (∃ (s : State) (hart : Fin 19), s.hw.isOn = true ∧ s.hw.byP0 hart = true) ∧
    (∃ (s : State) (hart : Fin 19), s.hw.isOn = true ∧ s.hw.byP0 hart = true ∧ injOk s.hw = true ∧ Memory.wf s.hw.mem = true) ∧
    (∃ (s : State) (hart : Fin 19), s.hw.isOn = true ∧ s.hw.byP0 hart = true ∧ injOk s.hw = false) ∧
    (∃ (s : State) (hart : Fin 19), s.hw.isOn = true ∧ s.hw.byP0 hart = true ∧ injOk s.hw = true) ∧
    (∃ (s : State) (hart : Fin 19), s.hw.isOn = true ∧ s.hw.byP0 hart = true ∧ injOk s.hw = false) :=
  ⟨⟨ws [], 9, 0, .clean, by decide +kernel⟩,
    ⟨ws [], 6, 1, 0xE10100000, by decide +kernel⟩,
    ⟨100000000000000, ws [], 9, 0, by decide +kernel⟩,
    ⟨ws [(F.MEM_ERR_INFO_VALID.at 1 0, 1)], 16, by decide +kernel⟩,
    ⟨ws [(F.MEM_INJ_ADDR_LO_ADDR.at 0 0, 0x100), (F.MEM_INJ_DATA_LO_DATA.at 0 0, 0x77), (F.MEM_INJ_DFLIP_LO_DFLIP.at 0 0, 4)],
      16, by decide +kernel⟩,
    ⟨ws [(F.MEM_INJ_ADDR_LO_ADDR.at 0 0, 0x101)], 16, by decide +kernel⟩,
    ⟨ws [(F.MEM_INJ_ADDR_LO_ADDR.at 0 0, 0x100)] (fun h => { h with mem := [(0x100, 5)] }), 16, by decide +kernel⟩,
    ⟨ws [(F.MEM_INJ_ADDR_LO_ADDR.at 0 0, 0x101)], 16, by decide +kernel⟩⟩

theorem test_SeasonStoreCommandsComplete_met :
    (∃ (s : State) (hart : Fin 19) (r : Fin 16) (v : Word), s.hw.isOn = true ∧ s.hw.byP0 hart = true ∧
      s.hw.flag F.STO_REG_CFG_CREATED r = false ∧ bit v.toNat 1 = false ∧ s.hw.flag F.STO_REG_CFG_EN r = false ∧
      s.hw.get F.STO_REG_SIZE_MIB r ≠ 0 ∧ regSum s.hw + s.hw.get F.STO_REG_SIZE_MIB r ≤ 30517578 ∧ bit v.toNat 6 = false) ∧
    (∃ (s : State) (hart : Fin 19) (r : Fin 16) (v : Word), s.hw.isOn = true ∧ s.hw.byP0 hart = true ∧
      s.hw.flag F.STO_REG_CFG_CREATED r = false ∧ bit v.toNat 1 = false ∧ s.hw.flag F.STO_REG_CFG_EN r = false ∧
      s.hw.get F.STO_REG_SIZE_MIB r = 0) ∧
    (∃ (s : State) (hart : Fin 19) (r : Fin 16) (v : Word), s.hw.isOn = true ∧ s.hw.byP0 hart = true ∧
      s.hw.flag F.STO_REG_CFG_CREATED r = true ∧ v.toNat % 2 = 0 ∧ bit v.toNat 1 = false) ∧
    (∃ (s : State) (hart : Fin 19) (r : Fin 16) (v : Word), s.hw.isOn = true ∧ s.hw.byP0 hart = true ∧
      s.hw.flag F.STO_REG_CFG_CREATED r = true ∧ v.toNat % 2 = 1 ∧ bit v.toNat 1 = false ∧ bit v.toNat 6 = false ∧
      s.hw.flag F.STO_REG_CFG_EN r = false) ∧
    (∃ (s : State) (hart : Fin 19) (r : Fin 16), s.hw.isOn = true ∧ s.hw.byP0 hart = true ∧
      s.hw.flag F.STO_REG_CFG_CREATED r = true ∧ s.hw.flag F.STO_REG_CFG_EN r = false) ∧
    (∃ (s : State) (id : Nat) (f : Flight), s.hw.isOn = true ∧ OpRuns s.hw id 2 1 f ∧ stoBehind s.hw f = false ∧ s.hw.ecc = [] ∧
      beforeRo s.hw f = true) ∧
    (∃ (s : State) (id : Nat) (f : Flight), s.hw.isOn = true ∧ OpRuns s.hw id 2 1 f ∧ stoBehind s.hw f = false ∧
      beforeRo s.hw f = false ∧ s.hw.sto.reserve < sBlks f.desc) ∧
    (∃ (s : State) (id : Nat) (bad : List Nat) (f : Flight), s.hw.isOn = true ∧ OpRuns s.hw id 2 2 f ∧ bad = []) ∧
    (∃ (s : State) (id : Nat) (bad : List Nat) (f : Flight), s.hw.isOn = true ∧ OpRuns s.hw id 2 2 f ∧
      bad.any (fun i => decide (i < sBlks f.desc)) = true) ∧
    (∃ (s : State) (id : Nat) (f : Flight), s.hw.isOn = true ∧ OpRuns s.hw id 2 3 f) ∧
    (∃ (dt : Nat) (s : State), s.hw.isOn = true ∧ s.hw.sto.winAt + 1000000000 ≤ s.hw.now + dt) ∧
    (∃ (s : State) (d : Fin 128), s.hw.isOn = true ∧ s.hw.flag F.STO_DIE_RETIRED d = false) :=
  ⟨⟨(ws []).fp F.STO_REG_SIZE_MIB 5, 16, 0, 9, by decide +kernel⟩,
    ⟨ws [], 16, 0, 9, by decide +kernel⟩,
    ⟨((ws []).fp F.STO_REG_CFG_CREATED 1).fp F.STO_REG_CFG_EN 1, 16, 0, 0, by decide +kernel⟩,
    ⟨(ws []).fp F.STO_REG_CFG_CREATED 1, 16, 0, 1, by decide +kernel⟩,
    ⟨((ws [] (fun h => { h with sto := { h.sto with blks := [(5, [1])] } })).fp F.STO_REG_CFG_CREATED 1), 16, 0,
      by decide +kernel⟩,
    ⟨ws [] (wOp (wFl 2 [1, 0, 0, 0, 0, 0x10])), 1, wFl 2 [1, 0, 0, 0, 0, 0x10], by decide +kernel⟩,
    ⟨(ws [] (fun h => wOp (wFl 2 [1, 0, 0, 0, 0, 0x10]) { h with sto := { h.sto with reserve := 0 } })).fp
      F.STO_STATUS_READ_ONLY 1, 1, wFl 2 [1, 0, 0, 0, 0, 0x10], by decide +kernel⟩,
    ⟨ws [] (wOp (wFl 2 [2, 0, 0, 0, 0, 0x10])), 1, [], wFl 2 [2, 0, 0, 0, 0, 0x10], by decide +kernel⟩,
    ⟨ws [] (wOp (wFl 2 [2, 0, 0, 0, 0, 0x10])), 1, [0], wFl 2 [2, 0, 0, 0, 0, 0x10], by decide +kernel⟩,
    ⟨ws [] (fun h => wOp (wFl 2 [3, 0, 0, 0, 0, 0x10]) { h with sto := { h.sto with blks := [(0, [1])] } }), 1, wFl 2 [3, 0, 0,
      0, 0, 0x10], by decide +kernel⟩,
    ⟨1000000000, ws [], by decide +kernel⟩,
    ⟨ws [], 5, by decide +kernel⟩⟩

theorem test_RecorderCommandsComplete_met :
    (∃ (dt : Nat) (s : State) (id : Nat) (f : Flight), s.hw.isOn = true ∧ OpRuns s.hw id 8 1 f ∧
      s.hw.flag F.EVR_STATUS_READY = true ∧ s.hw.ecc = [] ∧
      ((appRecent (s.hw.elapse dt) f.part).map (·.2)).sum + (40 + fld f.desc 4 2) ≤ 1000 * s.hw.get F.EVR_RATE_KB f.part) ∧
    (∃ (dt : Nat) (s : State) (id : Nat) (f : Flight), s.hw.isOn = true ∧ OpRuns s.hw id 8 1 f ∧
      s.hw.flag F.EVR_STATUS_READY = true ∧
      1000 * s.hw.get F.EVR_RATE_KB f.part < ((appRecent (s.hw.elapse dt) f.part).map (·.2)).sum + (40 + fld f.desc 4 2)) ∧
    (∃ (s : State) (id : Nat) (f : Flight), s.hw.isOn = true ∧ OpRuns s.hw id 8 2 f ∧ s.hw.flag F.EVR_STATUS_READY = true ∧
      Memory.wf s.hw.mem = true ∧ s.hw.ecc = []) ∧
    (∃ (s : State), s.hw.isOn = true ∧ s.hw.flag F.EVR_STATUS_READY = false) ∧
    (∃ (s : State) (o : DiagOcc) (os : List DiagOcc), s.hw.isOn = true ∧ s.hw.diag = o :: os ∧
      s.hw.flag F.EVR_STATUS_READY = true) ∧
    (∃ (dt : Nat) (s : State) (ty : BitVec 16) (inst : BitVec 16) (t : Nat) (held : Nat), s.hw.isOn = true ∧
      mget s.hw.evr.rates (rateKey ty.toNat inst.toNat) = some (t, held) ∧ held ≠ 0 ∧ t + 1000000000 ≤ s.hw.now + dt ∧
      s.hw.flag F.EVR_STATUS_READY = true) :=
  ⟨⟨0, ((ws [] (wOp (wFl 8 [1]))).fp F.EVR_STATUS_READY 1).fp F.EVR_RATE_KB 8, 1, wFl 8 [1], by decide +kernel⟩,
    ⟨0, ((ws [] (wOp (wFl 8 [1]))).fp F.EVR_STATUS_READY 1).fp F.EVR_RATE_KB 0, 1, wFl 8 [1], by decide +kernel⟩,
    ⟨((ws [] (fun h => wOp (wFl 8 (2 :: zeros 24 ++ [1])) { h with evr := { h.evr with gen := { recs := [⟨0, [1, 2]⟩] } } })).fp
      F.EVR_STATUS_READY 1), 1, wFl 8 (2 :: zeros 24 ++ [1]), by decide +kernel⟩,
    ⟨(ws [] (fun h => h.log 0x0101)).fp F.EVR_STATUS_READY 0, by decide +kernel⟩,
    ⟨(ws [] (fun h => h.log 0x0101)).fp F.EVR_STATUS_READY 1, ⟨0x0101, 0xFFFF, false⟩, [], by decide +kernel⟩,
    ⟨1000000000, (ws [] (fun h => { h with evr := { h.evr with rates := [(rateKey 0x0F03 1, (0, 2))] } })).fp F.EVR_STATUS_READY
      1, 0x0F03, 1, 0, 2, by decide +kernel⟩⟩

theorem test_UpdateCommandsComplete_met :
    (∃ (s : State) (id : Nat) (f : Flight), s.hw.isOn = true ∧ OpRuns s.hw id 7 1 f ∧ s.hw.ecc = []) ∧
    (∃ (s : State) (id : Nat) (f : Flight), s.hw.isOn = true ∧ OpRuns s.hw id 7 1 f ∧ s.hw.ecc = [] ∧ sesState s.hw ≠ 0) ∧
    (∃ (s : State) (id : Nat) (f : Flight) (c : Comp), s.hw.isOn = true ∧ OpRuns s.hw id 7 2 f ∧ s.hw.ecc = [] ∧
      sesState s.hw = 1 ∧ grdComp s.hw (fld f.desc 1 1) = some c) ∧
    (∃ (s : State) (id : Nat) (f : Flight), s.hw.isOn = true ∧ OpRuns s.hw id 7 3 f ∧ applyBehind s.hw f = false ∧
      (sesState s.hw = 1 ∨ sesState s.hw = 2)) ∧
    (∃ (s : State) (id : Nat) (f : Flight), s.hw.isOn = true ∧ OpRuns s.hw id 7 4 f ∧ activateCheck s.hw = ST_OK ∧
      s.hw.flag F.GRD_SESSION_SCOPE = false) ∧
    (∃ (s : State) (id : Nat) (f : Flight), s.hw.isOn = true ∧ OpRuns s.hw id 7 4 f ∧ activateCheck s.hw = ST_OK ∧
      s.hw.flag F.GRD_SESSION_SCOPE = true) ∧
    (∃ (s : State) (id : Nat) (f : Flight), s.hw.isOn = true ∧ OpRuns s.hw id 7 4 f ∧ activateCheck s.hw ≠ ST_OK) ∧
    (∃ (s : State), s.hw.isOn = true ∧ s.hw.pwr.trial = true) ∧
    (∃ (dt : Nat) (s : State) (g : Hw), s.hw.isOn = true ∧ s.hw.pwr.trial = false ∧ sesState s.hw = 4 ∧
      s.hw.flag F.GRD_SESSION_SCOPE = false ∧
      partSwitch ((s.hw.elapse dt).put F.GRD_SET_TRIAL 1) (s.hw.get F.GRD_SESSION_PART) = (g, true)) ∧
    (∃ (s : State) (id : Nat) (f : Flight) (m : Manif), s.hw.isOn = true ∧ OpRuns s.hw id 7 5 f ∧ sesState s.hw = 5 ∧
      s.hw.grd.winEnd.any (fun t => decide (t ≤ f.since)) = false ∧ s.hw.flag F.GRD_SET_EXPIRED = false ∧ s.hw.grd.man = some m) ∧
    (∃ (s : State) (id : Nat) (f : Flight), s.hw.isOn = true ∧ OpRuns s.hw id 7 5 f ∧ sesState s.hw ≠ 5) ∧
    (∃ (s : State) (id : Nat) (f : Flight), s.hw.isOn = true ∧ OpRuns s.hw id 7 6 f ∧ (sesState s.hw = 1 ∨ sesState s.hw = 3)) ∧
    (∃ (s : State) (id : Nat) (f : Flight), s.hw.isOn = true ∧ OpRuns s.hw id 7 6 f ∧ sesState s.hw = 0) ∧
    (∃ (dt : Nat) (s : State) (t : Nat), s.hw.isOn = true ∧ s.hw.grd.winEnd = some t ∧ sesState s.hw = 5 ∧ t ≤ s.hw.now + dt ∧
      s.hw.flag F.GRD_SET_EXPIRED = false) ∧
    (∃ (s : State), s.hw.isOn = true ∧ sesState s.hw = 5 ∧ s.hw.flag F.GRD_SET_EXPIRED = true ∧ grdParked s.hw = true) :=
  ⟨⟨ws [] (fun h => wOp (wFl 7 [1]) (h)), 1, wFl 7 [1], by decide +kernel⟩,
    ⟨ws [] (fun h => wOp (wFl 7 [1]) (wSes 1 h)), 1, wFl 7 [1], by decide +kernel⟩,
    ⟨ws [] (fun h => wOp (wFl 7 [2, 0, 0, 0, 4]) (wSes 1 h)), 1, wFl 7 [2, 0, 0, 0, 4], ⟨6, 0, 1, none, [], 1, 1, [], some (0,
      5), 0⟩, by decide +kernel⟩,
    ⟨ws [] (fun h => wOp (wFl 7 [3]) ((wSes 1 h))), 1, wFl 7 [3], by decide +kernel⟩,
    ⟨ws [] (fun h => wOp (wFl 7 [4]) (wSes 3 h)), 1, wFl 7 [4], by decide +kernel⟩,
    ⟨ws [] (fun h => wOp (wFl 7 [4]) (((((wSes 3 h).put F.GRD_SESSION_SCOPE 1).put F.GRD_PARK_DOM_EN 1)))), 1, wFl 7 [4],
      by decide +kernel⟩,
    ⟨ws [] (fun h => wOp (wFl 7 [4]) (h)), 1, wFl 7 [4], by decide +kernel⟩,
    ⟨ws [] (fun h => { h with pwr := { h.pwr with trial := true } }), by decide +kernel⟩,
    ⟨0, ws [] (wSes 4), ((wSes 4 (wHw [])).put F.GRD_SET_TRIAL 1).put F.PRP_PART_STATUS_STATE 3 1, by decide +kernel⟩,
    ⟨ws [] (fun h => wOp (wFl 7 [5]) (wSes 5 h)), 1, wFl 7 [5], wMan, by decide +kernel⟩,
    ⟨ws [] (fun h => wOp (wFl 7 [5]) (h)), 1, wFl 7 [5], by decide +kernel⟩,
    ⟨ws [] (fun h => wOp (wFl 7 [6]) (wSes 1 h)), 1, wFl 7 [6], by decide +kernel⟩,
    ⟨ws [] (fun h => wOp (wFl 7 [6]) (h)), 1, wFl 7 [6], by decide +kernel⟩,
    ⟨0, ws [] (fun h => wSes 5 { h with grd := { h.grd with winEnd := some 0 } }), 0, by decide +kernel⟩,
    ⟨((ws [] (wSes 5)).fp F.GRD_SET_EXPIRED 1).fp F.GRD_PARK_DOM_EN 1, by decide +kernel⟩⟩

theorem test_IdentityCommandsComplete_met :
    (∃ (s : State) (bytes : List Byte), s.hw.isOn = true ∧ s.hw.flag F.GRD_SET_RECOVERY = true ∧ 64 ≤ bytes.length ∧
      commonOk (bytes.take 64) = true ∧ dOp (bytes.take 64) = 6 ∧ head0 (bytes.take 64) 0 = true ∧
      onlyBytes [(0, 1)] (bytes.take 64) = true ∧ sesState s.hw = 1) ∧
    (∃ (s : State) (id : Nat) (f : Flight), s.hw.isOn = true ∧ OpRuns s.hw id 7 7 f ∧ s.hw.ecc = [] ∧ 1024 < fld f.desc 16 4) ∧
    (∃ (s : State) (id : Nat) (f : Flight), s.hw.isOn = true ∧ OpRuns s.hw id 7 7 f ∧ s.hw.ecc = []) ∧
    (∃ (dt : Nat) (s : State) (t : Nat), s.hw.isOn = true ∧ s.hw.grd.dbgEnd = some t ∧ t ≤ s.hw.now + dt) ∧
    (∃ (s : State) (hart : Fin 19), s.hw.isOn = true ∧ s.hw.byP0 hart = true) ∧
    (∃ (s : State) (hart : Fin 19), s.hw.isOn = true ∧ s.hw.byP0 hart = true ∧ s.hw.grd.dbgEnd.isSome = true) ∧
    (∃ (s : State) (id : Nat) (f : Flight), s.hw.isOn = true ∧ OpRuns s.hw id 7 8 f ∧ s.hw.ecc = []) ∧
    (∃ (s : State) (id : Nat) (f : Flight), s.hw.isOn = true ∧ OpRuns s.hw id 7 9 f ∧ s.hw.ecc = [] ∧ fld f.desc 1 1 = 0) ∧
    (∃ (s : State) (id : Nat) (f : Flight), s.hw.isOn = true ∧ OpRuns s.hw id 7 9 f ∧ s.hw.ecc = [] ∧ fld f.desc 1 1 ≠ 0) ∧
    (∃ (s : State) (id : Nat) (f : Flight), s.hw.isOn = true ∧ OpRuns s.hw id 7 10 f ∧ s.hw.ecc = []) ∧
    (∃ (s : State) (id : Nat) (f : Flight), s.hw.isOn = true ∧ OpRuns s.hw id 7 11 f ∧ s.hw.ecc = []) :=
  ⟨⟨(ws [] (wSes 1)).fp F.GRD_SET_RECOVERY 1, 6 :: zeros 63, by decide +kernel⟩,
    ⟨ws [] (wOp (wFl 7 (7 :: zeros 16 ++ [8]))), 1, wFl 7 (7 :: zeros 16 ++ [8]), by decide +kernel⟩,
    ⟨ws [] (fun h => wOp (wFl 7 [7]) (h)), 1, wFl 7 [7], by decide +kernel⟩,
    ⟨0, ws [] (fun h => { h with grd := { h.grd with dbgEnd := some 0 } }), 0, by decide +kernel⟩,
    ⟨ws [], 16, by decide +kernel⟩,
    ⟨ws [] (fun h => { h with grd := { h.grd with dbgEnd := some 0 } }), 16, by decide +kernel⟩,
    ⟨ws [] (fun h => wOp (wFl 7 [8]) (h)), 1, wFl 7 [8], by decide +kernel⟩,
    ⟨ws [] (fun h => wOp (wFl 7 [9]) (h)), 1, wFl 7 [9], by decide +kernel⟩,
    ⟨ws [] (fun h => wOp (wFl 7 [9, 1]) (h)), 1, wFl 7 [9, 1], by decide +kernel⟩,
    ⟨ws [] (fun h => wOp (wFl 7 [10]) (h)), 1, wFl 7 [10], by decide +kernel⟩,
    ⟨ws [] (fun h => wOp (wFl 7 [11]) (h)), 1, wFl 7 [11], by decide +kernel⟩⟩

theorem test_SupplyCommandsComplete_met :
    (∃ (s : State), s.hw.pwr.state ≠ .on ∧ s.hw.pwr.brown = false ∧ s.hw.pwr.hot = false ∧
      s.hw.flag F.PWR_WAKE_CFG_IGN_EN = true) ∧
    (∃ (s : State), s.hw.pwr.state = .on) ∧
    (∃ (s : State) (x : StartIn), s.hw.pwr.state = .on ∧ s.hw.pwr.up = false ∧ s.hw.pwr.failedAt = none ∧
      s.hw.pwr.halted = false ∧ x.fails = none ∧ x.bootSel = false ∧ s.hw.pwr.trial = false ∧
      bankOk (bankOf s.hw (s.hw.get F.GRD_SET_BANK)) = true ∧ (if s.hw.get F.GRD_SET_BANK = 0 then x.bad0 else x.bad1) = false) ∧
    (∃ (dt : Nat) (s : State) (x : StartIn) (t : Nat) (ch : Fin 16), s.hw.pwr.state = .on ∧ s.hw.pwr.failedAt = some t ∧
      t + 1000000000 ≤ s.hw.now + dt ∧ x.fails = some ch ∧ s.hw.pwr.tries < 3) ∧
    (∃ (dt : Nat) (s : State) (x : StartIn) (t : Nat) (ch : Fin 16), s.hw.pwr.state = .on ∧ s.hw.pwr.failedAt = some t ∧
      t + 1000000000 ≤ s.hw.now + dt ∧ x.fails = some ch ∧ 3 ≤ s.hw.pwr.tries) ∧
    (∃ (dt : Nat) (s : State) (x : StartIn) (t : Nat), s.hw.pwr.state = .on ∧ s.hw.pwr.failedAt = some t ∧
      t + 1000000000 ≤ s.hw.now + dt ∧ x.fails = none) ∧
    (∃ (s : State) (v : BitVec 16), s.hw.isOn = true ∧ v.toNat < 1800 ∧ s.hw.flag F.PWR_STATUS_LOW_V = false) ∧
    (∃ (s : State) (v : BitVec 16), s.hw.isOn = true ∧ 1850 < v.toNat ∧ s.hw.flag F.PWR_STATUS_LOW_V = true) ∧
    (∃ (s : State) (v : BitVec 16), s.hw.pwr.state = .on ∧ v.toNat < 1800) ∧
    (∃ (dt : Nat) (s : State) (v : BitVec 16) (w : WakeIn), s.hw.pwr.brown = true ∧ 1800 ≤ v.toNat ∧ s.hw.pwr.state ≠ .on ∧
      wakeActive (takeWake (s.hw.elapse dt) w) = true ∧ s.hw.pwr.hot = false) ∧
    (∃ (dt : Nat) (s : State) (v : BitVec 16) (w : WakeIn), s.hw.pwr.brown = true ∧ 1800 ≤ v.toNat ∧ s.hw.pwr.state ≠ .on ∧
      wakeActive (takeWake (s.hw.elapse dt) w) = false) ∧
    (∃ (s : State) (t : Fin 8) (v : BitVec 16), v.toNat < 1200 ∧ s.hw.flag F.PWR_FEED_STATUS_FEED_UV t = false) ∧
    (∃ (s : State) (t : Fin 8) (v : BitVec 16), 3600 < v.toNat ∧ s.hw.flag F.PWR_FEED_STATUS_FEED_OV t = false) ∧
    (∃ (v : BitVec 16), 1300 < v.toNat ∧ v.toNat < 3400) :=
  ⟨⟨(ws [] (wPwr (fun p => { p with state := .sleep }))), by decide +kernel⟩,
    ⟨(ws [] (wPwr (fun p => { p with state := .on }))), by decide +kernel⟩,
    ⟨(ws [] (wPwr (fun p => { p with up := false }))), wStart none, by decide +kernel⟩,
    ⟨1000000000, (ws [] (wPwr (fun p => { p with up := false, failedAt := some 0, tries := 1 }))), wStart (some 3), 0, 3,
      by decide +kernel⟩,
    ⟨1000000000, (ws [] (wPwr (fun p => { p with up := false, failedAt := some 0, tries := 3 }))), wStart (some 3), 0, 3,
      by decide +kernel⟩,
    ⟨1000000000, (ws [] (wPwr (fun p => { p with up := false, failedAt := some 0, tries := 1 }))), wStart none, 0,
      by decide +kernel⟩,
    ⟨ws [], 1700, by decide +kernel⟩,
    ⟨(ws []).fp F.PWR_STATUS_LOW_V 1, 1900, by decide +kernel⟩,
    ⟨ws [], 900, by decide +kernel⟩,
    ⟨0, (ws [] (wPwr (fun p => { p with brown := true, state := .sleep }))), 1900, wWake true, by decide +kernel⟩,
    ⟨0, (ws [] (wPwr (fun p => { p with brown := true, state := .sleep }))), 1900, wWake false, by decide +kernel⟩,
    ⟨ws [], 2, 1100, by decide +kernel⟩,
    ⟨ws [], 2, 3700, by decide +kernel⟩,
    ⟨2400, by decide +kernel⟩⟩

theorem test_PowerStateCommandsComplete_met :
    (∃ (s : State) (hart : Fin 19) (v : Word), s.hw.isOn = true ∧ s.hw.byP0 hart = true ∧ v.toNat % 65536 = 0x6B5A) ∧
    (∃ (s : State) (pair : Fin 3), s.hw.isOn = true ∧ pair.val = 0) ∧
    (∃ (s : State) (pair : Fin 3), s.hw.isOn = true ∧ pair.val ≠ 0) ∧
    (∃ (dt : Nat) (s : State) (hart : Fin 19) (w : WakeIn), s.hw.isOn = true ∧ s.hw.byP0 hart = true ∧
      wakeActive (takeWake (s.hw.elapse dt) w) = true) ∧
    (∃ (dt : Nat) (s : State) (hart : Fin 19) (w : WakeIn), s.hw.isOn = true ∧ s.hw.byP0 hart = true ∧
      wakeActive (takeWake (s.hw.elapse dt) w) = false ∧ pwrBusy s.hw = true) ∧
    (∃ (dt : Nat) (s : State) (hart : Fin 19) (w : WakeIn), s.hw.isOn = true ∧ s.hw.byP0 hart = true ∧
      wakeActive (takeWake (s.hw.elapse dt) w) = false ∧ pwrBusy s.hw = false) ∧
    (∃ (dt : Nat) (s : State) (w : WakeIn) (t : Nat), s.hw.isOn = true ∧ wakeActive (takeWake (s.hw.elapse dt) w) = false ∧
      pwrBusy s.hw = false ∧ (takeWake (s.hw.elapse dt) w).pwr.ignLow = some t ∧ s.hw.get F.PWR_SLEEP_CFG_AUTO ≠ 0 ∧
      t + 1000000000 * s.hw.get F.PWR_SLEEP_CFG_AUTO ≤ s.hw.now + dt) ∧
    (∃ (dt : Nat) (s : State) (w : WakeIn), s.hw.pwr.state = .sleep ∧ s.hw.pwr.brown = false ∧ s.hw.pwr.hot = false ∧
      wakeActive (takeWake (s.hw.elapse dt) w) = true) ∧
    (∃ (dt : Nat) (s : State) (w : WakeIn), s.hw.pwr.state = .sleep ∧ wakeActive (takeWake (s.hw.elapse dt) w) = false) ∧
    (∃ (dt : Nat) (s : State), s.hw.pwr.state = .on ∧ s.hw.pwr.mirrorAt + 60000000000 ≤ s.hw.now + dt ∧
      s.hw.get F.WGL_STATUS_DISC ≠ 2) ∧
    (∃ (dt : Nat) (s : State), s.hw.isOn = true ∧ s.hw.pwr.mirrorAt + 60000000000 ≤ s.hw.now + dt ∧
      s.hw.get F.WGL_STATUS_DISC = 2) ∧
    (∃ (s : State), s.hw.pwr.state ≠ .on) ∧
    (∃ (s : State) (hart : Fin 19), s.hw.isOn = true ∧ s.hw.byP0 hart = true) ∧
    (∃ (s : State), s.hw.pwr.state = .off) ∧
    (∃ (s : State) (a : BitVec 16) (b : BitVec 16), s.hw.isOn = true ∧ -500 ≤ a.toInt ∧ a.toInt ≤ 1500 ∧ -500 ≤ b.toInt ∧
      b.toInt ≤ 1500 ∧ s.hw.flag F.PWR_STATUS_LOW_V = false) ∧
    (∃ (dt : Nat) (s : State) (a : BitVec 16) (b : BitVec 16) (t : Nat), s.hw.isOn = true ∧
      (plateRead (s.hw.elapse dt) a.toInt b.toInt).pwr.hotAt = some t ∧ t + 1000000000 ≤ s.hw.now + dt ∧
      (plateRead (s.hw.elapse dt) a.toInt b.toInt).get F.PWR_ENV_THERM ≠ 3) ∧
    (∃ (dt : Nat) (s : State) (a : BitVec 16) (b : BitVec 16) (t : Nat), s.hw.isOn = true ∧
      (plateRead (s.hw.elapse dt) a.toInt b.toInt).pwr.overAt = some t ∧ t + 100000000 ≤ s.hw.now + dt) ∧
    (∃ (s : State) (a : BitVec 16) (b : BitVec 16), s.hw.isOn = true ∧ (a.toInt < -500 ∨ 1500 < a.toInt) ∧ -500 ≤ b.toInt ∧
      b.toInt ≤ 1500 ∧ s.hw.flag F.PWR_ENV_SENS_A_BAD = false) ∧
    (∃ (s : State) (a : BitVec 16) (b : BitVec 16), s.hw.isOn = true ∧ (a.toInt < -500 ∨ 1500 < a.toInt) ∧
      (b.toInt < -500 ∨ 1500 < b.toInt)) ∧
    (∃ (dt : Nat) (s : State) (t : BitVec 16) (w : WakeIn), s.hw.pwr.hot = true ∧ t.toInt < 900 ∧ s.hw.pwr.state ≠ .on ∧
      wakeActive (takeWake (s.hw.elapse dt) w) = true ∧ s.hw.pwr.brown = false) ∧
    (∃ (dt : Nat) (s : State) (t : BitVec 16) (w : WakeIn), s.hw.pwr.hot = true ∧ t.toInt < 900 ∧ s.hw.pwr.state ≠ .on ∧
      wakeActive (takeWake (s.hw.elapse dt) w) = false) ∧
    (∃ (s : State) (j : Fin 4) (lim : Bool), s.hw.isOn = true ∧ lim = true ∧ j.val ≠ 0) ∧
    (∃ (s : State) (j : Fin 4) (lim : Bool), s.hw.isOn = true ∧ lim = true ∧ j.val = 0) :=
  ⟨⟨ws [], 16, 0x6B5A, by decide +kernel⟩,
    ⟨ws [], 0, by decide +kernel⟩,
    ⟨ws [], 1, by decide +kernel⟩,
    ⟨0, ws [], 16, wWake true, by decide +kernel⟩,
    ⟨0, (ws []).fp F.PRP_PART_ST_BUSY 1, 16, wWake false, by decide +kernel⟩,
    ⟨0, ws [], 16, wWake false, by decide +kernel⟩,
    ⟨9000000000, (ws [] (wPwr (fun p => { p with ignLow := some 0 }))).fp F.PWR_SLEEP_CFG_AUTO 2, wWake false, 0,
      by decide +kernel⟩,
    ⟨0, (ws [] (wPwr (fun p => { p with state := .sleep }))), wWake true, by decide +kernel⟩,
    ⟨0, (ws [] (wPwr (fun p => { p with state := .sleep }))), wWake false, by decide +kernel⟩,
    ⟨60000000000, ws [], by decide +kernel⟩,
    ⟨60000000000, (ws []).fp F.WGL_STATUS_DISC 2, by decide +kernel⟩,
    ⟨(ws [] (wPwr (fun p => { p with state := .sleep }))), by decide +kernel⟩,
    ⟨ws [], 16, by decide +kernel⟩,
    ⟨(ws [] (wPwr (fun p => { p with state := .off }))), by decide +kernel⟩,
    ⟨ws [], 850, 840, by decide +kernel⟩,
    ⟨1000000000, (ws [] (wPwr (fun p => { p with hotAt := some 0 }))), 1050, 1050, 0, by decide +kernel⟩,
    ⟨1000000000, (ws [] (wPwr (fun p => { p with overAt := some 0 }))), 1150, 1150, 0, by decide +kernel⟩,
    ⟨ws [], 3000, 500, by decide +kernel⟩,
    ⟨ws [], 3000, 3000, by decide +kernel⟩,
    ⟨0, (ws [] (wPwr (fun p => { p with hot := true, state := .sleep }))), 800, wWake true, by decide +kernel⟩,
    ⟨0, (ws [] (wPwr (fun p => { p with hot := true, state := .sleep }))), 800, wWake false, by decide +kernel⟩,
    ⟨ws [], 1, true, by decide +kernel⟩,
    ⟨ws [], 0, true, by decide +kernel⟩⟩

theorem test_SmokerCommandsComplete_met :
    (∃ (s : State) (x : SmkStep) (pair : Fin 3) (good : Bool), s.hw.isOn = true ∧ x = .lockstep pair good ∧
      smkTests s.hw 4 = true) ∧
    (∃ (s : State) (x : SmkStep) (p : Fin 272), s.hw.isOn = true ∧ x = .pulse p ∧ smkTests s.hw (pulseTest s.hw p) = true ∧
      s.hw.smk.test = none ∧ (outTarget s.hw p = true ∨ inTarget s.hw p = true)) ∧
    (∃ (s : State) (p : Nat), s.hw.isOn = true ∧ s.hw.smk.test = some p) ∧
    (∃ (s : State) (t : Fin 100) (ev : TileEv), s.hw.isOn = true ∧ ev = .takeOut ∧ s.hw.smk.tile = none ∧
      smkTests s.hw 6 = true ∧ tileSt s.hw t ≤ 1) ∧
    (∃ (s : State) (t : Fin 100) (ev : TileEv) (good : Bool) (x : Nat × Nat × Option Nat), s.hw.isOn = true ∧
      ev = .result good ∧ s.hw.smk.tile = some x ∧ x.1 = t.val) ∧
    (∃ (dt : Nat) (s : State), s.hw.isOn = true ∧ smkOn s.hw = true ∧ s.hw.smk.behind = false ∧
      s.hw.smk.cycleAt + s.hw.get F.SMK_CFG_PERIOD * 1000000000 ≤ s.hw.now + dt) ∧
    (∃ (s : State) (hart : Fin 19), s.hw.isOn = true ∧ s.hw.byP0 hart = true ∧ bit (s.hw.get F.GRD_DBG_STATUS_SCOPE) 3 = true) ∧
    (∃ (s : State), s.hw.isOn = true) :=
  ⟨⟨ws [(F.SMK_CFG_EN.at 0 0, 0x3cff)], .lockstep 1 false, 1, false, by decide +kernel⟩,
    ⟨(ws [(F.SMK_CFG_EN.at 0 0, 0x3cff)]).fp F.DIO_CFG_ENABLE 1, .pulse 144, 144, by decide +kernel⟩,
    ⟨ws [] (fun h => { h with smk := { h.smk with test := some 50, passed := [smkKey 1 50] } }), 50, by decide +kernel⟩,
    ⟨ws [(F.SMK_CFG_EN.at 0 0, 0x3cff)], 97, .takeOut, by decide +kernel⟩,
    ⟨ws [] (fun h => { h with smk := { h.smk with tile := some (97, 1, none) } }), 97, .result false, false, (97, 1, none),
      by decide +kernel⟩,
    ⟨9000000000000, ws [(F.SMK_CFG_EN.at 0 0, 0x3cff)], by decide +kernel⟩,
    ⟨(ws []).fp F.GRD_DBG_STATUS_SCOPE 8, 16, by decide +kernel⟩,
    ⟨ws [], by decide +kernel⟩⟩

theorem test_WaggleAndImagingFrames_met :
    (∃ (dt : Nat) (s : State) (t : State) (p : Fin 8), exec (.reservationTakesEffect dt p) s = .next t) ∧
    (∃ (dt : Nat) (s : State) (t : State), exec (.ppsEdge dt) s = .next t) ∧
    (∃ (dt : Nat) (s : State) (t : State), exec (.holdoverEntry dt) s = .next t) ∧
    (∃ (dt : Nat) (s : State) (t : State) (i : Fin 16), exec (.domainStopTimeout dt i) s = .next t) ∧
    (∃ (dt : Nat) (s : State) (t : State) (r : Fin 1024), exec (.doorbellRead dt r) s = .next t) ∧
    (∃ (dt : Nat) (s : State) (t : State) (r : Fin 1024), exec (.ringIrqTimer dt r) s = .next t) ∧
    (∃ (dt : Nat) (s : State) (t : State) (r : Fin 1024), exec (.ringDrainDone dt r) s = .next t) ∧
    (∃ (dt : Nat) (s : State) (t : State) (hart : Fin 19) (c : Fin 16), exec (.cameraEnable dt hart c) s = .next t) ∧
    (∃ (dt : Nat) (s : State) (t : State) (hart : Fin 19) (c : Fin 16) (v : Word), exec (.cameraGeomWrite dt hart c v) s = .next
        t) ∧
    (∃ (dt : Nat) (s : State) (t : State) (c : Fin 16), exec (.cameraLinkUp dt c) s = .next t) ∧
    (∃ (dt : Nat) (s : State) (t : State) (c : Fin 16), exec (.cameraLinkDown dt c) s = .next t) ∧
    (∃ (dt : Nat) (s : State) (t : State) (c : Fin 16), exec (.cameraTrainingRetry dt c) s = .next t) ∧
    (∃ (dt : Nat) (s : State) (t : State) (id : Nat), exec (.post dt id) s = .next t) ∧
    (∃ (dt : Nat) (s : State) (t : State) (id : Nat), exec (.reprocess dt id) s = .next t) ∧
    (∃ (dt : Nat) (s : State) (t : State) (id : Nat), exec (.cciTimeout dt id) s = .next t) ∧
    (∃ (dt : Nat) (s : State) (t : State) (c : Fin 16) (vc : Fin 16) (fmt : Fin 8), exec (.frameStart dt c vc fmt) s = .next t) ∧
    (∃ (dt : Nat) (s : State) (t : State), exec (.elasticBufferOverflow dt) s = .next t) ∧
    (∃ (dt : Nat) (s : State) (t : State) (c : Fin 16), exec (.frameCapacityOverrun dt c) s = .next t) ∧
    (∃ (dt : Nat) (s : State) (t : State) (c : Fin 16), exec (.arrivalDeadline dt c) s = .next t) ∧
    (∃ (dt : Nat) (s : State) (t : State) (k : Fin 2), exec (.pipelinePassStart dt k) s = .next t) ∧
    (∃ (dt : Nat) (s : State) (t : State) (c : Fin 16), exec (.processingDeadline dt c) s = .next t) :=
  ⟨⟨0, ws [], _, 0, rfl⟩,
    ⟨0, ws [], _, rfl⟩,
    ⟨0, ws [], _, rfl⟩,
    ⟨0, ws [], _, 0, rfl⟩,
    ⟨0, ws [], _, 0, rfl⟩,
    ⟨0, ws [], _, 0, rfl⟩,
    ⟨0, ws [], _, 0, rfl⟩,
    ⟨0, ws [], _, 0, 0, rfl⟩,
    ⟨0, ws [], _, 0, 0, 0, rfl⟩,
    ⟨0, ws [], _, 0, rfl⟩,
    ⟨0, ws [], _, 0, rfl⟩,
    ⟨0, ws [], _, 0, rfl⟩,
    ⟨0, ws [], _, 0, rfl⟩,
    ⟨0, ws [], _, 0, rfl⟩,
    ⟨0, ws [], _, 0, rfl⟩,
    ⟨0, ws [], _, 0, 0, 0, rfl⟩,
    ⟨0, ws [], _, rfl⟩,
    ⟨0, ws [], _, 0, rfl⟩,
    ⟨0, ws [], _, 0, rfl⟩,
    ⟨0, ws [], _, 0, rfl⟩,
    ⟨0, ws [], _, 0, rfl⟩⟩

theorem test_SensorsAndLoadsFrames_met :
    (∃ (dt : Nat) (s : State) (t : State) (id : Nat), exec (.recbuf dt id) s = .next t) ∧
    (∃ (dt : Nat) (s : State) (t : State) (id : Nat), exec (.bufferFlushTimeout dt id) s = .next t) ∧
    (∃ (dt : Nat) (s : State) (t : State) (c : Fin 48), exec (.impactBegin dt c) s = .next t) ∧
    (∃ (dt : Nat) (s : State) (t : State) (id : Nat), exec (.width dt id) s = .next t) ∧
    (∃ (dt : Nat) (s : State) (t : State) (hart : Fin 19) (v : Word), exec (.yieldEnable dt hart v) s = .next t) ∧
    (∃ (dt : Nat) (s : State) (t : State) (hart : Fin 19) (v : Word), exec (.ctlSlotSelWrite dt hart v) s = .next t) ∧
    (∃ (dt : Nat) (s : State) (t : State) (hart : Fin 19), exec (.recCmdRead dt hart) s = .next t) ∧
    (∃ (dt : Nat) (s : State) (t : State) (c : Fin 48), exec (.clampLimit dt c) s = .next t) ∧
    (∃ (dt : Nat) (s : State) (t : State) (hart : Fin 19) (c : Fin 96) (v : Word), exec (.lswEnable dt hart c v) s = .next t) ∧
    (∃ (dt : Nat) (s : State) (t : State) (c : Fin 96) (dur : Nat), exec (.currentLimitTimeout dt c dur) s = .next t) ∧
    (∃ (dt : Nat) (s : State) (t : State) (c : Fin 96), exec (.openOn dt c) s = .next t) ∧
    (∃ (dt : Nat) (s : State) (t : State) (c : Fin 96), exec (.offHigh dt c) s = .next t) ∧
    (∃ (dt : Nat) (s : State) (t : State) (c : Fin 96), exec (.overtemp dt c) s = .next t) ∧
    (∃ (dt : Nat) (s : State) (t : State) (c : Fin 96), exec (.overtempRestart dt c) s = .next t) ∧
    (∃ (dt : Nat) (s : State) (t : State) (hart : Fin 19) (c : Fin 96) (v : Word) (stillHot : Bool), exec (.lswFaultClear dt
        hart c v stillHot) s = .next t) ∧
    (∃ (dt : Nat) (s : State) (t : State), exec (.watchdogPeriodStart dt) s = .next t) ∧
    (∃ (dt : Nat) (s : State) (t : State) (id : Nat), exec (.wdans dt id) s = .next t) ∧
    (∃ (dt : Nat) (s : State) (t : State) (hart : Fin 19) (tile : Fin 8), exec (.fsLock dt hart tile) s = .next t) ∧
    (∃ (dt : Nat) (s : State) (t : State) (hart : Fin 19) (c : Fin 128) (v : Word), exec (.dioEnable dt hart c v) s = .next t) ∧
    (∃ (dt : Nat) (s : State) (t : State) (id : Nat), exec (.diobuf dt id) s = .next t) ∧
    (∃ (dt : Nat) (s : State) (t : State) (c : Fin 128), exec (.filterChange dt c) s = .next t) ∧
    (∃ (dt : Nat) (s : State) (t : State) (c : Fin 128), exec (.dioOverload dt c) s = .next t) ∧
    (∃ (dt : Nat) (s : State) (t : State) (c : Fin 128) (kind : DioFaultKind), exec (.dioFaultDetect dt c kind) s = .next t) ∧
    (∃ (dt : Nat) (s : State) (t : State) (tile : Fin 2), exec (.silent dt tile) s = .next t) ∧
    (∃ (dt : Nat) (s : State) (t : State) (port : Fin 512) (openWire : Bool) (range : Bool), exec (.sensorInputFault dt port
        openWire range) s = .next t) ∧
    (∃ (dt : Nat) (s : State) (t : State) (c : Fin 128), exec (.dioOvertempRecovery dt c) s = .next t) ∧
    (∃ (dt : Nat) (s : State) (t : State) (c : Fin 128), exec (.dioOpenWireEnds dt c) s = .next t) :=
  ⟨⟨0, ws [], _, 0, rfl⟩,
    ⟨0, ws [], _, 0, rfl⟩,
    ⟨0, ws [], _, 0, rfl⟩,
    ⟨0, ws [], _, 0, rfl⟩,
    ⟨0, ws [], _, 0, 0, rfl⟩,
    ⟨0, ws [], _, 0, 0, rfl⟩,
    ⟨0, ws [], _, 0, rfl⟩,
    ⟨0, ws [], _, 0, rfl⟩,
    ⟨0, ws [], _, 0, 0, 0, rfl⟩,
    ⟨0, ws [], _, 0, 0, rfl⟩,
    ⟨0, ws [], _, 0, rfl⟩,
    ⟨0, ws [], _, 0, rfl⟩,
    ⟨0, ws [], _, 0, rfl⟩,
    ⟨0, ws [], _, 0, rfl⟩,
    ⟨0, ws [], _, 0, 0, 0, false, rfl⟩,
    ⟨0, ws [], _, rfl⟩,
    ⟨0, ws [], _, 0, rfl⟩,
    ⟨0, ws [], _, 0, 0, rfl⟩,
    ⟨0, ws [], _, 0, 0, 0, rfl⟩,
    ⟨0, ws [], _, 0, rfl⟩,
    ⟨0, ws [], _, 0, rfl⟩,
    ⟨0, ws [], _, 0, rfl⟩,
    ⟨0, ws [], _, 0, .openLoad, rfl⟩,
    ⟨0, ws [], _, 0, rfl⟩,
    ⟨0, ws [], _, 0, false, false, rfl⟩,
    ⟨0, ws [], _, 0, rfl⟩,
    ⟨0, ws [], _, 0, rfl⟩⟩

theorem test_FusionAndNetworkFrames_met :
    (∃ (dt : Nat) (s : State) (t : State) (id : Nat), exec (.fix dt id) s = .next t) ∧
    (∃ (dt : Nat) (s : State) (t : State) (id : Nat), exec (.init dt id) s = .next t) ∧
    (∃ (dt : Nat) (s : State) (t : State) (id : Nat), exec (.outbuf dt id) s = .next t) ∧
    (∃ (dt : Nat) (s : State) (t : State), exec (.imuTimeout dt) s = .next t) ∧
    (∃ (dt : Nat) (s : State) (t : State), exec (.egoFaultExit dt) s = .next t) ∧
    (∃ (dt : Nat) (s : State) (t : State), exec (.gnssLost dt) s = .next t) ∧
    (∃ (dt : Nat) (s : State) (t : State), exec (.gnssHoldoffEnd dt) s = .next t) ∧
    (∃ (dt : Nat) (s : State) (t : State) (src : Fin 16), exec (.sourceStale dt src) s = .next t) ∧
    (∃ (dt : Nat) (s : State) (t : State), exec (.degradationRecover dt) s = .next t) ∧
    (∃ (dt : Nat) (s : State) (t : State) (a : Fin 2) (short : Bool), exec (.biasFault dt a short) s = .next t) ∧
    (∃ (dt : Nat) (s : State) (t : State) (a : Fin 2) (still : Bool), exec (.biasRetry dt a still) s = .next t) ∧
    (∃ (dt : Nat) (s : State) (t : State) (id : Nat), exec (.obsbuf dt id) s = .next t) ∧
    (∃ (dt : Nat) (s : State) (t : State) (a : Fin 2) (i : Fin 64) (cn0 : BitVec 16), exec (.acquisitionPeak dt a i cn0) s =
        .next t) ∧
    (∃ (dt : Nat) (s : State) (t : State) (a : Fin 2) (i : Fin 64) (b5 : Bool) (doppler : Word) (code : Word), exec
        (.trackReached dt a i b5 doppler code) s = .next t) ∧
    (∃ (dt : Nat) (s : State) (t : State) (a : Fin 2) (i : Fin 64), exec (.pullInTimeout dt a i) s = .next t) ∧
    (∃ (dt : Nat) (s : State) (t : State) (a : Fin 2) (i : Fin 64), exec (.searchTimeout dt a i) s = .next t) ∧
    (∃ (dt : Nat) (s : State) (t : State) (a : Fin 2) (i : Fin 64) (b5 : Bool), exec (.lossOfLock dt a i b5) s = .next t) ∧
    (∃ (dt : Nat) (s : State) (t : State), exec (.internalPpsInvalid dt) s = .next t) ∧
    (∃ (dt : Nat) (s : State) (t : State), exec (.ppsOutPulse dt) s = .next t) ∧
    (∃ (dt : Nat) (s : State) (t : State) (hart : Fin 19) (n : Fin 16), exec (.canRestart dt hart n) s = .next t) ∧
    (∃ (dt : Nat) (s : State) (t : State) (n : Fin 16), exec (.busOffRecoveryDone dt n) s = .next t) ∧
    (∃ (dt : Nat) (s : State) (t : State) (id : Nat), exec (.canAbort dt id) s = .next t) ∧
    (∃ (dt : Nat) (s : State) (t : State) (id : Nat), exec (.canRxbuf dt id) s = .next t) ∧
    (∃ (dt : Nat) (s : State) (t : State) (id : Nat), exec (.linpub dt id) s = .next t) ∧
    (∃ (dt : Nat) (s : State) (t : State) (n : Fin 16), exec (.canTransmitStart dt n) s = .next t) ∧
    (∃ (dt : Nat) (s : State) (t : State) (n : Fin 16), exec (.canArbLost dt n) s = .next t) ∧
    (∃ (dt : Nat) (s : State) (t : State) (n : Fin 16) (counted : Bool), exec (.canTxError dt n counted) s = .next t) ∧
    (∃ (dt : Nat) (s : State) (t : State) (n : Fin 16) (ev : ClaimEv), exec (.addressClaim dt n ev) s = .next t) ∧
    (∃ (dt : Nat) (s : State) (t : State) (n : Fin 16), exec (.heartbeatSend dt n) s = .next t) ∧
    (∃ (dt : Nat) (s : State) (t : State) (c : Fin 2), exec (.linWake dt c) s = .next t) ∧
    (∃ (dt : Nat) (s : State) (t : State) (n : Fin 12) (up : Bool), exec (.ethLinkChange dt n up) s = .next t) ∧
    (∃ (dt : Nat) (s : State) (t : State) (n : Fin 12), exec (.ethLinkRetry dt n) s = .next t) ∧
    (∃ (dt : Nat) (s : State) (t : State) (id : Nat), exec (.txpkt dt id) s = .next t) ∧
    (∃ (dt : Nat) (s : State) (t : State) (id : Nat), exec (.ethRxbuf dt id) s = .next t) ∧
    (∃ (dt : Nat) (s : State) (t : State) (n : Fin 12), exec (.gateListTakesEffect dt n) s = .next t) ∧
    (∃ (dt : Nat) (s : State) (t : State) (n : Fin 12), exec (.gptpSync dt n) s = .next t) ∧
    (∃ (dt : Nat) (s : State) (t : State) (n : Fin 12) (measured : Option Nat), exec (.pdelayExchange dt n measured) s = .next
        t) ∧
    (∃ (dt : Nat) (s : State) (t : State) (hart : Fin 19), exec (.swarmEnable dt hart) s = .next t) ∧
    (∃ (dt : Nat) (s : State) (t : State), exec (.swarmPeriod dt) s = .next t) ∧
    (∃ (dt : Nat) (s : State) (t : State) (sender : BitVec 160) (field : Word) (tSend : DWord) (ents : List (BitVec 160 ×
        DWord)) (age : Nat) (back : Nat), exec (.announceReceived dt sender field tSend ents age back) s = .next t) ∧
    (∃ (dt : Nat) (s : State) (t : State) (sender : BitVec 160) (field : Word) (leader : BitVec 160) (age : Nat), exec
        (.joinReceived dt sender field leader age) s = .next t) ∧
    (∃ (dt : Nat) (s : State) (t : State), exec (.joinTimeout dt) s = .next t) ∧
    (∃ (dt : Nat) (s : State) (t : State), exec (.leaderLost dt) s = .next t) ∧
    (∃ (dt : Nat) (s : State) (t : State) (a : Fin 2), exec (.antennaBiasRecovery dt a) s = .next t) ∧
    (∃ (dt : Nat) (s : State) (t : State) (n : Fin 16) (by8 : Bool), exec (.canRxError dt n by8) s = .next t) ∧
    (∃ (dt : Nat) (s : State) (t : State) (n : Fin 16), exec (.canBusIntegrated dt n) s = .next t) :=
  ⟨⟨0, ws [], _, 0, rfl⟩,
    ⟨0, ws [], _, 0, rfl⟩,
    ⟨0, ws [], _, 0, rfl⟩,
    ⟨0, ws [], _, rfl⟩,
    ⟨0, ws [], _, rfl⟩,
    ⟨0, ws [], _, rfl⟩,
    ⟨0, ws [], _, rfl⟩,
    ⟨0, ws [], _, 0, rfl⟩,
    ⟨0, ws [], _, rfl⟩,
    ⟨0, ws [], _, 0, false, rfl⟩,
    ⟨0, ws [], _, 0, false, rfl⟩,
    ⟨0, ws [], _, 0, rfl⟩,
    ⟨0, ws [], _, 0, 0, 0, rfl⟩,
    ⟨0, ws [], _, 0, 0, false, 0, 0, rfl⟩,
    ⟨0, ws [], _, 0, 0, rfl⟩,
    ⟨0, ws [], _, 0, 0, rfl⟩,
    ⟨0, ws [], _, 0, 0, false, rfl⟩,
    ⟨0, ws [], _, rfl⟩,
    ⟨0, ws [], _, rfl⟩,
    ⟨0, ws [], _, 0, 0, rfl⟩,
    ⟨0, ws [], _, 0, rfl⟩,
    ⟨0, ws [], _, 0, rfl⟩,
    ⟨0, ws [], _, 0, rfl⟩,
    ⟨0, ws [], _, 0, rfl⟩,
    ⟨0, ws [], _, 0, rfl⟩,
    ⟨0, ws [], _, 0, rfl⟩,
    ⟨0, ws [], _, 0, false, rfl⟩,
    ⟨0, ws [], _, 0, .settled, rfl⟩,
    ⟨0, ws [], _, 0, rfl⟩,
    ⟨0, ws [], _, 0, rfl⟩,
    ⟨0, ws [], _, 0, false, rfl⟩,
    ⟨0, ws [], _, 0, rfl⟩,
    ⟨0, ws [], _, 0, rfl⟩,
    ⟨0, ws [], _, 0, rfl⟩,
    ⟨0, ws [], _, 0, rfl⟩,
    ⟨0, ws [], _, 0, rfl⟩,
    ⟨0, ws [], _, 0, none, rfl⟩,
    ⟨0, ws [], _, 0, rfl⟩,
    ⟨0, ws [], _, rfl⟩,
    ⟨0, ws [], _, 0, 0, 0, [], 0, 0, rfl⟩,
    ⟨0, ws [], _, 0, 0, 0, 0, rfl⟩,
    ⟨0, ws [], _, rfl⟩,
    ⟨0, ws [], _, rfl⟩,
    ⟨0, ws [], _, 0, rfl⟩,
    ⟨0, ws [], _, 0, false, rfl⟩,
    ⟨0, ws [], _, 0, rfl⟩⟩

theorem test_StoreAndPowerFrames_met :
    (∃ (dt : Nat) (s : State) (t : State) (line : BitVec 36) (c : Fin 4), exec (.lineWriteback dt line c) s = .next t) ∧
    (∃ (dt : Nat) (s : State) (t : State) (stop : Fin 64) (off : BitVec 40) (b : Fin 72), exec (.combSingleBitCorrected dt stop
        off b) s = .next t) ∧
    (∃ (dt : Nat) (s : State) (t : State) (r : Requester), exec (.combUncorrectable dt r) s = .next t) ∧
    (∃ (dt : Nat) (s : State) (t : State) (r : Requester), exec (.combTimeout dt r) s = .next t) ∧
    (∃ (dt : Nat) (s : State) (t : State), exec (.lateResponseDiscard dt) s = .next t) ∧
    (∃ (dt : Nat) (s : State) (t : State) (v : BitVec 16), exec (.visionPowerCap dt v) s = .next t) ∧
    (∃ (dt : Nat) (s : State) (t : State) (b : Fin 14) (i : Nat), exec (.scrubBehind dt b i) s = .next t) ∧
    (∃ (dt : Nat) (s : State) (t : State) (hart : Fin 19), exec (.memErrLatchClear dt hart) s = .next t) ∧
    (∃ (dt : Nat) (s : State) (t : State) (hart : Fin 19), exec (.readraw dt hart) s = .next t) ∧
    (∃ (dt : Nat) (s : State) (t : State) (hart : Fin 19) (r : Fin 16) (v : Word), exec (.regionCreate dt hart r v) s = .next t) ∧
    (∃ (dt : Nat) (s : State) (t : State) (hart : Fin 19) (r : Fin 16) (v : Word), exec (.regionEnableChange dt hart r v) s =
        .next t) ∧
    (∃ (dt : Nat) (s : State) (t : State) (hart : Fin 19) (r : Fin 16), exec (.delete dt hart r) s = .next t) ∧
    (∃ (dt : Nat) (s : State) (t : State) (id : Nat), exec (.trim dt id) s = .next t) ∧
    (∃ (dt : Nat) (s : State) (t : State) (slow : List (Fin 128)), exec (.dieLatencyWindow dt slow) s = .next t) ∧
    (∃ (dt : Nat) (s : State) (t : State) (d : Fin 128) (gb : Nat), exec (.dieRetire dt d gb) s = .next t) ∧
    (∃ (dt : Nat) (s : State) (t : State) (torn : Nat), exec (.recorderScan dt torn) s = .next t) ∧
    (∃ (dt : Nat) (s : State) (t : State), exec (.diagEventRecord dt) s = .next t) ∧
    (∃ (dt : Nat) (s : State) (t : State) (ty : BitVec 16) (inst : BitVec 16), exec (.diagHeldRecord dt ty inst) s = .next t) ∧
    (∃ (dt : Nat) (s : State) (t : State), exec (.unlockExpiry dt) s = .next t) ∧
    (∃ (dt : Nat) (s : State) (t : State) (hart : Fin 19), exec (.newNonce dt hart) s = .next t) ∧
    (∃ (dt : Nat) (s : State) (t : State) (hart : Fin 19), exec (.lock dt hart) s = .next t) ∧
    (∃ (dt : Nat) (s : State) (t : State) (v : BitVec 16), exec (.lowSupplyHalt dt v) s = .next t) ∧
    (∃ (dt : Nat) (s : State) (t : State) (v : BitVec 16), exec (.visionResume dt v) s = .next t) ∧
    (∃ (dt : Nat) (s : State) (t : State), exec (.keepAliveMirror dt) s = .next t) ∧
    (∃ (dt : Nat) (s : State) (t : State) (logic : Bool), exec (.kaLoss dt logic) s = .next t) ∧
    (∃ (dt : Nat) (s : State) (t : State) (hart : Fin 19) (v : Word), exec (.rtcWrite dt hart v) s = .next t) ∧
    (∃ (dt : Nat) (s : State) (t : State), exec (.smokerBehind dt) s = .next t) ∧
    (∃ (dt : Nat) (s : State) (t : State) (a : BitVec 16) (b : BitVec 16), exec (.plateCap dt a b) s = .next t) ∧
    (∃ (dt : Nat) (s : State) (t : State) (a : BitVec 16) (b : BitVec 16), exec (.plateAbove100 dt a b) s = .next t) ∧
    (∃ (dt : Nat) (s : State) (t : State) (a : BitVec 16) (b : BitVec 16), exec (.plateSensorInvalid dt a b) s = .next t) ∧
    (∃ (dt : Nat) (s : State) (t : State) (j : Fin 4) (lim : Bool), exec (.sup5CurrentLimit dt j lim) s = .next t) ∧
    (∃ (dt : Nat) (s : State) (t : State), exec (.keepAlivePowerUp dt) s = .next t) ∧
    (∃ (dt : Nat) (s : State) (t : State) (ir : TapIr), exec (.tapInstruction dt ir) s = .next t) :=
  ⟨⟨0, ws [], _, 0, 0, rfl⟩,
    ⟨0, ws [], _, 0, 0, 0, rfl⟩,
    ⟨0, ws [], _, .op 0, rfl⟩,
    ⟨0, ws [], _, .op 0, rfl⟩,
    ⟨0, ws [], _, rfl⟩,
    ⟨0, ws [], _, 0, rfl⟩,
    ⟨0, ws [], _, 0, 0, rfl⟩,
    ⟨0, ws [], _, 0, rfl⟩,
    ⟨0, ws [], _, 0, rfl⟩,
    ⟨0, ws [], _, 0, 0, 0, rfl⟩,
    ⟨0, ws [], _, 0, 0, 0, rfl⟩,
    ⟨0, ws [], _, 0, 0, rfl⟩,
    ⟨0, ws [], _, 0, rfl⟩,
    ⟨0, ws [], _, [], rfl⟩,
    ⟨0, ws [], _, 0, 0, rfl⟩,
    ⟨0, ws [], _, 0, rfl⟩,
    ⟨0, ws [], _, rfl⟩,
    ⟨0, ws [], _, 0, 0, rfl⟩,
    ⟨0, ws [], _, rfl⟩,
    ⟨0, ws [], _, 0, rfl⟩,
    ⟨0, ws [], _, 0, rfl⟩,
    ⟨0, ws [], _, 0, rfl⟩,
    ⟨0, ws [], _, 0, rfl⟩,
    ⟨0, ws [], _, rfl⟩,
    ⟨0, ws [], _, false, rfl⟩,
    ⟨0, ws [], _, 0, 0, rfl⟩,
    ⟨0, ws [], _, rfl⟩,
    ⟨0, ws [], _, 0, 0, rfl⟩,
    ⟨0, ws [], _, 0, 0, rfl⟩,
    ⟨0, ws [], _, 0, 0, rfl⟩,
    ⟨0, ws [], _, 0, false, rfl⟩,
    ⟨0, ws [], _, rfl⟩,
    ⟨0, ws [], _, .bypass, rfl⟩⟩

theorem test_OffModuleStaysOff_met :
    ∃ (s : State) (t : State), s.Dark ∧ step s = .next t :=
    ⟨⟨[.registerWrite 5 0 0 0 0], (ws [] (wPwr (fun p => { p with state := .sleep, up := false }))).hw⟩, _,
      by unfold State.Dark; decide +kernel, rfl⟩

theorem test_OffModuleRunsNothing_met :
    ∃ (n : Nat) (s : State) (t : State), s.Dark ∧ Sys2Proof.core.run n s = .next t :=
    ⟨2, ⟨[.registerWrite 5 0 0 0 0, .registerWrite 0 0 0 0 7], (ws [] (wPwr (fun p =>
      { p with state := .sleep, up := false }))).hw⟩, _, by unfold State.Dark; decide +kernel, rfl⟩

theorem test_HeldHartsAccessNothing_met :
    (∃ (dt : Nat) (s : State) (t : State) (hart : Fin 19) (page : Fin 20) (off : BitVec 16) (v : Word) (p : Nat), s.hw.hartPart
        hart = some p ∧ s.hw.partState p ≠ 3 ∧ exec (.registerWrite dt hart page off v) s = .next t) ∧
    (∃ (dt : Nat) (s : State) (t : State) (hart : Fin 19) (page : Fin 20) (off : BitVec 16) (p : Nat), s.hw.hartPart hart = some
        p ∧ s.hw.partState p ≠ 3 ∧ exec (.registerReadClear dt hart page off) s = .next t) ∧
    (∃ (dt : Nat) (s : State) (t : State) (hart : Fin 19) (page : Fin 20) (off : BitVec 16) (p : Nat), s.hw.hartPart hart = some
        p ∧ s.hw.partState p ≠ 3 ∧ exec (.loRegisterRead dt hart page off) s = .next t) ∧
    (∃ (dt : Nat) (s : State) (t : State) (hart : Fin 19) (page : Fin 20) (off : BitVec 16) (v : Word) (p : Nat), s.hw.hartPart
        hart = some p ∧ s.hw.partState p ≠ 3 ∧ exec (.hiRegisterWrite dt hart page off v) s = .next t) ∧
    (∃ (dt : Nat) (s : State) (t : State) (hart : Fin 19) (addr : DWord) (lg : Fin 4) (st : Option DWord) (p : Nat),
        s.hw.hartPart hart = some p ∧ s.hw.partState p ≠ 3 ∧ exec (.coreMemoryAccess dt hart addr lg st) s = .next t) ∧
    (∃ (dt : Nat) (s : State) (t : State) (hart : Fin 19) (addr : DWord) (st : Option Word) (p : Nat), s.hw.hartPart hart = some
        p ∧ s.hw.partState p ≠ 3 ∧ exec (.unmappedAccess dt hart addr st) s = .next t) ∧
    (∃ (dt : Nat) (s : State) (t : State) (hart : Fin 19) (addr : DWord) (v : Word) (p : Nat), s.hw.hartPart hart = some p ∧
      s.hw.partState p ≠ 3 ∧ exec (.doorbellStore dt hart addr v) s = .next t) :=
  ⟨⟨0, ws [(0x20100, 0), (0x20104, 0)], _, 0, 0, 0, 0, 1, by decide +kernel, by decide +kernel, rfl⟩,
    ⟨0, ws [(0x20100, 0), (0x20104, 0)], _, 0, 0, 0, 1, by decide +kernel, by decide +kernel, rfl⟩,
    ⟨0, ws [(0x20100, 0), (0x20104, 0)], _, 0, 0, 0, 1, by decide +kernel, by decide +kernel, rfl⟩,
    ⟨0, ws [(0x20100, 0), (0x20104, 0)], _, 0, 0, 0, 0, 1, by decide +kernel, by decide +kernel, rfl⟩,
    ⟨0, ws [(0x20100, 0), (0x20104, 0)], _, 0, 0, 0, none, 1, by decide +kernel, by decide +kernel, rfl⟩,
    ⟨0, ws [(0x20100, 0), (0x20104, 0)], _, 0, 0, none, 1, by decide +kernel, by decide +kernel, rfl⟩,
    ⟨0, ws [(0x20100, 0), (0x20104, 0)], _, 0, 0, 0, 1, by decide +kernel, by decide +kernel, rfl⟩⟩

theorem test_OnlyTheSupervisorCommands_met :
    (∃ (dt : Nat) (s : State) (t : State) (hart : Fin 19), s.hw.byP0 hart = false ∧ exec (.layoutLoad dt hart) s = .next t) ∧
    (∃ (dt : Nat) (s : State) (t : State) (hart : Fin 19) (p : Fin 8), s.hw.byP0 hart = false ∧
      exec (.start dt hart p) s = .next t) ∧
    (∃ (dt : Nat) (s : State) (t : State) (hart : Fin 19) (p : Fin 8), s.hw.byP0 hart = false ∧
      exec (.stop dt hart p) s = .next t) ∧
    (∃ (dt : Nat) (s : State) (t : State) (hart : Fin 19) (p : Fin 8), s.hw.byP0 hart = false ∧
      exec (.restart dt hart p) s = .next t) ∧
    (∃ (dt : Nat) (s : State) (t : State) (hart : Fin 19) (p : Fin 8), s.hw.byP0 hart = false ∧
      exec (.reconfigure dt hart p) s = .next t) ∧
    (∃ (dt : Nat) (s : State) (t : State) (hart : Fin 19) (r : Fin 16) (v : Word), s.hw.byP0 hart = false ∧
      exec (.regionCreate dt hart r v) s = .next t) ∧
    (∃ (dt : Nat) (s : State) (t : State) (hart : Fin 19) (r : Fin 16) (v : Word), s.hw.byP0 hart = false ∧
      exec (.regionEnableChange dt hart r v) s = .next t) ∧
    (∃ (dt : Nat) (s : State) (t : State) (hart : Fin 19) (r : Fin 16), s.hw.byP0 hart = false ∧
      exec (.delete dt hart r) s = .next t) ∧
    (∃ (dt : Nat) (s : State) (t : State) (hart : Fin 19), s.hw.byP0 hart = false ∧
      exec (.memErrLatchClear dt hart) s = .next t) ∧
    (∃ (dt : Nat) (s : State) (t : State) (hart : Fin 19), s.hw.byP0 hart = false ∧ exec (.write dt hart) s = .next t) ∧
    (∃ (dt : Nat) (s : State) (t : State) (hart : Fin 19), s.hw.byP0 hart = false ∧ exec (.readraw dt hart) s = .next t) ∧
    (∃ (dt : Nat) (s : State) (t : State) (hart : Fin 19), s.hw.byP0 hart = false ∧ exec (.newNonce dt hart) s = .next t) ∧
    (∃ (dt : Nat) (s : State) (t : State) (hart : Fin 19), s.hw.byP0 hart = false ∧ exec (.lock dt hart) s = .next t) ∧
    (∃ (dt : Nat) (s : State) (t : State) (hart : Fin 19) (v : Word), s.hw.byP0 hart = false ∧
      exec (.softwareReset dt hart v) s = .next t) ∧
    (∃ (dt : Nat) (s : State) (t : State) (hart : Fin 19) (w : WakeIn), s.hw.byP0 hart = false ∧
      exec (.go dt hart w) s = .next t) ∧
    (∃ (dt : Nat) (s : State) (t : State) (hart : Fin 19) (v : Word), s.hw.byP0 hart = false ∧
      exec (.rtcWrite dt hart v) s = .next t) ∧
    (∃ (dt : Nat) (s : State) (t : State) (hart : Fin 19), s.hw.byP0 hart = false ∧ exec (.enter dt hart) s = .next t) :=
  ⟨⟨0, ws [], _, 0, by decide +kernel, rfl⟩,
    ⟨0, ws [], _, 0, 1, by decide +kernel, rfl⟩,
    ⟨0, ws [], _, 0, 1, by decide +kernel, rfl⟩,
    ⟨0, ws [], _, 0, 1, by decide +kernel, rfl⟩,
    ⟨0, ws [], _, 0, 1, by decide +kernel, rfl⟩,
    ⟨0, ws [], _, 0, 0, 0, by decide +kernel, rfl⟩,
    ⟨0, ws [], _, 0, 0, 0, by decide +kernel, rfl⟩,
    ⟨0, ws [], _, 0, 0, by decide +kernel, rfl⟩,
    ⟨0, ws [], _, 0, by decide +kernel, rfl⟩,
    ⟨0, ws [], _, 0, by decide +kernel, rfl⟩,
    ⟨0, ws [], _, 0, by decide +kernel, rfl⟩,
    ⟨0, ws [], _, 0, by decide +kernel, rfl⟩,
    ⟨0, ws [], _, 0, by decide +kernel, rfl⟩,
    ⟨0, ws [], _, 0, 0, by decide +kernel, rfl⟩,
    ⟨0, ws [], _, 0, wWake false, by decide +kernel, rfl⟩,
    ⟨0, ws [], _, 0, 0, by decide +kernel, rfl⟩,
    ⟨0, ws [], _, 0, by decide +kernel, rfl⟩⟩

theorem test_OnlyTheOwnerCommandsAPort_met :
    (∃ (dt : Nat) (s : State) (t : State) (hart : Fin 19) (c : Fin 16), s.hw.byOwner hart (296 + c) = false ∧
      exec (.cameraEnable dt hart c) s = .next t) ∧
    (∃ (dt : Nat) (s : State) (t : State) (hart : Fin 19) (c : Fin 16), s.hw.byOwner hart (296 + c) = false ∧
      exec (.cameraDisable dt hart c) s = .next t) ∧
    (∃ (dt : Nat) (s : State) (t : State) (hart : Fin 19) (c : Fin 16) (v : Word), s.hw.byOwner hart (296 + c) = false ∧
      exec (.cameraGeomWrite dt hart c v) s = .next t) ∧
    (∃ (dt : Nat) (s : State) (t : State) (hart : Fin 19) (c : Fin 48) (v : Word), s.hw.byOwner hart (c) = false ∧
      exec (.solEnable dt hart c v) s = .next t) ∧
    (∃ (dt : Nat) (s : State) (t : State) (hart : Fin 19) (c : Fin 48) (v : Word), s.hw.byOwner hart (c) = false ∧
      exec (.solDisable dt hart c v) s = .next t) ∧
    (∃ (dt : Nat) (s : State) (t : State) (hart : Fin 19) (c : Fin 96) (v : Word), s.hw.byOwner hart (48 + c) = false ∧
      exec (.lswEnable dt hart c v) s = .next t) ∧
    (∃ (dt : Nat) (s : State) (t : State) (hart : Fin 19) (c : Fin 128) (v : Word), s.hw.byOwner hart (144 + c) = false ∧
      exec (.dioEnable dt hart c v) s = .next t) ∧
    (∃ (dt : Nat) (s : State) (t : State) (hart : Fin 19) (n : Fin 8) (v : Word), s.hw.byOwner hart (272 + n) = false ∧
      exec (.fanEnable dt hart n v) s = .next t) ∧
    (∃ (dt : Nat) (s : State) (t : State) (hart : Fin 19) (a : Fin 2) (v : Word), s.hw.byOwner hart (324 + a) = false ∧
      exec (.gnsAntEnable dt hart a v) s = .next t) ∧
    (∃ (dt : Nat) (s : State) (t : State) (hart : Fin 19) (n : Fin 16) (v : Word), s.hw.byOwner hart (280 + n) = false ∧
      exec (.canEnable dt hart n v) s = .next t) ∧
    (∃ (dt : Nat) (s : State) (t : State) (hart : Fin 19) (n : Fin 16) (v : Word), s.hw.byOwner hart (280 + n) = false ∧
      exec (.canDisable dt hart n v) s = .next t) ∧
    (∃ (dt : Nat) (s : State) (t : State) (hart : Fin 19) (n : Fin 16), s.hw.byOwner hart (280 + n) = false ∧
      exec (.canRestart dt hart n) s = .next t) ∧
    (∃ (dt : Nat) (s : State) (t : State) (hart : Fin 19) (n : Fin 12) (v : Word), s.hw.byOwner hart (312 + n) = false ∧
      exec (.ethEnable dt hart n v) s = .next t) ∧
    (∃ (dt : Nat) (s : State) (t : State) (hart : Fin 19) (n : Fin 12) (v : Word), s.hw.byOwner hart (312 + n) = false ∧
      exec (.ethDisable dt hart n v) s = .next t) :=
  ⟨⟨0, ws [], _, 0, 0, by decide +kernel, rfl⟩,
    ⟨0, ws [], _, 0, 0, by decide +kernel, rfl⟩,
    ⟨0, ws [], _, 0, 0, 0, by decide +kernel, rfl⟩,
    ⟨0, ws [], _, 0, 0, 0, by decide +kernel, rfl⟩,
    ⟨0, ws [], _, 0, 0, 0, by decide +kernel, rfl⟩,
    ⟨0, ws [], _, 0, 0, 0, by decide +kernel, rfl⟩,
    ⟨0, ws [], _, 0, 0, 0, by decide +kernel, rfl⟩,
    ⟨0, ws [], _, 0, 0, 0, by decide +kernel, rfl⟩,
    ⟨0, ws [], _, 0, 0, 0, by decide +kernel, rfl⟩,
    ⟨0, ws [], _, 0, 0, 0, by decide +kernel, rfl⟩,
    ⟨0, ws [], _, 0, 0, 0, by decide +kernel, rfl⟩,
    ⟨0, ws [], _, 0, 0, by decide +kernel, rfl⟩,
    ⟨0, ws [], _, 0, 0, 0, by decide +kernel, rfl⟩,
    ⟨0, ws [], _, 0, 0, 0, by decide +kernel, rfl⟩⟩

theorem test_StoresChangeOnlyTheirBytes_met :
    (∃ (dt : Nat) (s : State) (t : State) (hart : Fin 19) (addr : DWord) (v : DWord) (lg : Fin 4) (p : Nat), s.hw.isOn = true ∧
      s.hw.ecc = [] ∧ Memory.wf s.hw.mem = true ∧ hart.val < 16 ∧ addr.toNat + 2 ^ lg.val ≤ 0xE04000000 ∧
      s.hw.hartPart hart = some p ∧ s.hw.owns p addr.toNat (2 ^ lg.val) = true ∧
      exec (.coreMemoryAccess dt hart addr lg (some v)) s = .next t) ∧
    (∃ (dt : Nat) (s : State) (t : State) (hart : Fin 19) (addr : DWord) (v : Word) (p : Nat), s.hw.isOn = true ∧
      s.hw.ecc = [] ∧ Memory.wf s.hw.mem = true ∧ hart.val < 16 ∧ addr.toNat + 4 ≤ 0xE04000000 ∧ s.hw.hartPart hart = some p ∧
      s.hw.owns p addr.toNat 4 = true ∧ exec (.doorbellStore dt hart addr v) s = .next t) ∧
    (∃ (dt : Nat) (s : State) (t : State) (id : Nat) (f : Flight), s.hw.isOn = true ∧ s.hw.ecc = [] ∧
      Memory.wf s.hw.mem = true ∧ OpRuns s.hw id 0 1 f ∧ bit (fld f.desc 0 1) 4 = false ∧ bit (fld f.desc 0 1) 5 = false ∧
      exec (.copy dt id) s = .next t) ∧
    (∃ (dt : Nat) (s : State) (t : State) (id : Nat) (f : Flight), s.hw.isOn = true ∧ s.hw.ecc = [] ∧
      Memory.wf s.hw.mem = true ∧ OpRuns s.hw id 0 2 f ∧ bit (fld f.desc 0 1) 5 = false ∧ exec (.blockFill dt id) s = .next t) ∧
    (∃ (dt : Nat) (s : State) (t : State) (id : Nat) (bad : List Nat) (f : Flight), s.hw.isOn = true ∧ s.hw.ecc = [] ∧
      Memory.wf s.hw.mem = true ∧ OpRuns s.hw id 2 2 f ∧ bit (fld f.desc 0 1) 4 = false ∧ exec (.stoRead dt id bad) s = .next t) ∧
    (∃ (dt : Nat) (s : State) (t : State) (id : Nat) (f : Flight), s.hw.isOn = true ∧ s.hw.ecc = [] ∧
      Memory.wf s.hw.mem = true ∧ OpRuns s.hw id 8 2 f ∧ exec (.evrRead dt id) s = .next t) ∧
    (∃ (dt : Nat) (s : State) (t : State) (id : Nat) (f : Flight), s.hw.isOn = true ∧ s.hw.ecc = [] ∧
      Memory.wf s.hw.mem = true ∧ OpRuns s.hw id 7 8 f ∧ exec (.getid dt id) s = .next t) ∧
    (∃ (dt : Nat) (s : State) (t : State) (id : Nat) (f : Flight), s.hw.isOn = true ∧ s.hw.ecc = [] ∧
      Memory.wf s.hw.mem = true ∧ OpRuns s.hw id 7 9 f ∧ exec (.hash dt id) s = .next t) ∧
    (∃ (dt : Nat) (s : State) (t : State) (id : Nat) (f : Flight), s.hw.isOn = true ∧ s.hw.ecc = [] ∧
      Memory.wf s.hw.mem = true ∧ OpRuns s.hw id 7 10 f ∧ exec (.random dt id) s = .next t) ∧
    (∃ (dt : Nat) (s : State) (t : State) (id : Nat) (f : Flight), s.hw.isOn = true ∧ s.hw.ecc = [] ∧
      Memory.wf s.hw.mem = true ∧ OpRuns s.hw id 7 11 f ∧ exec (.sign dt id) s = .next t) :=
  ⟨⟨0, ws [], _, 0, 0x40000008, 7, 3, 1, by decide +kernel, rfl, by decide +kernel, by decide +kernel, by decide +kernel,
      by decide +kernel, by decide +kernel, rfl⟩,
    ⟨0, ws [], _, 0, 0x40000104, 6, 1, by decide +kernel, rfl, by decide +kernel, by decide +kernel, by decide +kernel,
      by decide +kernel, by decide +kernel, rfl⟩,
    ⟨0, ws [] (wOp (wFl 0 wCopy)), _, 1, wFl 0 wCopy, by decide +kernel, rfl, by decide +kernel, by decide +kernel,
      by decide +kernel, by decide +kernel, rfl⟩,
    ⟨0, ws [] (wOp (wFl 0 wFill)), _, 1, wFl 0 wFill, by decide +kernel, rfl, by decide +kernel, by decide +kernel,
      by decide +kernel, rfl⟩,
    ⟨0, ws [] (wOp (wFl 2 [2, 0, 0, 0, 0, 0x10])), _, 1, [], wFl 2 [2, 0, 0, 0, 0, 0x10], by decide +kernel, rfl,
      by decide +kernel, by decide +kernel, by decide +kernel, rfl⟩,
    ⟨0, ws [] (wOp (wFl 8 [2])), _, 1, wFl 8 [2], by decide +kernel, rfl, by decide +kernel, by decide +kernel, rfl⟩,
    ⟨0, ws [] (wOp (wFl 7 [8])), _, 1, wFl 7 [8], by decide +kernel, rfl, by decide +kernel, by decide +kernel, rfl⟩,
    ⟨0, ws [] (wOp (wFl 7 [9])), _, 1, wFl 7 [9], by decide +kernel, rfl, by decide +kernel, by decide +kernel, rfl⟩,
    ⟨0, ws [] (wOp (wFl 7 [10])), _, 1, wFl 7 [10], by decide +kernel, rfl, by decide +kernel, by decide +kernel, rfl⟩,
    ⟨0, ws [] (wOp (wFl 7 [11])), _, 1, wFl 7 [11], by decide +kernel, rfl, by decide +kernel, by decide +kernel, rfl⟩⟩

theorem test_PendingLowHalves_met :
    (∃ (s : State) (hart : Fin 19) (page : Fin 20) (off : BitVec 16) (p : Nat) (r : RegRow), s.hw.isOn = true ∧
      s.hw.hartPart hart = some p ∧ p < 8 ∧ s.hw.partState p = 3 ∧ off.toNat % 4 = 0 ∧
      regRow? (page.val * 0x10000 + off.toNat) = some r ∧ r.pair = 1 ∧ r.rw ≠ 0 ∧
      viewWrites s.hw p (page.val * 0x10000 + off.toNat) r = true) ∧
    (∃ (s : State) (hart : Fin 19) (page : Fin 20) (off : BitVec 16) (p : Nat) (r : RegRow) (lo : Word) (rl : RegRow), s.hw.isOn
        = true ∧ s.hw.hartPart hart = some p ∧ p < 8 ∧ s.hw.partState p = 3 ∧ off.toNat % 4 = 0 ∧
      regRow? (page.val * 0x10000 + off.toNat) = some r ∧ r.pair = 2 ∧ r.rw ≠ 0 ∧
      viewWrites s.hw p (page.val * 0x10000 + off.toNat) r = true ∧ regLocked s.hw (page.val * 0x10000 + off.toNat) r = false ∧
      mget s.hw.pendLo (hartKey hart ((page.val * 0x10000 + off.toNat) - 4)) = some lo ∧
      regRow? ((page.val * 0x10000 + off.toNat) - 4) = some rl) :=
  ⟨⟨ws [], 16, 2, 0, 0, (regRow? 0x20000).getD wRow, by decide +kernel⟩,
    ⟨ws [] (fun h => { h with pendLo := [(hartKey 16 0x20000, 5)] }), 16, 2, 4, 0, (regRow? 0x20004).getD wRow, 5, (regRow?
      0x20000).getD wRow, by decide +kernel, by decide +kernel, by decide +kernel, by decide +kernel, by decide +kernel,
      by decide +kernel, by decide +kernel, by decide +kernel, by decide +kernel, by decide +kernel, by decide +kernel,
      by decide +kernel⟩⟩

theorem test_CameraGeometryWriteClearsProfiles_met :
    ∃ (s : State) (hart : Fin 19) (c : Fin 16), s.hw.isOn = true ∧ s.hw.byOwner hart (296 + c) = true ∧ s.hw.camOn c = false :=
    ⟨ws [(F.IMG_CAM_STATUS_PROF_OK.at 0 0, 0xffffffff)], 16, 0, by decide +kernel⟩

theorem test_SwarmStartsAsLeader_met :
    ∃ (s : State) (hart : Fin 19), s.hw.isOn = true ∧ s.hw.byOwner hart (312 + swarmPort s.hw) = true ∧
      s.hw.flag F.ETH_SWARM_CTRL_EN = false ∧ 100 ≤ s.hw.get F.ETH_SWARM_CFG_PERIOD ∧ s.hw.get F.ETH_SWARM_CFG_PERIOD ≤ 10000 ∧
      swarmPort s.hw < 12 :=
    ⟨ws [(0xd0100, 0x640)], 16, by decide +kernel⟩

theorem test_UnmappedAccessesFault_met :
    ∃ (s : State) (hart : Fin 19) (addr : DWord) (st : Option Word) (p : Nat), s.hw.isOn = true ∧ s.hw.hartPart hart = some p ∧
      s.hw.partState p = 3 ∧ reach s.hw hart p addr.toNat 4 st.isSome = .unmapped :=
    ⟨ws [], 16, 0x20000000, none, 0, by decide +kernel⟩

theorem test_WritesNotPermittedAreIgnored_met :
    ∃ (s : State) (hart : Fin 19) (page : Fin 20) (off : BitVec 16) (p : Nat) (r : RegRow), s.hw.isOn = true ∧
      s.hw.hartPart hart = some p ∧ p < 8 ∧ s.hw.partState p = 3 ∧ off.toNat % 4 = 0 ∧
      regRow? (page.val * 0x10000 + off.toNat) = some r ∧ viewWrites s.hw p (page.val * 0x10000 + off.toNat) r = false :=
    ⟨ws [(0x20104, 3)], 0, 0, 0, 1, (regRow? 0).getD wRow, by decide +kernel⟩

theorem test_OnlyWordAccessesReachRegisters_met :
    ∃ (s : State) (hart : Fin 19) (addr : DWord) (lg : Fin 4) (p : Nat), s.hw.isOn = true ∧ hart.val < 16 ∧
      s.hw.hartPart hart = some p ∧ s.hw.partState p = 3 ∧ p < 8 ∧ 0xF00000000 + p * 0x2000000 ≤ addr.toNat ∧
      addr.toNat < 0xF00000000 + p * 0x2000000 + 0x140000 ∧ (lg.val ≠ 2 ∨ addr.toNat % 4 ≠ 0) :=
    ⟨ws [], 0, 0xF02000001, 2, 1, by decide +kernel⟩

theorem test_FramesThatFitNoGate_met :
    ∃ (dt : Nat) (s : State) (n : Fin 12) (x : Nat × Flight), s.hw.isOn = true ∧ s.hw.get F.ETH_PORT_STATUS_LINK n = 2 ∧
      (s.hw.ethPort n).busyTill ≤ s.hw.now + dt ∧
      (heads (creditTick (s.hw.elapse dt) n) n).find? (fun x => gateNever (creditTick (s.hw.elapse dt) n) n x.1 (txLen
        x.2.desc)) = some x :=
    ⟨0, (ws [] (fun h => wOp (wFl 3 [1, 0, 5, 0, 0, 0, 60]) (h.setEth 0
      { txq := [(5, [1])], gate := some ⟨0, 1000, [(1, 1000)]⟩ }))).fp F.ETH_PORT_STATUS_LINK 2, 0, (5, wFl 3 [1, 0, 5, 0, 0, 0,
      60]), by decide +kernel⟩

theorem test_WholeWordStoresEndPoison_met :
    ∃ (s : State) (hart : Fin 19) (addr : DWord) (p : Nat), s.hw.isOn = true ∧ hart.val < 16 ∧ s.hw.hartPart hart = some p ∧
      s.hw.partState p = 3 ∧ addr.toNat % 8 = 0 ∧ addr.toNat + 8 ≤ 0xE04000000 ∧ s.hw.owns p addr.toNat 8 = true ∧
      Memory.wf s.hw.mem = true :=
    ⟨ws [] (fun h => { h with ecc := [(0x8000001, ⟨3, 0, true⟩)] }), 0, 0x40000008, 1, by decide +kernel⟩

theorem test_StreamAndEventFrames_met :
    (∃ (dt : Nat) (s : State) (t : State) (hart : Fin 19) (i : Fin 16) (div : Bool) (v : Word), exec (.domainCfgWrite dt hart i
        div v) s = .next t) ∧
    (∃ (dt : Nat) (s : State) (t : State) (i : Fin 16) (level : Bool), exec (.domainEdge dt i level) s = .next t) ∧
    (∃ (dt : Nat) (s : State) (t : State) (i : Fin 16), exec (.indexEdge dt i) s = .next t) ∧
    (∃ (dt : Nat) (s : State) (t : State) (i : Fin 16) (level : Bool), exec (.fusionUpdateArrival dt i level) s = .next t) ∧
    (∃ (dt : Nat) (s : State) (t : State) (i : Fin 16) (level : Bool), exec (.heldUpdateApply dt i level) s = .next t) ∧
    (∃ (dt : Nat) (s : State) (t : State), exec (.eventIssue dt) s = .next t) ∧
    (∃ (dt : Nat) (s : State) (t : State) (c : Fin 48), exec (.deferredValveStart dt c) s = .next t) ∧
    (∃ (dt : Nat) (s : State) (t : State) (id : Nat), exec (.slotArm dt id) s = .next t) ∧
    (∃ (dt : Nat) (s : State) (t : State) (id : Nat), exec (.slotDisarm dt id) s = .next t) ∧
    (∃ (dt : Nat) (s : State) (t : State) (hart : Fin 19), exec (.slotCmdArm dt hart) s = .next t) ∧
    (∃ (dt : Nat) (s : State) (t : State) (hart : Fin 19), exec (.slotCmdRead dt hart) s = .next t) ∧
    (∃ (dt : Nat) (s : State) (t : State) (hart : Fin 19), exec (.slotCmdDisarm dt hart) s = .next t) ∧
    (∃ (dt : Nat) (s : State) (t : State) (eng : Fin 13), exec (.descriptorFetch dt eng) s = .next t) ∧
    (∃ (dt : Nat) (s : State) (t : State) (op : Option Nat), exec (.completionWrite dt op) s = .next t) ∧
    (∃ (dt : Nat) (s : State) (t : State) (hart : Fin 19) (r : Fin 1024) (reset : Bool), exec (.ringEnable dt hart r reset) s =
        .next t) ∧
    (∃ (dt : Nat) (s : State) (t : State) (hart : Fin 19) (r : Fin 1024), exec (.ringDisable dt hart r) s = .next t) ∧
    (∃ (dt : Nat) (s : State) (t : State) (hart : Fin 19) (r : Fin 1024), exec (.ringReset dt hart r) s = .next t) ∧
    (∃ (dt : Nat) (s : State) (t : State) (id : Nat), exec (.copy dt id) s = .next t) ∧
    (∃ (dt : Nat) (s : State) (t : State) (id : Nat), exec (.blockFill dt id) s = .next t) ∧
    (∃ (dt : Nat) (s : State) (t : State) (hart : Fin 19), exec (.layoutLoad dt hart) s = .next t) ∧
    (∃ (dt : Nat) (s : State) (t : State) (hart : Fin 19) (p : Fin 8), exec (.start dt hart p) s = .next t) ∧
    (∃ (dt : Nat) (s : State) (t : State) (hart : Fin 19) (p : Fin 8), exec (.stop dt hart p) s = .next t) ∧
    (∃ (dt : Nat) (s : State) (t : State) (hart : Fin 19) (p : Fin 8), exec (.restart dt hart p) s = .next t) ∧
    (∃ (dt : Nat) (s : State) (t : State) (hart : Fin 19) (p : Fin 8), exec (.reconfigure dt hart p) s = .next t) ∧
    (∃ (dt : Nat) (s : State) (t : State), exec (.stopDrainDone dt) s = .next t) ∧
    (∃ (dt : Nat) (s : State) (t : State) (p : Fin 8), exec (.fillDoneRelease dt p) s = .next t) ∧
    (∃ (dt : Nat) (s : State) (t : State), exec (.presenceLoss dt) s = .next t) ∧
    (∃ (dt : Nat) (s : State) (t : State), exec (.presenceReturn dt) s = .next t) ∧
    (∃ (dt : Nat) (s : State) (t : State), exec (.presenceLossTimeout dt) s = .next t) ∧
    (∃ (dt : Nat) (s : State) (t : State), exec (.presenceAssert dt) s = .next t) ∧
    (∃ (dt : Nat) (s : State) (t : State), exec (.retryTimerExpiry dt) s = .next t) ∧
    (∃ (dt : Nat) (s : State) (t : State) (ident : BitVec 24) (sof : Nat) (sig : List Byte), exec (.challengeAnswer dt ident sof
        sig) s = .next t) ∧
    (∃ (dt : Nat) (s : State) (t : State), exec (.roundDecision dt) s = .next t) ∧
    (∃ (dt : Nat) (s : State) (t : State) (hart : Fin 19) (c : Fin 16), exec (.cameraDisable dt hart c) s = .next t) ∧
    (∃ (dt : Nat) (s : State) (t : State) (id : Nat), exec (.profile dt id) s = .next t) ∧
    (∃ (dt : Nat) (s : State) (t : State) (id : Nat) (ack : Bool) (data : List Byte), exec (.cci dt id ack data) s = .next t) ∧
    (∃ (dt : Nat) (s : State) (t : State) (c : Fin 16) (intact : Bool) (xs : List Nat), exec (.frameEnd dt c intact xs) s =
        .next t) ∧
    (∃ (dt : Nat) (s : State) (t : State) (k : Fin 2), exec (.pipelinePassEnd dt k) s = .next t) :=
  ⟨⟨0, ws [], _, 0, 0, false, 0, rfl⟩,
    ⟨0, ws [], _, 0, false, rfl⟩,
    ⟨0, ws [], _, 0, rfl⟩,
    ⟨0, ws [], _, 0, false, rfl⟩,
    ⟨0, ws [], _, 0, false, rfl⟩,
    ⟨0, ws [], _, rfl⟩,
    ⟨0, ws [], _, 0, rfl⟩,
    ⟨0, ws [], _, 0, rfl⟩,
    ⟨0, ws [], _, 0, rfl⟩,
    ⟨0, ws [], _, 0, rfl⟩,
    ⟨0, ws [], _, 0, rfl⟩,
    ⟨0, ws [], _, 0, rfl⟩,
    ⟨0, ws [], _, 0, rfl⟩,
    ⟨0, ws [], _, none, rfl⟩,
    ⟨0, ws [], _, 0, 0, false, rfl⟩,
    ⟨0, ws [], _, 0, 0, rfl⟩,
    ⟨0, ws [], _, 0, 0, rfl⟩,
    ⟨0, ws [], _, 0, rfl⟩,
    ⟨0, ws [], _, 0, rfl⟩,
    ⟨0, ws [], _, 0, rfl⟩,
    ⟨0, ws [], _, 0, 0, rfl⟩,
    ⟨0, ws [], _, 0, 0, rfl⟩,
    ⟨0, ws [], _, 0, 0, rfl⟩,
    ⟨0, ws [], _, 0, 0, rfl⟩,
    ⟨0, ws [], _, rfl⟩,
    ⟨0, ws [], _, 0, rfl⟩,
    ⟨0, ws [], _, rfl⟩,
    ⟨0, ws [], _, rfl⟩,
    ⟨0, ws [], _, rfl⟩,
    ⟨0, ws [], _, rfl⟩,
    ⟨0, ws [], _, rfl⟩,
    ⟨0, ws [], _, 0, 0, [], rfl⟩,
    ⟨0, ws [], _, rfl⟩,
    ⟨0, ws [], _, 0, 0, rfl⟩,
    ⟨0, ws [], _, 0, rfl⟩,
    ⟨0, ws [], _, 0, false, [], rfl⟩,
    ⟨0, ws [], _, 0, false, [], rfl⟩,
    ⟨0, ws [], _, 0, rfl⟩⟩

theorem test_LoadAndTrafficFrames_met :
    (∃ (dt : Nat) (s : State) (t : State) (b : Fin 128), exec (.loopedFrameDelivery dt b) s = .next t) ∧
    (∃ (dt : Nat) (s : State) (t : State) (port : Nat) (vals : List Int), exec (.converterSample dt port vals) s = .next t) ∧
    (∃ (dt : Nat) (s : State) (t : State) (hart : Fin 19) (port : Fin 512) (v : Word), exec (.sfeChannelReconfig dt hart port v)
        s = .next t) ∧
    (∃ (dt : Nat) (s : State) (t : State) (k : Fin 40) (partner : Bool) (width : Nat), exec (.spdEdgeCapture dt k partner width)
        s = .next t) ∧
    (∃ (dt : Nat) (s : State) (t : State) (k : Fin 16) (age : Nat) (tick : Nat) (status : Fin 16) (data : List (Fin 16)) (crcOk
        : Bool) (slow : Option (BitVec 8 × BitVec 16 × Bool)), exec (.sentFrame dt k age tick status data crcOk slow) s = .next t) ∧
    (∃ (dt : Nat) (s : State) (t : State) (c : Fin 48), exec (.impactEnd dt c) s = .next t) ∧
    (∃ (dt : Nat) (s : State) (t : State) (w : Fin 16), exec (.lossSampleStep dt w) s = .next t) ∧
    (∃ (dt : Nat) (s : State) (t : State) (w : Fin 16), exec (.lossWindowLengthEnd dt w) s = .next t) ∧
    (∃ (dt : Nat) (s : State) (t : State) (id : Nat), exec (.paddleFill dt id) s = .next t) ∧
    (∃ (dt : Nat) (s : State) (t : State) (id : Nat), exec (.cal dt id) s = .next t) ∧
    (∃ (dt : Nat) (s : State) (t : State) (id : Nat), exec (.convert dt id) s = .next t) ∧
    (∃ (dt : Nat) (s : State) (t : State), exec (.paddleRecord dt) s = .next t) ∧
    (∃ (dt : Nat) (s : State) (t : State), exec (.historyEntry dt) s = .next t) ∧
    (∃ (dt : Nat) (s : State) (t : State), exec (.yieldBinTimeout dt) s = .next t) ∧
    (∃ (dt : Nat) (s : State) (t : State), exec (.controlTick dt) s = .next t) ∧
    (∃ (dt : Nat) (s : State) (t : State) (id : Nat), exec (.setpoint dt id) s = .next t) ∧
    (∃ (dt : Nat) (s : State) (t : State) (id : Nat), exec (.meas dt id) s = .next t) ∧
    (∃ (dt : Nat) (s : State) (t : State) (id : Nat), exec (.mode dt id) s = .next t) ∧
    (∃ (dt : Nat) (s : State) (t : State) (id : Nat), exec (.loopTableLoad dt id) s = .next t) ∧
    (∃ (dt : Nat) (s : State) (t : State) (id : Nat), exec (.inject dt id) s = .next t) ∧
    (∃ (dt : Nat) (s : State) (t : State) (id : Nat), exec (.capture dt id) s = .next t) ∧
    (∃ (dt : Nat) (s : State) (t : State) (id : Nat), exec (.readcap dt id) s = .next t) ∧
    (∃ (dt : Nat) (s : State) (t : State) (hart : Fin 19), exec (.recCmdWrite dt hart) s = .next t) ∧
    (∃ (dt : Nat) (s : State) (t : State) (hart : Fin 19) (c : Fin 48) (v : Word), exec (.solEnable dt hart c v) s = .next t) ∧
    (∃ (dt : Nat) (s : State) (t : State) (hart : Fin 19) (c : Fin 48) (v : Word), exec (.solDisable dt hart c v) s = .next t) ∧
    (∃ (dt : Nat) (s : State) (t : State) (id : Nat), exec (.solprof dt id) s = .next t) ∧
    (∃ (dt : Nat) (s : State) (t : State) (id : Nat), exec (.solcur dt id) s = .next t) ∧
    (∃ (dt : Nat) (s : State) (t : State) (c : Fin 48) (peak : Bool), exec (.phaseEnd dt c peak) s = .next t) ∧
    (∃ (dt : Nat) (s : State) (t : State) (c : Fin 48), exec (.offtimeEnd dt c) s = .next t) ∧
    (∃ (dt : Nat) (s : State) (t : State) (c : Fin 48) (reached : Bool), exec (.timeToPeak dt c reached) s = .next t) ∧
    (∃ (dt : Nat) (s : State) (t : State) (c : Fin 48), exec (.solOvercurrent dt c) s = .next t) ∧
    (∃ (dt : Nat) (s : State) (t : State) (c : Fin 48) (kind : SolFaultKind), exec (.solFaultDetect dt c kind) s = .next t) ∧
    (∃ (dt : Nat) (s : State) (t : State) (c : Fin 48) (hot : Bool), exec (.drvHot dt c hot) s = .next t) ∧
    (∃ (dt : Nat) (s : State) (t : State), exec (.oilTempUpdate dt) s = .next t) ∧
    (∃ (dt : Nat) (s : State) (t : State) (c : Fin 48) (duty : Nat) (vf : Nat) (i : Nat) (irms : Nat), exec (.thermalModelStep
        dt c duty vf i irms) s = .next t) ∧
    (∃ (dt : Nat) (s : State) (t : State) (id : Nat), exec (.lswset dt id) s = .next t) ∧
    (∃ (dt : Nat) (s : State) (t : State) (tile : Fin 8) (mean : Nat) (inst : Nat), exec (.feedShed dt tile mean inst) s = .next
        t) ∧
    (∃ (dt : Nat) (s : State) (t : State) (tile : Fin 8) (inst : Nat) (dur : Nat), exec (.feedTrip dt tile inst dur) s = .next
        t) ∧
    (∃ (dt : Nat) (s : State) (t : State) (tile : Fin 8) (crcOk : Bool) (meas : List Meas), exec (.tileFrame dt tile crcOk meas)
        s = .next t) ∧
    (∃ (dt : Nat) (s : State) (t : State) (tile : Fin 8), exec (.tileWatchdogExpiry dt tile) s = .next t) ∧
    (∃ (dt : Nat) (s : State) (t : State) (hart : Fin 19) (tile : Fin 8), exec (.arm dt hart tile) s = .next t) ∧
    (∃ (dt : Nat) (s : State) (t : State) (id : Nat), exec (.dioset dt id) s = .next t) ∧
    (∃ (dt : Nat) (s : State) (t : State) (c : Fin 128) (raw : Bool) (age : Nat), exec (.counterFilterStep dt c raw age) s =
        .next t) ∧
    (∃ (dt : Nat) (s : State) (t : State) (c : Fin 128) (raw : Bool) (stable : Nat), exec (.debounceExpiry dt c raw stable) s =
        .next t) ∧
    (∃ (dt : Nat) (s : State) (t : State) (hart : Fin 19) (n : Fin 8) (v : Word), exec (.fanEnable dt hart n v) s = .next t) ∧
    (∃ (dt : Nat) (s : State) (t : State) (id : Nat), exec (.fanset dt id) s = .next t) ∧
    (∃ (dt : Nat) (s : State) (t : State) (id : Nat), exec (.fantab dt id) s = .next t) ∧
    (∃ (dt : Nat) (s : State) (t : State) (n : Fin 8), exec (.tableModeEntry dt n) s = .next t) ∧
    (∃ (dt : Nat) (s : State) (t : State) (n : Fin 8), exec (.thermistorFault dt n) s = .next t) ∧
    (∃ (dt : Nat) (s : State) (t : State) (n : Fin 8), exec (.thermistorRelease dt n) s = .next t) ∧
    (∃ (dt : Nat) (s : State) (t : State) (n : Fin 8), exec (.fanOvercurrent dt n) s = .next t) ∧
    (∃ (dt : Nat) (s : State) (t : State) (n : Fin 8) (dur : Nat), exec (.stall dt n dur) s = .next t) ∧
    (∃ (dt : Nat) (s : State) (t : State) (n : Fin 8), exec (.stallRestart dt n) s = .next t) ∧
    (∃ (dt : Nat) (s : State) (t : State) (n : Fin 8) (kind : FanFaultKind), exec (.fanFaultDetect dt n kind) s = .next t) ∧
    (∃ (dt : Nat) (s : State) (t : State) (n : Fin 8) (period : Option Nat), exec (.xn7200Measurement dt n period) s = .next t) ∧
    (∃ (dt : Nat) (s : State) (t : State) (hart : Fin 19), exec (.fusEnable dt hart) s = .next t) ∧
    (∃ (dt : Nat) (s : State) (t : State) (id : Nat), exec (.detect dt id) s = .next t) ∧
    (∃ (dt : Nat) (s : State) (t : State) (l0 : Bool) (l1 : Bool), exec (.egoStep dt l0 l1) s = .next t) ∧
    (∃ (dt : Nat) (s : State) (t : State), exec (.fusionCycle dt) s = .next t) ∧
    (∃ (dt : Nat) (s : State) (t : State) (hart : Fin 19) (a : Fin 2) (v : Word), exec (.gnsAntEnable dt hart a v) s = .next t) ∧
    (∃ (dt : Nat) (s : State) (t : State) (id : Nat), exec (.chan dt id) s = .next t) ∧
    (∃ (dt : Nat) (s : State) (t : State) (id : Nat), exec (.gnssStop dt id) s = .next t) ∧
    (∃ (dt : Nat) (s : State) (t : State) (id : Nat), exec (.clock dt id) s = .next t) ∧
    (∃ (dt : Nat) (s : State) (t : State) (ms : List GnsMeas), exec (.observableEpoch dt ms) s = .next t) ∧
    (∃ (dt : Nat) (s : State) (t : State) (a : Fin 2) (i : Fin 64) (b5 : Bool) (iq : List Word) (sync : Bool), exec
        (.integrationEnd dt a i b5 iq sync) s = .next t) ∧
    (∃ (dt : Nat) (s : State) (t : State) (a : Fin 2) (i : Fin 64) (b5 : Bool) (age : Nat) (syms : List Bool), exec
        (.navSymbolRecord dt a i b5 age syms) s = .next t) ∧
    (∃ (dt : Nat) (s : State) (t : State) (hart : Fin 19) (n : Fin 16) (v : Word), exec (.canEnable dt hart n v) s = .next t) ∧
    (∃ (dt : Nat) (s : State) (t : State) (hart : Fin 19) (n : Fin 16) (v : Word), exec (.canDisable dt hart n v) s = .next t) ∧
    (∃ (dt : Nat) (s : State) (t : State) (n : Fin 16) (idw : Word) (dlc : Fin 16) (rtr : Bool) (esi : Bool) (data : List Byte)
        (age : Nat), exec (.canFrameReceived dt n idw dlc rtr esi data age) s = .next t) ∧
    (∃ (dt : Nat) (s : State) (t : State) (n : Fin 16), exec (.fifoRecordWrite dt n) s = .next t) ∧
    (∃ (dt : Nat) (s : State) (t : State) (id : Nat), exec (.txset dt id) s = .next t) ∧
    (∃ (dt : Nat) (s : State) (t : State) (id : Nat), exec (.txreq dt id) s = .next t) ∧
    (∃ (dt : Nat) (s : State) (t : State) (id : Nat), exec (.linsched dt id) s = .next t) ∧
    (∃ (dt : Nat) (s : State) (t : State) (n : Fin 16) (tdcv : Fin 128), exec (.canTransmitEnd dt n tdcv) s = .next t) ∧
    (∃ (dt : Nat) (s : State) (t : State) (n : Fin 16), exec (.watchTimeout dt n) s = .next t) ∧
    (∃ (dt : Nat) (s : State) (t : State) (c : Fin 2) (noResp : Bool) (chk : Bool) (bitErr : Bool) (frameErr : Bool) (data :
        List Byte), exec (.linSlot dt c noResp chk bitErr frameErr data) s = .next t) ∧
    (∃ (dt : Nat) (s : State) (t : State) (hart : Fin 19) (n : Fin 12) (v : Word), exec (.ethEnable dt hart n v) s = .next t) ∧
    (∃ (dt : Nat) (s : State) (t : State) (hart : Fin 19) (n : Fin 12) (v : Word), exec (.ethDisable dt hart n v) s = .next t) ∧
    (∃ (dt : Nat) (s : State) (t : State) (id : Nat), exec (.gcl dt id) s = .next t) ∧
    (∃ (dt : Nat) (s : State) (t : State) (n : Fin 12), exec (.ethFrameSend dt n) s = .next t) ∧
    (∃ (dt : Nat) (s : State) (t : State) (n : Fin 12) (bs : List Byte) (fcsOk : Bool) (age : Nat), exec (.ethFrameReceive dt n
        bs fcsOk age) s = .next t) ∧
    (∃ (dt : Nat) (s : State) (t : State) (c : Fin 48) (kind : SolFaultKind), exec (.solFaultEnds dt c kind) s = .next t) ∧
    (∃ (dt : Nat) (s : State) (t : State) (n : Fin 8), exec (.fanDrvHotRecovery dt n) s = .next t) :=
  ⟨⟨0, ws [], _, 0, rfl⟩,
    ⟨0, ws [], _, 0, [], rfl⟩,
    ⟨0, ws [], _, 0, 0, 0, rfl⟩,
    ⟨0, ws [], _, 0, false, 0, rfl⟩,
    ⟨0, ws [], _, 0, 0, 0, 0, [], false, none, rfl⟩,
    ⟨0, ws [], _, 0, rfl⟩,
    ⟨0, ws [], _, 0, rfl⟩,
    ⟨0, ws [], _, 0, rfl⟩,
    ⟨0, ws [], _, 0, rfl⟩,
    ⟨0, ws [], _, 0, rfl⟩,
    ⟨0, ws [], _, 0, rfl⟩,
    ⟨0, ws [], _, rfl⟩,
    ⟨0, ws [], _, rfl⟩,
    ⟨0, ws [], _, rfl⟩,
    ⟨0, ws [], _, rfl⟩,
    ⟨0, ws [], _, 0, rfl⟩,
    ⟨0, ws [], _, 0, rfl⟩,
    ⟨0, ws [], _, 0, rfl⟩,
    ⟨0, ws [], _, 0, rfl⟩,
    ⟨0, ws [], _, 0, rfl⟩,
    ⟨0, ws [], _, 0, rfl⟩,
    ⟨0, ws [], _, 0, rfl⟩,
    ⟨0, ws [], _, 0, rfl⟩,
    ⟨0, ws [], _, 0, 0, 0, rfl⟩,
    ⟨0, ws [], _, 0, 0, 0, rfl⟩,
    ⟨0, ws [], _, 0, rfl⟩,
    ⟨0, ws [], _, 0, rfl⟩,
    ⟨0, ws [], _, 0, false, rfl⟩,
    ⟨0, ws [], _, 0, rfl⟩,
    ⟨0, ws [], _, 0, false, rfl⟩,
    ⟨0, ws [], _, 0, rfl⟩,
    ⟨0, ws [], _, 0, .shortBat, rfl⟩,
    ⟨0, ws [], _, 0, false, rfl⟩,
    ⟨0, ws [], _, rfl⟩,
    ⟨0, ws [], _, 0, 0, 0, 0, 0, rfl⟩,
    ⟨0, ws [], _, 0, rfl⟩,
    ⟨0, ws [], _, 0, 0, 0, rfl⟩,
    ⟨0, ws [], _, 0, 0, 0, rfl⟩,
    ⟨0, ws [], _, 0, false, [], rfl⟩,
    ⟨0, ws [], _, 0, rfl⟩,
    ⟨0, ws [], _, 0, 0, rfl⟩,
    ⟨0, ws [], _, 0, rfl⟩,
    ⟨0, ws [], _, 0, false, 0, rfl⟩,
    ⟨0, ws [], _, 0, false, 0, rfl⟩,
    ⟨0, ws [], _, 0, 0, 0, rfl⟩,
    ⟨0, ws [], _, 0, rfl⟩,
    ⟨0, ws [], _, 0, rfl⟩,
    ⟨0, ws [], _, 0, rfl⟩,
    ⟨0, ws [], _, 0, rfl⟩,
    ⟨0, ws [], _, 0, rfl⟩,
    ⟨0, ws [], _, 0, rfl⟩,
    ⟨0, ws [], _, 0, 0, rfl⟩,
    ⟨0, ws [], _, 0, rfl⟩,
    ⟨0, ws [], _, 0, .hall, rfl⟩,
    ⟨0, ws [], _, 0, none, rfl⟩,
    ⟨0, ws [], _, 0, rfl⟩,
    ⟨0, ws [], _, 0, rfl⟩,
    ⟨0, ws [], _, false, false, rfl⟩,
    ⟨0, ws [], _, rfl⟩,
    ⟨0, ws [], _, 0, 0, 0, rfl⟩,
    ⟨0, ws [], _, 0, rfl⟩,
    ⟨0, ws [], _, 0, rfl⟩,
    ⟨0, ws [], _, 0, rfl⟩,
    ⟨0, ws [], _, [], rfl⟩,
    ⟨0, ws [], _, 0, 0, false, [], false, rfl⟩,
    ⟨0, ws [], _, 0, 0, false, 0, [], rfl⟩,
    ⟨0, ws [], _, 0, 0, 0, rfl⟩,
    ⟨0, ws [], _, 0, 0, 0, rfl⟩,
    ⟨0, ws [], _, 0, 0, 0, false, false, [], 0, rfl⟩,
    ⟨0, ws [], _, 0, rfl⟩,
    ⟨0, ws [], _, 0, rfl⟩,
    ⟨0, ws [], _, 0, rfl⟩,
    ⟨0, ws [], _, 0, rfl⟩,
    ⟨0, ws [], _, 0, 0, rfl⟩,
    ⟨0, ws [], _, 0, rfl⟩,
    ⟨0, ws [], _, 0, false, false, false, false, [], rfl⟩,
    ⟨0, ws [], _, 0, 0, 0, rfl⟩,
    ⟨0, ws [], _, 0, 0, 0, rfl⟩,
    ⟨0, ws [], _, 0, rfl⟩,
    ⟨0, ws [], _, 0, rfl⟩,
    ⟨0, ws [], _, 0, [], false, 0, rfl⟩,
    ⟨0, ws [], _, 0, .shortBat, rfl⟩,
    ⟨0, ws [], _, 0, rfl⟩⟩

theorem test_ModuleWideFrames_met :
    (∃ (dt : Nat) (s : State) (t : State) (line : BitVec 36) (who : List OwnAgent), exec (.ownershipRequest dt line who) s =
        .next t) ∧
    (∃ (dt : Nat) (s : State) (t : State) (b : Fin 14) (i : Nat) (found : ScrubFind), exec (.scrubWord dt b i found) s = .next
        t) ∧
    (∃ (dt : Nat) (s : State) (t : State) (hart : Fin 19), exec (.write dt hart) s = .next t) ∧
    (∃ (dt : Nat) (s : State) (t : State) (id : Nat) (gb : Nat), exec (.stoWrite dt id gb) s = .next t) ∧
    (∃ (dt : Nat) (s : State) (t : State) (id : Nat) (bad : List Nat), exec (.stoRead dt id bad) s = .next t) ∧
    (∃ (dt : Nat) (s : State) (t : State) (id : Nat), exec (.append dt id) s = .next t) ∧
    (∃ (dt : Nat) (s : State) (t : State) (id : Nat), exec (.evrRead dt id) s = .next t) ∧
    (∃ (dt : Nat) (s : State) (t : State) (id : Nat), exec (.stage dt id) s = .next t) ∧
    (∃ (dt : Nat) (s : State) (t : State) (id : Nat), exec (.put dt id) s = .next t) ∧
    (∃ (dt : Nat) (s : State) (t : State) (id : Nat), exec (.apply dt id) s = .next t) ∧
    (∃ (dt : Nat) (s : State) (t : State), exec (.activationComplete dt) s = .next t) ∧
    (∃ (dt : Nat) (s : State) (t : State) (id : Nat), exec (.confirm dt id) s = .next t) ∧
    (∃ (dt : Nat) (s : State) (t : State) (id : Nat), exec (.unlock dt id) s = .next t) ∧
    (∃ (dt : Nat) (s : State) (t : State) (id : Nat), exec (.getid dt id) s = .next t) ∧
    (∃ (dt : Nat) (s : State) (t : State) (id : Nat), exec (.hash dt id) s = .next t) ∧
    (∃ (dt : Nat) (s : State) (t : State) (id : Nat), exec (.random dt id) s = .next t) ∧
    (∃ (dt : Nat) (s : State) (t : State) (id : Nat), exec (.sign dt id) s = .next t) ∧
    (∃ (dt : Nat) (s : State) (t : State) (x : StartIn), exec (.startUp dt x) s = .next t) ∧
    (∃ (dt : Nat) (s : State) (t : State) (x : StartIn), exec (.trainingRetry dt x) s = .next t) ∧
    (∃ (dt : Nat) (s : State) (t : State) (v : BitVec 16), exec (.brownout dt v) s = .next t) ∧
    (∃ (dt : Nat) (s : State) (t : State) (tile : Fin 8) (v : BitVec 16), exec (.feedUv dt tile v) s = .next t) ∧
    (∃ (dt : Nat) (s : State) (t : State) (tile : Fin 8) (v : BitVec 16), exec (.feedOv dt tile v) s = .next t) ∧
    (∃ (dt : Nat) (s : State) (t : State) (tile : Fin 8) (v : BitVec 16), exec (.feedRecovery dt tile v) s = .next t) ∧
    (∃ (dt : Nat) (s : State) (t : State) (tile : Fin 8), exec (.feedPowerUp dt tile) s = .next t) ∧
    (∃ (dt : Nat) (s : State) (t : State) (hart : Fin 19) (w : WakeIn), exec (.go dt hart w) s = .next t) ∧
    (∃ (dt : Nat) (s : State) (t : State) (w : WakeIn), exec (.autoSleep dt w) s = .next t) ∧
    (∃ (dt : Nat) (s : State) (t : State) (x : SmkStep), exec (.smokerStep dt x) s = .next t) ∧
    (∃ (dt : Nat) (s : State) (t : State), exec (.smokerAbandon dt) s = .next t) ∧
    (∃ (dt : Nat) (s : State) (t : State) (tile : Fin 100) (ev : TileEv), exec (.tileTest dt tile ev) s = .next t) ∧
    (∃ (dt : Nat) (s : State) (t : State) (hart : Fin 19), exec (.enter dt hart) s = .next t) ∧
    (∃ (dt : Nat) (s : State) (t : State) (a : BitVec 16) (b : BitVec 16), exec (.thermalShutdown dt a b) s = .next t) :=
  ⟨⟨0, ws [], _, 0, [], rfl⟩,
    ⟨0, ws [], _, 0, 0, .clean, rfl⟩,
    ⟨0, ws [], _, 0, rfl⟩,
    ⟨0, ws [], _, 0, 0, rfl⟩,
    ⟨0, ws [], _, 0, [], rfl⟩,
    ⟨0, ws [], _, 0, rfl⟩,
    ⟨0, ws [], _, 0, rfl⟩,
    ⟨0, ws [], _, 0, rfl⟩,
    ⟨0, ws [], _, 0, rfl⟩,
    ⟨0, ws [], _, 0, rfl⟩,
    ⟨0, ws [], _, rfl⟩,
    ⟨0, ws [], _, 0, rfl⟩,
    ⟨0, ws [], _, 0, rfl⟩,
    ⟨0, ws [], _, 0, rfl⟩,
    ⟨0, ws [], _, 0, rfl⟩,
    ⟨0, ws [], _, 0, rfl⟩,
    ⟨0, ws [], _, 0, rfl⟩,
    ⟨0, ws [], _, wStart none, rfl⟩,
    ⟨0, ws [], _, wStart none, rfl⟩,
    ⟨0, ws [], _, 0, rfl⟩,
    ⟨0, ws [], _, 0, 0, rfl⟩,
    ⟨0, ws [], _, 0, 0, rfl⟩,
    ⟨0, ws [], _, 0, 0, rfl⟩,
    ⟨0, ws [], _, 0, rfl⟩,
    ⟨0, ws [], _, 0, wWake false, rfl⟩,
    ⟨0, ws [], _, wWake false, rfl⟩,
    ⟨0, ws [], _, .pulseEnd true, rfl⟩,
    ⟨0, ws [], _, rfl⟩,
    ⟨0, ws [], _, 0, .takeOut, rfl⟩,
    ⟨0, ws [], _, 0, rfl⟩,
    ⟨0, ws [], _, 0, 0, rfl⟩⟩

end Sys2Proof.Machine
end

section
/-!
PROOF. Commands that store to memory: what a store of bytes leaves alone while no stored word departs from its code word (R3), and from
that the frame of each command that stores (O48).
-/
namespace Sys2Proof.Machine

/-! ## The frame of a store -/

/-- Between two modules only n bytes of memory from an address on may differ, memory is in canonical form, and no register differs. -/
def StoresOnly (x n : Nat) (h g : Hw) : Prop := BytesKept x n h g ∧ Memory.wf g.mem = true ∧ g.rf = h.rf

theorem StoresOnly.of_unchanged {h g : Hw} (x n : Nat) (hm : g.mem = h.mem) (hr : g.rf = h.rf) (hwf : Memory.wf h.mem = true) :
    StoresOnly x n h g :=
  ⟨fun a _ => by rw [hm], hm ▸ hwf, hr⟩

/-- The frame looks at memory and registers alone. -/
theorem StoresOnly.congr {x n : Nat} {h h' g g' : Hw} (hs : StoresOnly x n h g) (hm : h'.mem = h.mem) (hr : h'.rf = h.rf)
    (gm : g'.mem = g.mem) (gr : g'.rf = g.rf) : StoresOnly x n h' g' := by
  obtain ⟨hkept, hwf, hrf⟩ := hs
  exact ⟨fun a ha => by rw [gm, hm, hkept a ha], gm ▸ hwf, by rw [gr, hr, hrf]⟩

/-- Ending the operation after the store adds nothing to the frame. -/
theorem StoresOnly.finish {x n : Nat} {h g : Hw} (hs : StoresOnly x n h g) (f : Flight) (st t a b c d : Nat) :
    StoresOnly x n h (g.finish f st t a b c d) :=
  hs.congr rfl rfl (finish_mem ..) (finish_rf ..)

/-! ## Lengths of what is stored -/

@[simp] theorem leBytes_length (n x : Nat) : (leBytes n x).length = n := by
  induction n generalizing x with
  | zero => rfl
  | succ n ih => simp only [leBytes, List.length_cons, ih]

@[simp] theorem padTo_length (n : Nat) (bs : List Byte) : (padTo n bs).length = n := by
  simp only [padTo, zeros, List.length_append, List.length_take, List.length_replicate]
  omega

@[simp] theorem freshBytes_length (h : Hw) (n : Nat) : (h.freshBytes n).1.length = n := by
  simp only [Hw.freshBytes, List.length_map, List.length_range]

/-- Lists of words written out at k bytes a word. -/
theorem flatMap_bytes_length {α : Type} (l : List α) (k : Nat) (p : α → List Byte) (hp : ∀ x, (p x).length = k) :
    (l.flatMap p).length = l.length * k := by
  induction l with
  | nil => simp only [List.flatMap_nil, List.length_nil, Nat.zero_mul]
  | cons x l ih => simp only [List.flatMap_cons, List.length_append, List.length_cons, hp, ih, Nat.succ_mul, Nat.add_comm]

theorem shaBlock_length_le {w : Nat} (rot : ShaRot) (ks s ws : List (BitVec w)) : (shaBlock rot ks s ws).length ≤ s.length := by
  simp only [shaBlock, List.length_map, List.length_zip]
  omega

/-- However long the message, the hash value has no more words than the first one. -/
theorem shaBlocks_length_le {w : Nat} (rot : ShaRot) (ks : List (BitVec w)) (n k : Nat) (s : List (BitVec w)) (bs : List Byte) :
    (shaBlocks rot ks n k s bs).length ≤ s.length := by
  induction k generalizing s bs with
  | zero => exact Nat.le_refl _
  | succ k ih => exact Nat.le_trans (ih _ _) (shaBlock_length_le ..)

theorem sha256_length_le (bs : List Byte) : (sha256 bs).length ≤ 32 := by
  have hw := shaBlocks_length_le rot256 k256 4 ((shaPad 4 bs).length / 64) h256 (shaPad 4 bs)
  have h8 : h256.length = 8 := rfl
  rw [sha256, flatMap_bytes_length _ 4 _ (fun _ => by simp only [List.length_reverse, leBytes_length])]
  omega

theorem sha384_length_le (bs : List Byte) : (sha384 bs).length ≤ 48 := by
  rw [sha384, flatMap_bytes_length _ 8 _ (fun _ => by simp only [List.length_reverse, leBytes_length]), List.length_take]
  omega

/-- The records that fit a capacity, each padded, are no longer than it (R766). -/
theorem recFit_bytes_length_le (cap : Nat) (rs : List EvRec) :
    ((recFit cap rs).flatMap (fun r => padTo (recSize r.bytes) r.bytes)).length ≤ cap := by
  induction rs generalizing cap with
  | nil => exact Nat.zero_le _
  | cons r rs ih =>
    rw [recFit]
    split
    · have hrest := ih (cap - recSize r.bytes)
      rw [List.flatMap_cons, List.length_append, padTo_length]
      omega
    · exact Nat.zero_le _

/-! ## Memory without stored errors -/

theorem scan_of_ecc_nil {h : Hw} (he : h.ecc = []) (w : Who) (a n : Nat) : h.scan w a n = (h, true) := by
  simp only [Hw.scan, he, List.filter_nil, List.foldl_nil, Hw.memBad, List.any_nil, Bool.and_false, Bool.not_false, ite_self]

theorem scanPieces_of_ecc_nil {h : Hw} (he : h.ecc = []) (w : Who) (ps : List (Nat × Nat)) : scanPieces w ps h = (h, true) := by
  induction ps with
  | nil => rfl
  | cons p ps ih => simp only [scanPieces, scan_of_ecc_nil he, ih, Bool.and_self]

/-- An engine of one Comb stop has a fixed place on the Comb. -/
theorem engWho_of_one_stop {eng stop : Nat} (hs : engStops eng = [stop]) (h : Hw) (part : Nat) :
    engWho h eng part = (⟨part, stop, false⟩, h) := by
  simp only [engWho, hs]

/-- Without stored errors an operation of an engine of one Comb stop reads its pieces and goes on. -/
theorem engRead_of_ecc_nil {h : Hw} {id eng op stop : Nat} {f : Flight} (he : h.ecc = []) (hf : OpRuns h id eng op f)
    (hs : engStops eng = [stop]) (ps : List (Nat × Nat)) (act : Hw → Hw) : h.engRead f ps act = act h := by
  obtain ⟨-, -, rfl, -⟩ := hf
  simp only [Hw.engRead, engWho_of_one_stop hs, scanPieces_of_ecc_nil he, if_true]

theorem wr_mem_of_ecc_nil {h : Hw} (he : h.ecc = []) (a : Nat) (bs : List Byte) (w : Who) : (h.wr a bs w).mem = memWrite h.mem a bs := by
  cases bs with
  | nil => rfl
  | cons b bs => simp only [Hw.wr, Hw.wrEcc, Hw.wrMem, he, List.isEmpty_cons, List.isEmpty_nil, Bool.false_eq_true, if_false, if_true]

theorem wr_rf_of_ecc_nil {h : Hw} (he : h.ecc = []) (a : Nat) (bs : List Byte) (w : Who) : (h.wr a bs w).rf = h.rf := by
  cases bs with
  | nil => rfl
  | cons b bs => simp only [Hw.wr, Hw.wrEcc, he, List.isEmpty_cons, List.isEmpty_nil, Bool.false_eq_true, if_false, if_true]

/-- A store of at most n bytes. -/
theorem wr_storesOnly {h : Hw} (he : h.ecc = []) (hwf : Memory.wf h.mem = true) (a : Nat) {n : Nat} {bs : List Byte} (w : Who)
    (hn : bs.length ≤ n) : StoresOnly a n h (h.wr a bs w) := by
  refine ⟨fun b hb => ?_, wr_wf a bs w hwf, wr_rf_of_ecc_nil he a bs w⟩
  rw [wr_mem_of_ecc_nil he]
  exact memGet_memWrite_outside bs h.mem a b (by omega)

/-- Open values drawn before a store are no part of its frame. -/
theorem wr_storesOnly_of_drawn {h : Hw} (he : h.ecc = []) (hwf : Memory.wf h.mem = true) (k a : Nat) {n : Nat} {bs : List Byte} (w : Who)
    (hn : bs.length ≤ n) : StoresOnly a n h ({ h with freeCtr := k }.wr a bs w) :=
  (wr_storesOnly (h := { h with freeCtr := k }) he hwf a w hn).congr rfl rfl rfl rfl

/-- A store to one piece never passes its end, however many bytes there are. -/
theorem scatter_one_storesOnly {h : Hw} (he : h.ecc = []) (hwf : Memory.wf h.mem = true) (a n : Nat) (bs : List Byte) :
    StoresOnly a n h (scatter h [(a, n)] bs) :=
  wr_storesOnly he hwf a {} (List.length_take_le n bs)

/-! ## Stores of harts -/

theorem dirRoom_changes_dir (h : Hw) (k : Nat) : ∃ d, dirRoom h k = { h with dir := d } := by
  unfold dirRoom
  dsimp only
  repeat' split
  all_goals exact ⟨_, rfl⟩

/-- Ownership of lines is a matter of the directory alone (R719). -/
theorem foldl_dirOwn_changes_dir (c : Nat) (ks : List Nat) (h : Hw) :
    ∃ d q, ks.foldl (fun g k => dirOwn g k c) h = { h with dir := d, dirSeq := q } := by
  induction ks generalizing h with
  | nil => exact ⟨_, _, rfl⟩
  | cons k ks ih =>
    obtain ⟨d, q, hks⟩ := ih (dirOwn h k c)
    obtain ⟨e, hroom⟩ := dirRoom_changes_dir h k
    exact ⟨d, q, by rw [List.foldl_cons, hks, dirOwn, hroom]⟩

theorem memStore_storesOnly {h : Hw} (he : h.ecc = []) (hwf : Memory.wf h.mem = true) (t p a n v : Nat) :
    StoresOnly a n h (memStore h t p a n v) := by
  have hbad : ∀ b m, h.memBad b m = false := fun b m => by
    simp only [Hw.memBad, he, List.any_nil, Bool.and_false]
  have hst : StoresOnly a n h (h.wr a (leBytes n v) ⟨p, hartStop t a, false⟩) :=
    wr_storesOnly he hwf a _ (Nat.le_of_eq (leBytes_length n v))
  simp only [memStore, hbad, ite_self, Bool.or_self, Bool.false_eq_true, if_false]
  split
  · obtain ⟨d, q, hown⟩ := foldl_dirOwn_changes_dir (t / 4) (linesOf a n) (h.wr a (leBytes n v) ⟨p, hartStop t a, false⟩)
    rw [hown]
    exact hst.congr rfl rfl rfl rfl
  · exact hst

/-- An application hart reaches main memory and the frame store at their physical addresses (R694). -/
theorem reach_memory {t a n : Nat} (ht : t < 16) (ha : a + n ≤ 0xE04000000) (h : Hw) (p : Nat) (store : Bool) :
    reach h t p a n store = .memory a := by
  simp only [reach, ht, physReach, ha, if_true]

/-- A store of an application hart to memory its partition owns; none is issued while the partition does not run. -/
theorem hartAccess_storesOnly {h : Hw} (he : h.ecc = []) (hwf : Memory.wf h.mem = true) {t a lg p : Nat} (v : Nat) (ht : t < 16)
    (ha : a + 2 ^ lg ≤ 0xE04000000) (hp : h.hartPart t = some p) (hown : h.owns p a (2 ^ lg) = true) :
    StoresOnly a (2 ^ lg) h (hartAccess h t a lg (some v)) := by
  simp only [hartAccess, hp]
  split
  · simp only [perform, reach_memory ht ha, Option.map_some, hown, if_true]
    exact memStore_storesOnly he hwf ..
  · exact .of_unchanged _ _ rfl rfl hwf

/-! ## From an action to its command -/

/-- A command of the logic domain while it is on has the frame of its action; as time passes neither memory nor its stored errors
change. -/
theorem run_storesOnly {dt x n : Nat} {s t : State} {act : Hw → Hw} (hon : s.hw.isOn = true) (he : s.hw.ecc = [])
    (hwf : Memory.wf s.hw.mem = true) (ht : run dt s act = .next t)
    (hact : (s.hw.elapse dt).ecc = [] → Memory.wf (s.hw.elapse dt).mem = true →
      StoresOnly x n (s.hw.elapse dt) (act (s.hw.elapse dt))) : StoresOnly x n s.hw t.hw := by
  rw [run_on dt s act hon] at ht
  cases ht
  exact (hact he hwf).congr rfl rfl rfl rfl

/-- An operation that has started runs on its own descriptor. -/
theorem onOp_of_opRuns {h : Hw} {id eng op : Nat} {f : Flight} (hf : OpRuns h id eng op f) (act : Flight → Hw) :
    h.onOp id eng op act = act f := by
  obtain ⟨hfl, hst, heng, hop⟩ := hf
  simp only [Hw.onOp, hfl, hst, heng, hop, true_or, true_and, if_true]

/-- The command of a started operation has the frame of the operation. -/
theorem run_onOp_storesOnly {dt id eng op x n : Nat} {s t : State} {f : Flight} {act : Hw → Flight → Hw} (hon : s.hw.isOn = true)
    (he : s.hw.ecc = []) (hwf : Memory.wf s.hw.mem = true) (hf : OpRuns s.hw id eng op f)
    (ht : run dt s (fun h => h.onOp id eng op (act h)) = .next t)
    (hact : (s.hw.elapse dt).ecc = [] → Memory.wf (s.hw.elapse dt).mem = true →
      StoresOnly x n (s.hw.elapse dt) (act (s.hw.elapse dt) f)) : StoresOnly x n s.hw t.hw := by
  refine run_storesOnly hon he hwf ht fun he hwf => ?_
  rw [onOp_of_opRuns (h := s.hw.elapse dt) hf]
  exact hact he hwf

/-! ## The commands -/

section
variable {dt id : Nat} {s t : State} {f : Flight} (hon : s.hw.isOn = true) (he : s.hw.ecc = []) (hwf : Memory.wf s.hw.mem = true)
include hon he hwf

/-- Misaligned stores are single stores too (log entry 9). -/
theorem execCoreMemoryAccess_storesOnly {hart : Fin 19} {addr v : DWord} {lg : Fin 4} {p : Nat} (hh : hart.val < 16)
    (ha : addr.toNat + 2 ^ lg.val ≤ 0xE04000000) (hp : s.hw.hartPart hart = some p) (hown : s.hw.owns p addr.toNat (2 ^ lg.val) = true)
    (ht : execCoreMemoryAccess dt hart addr lg (some v) s = .next t) : StoresOnly addr.toNat (2 ^ lg.val) s.hw t.hw :=
  run_storesOnly hon he hwf ht fun he hwf => hartAccess_storesOnly he hwf v.toNat hh ha hp hown

/-- The store goes to a watched line or the command lets time pass. -/
theorem execDoorbellStore_storesOnly {hart : Fin 19} {addr : DWord} {v : Word} {p : Nat} (hh : hart.val < 16)
    (ha : addr.toNat + 4 ≤ 0xE04000000) (hp : s.hw.hartPart hart = some p) (hown : s.hw.owns p addr.toNat 4 = true)
    (ht : execDoorbellStore dt hart addr v s = .next t) : StoresOnly addr.toNat 4 s.hw t.hw := by
  refine run_storesOnly hon he hwf ht fun he hwf => ?_
  simp only [reach_memory hh ha]
  split
  · exact hartAccess_storesOnly (lg := 2) he hwf v.toNat hh ha hp hown
  · exact .of_unchanged _ _ rfl rfl hwf

/-- Whatever the bytes of an overlap are, they go to the destination. -/
theorem execCopy_storesOnly (hf : OpRuns s.hw id 0 1 f) (hdst : bit (fld f.desc 0 1) 5 = false)
    (ht : execCopy dt id s = .next t) : StoresOnly (fld f.desc 16 8) (fld f.desc 4 4) s.hw t.hw := by
  refine run_onOp_storesOnly hon he hwf hf ht fun he hwf => ?_
  rw [engRead_of_ecc_nil he hf rfl]
  simp only [bmDst, hdst, Bool.false_eq_true, if_false]
  split
  · refine StoresOnly.finish ?_ ..
    exact wr_storesOnly_of_drawn he hwf _ _ {} (List.length_take_le ..)
  · exact (scatter_one_storesOnly he hwf ..).finish ..

theorem execBlockFill_storesOnly (hf : OpRuns s.hw id 0 2 f) (hdst : bit (fld f.desc 0 1) 5 = false)
    (ht : execBlockFill dt id s = .next t) : StoresOnly (fld f.desc 16 8) (fld f.desc 4 4) s.hw t.hw := by
  refine run_onOp_storesOnly hon he hwf hf ht fun he hwf => ?_
  simp only [bmDst, hdst, Bool.false_eq_true, if_false]
  exact (scatter_one_storesOnly he hwf ..).finish ..

/-- A block that cannot be read is logged, which touches neither memory nor registers. -/
theorem execStoRead_storesOnly {bad : List Nat} (hf : OpRuns s.hw id 2 2 f) (hsg : bit (fld f.desc 0 1) 4 = false)
    (ht : execStoRead dt id bad s = .next t) : StoresOnly (fld f.desc 16 8) (fld f.desc 4 4) s.hw t.hw := by
  refine run_onOp_storesOnly hon he hwf hf ht fun he hwf => StoresOnly.finish ?_ ..
  simp only [dPieces, hsg, Bool.false_eq_true, if_false]
  split
  · exact scatter_one_storesOnly he hwf ..
  · exact (scatter_one_storesOnly he hwf ..).congr rfl rfl (log_mem ..) (log_rf ..)

/-- The operation waits, storing nothing, until the recorder is ready. -/
theorem execEvrRead_storesOnly (hf : OpRuns s.hw id 8 2 f) (ht : execEvrRead dt id s = .next t) :
    StoresOnly (fld f.desc 16 8) (fld f.desc 24 4) s.hw t.hw := by
  refine run_onOp_storesOnly hon he hwf hf ht fun he hwf => ?_
  split
  · exact .of_unchanged _ _ rfl rfl hwf
  · exact (wr_storesOnly he hwf _ {} (recFit_bytes_length_le ..)).finish ..

theorem execGetid_storesOnly (hf : OpRuns s.hw id 7 8 f) (ht : execGetid dt id s = .next t) :
    StoresOnly (fld f.desc 8 8) (idRecord s.hw).length s.hw t.hw := by
  refine run_onOp_storesOnly hon he hwf hf ht fun he hwf => ?_
  rw [engWho_of_one_stop (eng := 7) rfl]
  exact (wr_storesOnly he hwf _ _ (Nat.le_refl _)).finish ..

/-- Digest and open bytes together fill the 64-byte destination: neither digest is longer. -/
theorem execHash_storesOnly (hf : OpRuns s.hw id 7 9 f) (ht : execHash dt id s = .next t) :
    StoresOnly (fld f.desc 16 8) 64 s.hw t.hw := by
  refine run_onOp_storesOnly hon he hwf hf ht fun he hwf => ?_
  rw [engRead_of_ecc_nil he hf rfl]
  simp only [engWho_of_one_stop (eng := 7) rfl]
  refine StoresOnly.finish ?_ ..
  refine wr_storesOnly_of_drawn he hwf _ _ _ ?_
  rw [List.length_append, freshBytes_length]
  have hdig (bs : List Byte) : (if fld f.desc 1 1 = 0 then sha256 bs else sha384 bs).length ≤ 64 := by
    split
    · exact Nat.le_trans (sha256_length_le bs) (by decide)
    · exact Nat.le_trans (sha384_length_le bs) (by decide)
  exact Nat.le_of_eq (Nat.add_sub_cancel' (hdig _))

theorem execRandom_storesOnly (hf : OpRuns s.hw id 7 10 f) (ht : execRandom dt id s = .next t) :
    StoresOnly (fld f.desc 8 8) (fld f.desc 16 4) s.hw t.hw := by
  refine run_onOp_storesOnly hon he hwf hf ht fun he hwf => ?_
  simp only [engWho_of_one_stop (eng := 7) rfl]
  refine StoresOnly.finish ?_ ..
  exact wr_storesOnly_of_drawn he hwf _ _ _ (Nat.le_of_eq (freshBytes_length ..))

theorem execSign_storesOnly (hf : OpRuns s.hw id 7 11 f) (ht : execSign dt id s = .next t) :
    StoresOnly (fld f.desc 40 8) 64 s.hw t.hw := by
  refine run_onOp_storesOnly hon he hwf hf ht fun he hwf => ?_
  simp only [engWho_of_one_stop (eng := 7) rfl]
  refine StoresOnly.finish ?_ ..
  exact wr_storesOnly_of_drawn he hwf _ _ _ (Nat.le_of_eq (padTo_length ..))

end

/-- Settles O48: each command stores through `Hw.wr`, with no more bytes than its frame names. -/
theorem storesChangeOnlyTheirBytes : Obligations.StoresChangeOnlyTheirBytes := by
  unfold Obligations.StoresChangeOnlyTheirBytes
  refine ⟨?coreMemoryAccess, ?doorbellStore, ?copy, ?blockFill, ?stoRead, ?evrRead, ?getid, ?hash, ?random, ?sign⟩
  case coreMemoryAccess =>
    intro _ _ _ _ _ _ _ _ hon he hwf hh ha hp hown ht
    exact execCoreMemoryAccess_storesOnly hon he hwf hh ha hp hown ht
  case doorbellStore =>
    intro _ _ _ _ _ _ _ hon he hwf hh ha hp hown ht
    exact execDoorbellStore_storesOnly hon he hwf hh ha hp hown ht
  case copy => exact fun _ _ _ _ _ hon he hwf hf _ hdst ht => execCopy_storesOnly hon he hwf hf hdst ht
  case blockFill => exact fun _ _ _ _ _ hon he hwf hf hdst ht => execBlockFill_storesOnly hon he hwf hf hdst ht
  case stoRead => exact fun _ _ _ _ _ _ hon he hwf hf hsg ht => execStoRead_storesOnly hon he hwf hf hsg ht
  case evrRead => exact fun _ _ _ _ _ hon he hwf hf ht => execEvrRead_storesOnly hon he hwf hf ht
  case getid => exact fun _ _ _ _ _ hon he hwf hf ht => execGetid_storesOnly hon he hwf hf ht
  case hash => exact fun _ _ _ _ _ hon he hwf hf ht => execHash_storesOnly hon he hwf hf ht
  case random => exact fun _ _ _ _ _ hon he hwf hf ht => execRandom_storesOnly hon he hwf hf ht
  case sign => exact fun _ _ _ _ _ hon he hwf hf ht => execSign_storesOnly hon he hwf hf ht

end Sys2Proof.Machine
end

section
/-!
PROOF. Commands that only let time pass: a command of the logic domain whose action changes nothing does nothing else in any power
state, and from that a late response is discarded (O50).
-/
namespace Sys2Proof.Machine

/-- A command of the logic domain that has no effect while the domain is on has none at all. -/
theorem run_eq_elapse_of_act_eq {dt : Nat} {s : State} {act : Hw → Hw}
    (hact : s.hw.isOn = true → act (s.hw.elapse dt) = s.hw.elapse dt) :
    run dt s act = .next { s with hw := s.hw.elapse dt } := by
  cases hon : s.hw.isOn with
  | true => rw [run_on dt s act hon, hact hon]
  | false => exact run_off dt s act hon

theorem exec_lateResponseDiscard (dt : Nat) (s : State) :
    exec (.lateResponseDiscard dt) s = run dt s fun h => h := rfl

/-- Settles O50: the discarded response acts on nothing (R57). -/
theorem lateResponsesAreDiscarded : Obligations.LateResponsesAreDiscarded := by
  unfold Obligations.LateResponsesAreDiscarded
  intro dt s
  rw [exec_lateResponseDiscard]
  exact run_eq_elapse_of_act_eq fun _ => rfl

end Sys2Proof.Machine
end

section
/-!
PROOF. Frames of commands: which registers and which pieces of state differ between two modules, one rule for each operation on the
state, and from that what the commands of Waggle, the partitions, the rings and imaging leave unchanged (O39).
-/
namespace Sys2Proof.Machine

/-! ## Registers by page -/

/-- The registers of a field's rows 0 to n lie, in column j, on one of some pages of the register map. -/
abbrev Fld.LiesOn (f : Fld) (ps : List Nat) (n j : Nat) : Prop :=
  f.addr / 0x10000 ∈ ps ∧ f.addr % 0x10000 + n * f.st1 + j * f.st2 < 0x10000

theorem Fld.at_page_mem {f : Fld} {ps : List Nat} {i n j : Nat} (hi : i ≤ n) (hf : f.LiesOn ps n j) :
    f.at i j / 0x10000 ∈ ps := by
  obtain ⟨hpage, hlast⟩ := hf
  have hrow : i * f.st1 ≤ n * f.st1 := Nat.mul_le_mul_right _ hi
  have hat : f.at i j / 0x10000 = f.addr / 0x10000 := by
    rw [Fld.at]
    omega
  exact hat ▸ hpage

section
variable {ps : List Nat} {h g k : Hw} {f : Fld} {v i n j b ty inst c : Nat}

theorem RegsKept.refl : RegsKept ps h h := fun _ _ => rfl

theorem RegsKept.trans (hg : RegsKept ps h g) (hk : RegsKept ps g k) : RegsKept ps h k :=
  fun a ha => (hk a ha).trans (hg a ha)

theorem RegsKept.of_rf_eq (hr : g.rf = h.rf) : RegsKept ps h g := fun a _ => by rw [Hw.reg, Hw.reg, hr]

/-- Storing a register of a page that may change; n bounds the rows that the command can name. -/
theorem RegsKept.setReg (hk : RegsKept ps h g) (hi : i ≤ n) {w : BitVec 32} (hf : f.LiesOn ps n j) :
    RegsKept ps h (g.setReg (f.at i j) w) := by
  intro a ha
  have hne : f.at i j ≠ a := fun he => ha (he ▸ Fld.at_page_mem hi hf)
  rw [reg_setReg_other _ _ _ _ hne, hk a ha]

theorem RegsKept.put (hk : RegsKept ps h g) (hi : i ≤ n) (hf : f.LiesOn ps n j) : RegsKept ps h (g.put f v i j) :=
  hk.setReg hi hf

theorem RegsKept.bump (hk : RegsKept ps h g) (hi : i ≤ n) (hf : f.LiesOn ps n j) : RegsKept ps h (g.bump f i j b) :=
  hk.setReg hi hf

theorem RegsKept.log (hk : RegsKept ps h g) (l : Bool := false) : RegsKept ps h (g.log ty inst l) := hk
theorem RegsKept.setCam (hk : RegsKept ps h g) {x : Cam} : RegsKept ps h (g.setCam c x) := hk
theorem RegsKept.setDom (hk : RegsKept ps h g) {x : Dom} : RegsKept ps h (g.setDom i x) := hk

end

/-! ## Pieces of state -/

/-- From one module to another only registers of some pages change, and those pieces of state that `take` takes over from the
second. -/
def OnlyChanges (ps : List Nat) (take : Hw → Hw → Hw) (h g : Hw) : Prop := RegsKept ps h g ∧ g = take h g

theorem OnlyChanges.trans {ps : List Nat} {take : Hw → Hw → Hw} {h g k : Hw}
    (hg : OnlyChanges ps take h g) (hk : OnlyChanges ps take g k) (htake : ∀ h g k, take (take h g) k = take h k) :
    OnlyChanges ps take h k := by
  obtain ⟨hgregs, hgrest⟩ := hg
  obtain ⟨hkregs, hkrest⟩ := hk
  refine ⟨hgregs.trans hkregs, ?_⟩
  rw [hgrest, htake] at hkrest
  exact hkrest

/-- One more field put, where the registers are among the pieces taken over. -/
theorem OnlyChanges.put {ps : List Nat} {take : Hw → Hw → Hw} {h g : Hw} {f : Fld} {v i n j : Nat} (hk : OnlyChanges ps take h g)
    (hi : i ≤ n) (hf : f.LiesOn ps n j)
    (htake : ∀ h g m, take h { g with rf := m } = { take h g with rf := m }) :
    OnlyChanges ps take h (g.put f v i j) := by
  obtain ⟨hregs, hrest⟩ := hk
  refine ⟨hregs.put hi hf, ?_⟩
  rw [Hw.put, Hw.setReg, htake, ← hrest]

/-- Once its time has passed a command of the logic domain changes no more than its action does. -/
theorem run_onlyChanges {ps : List Nat} {take : Hw → Hw → Hw} {dt : Nat} {s t : State} {act : Hw → Hw}
    (ht : run dt s act = .next t) (hself : ∀ h, h = take h h) (hact : ∀ h, OnlyChanges ps take h (act h)) :
    OnlyChanges ps take (s.hw.elapse dt) t.hw := by
  cases hon : s.hw.isOn with
  | true =>
    rw [run_on dt s act hon] at ht
    cases ht
    exact hact _
  | false =>
    rw [run_off dt s act hon] at ht
    cases ht
    exact ⟨.refl, hself _⟩

/-- An operation changes no more than its engine does for its descriptor. -/
theorem onOp_onlyChanges {ps : List Nat} {take : Hw → Hw → Hw} {h : Hw} {act : Flight → Hw} (id eng op : Nat)
    (hself : OnlyChanges ps take h h) (hact : ∀ f, OnlyChanges ps take h (act f)) :
    OnlyChanges ps take h (h.onOp id eng op act) := by
  unfold Hw.onOp
  split
  · split
    · exact hact _
    · exact hself
  · exact hself

/-- A rounding left open draws at most open values. -/
theorem openRound_changes_freeCtr (h : Hw) (q : Q) : ∃ x n, h.openRound q = (x, { h with freeCtr := n }) := by
  unfold Hw.openRound
  split <;> exact ⟨_, _, rfl⟩

/-! ## Waggle and the partitions -/

section
variable {dt : Nat} {s t : State}

theorem execReservationTakesEffect_frame {p : Fin 8} (ht : execReservationTakesEffect dt p s = .next t) :
    OnlyChanges [] (fun h g => { h with prp := g.prp }) (s.hw.elapse dt) t.hw :=
  run_onlyChanges ht (fun _ => rfl) fun _ => ⟨.refl, rfl⟩

theorem execPpsEdge_frame (ht : execPpsEdge dt s = .next t) :
    OnlyChanges [0] (fun h g => { h with rf := g.rf, freeCtr := g.freeCtr, wgl := g.wgl, gns := g.gns }) (s.hw.elapse dt) t.hw := by
  refine run_onlyChanges ht (fun _ => rfl) fun h => ?_
  dsimp only
  split
  case h_1 => exact ⟨.refl, rfl⟩
  case h_2 g te _ =>
    split
    · generalize qsub (mkQ (h.get F.GNS_CABLE_DELAY) 2) _ = off
      obtain ⟨x, n, hround⟩ := openRound_changes_freeCtr (Hw.fresh { h with gns := { h.gns with lastSec := some g } }).2 off
      rw [hround]
      refine ⟨RegsKept.put (RegsKept.put ?_ (Nat.le_refl 0) (by decide)) (Nat.le_refl 0) (by decide), rfl⟩
      exact .of_rf_eq rfl
    · exact ⟨.refl, rfl⟩

/-- What the commands on the timebase and on domains change: registers, occurrences to be recorded, and Waggle. -/
def takeWaggle (h g : Hw) : Hw := { h with rf := g.rf, diag := g.diag, wgl := g.wgl }

theorem discIdle_onlyChanges (h : Hw) : OnlyChanges [0] takeWaggle h (discIdle h) := by
  unfold discIdle
  split
  · exact ⟨RegsKept.refl.put (Nat.le_refl 0) (by decide), rfl⟩
  · split
    · exact ⟨RegsKept.refl.put (Nat.le_refl 0) (by decide), rfl⟩
    · exact ⟨.refl, rfl⟩

theorem settleDom_onlyChanges (h : Hw) (i : Nat) : OnlyChanges [0] takeWaggle h (settleDom h i) := by
  unfold settleDom
  dsimp only
  split
  · split
    · exact ⟨.refl, rfl⟩
    · exact ⟨(RegsKept.refl.bump (Nat.le_refl 3) (by decide)).setDom, rfl⟩
  · exact ⟨.refl, rfl⟩

theorem newPred_onlyChanges (h : Hw) {i : Nat} (hi : i ≤ 15) (p : Pred) : OnlyChanges [0] takeWaggle h (h.newPred i p) :=
  ⟨RegsKept.refl.setDom.put hi (by decide), rfl⟩

theorem execHoldoverEntry_frame (ht : execHoldoverEntry dt s = .next t) :
    OnlyChanges [0] takeWaggle (s.hw.elapse dt) t.hw := by
  refine run_onlyChanges ht (fun _ => rfl) fun h => ?_
  split
  · exact ⟨.refl, rfl⟩
  · split
    · refine ⟨(RegsKept.put ?_ (Nat.le_refl 0) (by decide)).log, rfl⟩
      exact .of_rf_eq rfl
    · exact discIdle_onlyChanges { h with wgl := { h.wgl with good := 0 } }

theorem execDomainStopTimeout_frame {i : Fin 16} (ht : execDomainStopTimeout dt i s = .next t) :
    OnlyChanges [0] takeWaggle (s.hw.elapse dt) t.hw := by
  refine run_onlyChanges ht (fun _ => rfl) fun h => ?_
  dsimp only
  split
  · have hstopped := (settleDom_onlyChanges h i).trans
      (newPred_onlyChanges _ i.is_le (heldPred 4 (h.domPos i) h.wgl.tb (h.dom i).p.d)) fun _ _ _ => rfl
    exact hstopped.trans ⟨RegsKept.refl.log, rfl⟩ fun _ _ _ => rfl
  · exact ⟨.refl, rfl⟩

/-! ## Rings -/

theorem ringOverrun_onlyChanges (h : Hw) {r : Nat} (hr : r ≤ 1023) :
    OnlyChanges [1] (fun h g => { h with rf := g.rf, diag := g.diag, rng := g.rng }) h (ringOverrun h r) := by
  refine ⟨((RegsKept.put ?_ hr (by decide)).put hr (by decide)).log, rfl⟩
  exact .of_rf_eq rfl

theorem execDoorbellRead_frame {r : Fin 1024} (ht : execDoorbellRead dt r s = .next t) :
    OnlyChanges [1] (fun h g => { h with rf := g.rf, diag := g.diag, rng := g.rng }) (s.hw.elapse dt) t.hw := by
  refine run_onlyChanges ht (fun _ => rfl) fun h => ?_
  unfold doorbellRead
  dsimp only
  split
  · split
    · exact ringOverrun_onlyChanges h r.is_le
    · exact ⟨.of_rf_eq rfl, rfl⟩
  · exact ⟨.refl, rfl⟩

theorem execRingIrqTimer_frame {r : Fin 1024} (ht : execRingIrqTimer dt r s = .next t) :
    OnlyChanges [] (fun h g => { h with irqs := g.irqs, rng := g.rng }) (s.hw.elapse dt) t.hw := by
  refine run_onlyChanges ht (fun _ => rfl) fun h => ?_
  dsimp only
  split
  · split
    · exact ⟨.of_rf_eq rfl, rfl⟩
    · exact ⟨.refl, rfl⟩
  · exact ⟨.refl, rfl⟩

theorem execRingDrainDone_frame {r : Fin 1024} (ht : execRingDrainDone dt r s = .next t) :
    OnlyChanges [1] (fun h g => { h with rf := g.rf }) (s.hw.elapse dt) t.hw := by
  refine run_onlyChanges ht (fun _ => rfl) fun h => ?_
  split
  · exact ⟨RegsKept.refl.put r.is_le (by decide), rfl⟩
  · exact ⟨.refl, rfl⟩

/-! ## Cameras -/

/-- What setting up a camera changes: registers and imaging. -/
def takeCamera (h g : Hw) : Hw := { h with rf := g.rf, img := g.img }

/-- What the holes of a camera change: registers, occurrences to be recorded, operations, and imaging. -/
def takeHoles (h g : Hw) : Hw := { h with rf := g.rf, diag := g.diag, rng := g.rng, img := g.img }

theorem showShares_onlyChanges (h : Hw) : OnlyChanges [3] takeCamera h (showShares h) :=
  ⟨(RegsKept.refl.put (Nat.zero_le 1) (by decide)).put (Nat.le_refl 1) (by decide), rfl⟩

theorem camEnable_onlyChanges (h : Hw) {c : Nat} (hc : c ≤ 15) : OnlyChanges [3] takeCamera h (camEnable h c) := by
  unfold camEnable
  dsimp only
  split
  · exact ⟨.refl, rfl⟩
  · split
    · exact ⟨RegsKept.refl.put hc (by decide), rfl⟩
    · refine OnlyChanges.trans ?_ (showShares_onlyChanges _) fun _ _ _ => rfl
      refine OnlyChanges.put (OnlyChanges.put ?_ hc (by decide) fun _ _ _ => rfl) hc (by decide) fun _ _ _ => rfl
      exact ⟨(RegsKept.refl.put hc (by decide)).setCam, rfl⟩

theorem camGeom_onlyChanges (h : Hw) {c : Nat} (hc : c ≤ 15) (v : Word) : OnlyChanges [3] takeCamera h (camGeom h c v) := by
  unfold camGeom
  split
  · exact ⟨.refl, rfl⟩
  · exact ⟨((RegsKept.refl.setReg hc (by decide)).put hc (by decide)).setCam, rfl⟩

theorem finishId_onlyChanges (h : Hw) (id st t a b c d : Nat) : OnlyChanges [3] takeHoles h (h.finishId id st t a b c d) := by
  unfold Hw.finishId
  split
  · split
    · exact ⟨.refl, rfl⟩
    · exact ⟨.of_rf_eq rfl, rfl⟩
  · exact ⟨.refl, rfl⟩

theorem countHole_onlyChanges (h : Hw) {c : Nat} (hc : c ≤ 15) : OnlyChanges [3] takeHoles h (countHole h c) :=
  ⟨(RegsKept.refl.bump hc (by decide)).log true, rfl⟩

theorem holeRec_onlyChanges (h : Hw) {c : Nat} (hc : c ≤ 15) (r : FrameRec) (cause : Nat) (raw : Bool) :
    OnlyChanges [3] takeHoles h (holeRec h c r cause raw) := by
  unfold holeRec
  refine OnlyChanges.trans ?_ (finishId_onlyChanges ..) fun _ _ _ => rfl
  refine OnlyChanges.trans ?_ (countHole_onlyChanges _ hc) fun _ _ _ => rfl
  exact ⟨RegsKept.refl.setCam, rfl⟩

/-- Steps that each keep within the frame of holes keep within it together. -/
theorem foldl_takeHoles {α : Type} {step : Hw → α → Hw} (hstep : ∀ g x, OnlyChanges [3] takeHoles g (step g x)) (l : List α)
    (h : Hw) : OnlyChanges [3] takeHoles h (l.foldl step h) :=
  List.foldlRecOn l step ⟨.refl, rfl⟩ fun g hg x _ => hg.trans (hstep g x) fun _ _ _ => rfl

theorem holeAll_onlyChanges (h : Hw) {c : Nat} (hc : c ≤ 15) (cause : Nat) (test : FrameRec → Bool) :
    OnlyChanges [3] takeHoles h (holeAll h c cause test) :=
  foldl_takeHoles (fun g r => holeRec_onlyChanges g hc r cause false) _ h

theorem endCci_onlyChanges (h : Hw) (c : Nat) : OnlyChanges [3] takeHoles h (endCci h c) :=
  foldl_takeHoles (step := fun g f => g.finish f ST_LINK_DOWN g.tb) (fun _ _ => ⟨.of_rf_eq rfl, rfl⟩) _ h

theorem execCameraEnable_frame {hart : Fin 19} {c : Fin 16} (ht : execCameraEnable dt hart c s = .next t) :
    OnlyChanges [3] takeCamera (s.hw.elapse dt) t.hw := by
  refine run_onlyChanges ht (fun _ => rfl) fun h => ?_
  split
  · exact camEnable_onlyChanges h c.is_le
  · exact ⟨.refl, rfl⟩

theorem execCameraGeomWrite_frame {hart : Fin 19} {c : Fin 16} {v : Word} (ht : execCameraGeomWrite dt hart c v s = .next t) :
    OnlyChanges [3] takeCamera (s.hw.elapse dt) t.hw := by
  refine run_onlyChanges ht (fun _ => rfl) fun h => ?_
  split
  · exact camGeom_onlyChanges h c.is_le v
  · exact ⟨.refl, rfl⟩

theorem execCameraLinkUp_frame {c : Fin 16} (ht : execCameraLinkUp dt c s = .next t) :
    OnlyChanges [3] (fun h g => { h with rf := g.rf, diag := g.diag }) (s.hw.elapse dt) t.hw := by
  refine run_onlyChanges ht (fun _ => rfl) fun h => ?_
  split
  · exact ⟨((RegsKept.refl.put c.is_le (by decide)).put c.is_le (by decide)).log, rfl⟩
  · exact ⟨.refl, rfl⟩

theorem execCameraLinkDown_frame {c : Fin 16} (ht : execCameraLinkDown dt c s = .next t) :
    OnlyChanges [3] takeHoles (s.hw.elapse dt) t.hw := by
  refine run_onlyChanges ht (fun _ => rfl) fun h => ?_
  dsimp only
  split
  · have hended := (holeAll_onlyChanges h c.is_le 5 fun r => r.samples.isEmpty && !r.ready).trans (endCci_onlyChanges _ c)
      fun _ _ _ => rfl
    generalize endCci (holeAll h c 5 fun r => r.samples.isEmpty && !r.ready) c = g at hended ⊢
    refine hended.trans ?_ fun _ _ _ => rfl
    exact ⟨((RegsKept.refl.setCam.put c.is_le (by decide)).put c.is_le (by decide)).log, rfl⟩
  · exact ⟨.refl, rfl⟩

theorem execCameraTrainingRetry_frame {c : Fin 16} (ht : execCameraTrainingRetry dt c s = .next t) :
    OnlyChanges [3] takeCamera (s.hw.elapse dt) t.hw := by
  refine run_onlyChanges ht (fun _ => rfl) fun h => ?_
  split
  · exact ⟨RegsKept.refl.setCam.put c.is_le (by decide), rfl⟩
  · exact ⟨.refl, rfl⟩

/-! ## Operations of the imaging engine -/

theorem execPost_frame {id : Nat} (ht : execPost dt id s = .next t) :
    OnlyChanges [] (fun h g => { h with rng := g.rng, img := g.img }) (s.hw.elapse dt) t.hw := by
  refine run_onlyChanges ht (fun _ => rfl) fun h => onOp_onlyChanges _ _ _ ⟨.refl, rfl⟩ fun f => ?_
  dsimp only
  split
  · exact ⟨.refl, rfl⟩
  · split <;> exact ⟨.of_rf_eq rfl, rfl⟩

theorem execReprocess_frame {id : Nat} (ht : execReprocess dt id s = .next t) :
    OnlyChanges [] (fun h g => { h with img := g.img }) (s.hw.elapse dt) t.hw := by
  refine run_onlyChanges ht (fun _ => rfl) fun h => onOp_onlyChanges _ _ _ ⟨.refl, rfl⟩ fun f => ?_
  dsimp only
  split
  · exact ⟨.refl, rfl⟩
  · exact ⟨.of_rf_eq rfl, rfl⟩

theorem execCciTimeout_frame {id : Nat} (ht : execCciTimeout dt id s = .next t) :
    OnlyChanges [] (fun h g => { h with rng := g.rng }) (s.hw.elapse dt) t.hw := by
  refine run_onlyChanges ht (fun _ => rfl) fun h => onOp_onlyChanges _ _ _ ⟨.refl, rfl⟩ fun f => ?_
  split
  · exact ⟨.of_rf_eq rfl, rfl⟩
  · exact ⟨.refl, rfl⟩

/-! ## Frames -/

theorem execFrameStart_frame {c vc : Fin 16} {fmt : Fin 8} (ht : execFrameStart dt c vc fmt s = .next t) :
    OnlyChanges [3] takeHoles (s.hw.elapse dt) t.hw := by
  refine run_onlyChanges ht (fun _ => rfl) fun h => ?_
  dsimp only
  split
  · exact ⟨.refl, rfl⟩
  · split
    · exact (holeAll_onlyChanges h c.is_le 2 _).trans ⟨RegsKept.refl.setCam, rfl⟩ fun _ _ _ => rfl
    · split
      · exact ⟨RegsKept.refl.setCam.bump c.is_le (by decide), rfl⟩
      · exact ⟨(RegsKept.refl.setCam.bump c.is_le (by decide)).log true, rfl⟩

theorem execElasticBufferOverflow_frame (ht : execElasticBufferOverflow dt s = .next t) :
    OnlyChanges [3] takeHoles (s.hw.elapse dt) t.hw := by
  refine run_onlyChanges ht (fun _ => rfl) fun h => ?_
  split
  · split
    · split
      · exact (holeRec_onlyChanges h (Nat.zero_le 15) _ 4 false).trans ⟨RegsKept.refl.log, rfl⟩ fun _ _ _ => rfl
      · exact ⟨.refl, rfl⟩
    · exact ⟨.refl, rfl⟩
  · exact ⟨.refl, rfl⟩

theorem execFrameCapacityOverrun_frame {c : Fin 16} (ht : execFrameCapacityOverrun dt c s = .next t) :
    OnlyChanges [3] takeHoles (s.hw.elapse dt) t.hw := by
  refine run_onlyChanges ht (fun _ => rfl) fun h => ?_
  split
  · split
    · exact holeRec_onlyChanges h c.is_le _ 3 false
    · exact ⟨.refl, rfl⟩
  · exact ⟨.refl, rfl⟩

theorem execArrivalDeadline_frame {c : Fin 16} (ht : execArrivalDeadline dt c s = .next t) :
    OnlyChanges [3] takeHoles (s.hw.elapse dt) t.hw :=
  run_onlyChanges ht (fun _ => rfl) fun h =>
    (holeAll_onlyChanges h c.is_le 2 _).trans (holeAll_onlyChanges _ c.is_le 3 _) fun _ _ _ => rfl

theorem execPipelinePassStart_frame {k : Fin 2} (ht : execPipelinePassStart dt k s = .next t) :
    OnlyChanges [] (fun h g => { h with img := g.img }) (s.hw.elapse dt) t.hw := by
  refine run_onlyChanges ht (fun _ => rfl) fun h => ?_
  dsimp only
  split
  case isTrue => exact ⟨.refl, rfl⟩
  case isFalse =>
    split
    case h_1 => exact ⟨.of_rf_eq rfl, rfl⟩
    case h_2 =>
      split
      · split <;> exact ⟨.of_rf_eq rfl, rfl⟩
      · exact ⟨.refl, rfl⟩

/-- The pipeline that runs the pass of an abandoned frame becomes free before the frame's record becomes a hole. -/
theorem execProcessingDeadline_frame {c : Fin 16} (ht : execProcessingDeadline dt c s = .next t) :
    OnlyChanges [3] takeHoles (s.hw.elapse dt) t.hw := by
  refine run_onlyChanges ht (fun _ => rfl) fun h => foldl_takeHoles (fun g r => ?_) _ h
  refine OnlyChanges.trans ?_ (holeRec_onlyChanges _ c.is_le r 6 true) fun _ _ _ => rfl
  split
  · split
    · exact ⟨.of_rf_eq rfl, rfl⟩
    · exact ⟨.refl, rfl⟩
  · exact ⟨.refl, rfl⟩

end

/-- Settles O39: each command keeps within the frame of its action. -/
theorem waggleAndImagingFrames : Obligations.WaggleAndImagingFrames := by
  unfold Obligations.WaggleAndImagingFrames
  refine ⟨?reservationTakesEffect, ?ppsEdge, ?holdoverEntry, ?domainStopTimeout, ?doorbellRead, ?ringIrqTimer, ?ringDrainDone,
    ?cameraEnable, ?cameraGeomWrite, ?cameraLinkUp, ?cameraLinkDown, ?cameraTrainingRetry, ?post, ?reprocess, ?cciTimeout,
    ?frameStart, ?elasticBufferOverflow, ?frameCapacityOverrun, ?arrivalDeadline, ?pipelinePassStart, ?processingDeadline⟩
  case reservationTakesEffect => exact fun _ _ _ _ ht => (execReservationTakesEffect_frame ht).2
  case ppsEdge => exact fun _ _ _ ht => execPpsEdge_frame ht
  case holdoverEntry => exact fun _ _ _ ht => execHoldoverEntry_frame ht
  case domainStopTimeout => exact fun _ _ _ _ ht => execDomainStopTimeout_frame ht
  case doorbellRead => exact fun _ _ _ _ ht => execDoorbellRead_frame ht
  case ringIrqTimer => exact fun _ _ _ _ ht => (execRingIrqTimer_frame ht).2
  case ringDrainDone => exact fun _ _ _ _ ht => execRingDrainDone_frame ht
  case cameraEnable => exact fun _ _ _ _ _ ht => execCameraEnable_frame ht
  case cameraGeomWrite => exact fun _ _ _ _ _ _ ht => execCameraGeomWrite_frame ht
  case cameraLinkUp => exact fun _ _ _ _ ht => execCameraLinkUp_frame ht
  case cameraLinkDown => exact fun _ _ _ _ ht => execCameraLinkDown_frame ht
  case cameraTrainingRetry => exact fun _ _ _ _ ht => execCameraTrainingRetry_frame ht
  case post => exact fun _ _ _ _ ht => (execPost_frame ht).2
  case reprocess => exact fun _ _ _ _ ht => (execReprocess_frame ht).2
  case cciTimeout => exact fun _ _ _ _ ht => (execCciTimeout_frame ht).2
  case frameStart => exact fun _ _ _ _ _ _ ht => execFrameStart_frame ht
  case elasticBufferOverflow => exact fun _ _ _ ht => execElasticBufferOverflow_frame ht
  case frameCapacityOverrun => exact fun _ _ _ _ ht => execFrameCapacityOverrun_frame ht
  case arrivalDeadline => exact fun _ _ _ _ ht => execArrivalDeadline_frame ht
  case pipelinePassStart => exact fun _ _ _ _ ht => (execPipelinePassStart_frame ht).2
  case processingDeadline => exact fun _ _ _ _ ht => execProcessingDeadline_frame ht

end Sys2Proof.Machine
end

section
/-!
PROOF. Angle domains: what each operation on a domain does to it, moves of a domain in which no slot is armed, and from that the own
effects of the commands on the timebase and the domains (O4).
-/
namespace Sys2Proof.Machine

/-- A command of the logic domain does, while it is on, what its action does once its time has passed. -/
theorem does_of_run {c : Instr} {s : State} {dt : Nat} {act : Hw → Hw} {P : Hw → Prop} (hc : exec c s = run dt s act)
    (hon : s.hw.isOn = true) (hact : P (act (s.hw.elapse dt))) : Does c s P :=
  ⟨_, hc.trans (run_on dt s act hon), rfl, hact⟩

/-- A field that is put to one of two values that fit reads as one of them. -/
theorem get_put_ite (h : Hw) (f : Fld) (i j : Nat) {p : Prop} [Decidable p] {a b : Nat} (ha : a < 2 ^ f.w) (hb : b < 2 ^ f.w)
    (hf : f.lo + f.w ≤ 32) :
    (h.put f (if p then a else b) i j).get f i j = a ∨ (h.put f (if p then a else b) i j).get f i j = b := by
  split
  · exact .inl (get_put_fits _ _ _ _ _ ha hf)
  · exact .inr (get_put_fits _ _ _ _ _ hb hf)

/-! ## Domains -/

@[simp] theorem dom_setDom_same (h : Hw) (i : Nat) (x : Dom) : (h.setDom i x).dom i = x := mgetD_mset_same ..

/-- The domains are a part of Waggle. -/
theorem dom_of_wgl_eq {h g : Hw} (hw : g.wgl = h.wgl) (k : Nat) : g.dom k = h.dom k := by rw [Hw.dom, Hw.dom, hw]

@[simp] theorem dom_put (h : Hw) (f : Fld) (v i j k : Nat) : (h.put f v i j).dom k = h.dom k := dom_of_wgl_eq (put_wgl ..) k
@[simp] theorem dom_log (h : Hw) (ty inst : Nat) (l : Bool) (k : Nat) : (h.log ty inst l).dom k = h.dom k :=
  dom_of_wgl_eq (log_wgl ..) k
@[simp] theorem dom_elapse (h : Hw) (dt k : Nat) : (h.elapse dt).dom k = h.dom k := rfl
@[simp] theorem get_setDom (h : Hw) (k : Nat) (x : Dom) (f : Fld) (i j : Nat) : (h.setDom k x).get f i j = h.get f i j := rfl
@[simp] theorem slots_setDom (h : Hw) (i : Nat) (x : Dom) : (h.setDom i x).wgl.slots = h.wgl.slots := rfl
@[simp] theorem slots_newPred (h : Hw) (i : Nat) (p : Pred) : (h.newPred i p).wgl.slots = h.wgl.slots := rfl
@[simp] theorem diag_newPred (h : Hw) (i : Nat) (p : Pred) : (h.newPred i p).diag = h.diag := rfl

/-- Besides its prediction a domain that takes a new one changes its high-water mark and its history (R81, R89, R118). -/
@[simp] theorem dom_newPred_same (h : Hw) (i : Nat) (p : Pred) : (h.newPred i p).dom i = { h.dom i with
    hwm := max (h.dom i).hwm ((h.dom i).p.at h.wgl.tb), p := p, hist := pruneHist h.wgl.tb ((h.wgl.tb, p) :: (h.dom i).hist) } :=
  (dom_put ..).trans (dom_setDom_same ..)

/-- A new prediction shows its state in WGL_DOM_STATUS. -/
theorem get_state_newPred (h : Hw) (i : Nat) (p : Pred) (hp : p.state < 8) :
    (h.newPred i p).get F.WGL_DOM_STATUS_STATE i = p.state :=
  get_put_fits _ _ _ _ _ hp (by decide)

/-- Counting crossings records no occurrence of an event. -/
theorem diag_settleDom (h : Hw) (i : Nat) : (settleDom h i).diag = h.diag := by
  unfold settleDom
  dsimp only
  split
  · split <;> rfl
  · rfl

/-! ## Moves while no slot is armed -/

section
variable {h : Hw} (hs : h.wgl.slots = [])
include hs

theorem suppressed_of_no_slots (i : Nat) (old new hwm : Int) : suppressed h i old new hwm = 0 := by
  simp only [suppressed, hs, List.filter_nil, List.map_nil, List.sum_nil]

theorem passed_of_no_slots (i : Nat) (old new : Int) : passed h i old new = [] := by
  simp only [passed, hs, List.filter_nil, List.flatMap_nil, sortBy, List.foldr_nil]

/-- Nothing is due before the move. -/
theorem issueDue_of_no_slots (i n : Nat) : issueDue i n h = h := by
  cases n with
  | zero => rfl
  | succ n =>
    simp only [issueDue, firstOf, hs, List.filter_nil, List.filterMap_nil, sortBy, List.foldr_nil, List.head?_nil]

/-- A move that passes no event carries the marks of its domain along and does nothing else. -/
theorem domMove_of_no_slots (i : Nat) (old new hwm : Int) : domMove h i old new hwm =
    h.setDom i { h.dom i with hwm := max (max hwm old) new, acct := new } := by
  unfold domMove
  dsimp only
  rw [suppressed_of_no_slots hs, suppressed_of_no_slots hs, passed_of_no_slots hs]
  rfl

/-- The first edge of a domain primes it (R79, R81). -/
theorem domEdge_primes {i : Nat} (hn : (h.dom i).n = 0) (d : Int) :
    ((domEdge h i d).dom i).n = 1 ∧ ((domEdge h i d).dom i).p.state = 1 ∧ ((domEdge h i d).dom i).lastAt = h.now := by
  unfold domEdge
  rw [issueDue_of_no_slots hs]
  simp only [hn, bne_self_eq_false, Bool.false_and, Bool.false_eq_true, if_false, or_true, true_or, if_true]
  rw [domMove_of_no_slots (by simp only [put_wgl, slots_newPred, slots_setDom, hs])]
  simp only [dom_setDom_same, dom_put, dom_newPred_same, heldPred, and_self]

/-- An index pulse sets index 0 of its domain and starts the count of edges again (R76, R77). -/
theorem domIndex_sets_index (i : Nat) : (domIndex h i).get F.WGL_DOM_STATUS_IDX_SEEN i = 1 ∧
    ((domIndex h i).dom i).idx = 0 ∧ ((domIndex h i).dom i).cnt = 0 := by
  unfold domIndex
  rw [issueDue_of_no_slots hs]
  dsimp only
  rw [domMove_of_no_slots (by
    simp only [put_wgl, slots_newPred, slots_setDom, apply_ite Hw.wgl, log_wgl, ite_self, hs])]
  simp only [dom_setDom_same, dom_put, dom_newPred_same, get_setDom, and_self, and_true]
  exact get_put_fits _ F.WGL_DOM_STATUS_IDX_SEEN 1 _ _ (by decide) (by decide)

/-- An update is an edge at its time of validity; updates still held stay held (R84). -/
theorem domUpdate_takes_in (i : Nat) (u : Upd) (level : Bool) : ((domUpdate h i u level).dom i).held = (h.dom i).held ∧
    ((domUpdate h i u level).dom i).tLast = u.tov ∧ ((domUpdate h i u level).dom i).lastAt = h.now := by
  unfold domUpdate
  rw [issueDue_of_no_slots hs]
  dsimp only
  rw [domMove_of_no_slots (by
    simp only [put_wgl, slots_newPred, slots_setDom, apply_ite Hw.wgl, log_wgl, ite_self, hs])]
  simp only [dom_setDom_same, dom_put, dom_newPred_same, and_self]

end

/-! ## The commands -/

section
variable {dt : Nat} {s : State} (hon : s.hw.isOn = true)
include hon

theorem ppsEdge_disciplines {g te : Int} (hdue : ppsDue (s.hw.elapse dt) = some (g, te))
    (hen : s.hw.flag F.WGL_CTRL_DISC_EN = true) (hval : s.hw.flag F.GNS_CLK_STATUS_PPS_VALID = true) :
    Does (.ppsEdge dt) s fun h => h.gns.lastSec = some g ∧ (h.get F.WGL_STATUS_DISC = 1 ∨ h.get F.WGL_STATUS_DISC = 2) := by
  refine does_of_run (show execPpsEdge dt s = _ from rfl) hon ?_
  simp only [hdue, elapse_flag, hen, hval, Bool.and_self, if_true]
  generalize qsub (mkQ _ 2) _ = off
  obtain ⟨x, n, hround⟩ := openRound_changes_freeCtr
    (Hw.fresh { s.hw.elapse dt with gns := { (s.hw.elapse dt).gns with lastSec := some g } }).2 off
  rw [hround]
  simp only [put_gns, putS_gns]
  exact ⟨rfl, (get_put_ite _ F.WGL_STATUS_DISC 0 0 (by decide) (by decide) (by decide)).symm⟩

theorem holdoverEntry_from_locked (hval : s.hw.flag F.GNS_CLK_STATUS_PPS_VALID = false) (hlock : s.hw.get F.WGL_STATUS_DISC = 2) :
    Does (.holdoverEntry dt) s fun h => h.get F.WGL_STATUS_DISC = 3 ∧ h.diag = s.hw.diag ++ [⟨0x0205, 0xFFFF, false⟩] ∧
      h.wgl.corr = s.hw.wgl.corr := by
  refine does_of_run (show execHoldoverEntry dt s = _ from rfl) hon ?_
  simp only [elapse_flag, hval, elapse_get, hlock, Bool.false_eq_true, if_false, if_true]
  exact ⟨get_put_fits _ F.WGL_STATUS_DISC 3 0 0 (by decide) (by decide), rfl, rfl⟩

theorem domainCfgWrite_divider {hart : Fin 19} {i : Fin 16} {v : Word} (hp0 : s.hw.byP0 hart = true)
    (hoff : s.hw.get F.WGL_DOM_CFG_TYPE i = 0) (hv : 1 ≤ v.toNat) :
    Does (.domainCfgWrite dt hart i true v) s fun h => h.get F.WGL_DOM_DIV_DIV i = v.toNat := by
  refine does_of_run rfl hon ?_
  have hp0' : (s.hw.elapse dt).byP0 hart = true := hp0
  simp only [hp0', if_true, domCfgWrite, elapse_get, hoff, beq_self_eq_true, Nat.max_eq_right hv]
  exact get_put_fits _ F.WGL_DOM_DIV_DIV v.toNat i 0 v.isLt (by decide)

theorem domainEdge_primes {i : Fin 16} {level : Bool} (htype : s.hw.get F.WGL_DOM_CFG_TYPE i ≠ 0)
    (hsrc : s.hw.get F.WGL_DOM_CFG_SRC i = 0) (hs : s.hw.wgl.slots = []) (hn : (s.hw.dom i).n = 0) :
    Does (.domainEdge dt i level) s fun h =>
      (h.dom i).n = 1 ∧ (h.dom i).p.state = 1 ∧ (h.dom i).lastAt = s.hw.now + dt := by
  refine does_of_run rfl hon ?_
  simp only [elapse_get, htype, hsrc, ne_eq, not_false_iff, and_self, if_true]
  exact domEdge_primes (h := s.hw.elapse dt) hs hn _

theorem indexEdge_sets_index {i : Fin 16} (hrot : s.hw.domRotary i = true) (hen : s.hw.flag F.WGL_DOM_CFG_IDX_EN i = true)
    (hs : s.hw.wgl.slots = []) : Does (.indexEdge dt i) s fun h =>
      h.get F.WGL_DOM_STATUS_IDX_SEEN i = 1 ∧ (h.dom i).idx = 0 ∧ (h.dom i).cnt = 0 := by
  refine does_of_run rfl hon ?_
  have hrot' : (s.hw.elapse dt).domRotary i = true := hrot
  simp only [hrot', elapse_flag, hen, Bool.and_self, if_true]
  exact domIndex_sets_index (h := s.hw.elapse dt) hs i

theorem domainStopTimeout_stops {i : Fin 16} (hrun : (s.hw.dom i).p.state = 2)
    (hlate : (s.hw.dom i).lastAt + 1000 * s.hw.get F.WGL_DOM_STOP_TIMEOUT i ≤ s.hw.now + dt) :
    Does (.domainStopTimeout dt i) s fun h => (h.dom i).p.state = 4 ∧ h.get F.WGL_DOM_STATUS_STATE i = 4 ∧
      h.diag = s.hw.diag ++ [⟨0x0201, i, false⟩] := by
  refine does_of_run rfl hon ?_
  simp only [dom_elapse, elapse_get, elapse_now, hrun, hlate, true_or, or_true, and_self, if_true]
  refine ⟨?_, ?_, ?_⟩
  · simp only [dom_log, dom_newPred_same, heldPred]
  · rw [log_get]
    exact get_state_newPred _ i (heldPred 4 _ _ _) (by decide : 4 < 8)
  · rw [Hw.log, diag_newPred, diag_settleDom, elapse_diag]

/-- An update that arrives before its time of validity is held (R84). -/
theorem fusionUpdateArrival_holds {i : Fin 16} {level : Bool} {u : Upd} {r : List Upd} (hsent : mgetD s.hw.wgl.sent i [] = u :: r)
    (htype : s.hw.get F.WGL_DOM_CFG_TYPE i = 2) (hsrc : s.hw.get F.WGL_DOM_CFG_SRC i = 1)
    (hearly : ((s.hw.elapse dt).wgl.tb : Int) < u.tov) : Does (.fusionUpdateArrival dt i level) s fun h =>
      (h.dom i).held = (s.hw.dom i).held ++ [u] ∧ mgetD h.wgl.sent i [] = r := by
  refine does_of_run (show execFusionUpdateArrival dt i level s = _ from rfl) hon ?_
  have hsent' : mgetD (s.hw.elapse dt).wgl.sent i [] = u :: r := hsent
  have htype' : Hw.get { s.hw.elapse dt with wgl := { (s.hw.elapse dt).wgl with sent := mset (s.hw.elapse dt).wgl.sent i r } }
    F.WGL_DOM_CFG_TYPE i = 2 := htype
  have hsrc' : Hw.get { s.hw.elapse dt with wgl := { (s.hw.elapse dt).wgl with sent := mset (s.hw.elapse dt).wgl.sent i r } }
    F.WGL_DOM_CFG_SRC i = 1 := hsrc
  simp only [hsent', htype', hsrc', hearly, and_self, if_true, dom_setDom_same]
  exact ⟨rfl, mgetD_mset_same ..⟩

/-- At its time of validity a held update is taken in (R84). -/
theorem heldUpdateApply_takes_in {i : Fin 16} {level : Bool} {u : Upd} {r : List Upd} (hheld : (s.hw.dom i).held = u :: r)
    (hdue : u.tov ≤ ((s.hw.elapse dt).wgl.tb : Int)) (hs : s.hw.wgl.slots = []) : Does (.heldUpdateApply dt i level) s fun h =>
      (h.dom i).held = r ∧ (h.dom i).tLast = u.tov ∧ (h.dom i).lastAt = s.hw.now + dt := by
  refine does_of_run (show execHeldUpdateApply dt i level s = _ from rfl) hon ?_
  simp only [dom_elapse, hheld, hdue, if_true]
  have htaken := domUpdate_takes_in (h := (s.hw.elapse dt).setDom i { s.hw.dom i with held := r }) hs i u level
  rw [dom_setDom_same] at htaken
  exact htaken

end

/-- Settles O4: one command after another, each from its own effect. -/
theorem waggleTimebaseAndEdgesComplete : Obligations.WaggleTimebaseAndEdgesComplete := by
  unfold Obligations.WaggleTimebaseAndEdgesComplete
  refine ⟨?ppsEdge, ?holdoverEntry, ?domainCfgWrite, ?domainEdge, ?indexEdge, ?domainStopTimeout, ?fusionUpdateArrival,
    ?heldUpdateApply⟩
  case ppsEdge => exact fun _ _ _ _ hon hdue hen hval => ppsEdge_disciplines hon hdue hen hval
  case holdoverEntry => exact fun _ _ hon hval hlock => holdoverEntry_from_locked hon hval hlock
  case domainCfgWrite => exact fun _ _ _ _ _ hon hp0 hoff hv _ => domainCfgWrite_divider hon hp0 hoff hv
  case domainEdge => exact fun _ _ _ _ hon htype hsrc hs hn => domainEdge_primes hon htype hsrc hs hn
  case indexEdge => exact fun _ _ _ hon hrot hen hs => indexEdge_sets_index hon hrot hen hs
  case domainStopTimeout => exact fun _ _ _ hon hrun hlate => domainStopTimeout_stops hon hrun hlate
  case fusionUpdateArrival =>
    exact fun _ _ _ _ _ _ hon hsent htype hsrc hearly => fusionUpdateArrival_holds hon hsent htype hsrc hearly
  case heldUpdateApply => exact fun _ _ _ _ _ _ hon hheld hdue hs => heldUpdateApply_takes_in hon hheld hdue hs

end Sys2Proof.Machine
end

section
/-!
PROOF. Commands that a hart may not give: a hart whose partition does not run performs no access (O45), and a command that partition 0
alone may give does nothing for a hart that does not run for it (O46).
-/
namespace Sys2Proof.Machine

/-! ## Commands without an effect -/

/-- A command of the logic domain whose action changes nothing changes nothing of the module but for the passing of time. -/
theorem run_hw_of_act_eq {dt : Nat} {s t : State} {act : Hw → Hw} (ht : run dt s act = .next t)
    (hact : act (s.hw.elapse dt) = s.hw.elapse dt) : t.hw = { s.hw with wgl := s.hw.wgl.elapse dt } := by
  rw [run_eq_elapse_of_act_eq fun _ => hact] at ht
  cases ht
  rfl

@[simp] theorem elapse_byP0 (h : Hw) (dt hart : Nat) : (h.elapse dt).byP0 hart = h.byP0 hart := rfl

/-! ## Harts of partitions that do not run -/

/-- A hart is held: its partition is not RUNNING (R197). -/
def Hw.Held (h : Hw) (t : Nat) : Prop := ∃ p, h.hartPart t = some p ∧ h.partState p ≠ 3

theorem Hw.Held.elapse {h : Hw} {t : Nat} (hh : h.Held t) (dt : Nat) : (h.elapse dt).Held t := hh

/-- A held hart performs no access, whatever the address, the size and the value (R190). -/
theorem hartAccess_of_held {h : Hw} {t : Nat} (hh : h.Held t) (a lg : Nat) (st : Option Nat) : hartAccess h t a lg st = h := by
  obtain ⟨p, hp, hst⟩ := hh
  simp only [hartAccess, hp, hst, false_and, if_false]

theorem hartReg_of_held {h : Hw} {t : Nat} (hh : h.Held t) (page off : Nat) (st : Option Word) : hartReg h t page off st = h :=
  hartAccess_of_held hh _ _ _

section
variable {dt : Nat} {s t : State} {hart : Fin 19} (hh : s.hw.Held hart)
include hh

theorem execRegisterWrite_of_held {page : Fin 20} {off : BitVec 16} {v : Word} (ht : execRegisterWrite dt hart page off v s = .next t) :
    t.hw = { s.hw with wgl := s.hw.wgl.elapse dt } :=
  run_hw_of_act_eq ht (hartReg_of_held (hh.elapse dt) _ _ _)

theorem execRegisterReadClear_of_held {page : Fin 20} {off : BitVec 16} (ht : execRegisterReadClear dt hart page off s = .next t) :
    t.hw = { s.hw with wgl := s.hw.wgl.elapse dt } := by
  refine run_hw_of_act_eq ht ?_
  simp only [hartReg_of_held (hh.elapse dt), ite_self]
  split <;> rfl

theorem execLoRegisterRead_of_held {page : Fin 20} {off : BitVec 16} (ht : execLoRegisterRead dt hart page off s = .next t) :
    t.hw = { s.hw with wgl := s.hw.wgl.elapse dt } := by
  refine run_hw_of_act_eq ht ?_
  simp only [hartReg_of_held (hh.elapse dt), ite_self]
  split <;> rfl

theorem execHiRegisterWrite_of_held {page : Fin 20} {off : BitVec 16} {v : Word}
    (ht : execHiRegisterWrite dt hart page off v s = .next t) : t.hw = { s.hw with wgl := s.hw.wgl.elapse dt } := by
  refine run_hw_of_act_eq ht ?_
  simp only [hartReg_of_held (hh.elapse dt), ite_self]
  split <;> rfl

theorem execCoreMemoryAccess_of_held {addr : DWord} {lg : Fin 4} {st : Option DWord}
    (ht : execCoreMemoryAccess dt hart addr lg st s = .next t) : t.hw = { s.hw with wgl := s.hw.wgl.elapse dt } :=
  run_hw_of_act_eq ht (hartAccess_of_held (hh.elapse dt) _ _ _)

theorem execUnmappedAccess_of_held {addr : DWord} {st : Option Word} (ht : execUnmappedAccess dt hart addr st s = .next t) :
    t.hw = { s.hw with wgl := s.hw.wgl.elapse dt } := by
  refine run_hw_of_act_eq ht ?_
  simp only [hartAccess_of_held (hh.elapse dt), ite_self]

theorem execDoorbellStore_of_held {addr : DWord} {v : Word} (ht : execDoorbellStore dt hart addr v s = .next t) :
    t.hw = { s.hw with wgl := s.hw.wgl.elapse dt } := by
  refine run_hw_of_act_eq ht ?_
  simp only [hartAccess_of_held (hh.elapse dt), ite_self]
  split <;> rfl

end

/-- Settles O45: every access goes through `hartAccess`, which performs none for a held hart (R190, R197). -/
theorem heldHartsAccessNothing : Obligations.HeldHartsAccessNothing := by
  unfold Obligations.HeldHartsAccessNothing
  refine ⟨?registerWrite, ?registerReadClear, ?loRegisterRead, ?hiRegisterWrite, ?coreMemoryAccess, ?unmappedAccess, ?doorbellStore⟩
  case registerWrite => exact fun _ _ _ _ _ _ _ p hp hst ht => execRegisterWrite_of_held ⟨p, hp, hst⟩ ht
  case registerReadClear => exact fun _ _ _ _ _ _ p hp hst ht => execRegisterReadClear_of_held ⟨p, hp, hst⟩ ht
  case loRegisterRead => exact fun _ _ _ _ _ _ p hp hst ht => execLoRegisterRead_of_held ⟨p, hp, hst⟩ ht
  case hiRegisterWrite => exact fun _ _ _ _ _ _ _ p hp hst ht => execHiRegisterWrite_of_held ⟨p, hp, hst⟩ ht
  case coreMemoryAccess => exact fun _ _ _ _ _ _ _ p hp hst ht => execCoreMemoryAccess_of_held ⟨p, hp, hst⟩ ht
  case unmappedAccess => exact fun _ _ _ _ _ _ p hp hst ht => execUnmappedAccess_of_held ⟨p, hp, hst⟩ ht
  case doorbellStore => exact fun _ _ _ _ _ _ p hp hst ht => execDoorbellStore_of_held ⟨p, hp, hst⟩ ht

/-! ## Harts that do not run for partition 0 -/

/-- What only a running hart of partition 0 may have done does not come about for another hart. -/
theorem ite_byP0_of_not_byP0 {h : Hw} {hart : Nat} (hp0 : h.byP0 hart = false) (dt : Nat) (g : Hw) :
    (if (h.elapse dt).byP0 hart then g else h.elapse dt) = h.elapse dt := by
  rw [elapse_byP0, hp0, if_neg Bool.false_ne_true]

/-- Neither does it under a further condition. -/
theorem ite_byP0_and_of_not_byP0 {h : Hw} {hart : Nat} (hp0 : h.byP0 hart = false) (dt : Nat) (b : Bool) (g : Hw) :
    (if (h.elapse dt).byP0 hart && b then g else h.elapse dt) = h.elapse dt := by
  rw [elapse_byP0, hp0, Bool.false_and, if_neg Bool.false_ne_true]

/-- Settles O46: `Hw.byP0` guards the action of each command, in REGION_CREATE and REGION_ENABLE_CHANGE together with
STO_REG_CFG.CREATED. -/
theorem onlyTheSupervisorCommands : Obligations.OnlyTheSupervisorCommands := by
  unfold Obligations.OnlyTheSupervisorCommands
  refine ⟨?layoutLoad, ?start, ?stop, ?restart, ?reconfigure, ?regionCreate, ?regionEnableChange, ?delete, ?memErrLatchClear,
    ?write, ?readraw, ?newNonce, ?lock, ?softwareReset, ?go, ?rtcWrite, ?enter⟩
  case layoutLoad => exact fun _ _ _ _ hp0 ht => run_hw_of_act_eq ht (ite_byP0_of_not_byP0 hp0 _ _)
  case start => exact fun _ _ _ _ _ hp0 ht => run_hw_of_act_eq ht (ite_byP0_of_not_byP0 hp0 _ _)
  case stop => exact fun _ _ _ _ _ hp0 ht => run_hw_of_act_eq ht (ite_byP0_of_not_byP0 hp0 _ _)
  case restart => exact fun _ _ _ _ _ hp0 ht => run_hw_of_act_eq ht (ite_byP0_of_not_byP0 hp0 _ _)
  case reconfigure => exact fun _ _ _ _ _ hp0 ht => run_hw_of_act_eq ht (ite_byP0_of_not_byP0 hp0 _ _)
  case regionCreate => exact fun _ _ _ _ _ _ hp0 ht => run_hw_of_act_eq ht (ite_byP0_and_of_not_byP0 hp0 _ _ _)
  case regionEnableChange => exact fun _ _ _ _ _ _ hp0 ht => run_hw_of_act_eq ht (ite_byP0_and_of_not_byP0 hp0 _ _ _)
  case delete => exact fun _ _ _ _ _ hp0 ht => run_hw_of_act_eq ht (ite_byP0_of_not_byP0 hp0 _ _)
  case memErrLatchClear => exact fun _ _ _ _ hp0 ht => run_hw_of_act_eq ht (ite_byP0_of_not_byP0 hp0 _ _)
  case write => exact fun _ _ _ _ hp0 ht => run_hw_of_act_eq ht (ite_byP0_of_not_byP0 hp0 _ _)
  case readraw => exact fun _ _ _ _ hp0 ht => run_hw_of_act_eq ht (ite_byP0_of_not_byP0 hp0 _ _)
  case newNonce => exact fun _ _ _ _ hp0 ht => run_hw_of_act_eq ht (ite_byP0_of_not_byP0 hp0 _ _)
  case lock => exact fun _ _ _ _ hp0 ht => run_hw_of_act_eq ht (ite_byP0_of_not_byP0 hp0 _ _)
  case softwareReset => exact fun _ _ _ _ _ hp0 ht => run_hw_of_act_eq ht (ite_byP0_of_not_byP0 hp0 _ _)
  case go => exact fun _ _ _ _ _ hp0 ht => run_hw_of_act_eq ht (ite_byP0_of_not_byP0 hp0 _ _)
  case rtcWrite => exact fun _ _ _ _ _ hp0 ht => run_hw_of_act_eq ht (ite_byP0_of_not_byP0 hp0 _ _)
  case enter => exact fun _ _ _ _ hp0 ht => run_hw_of_act_eq ht (ite_byP0_of_not_byP0 hp0 _ _)

end Sys2Proof.Machine
end

section
/-!
PROOF. Commands on a port from a hart that does not run for the partition that owns the port (O47).
-/
namespace Sys2Proof.Machine

@[simp] theorem elapse_byOwner (h : Hw) (dt hart port : Nat) : (h.elapse dt).byOwner hart port = h.byOwner hart port := rfl

/-- What only a running hart of the port's owner may have done does not come about for another hart. -/
theorem ite_byOwner_of_not_byOwner {h : Hw} {hart port : Nat} (hown : h.byOwner hart port = false) (dt : Nat) (g : Hw) :
    (if (h.elapse dt).byOwner hart port then g else h.elapse dt) = h.elapse dt := by
  rw [elapse_byOwner, hown, if_neg Bool.false_ne_true]

/-- Neither does it under a further condition. -/
theorem ite_byOwner_and_of_not_byOwner {h : Hw} {hart port : Nat} (hown : h.byOwner hart port = false) (dt : Nat) (b : Bool)
    (g : Hw) : (if (h.elapse dt).byOwner hart port && b then g else h.elapse dt) = h.elapse dt := by
  rw [elapse_byOwner, hown, Bool.false_and, if_neg Bool.false_ne_true]

/-- Settles O47: `Hw.byOwner` guards the action of each command, in CAN_RESTART together with CAN_CTRL.EN. -/
theorem onlyTheOwnerCommandsAPort : Obligations.OnlyTheOwnerCommandsAPort := by
  unfold Obligations.OnlyTheOwnerCommandsAPort
  refine ⟨?cameraEnable, ?cameraDisable, ?cameraGeomWrite, ?solEnable, ?solDisable, ?lswEnable, ?dioEnable, ?fanEnable,
    ?gnsAntEnable, ?canEnable, ?canDisable, ?canRestart, ?ethEnable, ?ethDisable⟩
  case cameraEnable => exact fun _ _ _ _ _ hown ht => run_hw_of_act_eq ht (ite_byOwner_of_not_byOwner hown _ _)
  case cameraDisable => exact fun _ _ _ _ _ hown ht => run_hw_of_act_eq ht (ite_byOwner_of_not_byOwner hown _ _)
  case cameraGeomWrite => exact fun _ _ _ _ _ _ hown ht => run_hw_of_act_eq ht (ite_byOwner_of_not_byOwner hown _ _)
  case solEnable => exact fun _ _ _ _ _ _ hown ht => run_hw_of_act_eq ht (ite_byOwner_of_not_byOwner hown _ _)
  case solDisable => exact fun _ _ _ _ _ _ hown ht => run_hw_of_act_eq ht (ite_byOwner_of_not_byOwner hown _ _)
  case lswEnable => exact fun _ _ _ _ _ _ hown ht => run_hw_of_act_eq ht (ite_byOwner_of_not_byOwner hown _ _)
  case dioEnable => exact fun _ _ _ _ _ _ hown ht => run_hw_of_act_eq ht (ite_byOwner_of_not_byOwner hown _ _)
  case fanEnable => exact fun _ _ _ _ _ _ hown ht => run_hw_of_act_eq ht (ite_byOwner_of_not_byOwner hown _ _)
  case gnsAntEnable => exact fun _ _ _ _ _ _ hown ht => run_hw_of_act_eq ht (ite_byOwner_of_not_byOwner hown _ _)
  case canEnable => exact fun _ _ _ _ _ _ hown ht => run_hw_of_act_eq ht (ite_byOwner_of_not_byOwner hown _ _)
  case canDisable => exact fun _ _ _ _ _ _ hown ht => run_hw_of_act_eq ht (ite_byOwner_of_not_byOwner hown _ _)
  case canRestart => exact fun _ _ _ _ _ hown ht => run_hw_of_act_eq ht (ite_byOwner_and_of_not_byOwner hown _ _ _)
  case ethEnable => exact fun _ _ _ _ _ _ hown ht => run_hw_of_act_eq ht (ite_byOwner_of_not_byOwner hown _ _)
  case ethDisable => exact fun _ _ _ _ _ _ hown ht => run_hw_of_act_eq ht (ite_byOwner_of_not_byOwner hown _ _)

end Sys2Proof.Machine
end

section
/-!
PROOF. Imaging: what each operation does to a camera's own state, to its frame records and to the pipelines, and what stores to memory leave
alone.
-/
namespace Sys2Proof.Machine

/-- The command of a started operation does, while the logic domain is on, what its engine does for the descriptor. -/
theorem does_of_run_onOp {c : Instr} {s : State} {dt id eng op : Nat} {f : Flight} {act : Hw → Flight → Hw} {P : Hw → Prop}
    (hc : exec c s = run dt s fun h => h.onOp id eng op (act h)) (hon : s.hw.isOn = true) (hf : OpRuns s.hw id eng op f)
    (hact : P (act (s.hw.elapse dt) f)) : Does c s P := by
  refine does_of_run hc hon ?_
  rw [onOp_of_opRuns (h := s.hw.elapse dt) hf]
  exact hact

/-! ## A camera's own state and its registers -/

@[simp] theorem cam_setCam_same (h : Hw) (c : Nat) (x : Cam) : (h.setCam c x).cam c = x := mgetD_mset_same ..

/-- The cameras are a part of imaging. -/
theorem cam_of_img_eq {h g : Hw} (hi : g.img = h.img) (c : Nat) : g.cam c = h.cam c := by rw [Hw.cam, Hw.cam, hi]

@[simp] theorem cam_elapse (h : Hw) (dt c : Nat) : (h.elapse dt).cam c = h.cam c := rfl
@[simp] theorem cam_put (h : Hw) (f : Fld) (v i j c : Nat) : (h.put f v i j).cam c = h.cam c := rfl
@[simp] theorem cam_bump (h : Hw) (f : Fld) (i j b c : Nat) : (h.bump f i j b).cam c = h.cam c := rfl
@[simp] theorem cam_log (h : Hw) (ty inst : Nat) (l : Bool) (c : Nat) : (h.log ty inst l).cam c = h.cam c := rfl
@[simp] theorem cam_finish (h : Hw) (f : Flight) (st t a b d e c : Nat) : (h.finish f st t a b d e).cam c = h.cam c := rfl
@[simp] theorem cam_countHole (h : Hw) (k c : Nat) : (countHole h k).cam c = h.cam c := rfl
@[simp] theorem cam_showShares (h : Hw) (c : Nat) : (showShares h).cam c = h.cam c := rfl
@[simp] theorem get_setCam (h : Hw) (c : Nat) (x : Cam) (f : Fld) (i j : Nat) : (h.setCam c x).get f i j = h.get f i j := rfl
@[simp] theorem camOn_elapse (h : Hw) (dt c : Nat) : (h.elapse dt).camOn c = h.camOn c := rfl

/-- Ending an operation by its number changes operations alone. -/
theorem finishId_changes_rng (h : Hw) (id st t a b c d : Nat) : ∃ r, h.finishId id st t a b c d = { h with rng := r } := by
  unfold Hw.finishId
  split
  · split <;> exact ⟨_, rfl⟩
  · exact ⟨_, rfl⟩

@[simp] theorem finishId_img (h : Hw) (id st t a b c d : Nat) : (h.finishId id st t a b c d).img = h.img := by
  obtain ⟨r, hr⟩ := finishId_changes_rng h id st t a b c d
  rw [hr]

@[simp] theorem finishId_rf (h : Hw) (id st t a b c d : Nat) : (h.finishId id st t a b c d).rf = h.rf := by
  obtain ⟨r, hr⟩ := finishId_changes_rng h id st t a b c d
  rw [hr]

@[simp] theorem cam_finishId (h : Hw) (id st t a b d e c : Nat) : (h.finishId id st t a b d e).cam c = h.cam c :=
  cam_of_img_eq (finishId_img ..) c

/-- Registers of one row of a block differ where their fields name different addresses. -/
theorem Fld.at_ne_of_addr_ne {f g : Fld} (hst : f.st1 = g.st1) (ha : f.addr ≠ g.addr) (i : Nat) : f.at i 0 ≠ g.at i 0 := by
  simp only [Fld.at, hst, Nat.zero_mul]
  omega

/-- A put leaves the fields of the other registers of its row alone. -/
theorem get_put_same_row (h : Hw) (f g : Fld) (v i : Nat) (hst : f.st1 = g.st1) (ha : f.addr ≠ g.addr) :
    (h.put f v i).get g i = h.get g i :=
  get_put_other _ _ _ _ _ _ _ _ (Fld.at_ne_of_addr_ne hst ha i)

/-- The SHARE sums stand below every register of a camera. -/
theorem get_showShares (h : Hw) (f : Fld) (i j : Nat) (hf : 0x30004 < f.addr) : (showShares h).get f i j = h.get f i j := by
  have hat : 0x30004 < f.at i j := by
    rw [Fld.at]
    omega
  have hne : ∀ k ≤ 1, F.IMG_PIPE_STATUS_SHARE_SUM.at k 0 ≠ f.at i j := fun k hk => by
    simp only [Fld.at, F.IMG_PIPE_STATUS_SHARE_SUM] at hat ⊢
    omega
  exact (get_put_other _ _ _ _ _ _ _ _ (hne 1 (by decide))).trans (get_put_other _ _ _ _ _ _ _ _ (hne 0 (by decide)))

@[simp] theorem camOn_showShares (h : Hw) (c : Nat) : (showShares h).camOn c = h.camOn c := by
  rw [Hw.camOn, Hw.flag, get_showShares _ _ _ _ (by decide), Hw.camOn, Hw.flag]

@[simp] theorem camOn_put_enable (h : Hw) (v c : Nat) : (h.put F.IMG_CAM_CFG_ENABLE v c).camOn c = (v % 2 != 0) := by
  rw [Hw.camOn, Hw.flag, get_put_same h F.IMG_CAM_CFG_ENABLE]
  rfl

@[simp] theorem camOn_put_link (h : Hw) (v c : Nat) : (h.put F.IMG_CAM_STATUS_LINK v c).camOn c = h.camOn c := by
  rw [Hw.camOn, Hw.flag, get_put_same_row _ F.IMG_CAM_STATUS_LINK F.IMG_CAM_CFG_ENABLE _ _ rfl (by decide), Hw.camOn, Hw.flag]

@[simp] theorem camOn_put_gear (h : Hw) (v c : Nat) : (h.put F.IMG_CAM_STATUS_GEAR v c).camOn c = h.camOn c := by
  rw [Hw.camOn, Hw.flag, get_put_same_row _ F.IMG_CAM_STATUS_GEAR F.IMG_CAM_CFG_ENABLE _ _ rfl (by decide), Hw.camOn, Hw.flag]

/-- LINK keeps its value when GEAR is put. -/
@[simp] theorem get_link_put_gear (h : Hw) (v c : Nat) :
    (h.put F.IMG_CAM_STATUS_GEAR v c).get F.IMG_CAM_STATUS_LINK c = h.get F.IMG_CAM_STATUS_LINK c :=
  get_put_disjoint _ _ _ _ _ _ _ _ (by decide) (by decide)

/-! ## Frame records -/

/-- A hole takes its record out of its camera (R265). -/
theorem recs_holeRec (h : Hw) (c : Nat) (r : FrameRec) (cause : Nat) (raw : Bool) :
    ((holeRec h c r cause raw).cam c).recs = (h.cam c).recs.filter (fun q => q.seq != r.seq) := by
  simp only [holeRec, cam_finishId, cam_countHole, cam_setCam_same]

/-- A hole is counted (R269). -/
theorem get_count_holeRec (h : Hw) (c : Nat) (r : FrameRec) (cause : Nat) (raw : Bool) :
    (holeRec h c r cause raw).get F.IMG_CAM_CNT_COUNT c 1 = satN F.IMG_CAM_CNT_COUNT.w (h.get F.IMG_CAM_CNT_COUNT c 1 + 1) := by
  simp only [holeRec, Hw.get, Hw.reg, finishId_rf]
  exact get_bump_same (h.setCam c _) F.IMG_CAM_CNT_COUNT c 1 1

/-- Steps that each take out the records of one sequence number leave those of no sequence number in the list. -/
theorem mem_recs_foldl {c : Nat} {step : Hw → FrameRec → Hw}
    (hstep : ∀ g r, ((step g r).cam c).recs = (g.cam c).recs.filter (fun q => q.seq != r.seq)) (l : List FrameRec) (h : Hw)
    (q : FrameRec) : q ∈ ((l.foldl step h).cam c).recs ↔ q ∈ (h.cam c).recs ∧ ∀ r ∈ l, q.seq ≠ r.seq := by
  induction l generalizing h with
  | nil => simp only [List.foldl_nil, List.not_mem_nil, false_implies, implies_true, and_true]
  | cons r l ih =>
    simp only [List.foldl_cons, ih, hstep, List.mem_filter, bne_iff_ne, List.forall_mem_cons, and_assoc]

theorem mem_recs_holeAll (h : Hw) (c cause : Nat) (t : FrameRec → Bool) (q : FrameRec) :
    q ∈ ((holeAll h c cause t).cam c).recs ↔ q ∈ (h.cam c).recs ∧ ∀ r ∈ (h.cam c).recs, t r = true → q.seq ≠ r.seq := by
  rw [holeAll, mem_recs_foldl fun g r => recs_holeRec g c r cause false]
  simp only [List.mem_filter, and_imp]

/-- No record that satisfies the test is left. -/
theorem test_of_mem_recs_holeAll {h : Hw} {c cause : Nat} {t : FrameRec → Bool} {q : FrameRec}
    (hq : q ∈ ((holeAll h c cause t).cam c).recs) : t q = false := by
  obtain ⟨hmem, hne⟩ := (mem_recs_holeAll ..).1 hq
  exact Bool.eq_false_iff.2 fun ht => hne q hmem ht rfl

/-! ## Pipelines -/

/-- The pipelines are a part of imaging. -/
theorem pipe_of_img_eq {h g : Hw} (hi : g.img = h.img) (k : Nat) : g.pipe k = h.pipe k := by rw [Hw.pipe, Hw.pipe, hi]

@[simp] theorem pipe_setPipe_same (h : Hw) (k : Nat) (x : Pipe) : (h.setPipe k x).pipe k = x := mgetD_mset_same ..
@[simp] theorem cam_setPipe (h : Hw) (k : Nat) (x : Pipe) (c : Nat) : (h.setPipe k x).cam c = h.cam c := rfl
@[simp] theorem pipe_setCam (h : Hw) (c : Nat) (x : Cam) (k : Nat) : (h.setCam c x).pipe k = h.pipe k := rfl
@[simp] theorem pipe_put (h : Hw) (f : Fld) (v i j k : Nat) : (h.put f v i j).pipe k = h.pipe k := rfl
@[simp] theorem pipe_bump (h : Hw) (f : Fld) (i j b k : Nat) : (h.bump f i j b).pipe k = h.pipe k := rfl
@[simp] theorem pipe_finish (h : Hw) (f : Flight) (st t a b d e k : Nat) : (h.finish f st t a b d e).pipe k = h.pipe k := rfl
@[simp] theorem pipe_finishId (h : Hw) (id st t a b d e k : Nat) : (h.finishId id st t a b d e).pipe k = h.pipe k :=
  pipe_of_img_eq (finishId_img ..) k
@[simp] theorem pipe_elapse (h : Hw) (dt k : Nat) : (h.elapse dt).pipe k = h.pipe k := rfl

/-! ## What stores leave alone -/

/-- Cameras, pipelines and operations are the same in two modules. -/
def ImagingKept (h g : Hw) : Prop := g.img = h.img ∧ g.rng.flights = h.rng.flights

section
variable {h g k : Hw} {w : Who} {a n b c i : Nat}

theorem ImagingKept.refl : ImagingKept h h := ⟨rfl, rfl⟩

theorem ImagingKept.trans (hg : ImagingKept h g) (hk : ImagingKept g k) : ImagingKept h k :=
  ⟨hk.1.trans hg.1, hk.2.trans hg.2⟩

theorem ImagingKept.cam (hg : ImagingKept h g) (c : Nat) : g.cam c = h.cam c := cam_of_img_eq hg.1 c
theorem ImagingKept.pipe (hg : ImagingKept h g) (k : Nat) : g.pipe k = h.pipe k := pipe_of_img_eq hg.1 k
theorem ImagingKept.flight (hg : ImagingKept h g) (id : Nat) : g.flight id = h.flight id := by rw [Hw.flight, Hw.flight, hg.2]

theorem ImagingKept.ite (hg : ImagingKept h g) {p : Prop} [Decidable p] : ImagingKept h (if p then h else g) := by
  split
  · exact .refl
  · exact hg

/-- Steps that each leave imaging alone leave it alone together. -/
theorem foldl_imagingKept {α : Type} {step : Hw → α → Hw} (hstep : ∀ g x, ImagingKept g (step g x)) (l : List α) (h : Hw) :
    ImagingKept h (l.foldl step h) :=
  List.foldlRecOn l step .refl fun g hg x _ => hg.trans (hstep g x)

theorem eccNote_imagingKept (r : Bool) : ImagingKept h (h.eccNote i b a c w r) := by
  unfold Hw.eccNote
  dsimp only
  repeat' split
  all_goals exact ⟨rfl, rfl⟩

theorem eccFixed_imagingKept (r : Bool) : ImagingKept h (h.eccFixed b a c w r) := by
  unfold Hw.eccFixed
  dsimp only
  split <;> exact (eccNote_imagingKept r).trans ⟨rfl, rfl⟩

theorem eccLost_imagingKept : ImagingKept h (h.eccLost b a w) := (eccNote_imagingKept false).trans ⟨rfl, rfl⟩

theorem eccRead_imagingKept (e : EccDev) : ImagingKept h (h.eccRead w n e) := by
  unfold Hw.eccRead
  split
  · exact .refl
  · exact ImagingKept.trans ⟨rfl, rfl⟩ (eccFixed_imagingKept _)
  · refine ImagingKept.trans ?_ eccLost_imagingKept
    split <;> exact ⟨rfl, rfl⟩

theorem scan_imagingKept : ImagingKept h (h.scan w a n).1 := by
  unfold Hw.scan
  split
  · exact .refl
  · exact foldl_imagingKept (fun _ _ => eccRead_imagingKept _) _ h

theorem wrEcc_imagingKept : ImagingKept h (h.wrEcc a n w) := by
  unfold Hw.wrEcc
  dsimp only
  refine ImagingKept.ite (ImagingKept.trans ?_ ⟨rfl, rfl⟩)
  exact (ImagingKept.ite scan_imagingKept).trans (ImagingKept.ite scan_imagingKept)

/-- A store wakes rings at most (R130). -/
theorem wr_imagingKept (bs : List Byte) : ImagingKept h (h.wr a bs w) := by
  unfold Hw.wr
  split
  · exact .refl
  · exact wrEcc_imagingKept.trans ⟨rfl, rfl⟩

theorem scatter_imagingKept (ps : List (Nat × Nat)) (bs : List Byte) : ImagingKept h (scatter h ps bs) := by
  induction ps generalizing h bs with
  | nil => exact .refl
  | cons p ps ih => exact (wr_imagingKept _).trans (ih (bs.drop p.2))

/-- What a pass produces goes to memory (R249). -/
theorem passWrite_imagingKept (d prof : List Byte) (xs : List Nat) : ImagingKept h (passWrite h d prof c xs a b n) := by
  unfold passWrite
  dsimp only
  refine ImagingKept.trans ?_ (foldl_imagingKept (fun _ _ => scatter_imagingKept _ _) (tapList h d) _)
  exact (ImagingKept.ite (scatter_imagingKept _ _)).trans (ImagingKept.ite (wr_imagingKept _))

end

/-! ## Operations and memory -/

/-- An operation that ends has the status it ends with. -/
theorem opEnded_finish {h : Hw} {id : Nat} {f : Flight} (hf : h.flight id = some f) (st t a b c d : Nat) :
    OpEnded (h.finish f st t a b c d) id st := by
  obtain ⟨g, hg, hstage, hstatus, -⟩ := flight_finish hf st t a b c d
  exact ⟨g, hg, hstage, hstatus⟩

/-- Bytes read as they were stored. -/
theorem memRead_memWrite {m : List Host.Cell} (hm : Memory.wf m = true) (a : Nat) (bs : List Byte) :
    memRead (memWrite m a bs) a bs.length = bs := by
  refine List.ext_getElem (by simp only [memRead, List.length_map, List.length_range]) fun i _ hi => ?_
  simp only [memRead, List.getElem_map, List.getElem_range]
  exact memGet_memWrite_inside bs a i hm hi

/-- Bytes stored while no stored word departs from its code word read back. -/
theorem rd_wr_of_ecc_nil {h : Hw} (he : h.ecc = []) (hwf : Memory.wf h.mem = true) (a : Nat) (bs : List Byte) (w : Who) :
    (h.wr a bs w).rd a bs.length = bs := by
  rw [Hw.rd, wr_mem_of_ecc_nil he, memRead_memWrite hwf]

/-! ## Reads of an engine -/

/-- Who an engine is, is open at most. -/
theorem engWho_changes_freeCtr (h : Hw) (eng part : Nat) : ∃ w n, engWho h eng part = (w, { h with freeCtr := n }) := by
  unfold engWho
  split <;> exact ⟨_, _, rfl⟩

/-- Without stored errors an operation reads its pieces and goes on, whatever its engine. -/
theorem engRead_changes_freeCtr {h : Hw} (he : h.ecc = []) (f : Flight) (ps : List (Nat × Nat)) :
    ∃ g, (∃ n, g = { h with freeCtr := n }) ∧ ∀ act, h.engRead f ps act = act g := by
  obtain ⟨w, n, hwho⟩ := engWho_changes_freeCtr h f.eng f.part
  refine ⟨_, ⟨n, rfl⟩, fun act => ?_⟩
  simp only [Hw.engRead, hwho, scanPieces_of_ecc_nil (h := { h with freeCtr := n }) he, if_true]

end Sys2Proof.Machine
end

section
/-!
PROOF. Cameras: setting up, disabling and linking them, and from that the own effects of the commands on cameras and their links (O11,
O51).
-/
namespace Sys2Proof.Machine

/-! ## Setting up and disabling a camera -/

/-- An enabled camera trains its link; its triggers count from 0 (R230, R280). -/
theorem camEnable_of_check_ok {h : Hw} {c : Nat} (hoff : h.camOn c = false) (hok : camCheck h c = ST_OK) :
    (camEnable h c).camOn c = true ∧ (camEnable h c).get F.IMG_CAM_STATUS_LINK c = 1 ∧
      (camEnable h c).get F.IMG_CAM_STATUS_ERR c = ST_OK ∧ ((camEnable h c).cam c).seq = 0 := by
  simp only [camEnable, hoff, hok, Bool.false_eq_true, if_false, ne_eq, not_true_eq_false]
  refine ⟨?_, ?_, ?_, ?_⟩
  · rw [camOn_showShares, camOn_put_link, camOn_put_enable]
    rfl
  · rw [get_showShares _ _ _ _ (by decide), get_put_fits _ F.IMG_CAM_STATUS_LINK 1 _ _ (by decide)]
  · rw [get_showShares _ _ _ _ (by decide),
      get_put_disjoint _ F.IMG_CAM_STATUS_LINK F.IMG_CAM_STATUS_ERR _ _ _ _ _ (by decide) (by decide),
      get_put_same_row _ F.IMG_CAM_CFG_ENABLE F.IMG_CAM_STATUS_ERR _ _ rfl (by decide), get_setCam,
      get_put_fits _ F.IMG_CAM_STATUS_ERR ST_OK _ _ (by decide)]
  · simp only [cam_showShares, cam_put, cam_setCam_same]

/-- Ending posted buffers leaves the camera's state but for them (R272). -/
theorem cam_dropPosted (h : Hw) (c : Nat) : (dropPosted h c).cam c = { h.cam c with posted := [] } := by
  unfold dropPosted
  refine List.foldlRecOn (motive := fun g : Hw => g.cam c = { h.cam c with posted := [] }) _ _ (cam_setCam_same ..)
    fun g hg op _ => ?_
  rw [cam_finishId, cam_countHole, hg]

/-- Ending CCI operations touches no camera's state (R272, R273). -/
theorem cam_endCci (h : Hw) (c k : Nat) : (endCci h c).cam k = h.cam k :=
  List.foldlRecOn (motive := fun g : Hw => g.cam k = h.cam k) _ (fun (g : Hw) f => g.finish f ST_LINK_DOWN g.tb) rfl
    fun _ hg _ _ => hg

/-- A disabled camera has no link, no posted buffer and no open record (R272). -/
theorem camDisable_of_on {h : Hw} {c : Nat} (hon : h.camOn c = true) :
    (camDisable h c).camOn c = false ∧ (camDisable h c).get F.IMG_CAM_STATUS_LINK c = 0 ∧
      ((camDisable h c).cam c).posted = [] ∧ ((camDisable h c).cam c).recs = [] := by
  simp only [camDisable, hon, Bool.not_true, Bool.false_eq_true, if_false]
  refine ⟨?_, ?_, ?_, ?_⟩
  · rw [camOn_showShares, camOn_put_gear, camOn_put_link, camOn_put_enable]
    rfl
  · rw [get_showShares _ _ _ _ (by decide), get_link_put_gear, get_put_fits _ F.IMG_CAM_STATUS_LINK 0 _ _ (by decide)]
  · simp only [cam_showShares, cam_put, cam_setCam_same, cam_endCci, cam_dropPosted]
  · simp only [cam_showShares, cam_put, cam_setCam_same, cam_endCci, cam_dropPosted]
    exact List.eq_nil_iff_forall_not_mem.2 fun q hq => Bool.noConfusion (test_of_mem_recs_holeAll hq)

/-- A written geometry stands in its register and invalidates the camera's profiles (R252). -/
theorem camGeom_of_off {h : Hw} {c : Nat} (hoff : h.camOn c = false) (v : Word) :
    (camGeom h c v).reg (F.IMG_CAM_GEOM_WIDTH.at c 0) = v ∧ (camGeom h c v).get F.IMG_CAM_STATUS_PROF_OK c = 0 ∧
      ((camGeom h c v).cam c).profs = [] := by
  simp only [camGeom, hoff, Bool.false_eq_true, if_false, get_setCam, cam_setCam_same, and_true]
  refine ⟨?_, get_put_fits _ F.IMG_CAM_STATUS_PROF_OK 0 _ _ (by decide)⟩
  have hne : F.IMG_CAM_STATUS_PROF_OK.at c 0 ≠ F.IMG_CAM_GEOM_WIDTH.at c 0 :=
    Fld.at_ne_of_addr_ne (f := F.IMG_CAM_STATUS_PROF_OK) (g := F.IMG_CAM_GEOM_WIDTH) rfl (by decide) c
  exact (reg_put_other _ _ _ _ _ _ hne).trans (reg_setReg_same ..)

/-! ## The commands -/

section
variable {dt : Nat} {s : State} (hon : s.hw.isOn = true)
include hon

theorem cameraEnable_trains {hart : Fin 19} {c : Fin 16} (hown : s.hw.byOwner hart (296 + c) = true)
    (hoff : s.hw.camOn c = false) (hok : camCheck s.hw c = ST_OK) : Does (.cameraEnable dt hart c) s fun h =>
      h.camOn c = true ∧ h.get F.IMG_CAM_STATUS_LINK c = 1 ∧ h.get F.IMG_CAM_STATUS_ERR c = ST_OK ∧ (h.cam c).seq = 0 := by
  refine does_of_run rfl hon ?_
  simp only [elapse_byOwner, hown, if_true]
  exact camEnable_of_check_ok (h := s.hw.elapse dt) hoff hok

theorem cameraDisable_ends {hart : Fin 19} {c : Fin 16} (hown : s.hw.byOwner hart (296 + c) = true)
    (hen : s.hw.camOn c = true) : Does (.cameraDisable dt hart c) s fun h =>
      h.camOn c = false ∧ h.get F.IMG_CAM_STATUS_LINK c = 0 ∧ (h.cam c).posted = [] ∧ (h.cam c).recs = [] := by
  refine does_of_run rfl hon ?_
  simp only [elapse_byOwner, hown, if_true]
  exact camDisable_of_on (h := s.hw.elapse dt) hen

theorem cameraGeomWrite_invalidates {hart : Fin 19} {c : Fin 16} {v : Word} (hown : s.hw.byOwner hart (296 + c) = true)
    (hoff : s.hw.camOn c = false) : Does (.cameraGeomWrite dt hart c v) s fun h =>
      h.reg (F.IMG_CAM_GEOM_WIDTH.at c 0) = v ∧ h.get F.IMG_CAM_STATUS_PROF_OK c = 0 ∧ (h.cam c).profs = [] := by
  refine does_of_run rfl hon ?_
  simp only [elapse_byOwner, hown, if_true]
  exact camGeom_of_off (h := s.hw.elapse dt) hoff v

theorem cameraLinkUp_at_gear {c : Fin 16} (hlink : s.hw.get F.IMG_CAM_STATUS_LINK c = 1) :
    Does (.cameraLinkUp dt c) s fun h => h.get F.IMG_CAM_STATUS_LINK c = 2 ∧
      h.get F.IMG_CAM_STATUS_GEAR c = s.hw.get F.IMG_CAM_CFG_GEAR c ∧ h.diag = s.hw.diag ++ [⟨0x0502, c, false⟩] := by
  refine does_of_run rfl hon ?_
  simp only [elapse_get, hlink, if_true, log_get, get_link_put_gear]
  exact ⟨get_put_fits _ F.IMG_CAM_STATUS_LINK 2 _ _ (by decide),
    get_put_fits _ F.IMG_CAM_STATUS_GEAR _ _ _ (get_lt s.hw F.IMG_CAM_CFG_GEAR c 0), rfl⟩

theorem cameraLinkDown_drops {c : Fin 16} (hlink : s.hw.get F.IMG_CAM_STATUS_LINK c = 2) :
    Does (.cameraLinkDown dt c) s fun h => h.get F.IMG_CAM_STATUS_LINK c = 3 ∧ h.get F.IMG_CAM_STATUS_GEAR c = 0 ∧
      (h.cam c).linkAt = s.hw.now + dt ∧ (h.cam c).incoming = none ∧ h.diag.getLast? = some ⟨0x0501, c, false⟩ := by
  refine does_of_run rfl hon ?_
  simp only [elapse_get, hlink, true_or, if_true, log_get, get_link_put_gear, cam_log, cam_put, cam_setCam_same, elapse_now,
    true_and]
  exact ⟨get_put_fits _ F.IMG_CAM_STATUS_LINK 3 _ _ (by decide), get_put_fits _ F.IMG_CAM_STATUS_GEAR 0 _ _ (by decide),
    List.getLast?_concat⟩

theorem cameraTrainingRetry_trains {c : Fin 16} (hlink : s.hw.get F.IMG_CAM_STATUS_LINK c = 3) (hen : s.hw.camOn c = true)
    (hdue : (s.hw.cam c).linkAt + 500000000 ≤ s.hw.now + dt) : Does (.cameraTrainingRetry dt c) s fun h =>
      h.get F.IMG_CAM_STATUS_LINK c = 1 ∧ (h.cam c).linkAt = s.hw.now + dt := by
  refine does_of_run rfl hon ?_
  simp only [elapse_get, hlink, camOn_elapse, hen, cam_elapse, elapse_now, hdue, and_self, if_true, cam_put, cam_setCam_same,
    and_true]
  exact get_put_fits _ F.IMG_CAM_STATUS_LINK 1 _ _ (by decide)

/-- An acknowledged operation of a camera whose link is up ends with its bytes in the buffer (R246, R273). -/
theorem cci_ends_with_bytes {id : Nat} {data : List Byte} {f : Flight} (hf : OpRuns s.hw id 4 4 f)
    (hlink : s.hw.get F.IMG_CAM_STATUS_LINK (iCam f.desc) = 2) (he : s.hw.ecc = []) (hwf : Memory.wf s.hw.mem = true) :
    Does (.cci dt id true data) s fun h => OpEnded h id ST_OK ∧
      h.rd (fld f.desc 8 8) (fld f.desc 4 1) = padTo (fld f.desc 4 1) data := by
  refine does_of_run_onOp (show execCci dt id true data s = _ from rfl) hon hf ?_
  simp only [elapse_get, hlink, ne_eq, not_true_eq_false, Bool.not_true, Bool.false_eq_true, if_false]
  refine ⟨opEnded_finish (((wr_imagingKept (h := s.hw.elapse dt) _).flight id).trans hf.1) .., ?_⟩
  have hrd := rd_wr_of_ecc_nil (h := s.hw.elapse dt) he hwf (fld f.desc 8 8) (padTo (fld f.desc 4 1) data) {}
  rw [padTo_length] at hrd
  exact hrd

theorem cciTimeout_ends {id : Nat} {f : Flight} (hf : OpRuns s.hw id 4 4 f) (hdue : f.since + 10000000 ≤ s.hw.now + dt) :
    Does (.cciTimeout dt id) s fun h => OpEnded h id ST_CCI_TIMEOUT := by
  refine does_of_run_onOp (show execCciTimeout dt id s = _ from rfl) hon hf ?_
  simp only [elapse_now, hdue, if_true]
  exact opEnded_finish (h := s.hw.elapse dt) hf.1 ..

end

/-- Settles O11: one command after another, each from its own effect. -/
theorem cameraCommandsComplete : Obligations.CameraCommandsComplete := by
  unfold Obligations.CameraCommandsComplete
  refine ⟨?cameraEnable, ?cameraDisable, ?cameraGeomWrite, ?cameraLinkUp, ?cameraLinkDown, ?cameraTrainingRetry, ?cci,
    ?cciTimeout⟩
  case cameraEnable => exact fun _ _ _ _ hon hown hoff hok => cameraEnable_trains hon hown hoff hok
  case cameraDisable => exact fun _ _ _ _ hon hown hen => cameraDisable_ends hon hown hen
  case cameraGeomWrite => exact fun _ _ _ _ _ hon hown hoff => cameraGeomWrite_invalidates hon hown hoff
  case cameraLinkUp => exact fun _ _ _ hon hlink => cameraLinkUp_at_gear hon hlink
  case cameraLinkDown => exact fun _ _ _ hon hlink => cameraLinkDown_drops hon hlink
  case cameraTrainingRetry => exact fun _ _ _ hon hlink hen hdue => cameraTrainingRetry_trains hon hlink hen hdue
  case cci => exact fun _ _ _ _ _ hon hf hlink he hwf => cci_ends_with_bytes hon hf hlink he hwf
  case cciTimeout => exact fun _ _ _ _ hon hf hdue => cciTimeout_ends hon hf hdue

/-- Settles O51: the register and the profiles after a written geometry (R252). -/
theorem cameraGeometryWriteClearsProfiles : Obligations.CameraGeometryWriteClearsProfiles := by
  unfold Obligations.CameraGeometryWriteClearsProfiles
  intro dt s hart c v hon hown hoff
  obtain ⟨t, ht, hpend, hreg, hprofOk, hprofs⟩ := cameraGeomWrite_invalidates (dt := dt) (v := v) hon hown hoff
  exact ⟨t, ht, hpend, hprofOk, hprofs, hreg⟩

end Sys2Proof.Machine
end

section
/-!
PROOF. Frames: what the passes of the pipelines do to frames and their cameras, and from that the own effects of the commands on frames,
profiles and pipelines (O12).
-/
namespace Sys2Proof.Machine

/-! ## Passes and deadlines -/

/-- Counting a pass's pixels touches neither the pass nor cameras, operations and stored errors. -/
theorem countPass_keeps (h : Hw) (k n : Nat) : ((countPass h k n).pipe k).busy = (h.pipe k).busy ∧
    (∀ c, (countPass h k n).cam c = h.cam c) ∧ (∀ id, (countPass h k n).flight id = h.flight id) ∧
    (countPass h k n).ecc = h.ecc := by
  unfold countPass
  dsimp only
  split
  · exact ⟨by rw [pipe_setPipe_same], fun _ => rfl, fun _ => rfl, rfl⟩
  · exact ⟨by rw [pipe_put, pipe_setPipe_same], fun _ => rfl, fun _ => rfl, rfl⟩

@[simp] theorem pipe_frameDone (h : Hw) (c k : Nat) (r : FrameRec) (raw out met taps : Bool) :
    (frameDone h c r raw out met taps).pipe k = h.pipe k := by
  rw [frameDone, pipe_finishId, pipe_bump, pipe_setCam]

/-- A completed frame takes its record out of its camera (R264). -/
theorem recs_frameDone (h : Hw) (c : Nat) (r : FrameRec) (raw out met taps : Bool) :
    ((frameDone h c r raw out met taps).cam c).recs = (h.cam c).recs.filter (fun q => q.seq != r.seq) := by
  simp only [frameDone, cam_finishId, cam_bump, cam_setCam_same]

/-- What is not late is done or before its deadline. -/
theorem or_lt_of_not_and_le {b : Bool} {d t : Nat} (hb : (!b && decide (d ≤ t)) = false) : (b || decide (t < d)) = true := by
  cases b with
  | false => exact decide_eq_true (Nat.not_le.1 (of_decide_eq_false hb))
  | true => rfl

/-! ## The commands -/

section
variable {dt : Nat} {s : State} (hon : s.hw.isOn = true)
include hon

theorem post_joins_queue {id : Nat} {f : Flight} (hf : OpRuns s.hw id 4 1 f)
    (hposted : (s.hw.cam (iCam f.desc)).posted.contains id = false)
    (hopen : (s.hw.cam (iCam f.desc)).recs.any (fun r => r.op == id) = false)
    (hroom : (s.hw.cam (iCam f.desc)).posted.length < 256) : Does (.post dt id) s fun h =>
      (h.cam (iCam f.desc)).posted = (s.hw.cam (iCam f.desc)).posted ++ [id] ∧
      (h.cam (iCam f.desc)).lastRing = some f.ring := by
  refine does_of_run_onOp (show execPost dt id s = _ from rfl) hon hf ?_
  simp only [cam_elapse, hposted, hopen, Bool.or_self, Bool.false_eq_true, if_false, Nat.not_le.2 hroom, cam_setCam_same,
    and_self]

theorem reprocess_joins_queue {id : Nat} {f : Flight} (hf : OpRuns s.hw id 4 2 f)
    (hwaits : (s.hw.pipe (camPipe s.hw (iCam f.desc))).reproc.contains id = false)
    (hruns : (s.hw.pipe (camPipe s.hw (iCam f.desc))).busy.map (·.op) ≠ some id) : Does (.reprocess dt id) s fun h =>
      (h.pipe (camPipe s.hw (iCam f.desc))).reproc = (s.hw.pipe (camPipe s.hw (iCam f.desc))).reproc ++ [id] := by
  refine does_of_run_onOp (show execReprocess dt id s = _ from rfl) hon hf ?_
  have hk : camPipe (s.hw.elapse dt) (iCam f.desc) = camPipe s.hw (iCam f.desc) := rfl
  simp only [hk, pipe_elapse, hwaits, beq_eq_false_iff_ne.2 hruns, Bool.or_self, Bool.false_eq_true, if_false,
    pipe_setPipe_same]

theorem profile_is_kept {id : Nat} {f : Flight} (hf : OpRuns s.hw id 4 3 f) (he : s.hw.ecc = [])
    (hok : profOk (s.hw.rd (fld f.desc 8 8) profLen) (s.hw.camW (iCam f.desc)) (s.hw.camH (iCam f.desc)) = true) :
    Does (.profile dt id) s fun h => OpEnded h id ST_OK ∧
      mget (h.cam (iCam f.desc)).profs (iProf f.desc) = some (s.hw.rd (fld f.desc 8 8) profLen) := by
  refine does_of_run_onOp (show execProfile dt id s = _ from rfl) hon hf ?_
  obtain ⟨g, ⟨n, hg⟩, hread⟩ := engRead_changes_freeCtr (h := s.hw.elapse dt) he f [(fld f.desc 8 8, profLen)]
  have hok' : profOk (g.rd (fld f.desc 8 8) profLen) (g.camW (iCam f.desc)) (g.camH (iCam f.desc)) = true := by
    rw [hg]
    exact hok
  simp only [hread, hok', if_true, cam_finish, cam_put, cam_setCam_same, mget_mset_same]
  refine ⟨opEnded_finish ?_ .., ?_⟩
  · rw [hg]
    exact hf.1
  · rw [hg]
    rfl

/-- The newest eligible record takes the frame; holes are made of older records alone (R239, R240). -/
theorem frameStart_matches_newest {c vc : Fin 16} {fmt : Fin 8} {r : FrameRec} (hlink : s.hw.get F.IMG_CAM_STATUS_LINK c = 2)
    (hvc : vc.val = s.hw.get F.IMG_CAM_CFG_VC c) (hfmt : fmt.val = s.hw.get F.IMG_CAM_CFG_FMT c)
    (hnew : newest ((s.hw.cam c).recs.filter (fun r => !r.started && decide (r.cross + 1000 * s.hw.get F.IMG_CAM_TRIG_FS_MIN c ≤
      (s.hw.elapse dt).wgl.tb))) = some r) : Does (.frameStart dt c vc fmt) s fun h =>
      (h.cam c).incoming = some (some r.seq) ∧ (h.cam c).recs.any (fun q => q.seq == r.seq && q.started) = true := by
  refine does_of_run (show execFrameStart dt c vc fmt s = _ from rfl) hon ?_
  have hmem : r ∈ (s.hw.cam c).recs := (List.mem_filter.1 (List.mem_of_getLast? hnew)).1
  have hfits : ¬ ((s.hw.elapse dt).get F.IMG_CAM_STATUS_LINK c ≠ 2 ∨ vc.val ≠ (s.hw.elapse dt).get F.IMG_CAM_CFG_VC c ∨
      fmt.val ≠ (s.hw.elapse dt).get F.IMG_CAM_CFG_FMT c) := by
    simp only [elapse_get, hlink, ← hvc, ← hfmt, ne_eq, not_true_eq_false, or_self, not_false_eq_true]
  have hnew' : newest (((s.hw.elapse dt).cam c).recs.filter (fun r => !r.started && decide (r.cross + 1000 *
      (s.hw.elapse dt).get F.IMG_CAM_TRIG_FS_MIN c ≤ (s.hw.elapse dt).wgl.tb))) = some r := hnew
  simp only [if_neg hfits, hnew', cam_setCam_same, true_and, List.any_map, List.any_eq_true]
  refine ⟨r, (mem_recs_holeAll ..).2 ⟨hmem, fun q _ hq => ?_⟩, ?_⟩
  · simp only [Bool.and_eq_true, bne_iff_ne] at hq
    exact fun he => hq.2 he.symm
  · simp only [Function.comp_apply, if_true, BEq.rfl, Bool.and_self]

/-- A frame whose samples fill its geometry is ready (R255). -/
theorem frameEnd_makes_ready {c : Fin 16} {xs : List Nat} {q : Nat} {r : FrameRec} {f : Flight}
    (hinc : (s.hw.cam c).incoming = some (some q)) (hrec : (s.hw.cam c).recs.find? (fun r => r.seq == q) = some r)
    (hlen : xs.length = s.hw.camPix c) (hfl : s.hw.flight r.op = some f) : Does (.frameEnd dt c true xs) s fun h =>
      h = frameReady ((s.hw.elapse dt).setCam c { s.hw.cam c with incoming := none }) c r f xs := by
  refine does_of_run (show execFrameEnd dt c true xs s = _ from rfl) hon ?_
  have hpix : xs.length = (s.hw.elapse dt).camPix c := hlen
  have hfl' : (s.hw.elapse dt).flight r.op = some f := hfl
  simp only [cam_elapse, hinc, hrec, hpix, BEq.rfl, Bool.and_self, if_true, hfl']

theorem elasticBufferOverflow_removes {q : Nat} {r : FrameRec} (hinc : (s.hw.cam 0).incoming = some (some q))
    (hpipe : s.hw.get F.IMG_CAM_CFG_PIPE 0 = 0) (hrec : (s.hw.cam 0).recs.find? (fun r => r.seq == q) = some r) :
    Does (.elasticBufferOverflow dt) s fun h => (h.cam 0).recs = (s.hw.cam 0).recs.filter (fun p => p.seq != r.seq) ∧
      h.diag.getLast? = some ⟨0x0505, 0xFFFF, false⟩ := by
  refine does_of_run (show execElasticBufferOverflow dt s = _ from rfl) hon ?_
  simp only [cam_elapse, hinc, elapse_get, hpipe, if_true, hrec, cam_log, recs_holeRec, true_and]
  exact List.getLast?_concat

theorem frameCapacityOverrun_removes {c : Fin 16} {q : Nat} {r : FrameRec} (hinc : (s.hw.cam c).incoming = some (some q))
    (hrec : (s.hw.cam c).recs.find? (fun r => r.seq == q) = some r) : Does (.frameCapacityOverrun dt c) s fun h =>
      (h.cam c).recs = (s.hw.cam c).recs.filter (fun p => p.seq != r.seq) ∧
      h.get F.IMG_CAM_CNT_COUNT c 1 = satN F.IMG_CAM_CNT_COUNT.w (s.hw.get F.IMG_CAM_CNT_COUNT c 1 + 1) := by
  refine does_of_run (show execFrameCapacityOverrun dt c s = _ from rfl) hon ?_
  simp only [cam_elapse, hinc, hrec, recs_holeRec, true_and]
  exact get_count_holeRec ..

/-- Of the records without their frame none stays past its arrival deadline, started or not (R266). -/
theorem arrivalDeadline_leaves_none {c : Fin 16} : Does (.arrivalDeadline dt c) s fun h =>
    (h.cam c).recs.all (fun r => r.ready || decide ((s.hw.elapse dt).wgl.tb < r.arriveBy)) = true := by
  refine does_of_run (show execArrivalDeadline dt c s = _ from rfl) hon (List.all_eq_true.2 fun r hr => ?_)
  have hstarted := test_of_mem_recs_holeAll hr
  have hwaiting := test_of_mem_recs_holeAll ((mem_recs_holeAll ..).1 hr).1
  refine or_lt_of_not_and_le ?_
  cases hst : r.started with
  | false => rwa [hst, Bool.not_false, Bool.and_true] at hwaiting
  | true => rwa [hst, Bool.and_true] at hstarted

/-- The free pipeline starts a frame within share before any other ready frame (R257). -/
theorem pipelinePassStart_starts {k : Fin 2} {x : Nat × FrameRec} (hfree : (s.hw.pipe k).busy = none)
    (hnext : (earliest ((readyFrames s.hw k).filter (·.2.inShare))).or (earliest (readyFrames s.hw k)) = some x) :
    Does (.pipelinePassStart dt k) s fun h =>
      (h.pipe k).busy.map (fun b => (b.cam, b.seq, b.op)) = some (x.1, some x.2.seq, x.2.op) := by
  refine does_of_run (show execPipelinePassStart dt k s = _ from rfl) hon ?_
  have hready : readyFrames (s.hw.elapse dt) k = readyFrames s.hw k := rfl
  simp only [pipe_elapse, hfree, Option.isSome_none, Bool.false_eq_true, if_false, hready, hnext, pipe_setPipe_same,
    Option.map_some]

/-- The pass of a REPROCESS ends with its operation (R264). -/
theorem pipelinePassEnd_ends_reprocess {k : Fin 2} {b : Pass} {f : Flight} (hruns : (s.hw.pipe k).busy = some b)
    (hseq : b.seq = none) (hfl : s.hw.flight b.op = some f) (he : s.hw.ecc = []) : Does (.pipelinePassEnd dt k) s fun h =>
      (h.pipe k).busy = none ∧ OpEnded h b.op ST_OK := by
  refine does_of_run (show execPipelinePassEnd dt k s = _ from rfl) hon ?_
  have hfl' : (s.hw.elapse dt).flight b.op = some f := hfl
  simp only [pipe_elapse, hruns, hfl', hseq]
  obtain ⟨hbusy, -, hflight, hecc⟩ := countPass_keeps ((s.hw.elapse dt).setPipe k { s.hw.pipe k with busy := none }) k
    ((s.hw.elapse dt).camPix b.cam)
  generalize countPass ((s.hw.elapse dt).setPipe k { s.hw.pipe k with busy := none }) k ((s.hw.elapse dt).camPix b.cam) = g
    at hbusy hflight hecc ⊢
  obtain ⟨_, ⟨n, rfl⟩, hread⟩ := engRead_changes_freeCtr (hecc.trans he) f (rawPieces (s.hw.elapse dt) f.desc)
  rw [hread, pipe_finish, (passWrite_imagingKept _ _ _).pipe]
  refine ⟨hbusy.trans (by rw [pipe_setPipe_same]), opEnded_finish (((passWrite_imagingKept _ _ _).flight _).trans ?_) ..⟩
  exact (hflight b.op).trans hfl

/-- The pass of a frame takes the frame's record out of its camera (R264). -/
theorem pipelinePassEnd_completes_frame {k : Fin 2} {b : Pass} {q : Nat} {f : Flight} {r : FrameRec}
    (hruns : (s.hw.pipe k).busy = some b) (hseq : b.seq = some q) (hfl : s.hw.flight b.op = some f)
    (hrec : (s.hw.cam b.cam).recs.find? (fun r => r.seq == q) = some r) : Does (.pipelinePassEnd dt k) s fun h =>
      (h.pipe k).busy = none ∧ (h.cam b.cam).recs = (s.hw.cam b.cam).recs.filter (fun p => p.seq != r.seq) := by
  refine does_of_run (show execPipelinePassEnd dt k s = _ from rfl) hon ?_
  have hfl' : (s.hw.elapse dt).flight b.op = some f := hfl
  simp only [pipe_elapse, hruns, hfl', hseq, cam_elapse, hrec, pipe_frameDone, recs_frameDone,
    (passWrite_imagingKept _ _ _).pipe, (passWrite_imagingKept _ _ _).cam]
  obtain ⟨hbusy, hcams, -, -⟩ := countPass_keeps ((s.hw.elapse dt).setPipe k { s.hw.pipe k with busy := none }) k
    ((s.hw.elapse dt).camPix b.cam)
  exact ⟨hbusy.trans (by rw [pipe_setPipe_same]), by rw [hcams, cam_setPipe, cam_elapse]⟩

/-- Of the frames without their pass none stays past its processing deadline (R259). -/
theorem processingDeadline_leaves_none {c : Fin 16} : Does (.processingDeadline dt c) s fun h =>
    (h.cam c).recs.all (fun r => !r.ready || decide ((s.hw.elapse dt).wgl.tb < r.procBy)) = true := by
  refine does_of_run (show execProcessingDeadline dt c s = _ from rfl) hon (List.all_eq_true.2 fun r hr => ?_)
  rw [mem_recs_foldl] at hr
  · obtain ⟨hopen, hne⟩ := hr
    refine or_lt_of_not_and_le ?_
    rw [Bool.not_not]
    exact Bool.eq_false_iff.2 fun hlate => hne r (List.mem_filter.2 ⟨hopen, hlate⟩) rfl
  · intro g q
    rw [recs_holeRec]
    split
    · split <;> rfl
    · rfl

end

/-- Settles O12: one command after another, each from its own effect. -/
theorem frameCommandsComplete : Obligations.FrameCommandsComplete := by
  unfold Obligations.FrameCommandsComplete
  refine ⟨?post, ?reprocess, ?profile, ?frameStart, ?frameEnd, ?elasticBufferOverflow, ?frameCapacityOverrun,
    ?arrivalDeadline, ?pipelinePassStart, ?reprocessPassEnd, ?framePassEnd, ?processingDeadline⟩
  case post => exact fun _ _ _ _ hon hf hposted hopen hroom => post_joins_queue hon hf hposted hopen hroom
  case reprocess => exact fun _ _ _ _ hon hf hwaits hruns => reprocess_joins_queue hon hf hwaits hruns
  case profile => exact fun _ _ _ _ hon hf he hok => profile_is_kept hon hf he hok
  case frameStart =>
    exact fun _ _ _ _ _ _ hon hlink hvc hfmt hnew => frameStart_matches_newest hon hlink hvc hfmt hnew
  case frameEnd => exact fun _ _ _ _ _ _ _ hon hinc hrec hlen hfl => frameEnd_makes_ready hon hinc hrec hlen hfl
  case elasticBufferOverflow =>
    exact fun _ _ _ _ hon hinc hpipe hrec => elasticBufferOverflow_removes hon hinc hpipe hrec
  case frameCapacityOverrun => exact fun _ _ _ _ _ hon hinc hrec => frameCapacityOverrun_removes hon hinc hrec
  case arrivalDeadline => exact fun _ _ _ hon => arrivalDeadline_leaves_none hon
  case pipelinePassStart => exact fun _ _ _ _ hon hfree hnext => pipelinePassStart_starts hon hfree hnext
  case reprocessPassEnd =>
    exact fun _ _ _ _ _ hon hruns hseq hfl he => pipelinePassEnd_ends_reprocess hon hruns hseq hfl he
  case framePassEnd =>
    exact fun _ _ _ _ _ _ _ hon hruns hseq hfl hrec => pipelinePassEnd_completes_frame hon hruns hseq hfl hrec
  case processingDeadline => exact fun _ _ _ hon => processingDeadline_leaves_none hon

end Sys2Proof.Machine
end

section
/-!
PROOF. Frames of the commands of sensors, yield unit, control engine, valves, load switches and DIO: what the operations that they
share change, and from that what each command leaves unchanged (O40).
-/
namespace Sys2Proof.Machine

/-- What keeps within a frame keeps within every wider one. -/
theorem OnlyChanges.widen {ps : List Nat} {take take' : Hw → Hw → Hw} {h g : Hw} (hk : OnlyChanges ps take h g)
    (htake : ∀ h g, take' h (take h g) = take h g) : OnlyChanges ps take' h g := by
  obtain ⟨hregs, hrest⟩ := hk
  refine ⟨hregs, ?_⟩
  rw [hrest, htake]

theorem OnlyChanges.ite {ps : List Nat} {take : Hw → Hw → Hw} {h g k : Hw} {p : Prop} [Decidable p]
    (hg : OnlyChanges ps take h g) (hk : OnlyChanges ps take h k) : OnlyChanges ps take h (if p then g else k) := by
  split
  · exact hg
  · exact hk

theorem OnlyChanges.log {ps : List Nat} {take : Hw → Hw → Hw} {h g : Hw} (hk : OnlyChanges ps take h g) (ty inst : Nat)
    (l : Bool := false) (htake : ∀ h g d, take h { g with diag := d } = { take h g with diag := d } := by exact fun _ _ _ => rfl) :
    OnlyChanges ps take h (g.log ty inst l) := by
  obtain ⟨hregs, hrest⟩ := hk
  refine ⟨hregs.log l, ?_⟩
  rw [Hw.log, htake, ← hrest]

/-- What reporting a condition changes: registers and occurrences to be recorded. -/
def takeReport (h g : Hw) : Hw := { h with rf := g.rf, diag := g.diag }

theorem put_log_onlyChanges {ps : List Nat} (h : Hw) {f : Fld} {v i n j : Nat} (hi : i ≤ n) (hf : f.LiesOn ps n j)
    (ty inst : Nat) (l : Bool) : OnlyChanges ps takeReport h ((h.put f v i j).log ty inst l) :=
  ⟨(RegsKept.refl.put hi hf).log l, rfl⟩

/-! ## Record buffers -/

/-- What posting and closing record buffers changes: operations and queues of buffers. -/
def takeBuffers (h g : Hw) : Hw := { h with rng := g.rng, bufs := g.bufs }

theorem bufPost_onlyChanges (h : Hw) (k : Nat) (f : Flight) : OnlyChanges [] takeBuffers h (bufPost h k f) := by
  unfold bufPost
  dsimp only
  split
  · exact ⟨.refl, rfl⟩
  · split <;> exact ⟨.of_rf_eq rfl, rfl⟩

theorem bufClose_onlyChanges (h : Hw) (k st : Nat) : OnlyChanges [] takeBuffers h (bufClose h k st) := by
  unfold bufClose
  dsimp only
  split
  · exact ⟨.refl, rfl⟩
  case h_2 id rest _ =>
    obtain ⟨r, hfinish⟩ := finishId_changes_rng (h.setBufq k { bufs := rest }) id st
      (if (h.bufq k).written = 0 then 0 else (h.bufq k).tov) (satN 32 (h.bufq k).drops) (h.bufq k).written 0 0
    rw [hfinish]
    exact ⟨.of_rf_eq rfl, rfl⟩

section
variable {dt id : Nat} {s t : State}

theorem execRecbuf_frame (ht : execRecbuf dt id s = .next t) : OnlyChanges [] takeBuffers (s.hw.elapse dt) t.hw :=
  run_onlyChanges ht (fun _ => rfl) fun h => onOp_onlyChanges _ _ _ ⟨.refl, rfl⟩ fun f => bufPost_onlyChanges h _ f

theorem execDiobuf_frame (ht : execDiobuf dt id s = .next t) : OnlyChanges [] takeBuffers (s.hw.elapse dt) t.hw :=
  run_onlyChanges ht (fun _ => rfl) fun h => onOp_onlyChanges _ _ _ ⟨.refl, rfl⟩ fun f => bufPost_onlyChanges h _ f

theorem execBufferFlushTimeout_frame (ht : execBufferFlushTimeout dt id s = .next t) :
    OnlyChanges [] takeBuffers (s.hw.elapse dt) t.hw := by
  refine run_onlyChanges ht (fun _ => rfl) fun h => ?_
  split
  · split
    · split
      · exact bufClose_onlyChanges h _ _
      · exact ⟨.refl, rfl⟩
    · exact ⟨.refl, rfl⟩
  · exact ⟨.refl, rfl⟩

end

/-! ## Sensors, yield unit, control engine and valves -/

/-- What the yield unit changes as it runs: registers and its own state. -/
def takeYield (h g : Hw) : Hw := { h with rf := g.rf, yld := g.yld }

theorem padsPass_changes_yld (n : Nat) (h : Hw) : ∃ y, padsPass n h = { h with yld := y } := by
  induction n generalizing h with
  | zero => exact ⟨_, rfl⟩
  | succ n ih =>
    unfold padsPass
    dsimp only
    split
    · obtain ⟨y, hy⟩ := ih (h.setYld _)
      exact ⟨y, hy⟩
    · exact ⟨_, rfl⟩

theorem yldAdvance_onlyChanges (h : Hw) : OnlyChanges [4] takeYield h (yldAdvance h) := by
  unfold yldAdvance
  split
  · obtain ⟨y, hy⟩ := padsPass_changes_yld (padAt h (elevHwm h) - h.yld.nextJ + 1).toNat h
    rw [hy]
    exact ⟨RegsKept.put (.of_rf_eq rfl) (Nat.le_refl 0) (by decide), rfl⟩
  · exact ⟨.refl, rfl⟩

theorem yldFault_onlyChanges (h : Hw) (port : Nat) : OnlyChanges [4] takeYield h (yldFault h port) := by
  unfold yldFault
  split
  · exact (yldAdvance_onlyChanges h).trans ⟨.of_rf_eq rfl, rfl⟩ fun _ _ _ => rfl
  · exact ⟨.refl, rfl⟩

theorem yldEnable_onlyChanges (h : Hw) : OnlyChanges [4] takeYield h (yldEnable h) := by
  unfold yldEnable
  dsimp only
  split
  · exact ⟨.refl, rfl⟩
  · split
    · exact ⟨RegsKept.refl.put (Nat.le_refl 0) (by decide), rfl⟩
    · refine ⟨(RegsKept.put ?_ (Nat.le_refl 0) (by decide)).put (Nat.le_refl 0) (by decide), rfl⟩
      exact RegsKept.refl.put (f := F.SFE_YLD_STATUS_ERR) (Nat.le_refl 0) (by decide)

theorem ctlSelWrite_onlyChanges (h : Hw) (v : Nat) :
    OnlyChanges [5] (fun h g => { h with rf := g.rf }) h (ctlSelWrite h v) := by
  refine ⟨RegsKept.setReg ?_ (Nat.le_refl 0) (by decide), rfl⟩
  iterate 6 refine RegsKept.put ?_ (Nat.le_refl 0) (by decide)
  exact .refl

/-- The record window has 32 words (R401). -/
theorem ctlRecRead_onlyChanges (h : Hw) : OnlyChanges [5] (fun h g => { h with rf := g.rf }) h (ctlRecRead h) := by
  refine OnlyChanges.put (n := 0) ?_ (Nat.le_refl 0) (by decide) fun _ _ _ => rfl
  refine List.foldlRecOn _ _ ⟨.refl, rfl⟩ fun g hg i hi => ?_
  exact hg.put (Nat.le_of_lt (List.mem_range.1 hi)) (by decide) fun _ _ _ => rfl

section
variable {dt : Nat} {s t : State}

theorem execImpactBegin_frame {c : Fin 48} (ht : execImpactBegin dt c s = .next t) :
    OnlyChanges [] (fun h g => { h with sfe := g.sfe }) (s.hw.elapse dt) t.hw := by
  refine run_onlyChanges ht (fun _ => rfl) fun h => ?_
  dsimp only
  split
  · split
    · exact ⟨.refl, rfl⟩
    · exact ⟨.of_rf_eq rfl, rfl⟩
  · exact ⟨.refl, rfl⟩

/-- What a fault of a sensor input changes: registers, occurrences to be recorded, the sensor front-end, and the yield unit. -/
def takeSensor (h g : Hw) : Hw := { h with rf := g.rf, diag := g.diag, sfe := g.sfe, yld := g.yld }

theorem execSensorInputFault_frame {port : Fin 512} {openWire range : Bool}
    (ht : execSensorInputFault dt port openWire range s = .next t) :
    OnlyChanges [4] takeSensor (s.hw.elapse dt) t.hw := by
  refine run_onlyChanges ht (fun _ => rfl) fun h => ?_
  have hi : port.val - 326 ≤ 185 := by omega
  dsimp only
  split
  · have hkept : OnlyChanges [4] takeSensor h
        { h with sfe := { h.sfe with faults := mset h.sfe.faults port (openWire, range) } } := ⟨.of_rf_eq rfl, rfl⟩
    have hopen := (hkept.put (f := F.SFE_FAULT_OPEN) (v := 1) (j := 0) hi (by decide) fun _ _ _ => rfl).ite
      (p := openWire = true) hkept
    have hrange := (hopen.put (f := F.SFE_FAULT_RANGE) (v := 1) (j := 0) hi (by decide) fun _ _ _ => rfl).ite
      (p := range = true) hopen
    refine OnlyChanges.put (OnlyChanges.ite ?_ hrange) hi (by decide) fun _ _ _ => rfl
    exact (hrange.trans ((yldFault_onlyChanges _ _).widen fun _ _ => rfl) fun _ _ _ => rfl).log _ _
  · exact ⟨.refl, rfl⟩

theorem execWidth_frame {id : Nat} (ht : execWidth dt id s = .next t) :
    OnlyChanges [] (fun h g => { h with rng := g.rng, yld := g.yld }) (s.hw.elapse dt) t.hw := by
  refine run_onlyChanges ht (fun _ => rfl) fun h => onOp_onlyChanges _ _ _ ⟨.refl, rfl⟩ fun f => ?_
  split <;> exact ⟨.of_rf_eq rfl, rfl⟩

theorem execYieldEnable_frame {hart : Fin 19} {v : Word} (ht : execYieldEnable dt hart v s = .next t) :
    OnlyChanges [4] takeYield (s.hw.elapse dt) t.hw := by
  refine run_onlyChanges ht (fun _ => rfl) fun h => ?_
  split
  · refine OnlyChanges.trans ?_ (yldEnable_onlyChanges _) fun _ _ _ => rfl
    exact ⟨RegsKept.refl.setReg (Nat.le_refl 0) (by decide), rfl⟩
  · exact ⟨.refl, rfl⟩

theorem execCtlSlotSelWrite_frame {hart : Fin 19} {v : Word} (ht : execCtlSlotSelWrite dt hart v s = .next t) :
    OnlyChanges [5] (fun h g => { h with rf := g.rf }) (s.hw.elapse dt) t.hw :=
  run_onlyChanges ht (fun _ => rfl) fun h => (ctlSelWrite_onlyChanges h _).ite ⟨.refl, rfl⟩

theorem execRecCmdRead_frame {hart : Fin 19} (ht : execRecCmdRead dt hart s = .next t) :
    OnlyChanges [5] (fun h g => { h with rf := g.rf }) (s.hw.elapse dt) t.hw :=
  run_onlyChanges ht (fun _ => rfl) fun h => (ctlRecRead_onlyChanges h).ite ⟨.refl, rfl⟩

theorem execClampLimit_frame {c : Fin 48} (ht : execClampLimit dt c s = .next t) :
    OnlyChanges [6] takeReport (s.hw.elapse dt) t.hw :=
  run_onlyChanges ht (fun _ => rfl) fun h => put_log_onlyChanges h c.is_le (by decide) ..

end

/-! ## Load switches -/

/-- What switching an output changes: registers, the state of its tile's outputs, and Smoker's off-pulse (R847). -/
def takeOutput (h g : Hw) : Hw := { h with rf := g.rf, til := g.til, smk := g.smk }

/-- What a fault of an output changes: what switching it changes, and occurrences to be recorded. -/
def takeOutputFault (h g : Hw) : Hw := { h with rf := g.rf, diag := g.diag, til := g.til, smk := g.smk }

section
variable {ps : List Nat} {take : Hw → Hw → Hw} {h g : Hw} {c : Nat}

theorem OnlyChanges.setOut (hk : OnlyChanges ps take h g) (p : Nat) (x : OutCh)
    (htake : ∀ h g m k, take h { g with til := m, smk := k } = { take h g with til := m, smk := k } := by
      exact fun _ _ _ _ => rfl) : OnlyChanges ps take h (g.setOut p x) := by
  obtain ⟨hregs, hrest⟩ := hk
  refine ⟨hregs.trans (.of_rf_eq rfl), ?_⟩
  rw [Hw.setOut, htake, ← hrest]

theorem OnlyChanges.showLs (hk : OnlyChanges [7] take h g) (hc : c ≤ 95)
    (htake : ∀ h g m, take h { g with rf := m } = { take h g with rf := m } := by exact fun _ _ _ => rfl) :
    OnlyChanges [7] take h (showLs g c) :=
  ((hk.put hc (by decide) htake).put hc (by decide) htake).put hc (by decide) htake

theorem OnlyChanges.showDio (hk : OnlyChanges [8] take h g) (hc : c ≤ 127)
    (htake : ∀ h g m, take h { g with rf := m } = { take h g with rf := m } := by exact fun _ _ _ => rfl) :
    OnlyChanges [8] take h (showDio g c) :=
  ((hk.put hc (by decide) htake).put hc (by decide) htake).put hc (by decide) htake

end

theorem lsCfgWrite_onlyChanges (h : Hw) {c : Nat} (hc : c ≤ 95) (v : Nat) : OnlyChanges [7] takeOutput h (lsCfgWrite h c v) := by
  have hcfg (w : Word) : OnlyChanges [7] takeOutput h (h.setReg (F.LSW_CFG_ENABLE.at c 0) w) :=
    ⟨RegsKept.refl.setReg hc (by decide), rfl⟩
  unfold lsCfgWrite
  dsimp only
  split
  · exact (hcfg _).showLs hc
  · split
    · exact (hcfg _).showLs hc
    · refine OnlyChanges.showLs ?_ hc
      have herr := fun w st => (hcfg w).put (f := F.LSW_STATUS_ERR) (v := st) (j := 0) hc (by decide) fun _ _ _ => rfl
      split
      · exact (herr _ _).setOut _ _
      · exact herr _ _

theorem lsFaultClear_onlyChanges (h : Hw) {c : Nat} (hc : c ≤ 95) (v : Nat) (stillHot : Bool) :
    OnlyChanges [7] takeOutput h (lsFaultClear h c v stillHot) := by
  refine OnlyChanges.showLs (OnlyChanges.setOut ?_ _ _) hc
  exact ⟨RegsKept.refl.setReg hc (by decide), rfl⟩

/-- What an answer to the watchdog changes: registers, occurrences to be recorded, its operation, and the state of the hub. -/
def takeWatchdog (h g : Hw) : Hw := { h with rf := g.rf, diag := g.diag, rng := g.rng, til := g.til }

theorem wdFail_onlyChanges (h : Hw) : OnlyChanges [7] takeWatchdog h (wdFail h) :=
  ⟨(RegsKept.bump (.of_rf_eq rfl) (Nat.le_refl 0) (by decide)).log, rfl⟩

/-- An answer that is refused may fail its period, once (R475). -/
theorem OnlyChanges.wdRefused {h g : Hw} (hk : OnlyChanges [7] takeWatchdog h g) (failed : Bool) (f : Flight) (st t : Nat) :
    OnlyChanges [7] takeWatchdog h ((if failed then g else wdFail g).finish f st t) :=
  (hk.ite (hk.trans (wdFail_onlyChanges g) fun _ _ _ => rfl)).trans ⟨.of_rf_eq rfl, rfl⟩ fun _ _ _ => rfl

section
variable {dt : Nat} {s t : State} {c : Fin 96}

theorem execLswEnable_frame {hart : Fin 19} {v : Word} (ht : execLswEnable dt hart c v s = .next t) :
    OnlyChanges [7] takeOutput (s.hw.elapse dt) t.hw :=
  run_onlyChanges ht (fun _ => rfl) fun h => (lsCfgWrite_onlyChanges h c.is_le _).ite ⟨.refl, rfl⟩

theorem execCurrentLimitTimeout_frame {dur : Nat} (ht : execCurrentLimitTimeout dt c dur s = .next t) :
    OnlyChanges [7] takeOutputFault (s.hw.elapse dt) t.hw := by
  refine run_onlyChanges ht (fun _ => rfl) fun h => ?_
  split
  · refine ((OnlyChanges.log ?_ 0x0901 c).setOut _ _).showLs c.is_le
    exact ⟨RegsKept.refl.put c.is_le (by decide), rfl⟩
  · exact ⟨.refl, rfl⟩

theorem execOpenOn_frame (ht : execOpenOn dt c s = .next t) : OnlyChanges [7] takeReport (s.hw.elapse dt) t.hw :=
  run_onlyChanges ht (fun _ => rfl) fun h => (put_log_onlyChanges h c.is_le (by decide) ..).ite ⟨.refl, rfl⟩

theorem execOffHigh_frame (ht : execOffHigh dt c s = .next t) : OnlyChanges [7] takeReport (s.hw.elapse dt) t.hw :=
  run_onlyChanges ht (fun _ => rfl) fun h => (put_log_onlyChanges h c.is_le (by decide) ..).ite ⟨.refl, rfl⟩

theorem execOvertemp_frame (ht : execOvertemp dt c s = .next t) :
    OnlyChanges [7] takeOutputFault (s.hw.elapse dt) t.hw := by
  refine run_onlyChanges ht (fun _ => rfl) fun h => ?_
  dsimp only
  split
  · exact ⟨.refl, rfl⟩
  · refine ((OnlyChanges.put ?_ c.is_le (by decide) fun _ _ _ => rfl).log 0x0903 c).showLs c.is_le
    exact OnlyChanges.setOut ⟨.refl, rfl⟩ _ _

theorem execOvertempRestart_frame (ht : execOvertempRestart dt c s = .next t) :
    OnlyChanges [7] takeOutput (s.hw.elapse dt) t.hw := by
  refine run_onlyChanges ht (fun _ => rfl) fun h => ?_
  dsimp only
  split
  · exact (OnlyChanges.setOut ⟨.refl, rfl⟩ _ _).showLs c.is_le
  · exact ⟨.refl, rfl⟩

theorem execLswFaultClear_frame {hart : Fin 19} {v : Word} {stillHot : Bool}
    (ht : execLswFaultClear dt hart c v stillHot s = .next t) : OnlyChanges [7] takeOutput (s.hw.elapse dt) t.hw :=
  run_onlyChanges ht (fun _ => rfl) fun h => (lsFaultClear_onlyChanges h c.is_le _ _).ite ⟨.refl, rfl⟩

theorem execWatchdogPeriodStart_frame (ht : execWatchdogPeriodStart dt s = .next t) :
    OnlyChanges [7] (fun h g => { h with rf := g.rf, freeCtr := g.freeCtr, til := g.til }) (s.hw.elapse dt) t.hw := by
  refine run_onlyChanges ht (fun _ => rfl) fun h => ?_
  dsimp only
  split
  · refine ⟨(RegsKept.put ?_ (Nat.le_refl 0) (by decide)).put (Nat.le_refl 0) (by decide), rfl⟩
    exact .of_rf_eq rfl
  · exact ⟨.refl, rfl⟩

theorem execWdans_frame {id : Nat} (ht : execWdans dt id s = .next t) :
    OnlyChanges [7] takeWatchdog (s.hw.elapse dt) t.hw := by
  refine run_onlyChanges ht (fun _ => rfl) fun h => onOp_onlyChanges _ _ _ ⟨.refl, rfl⟩ fun f => ?_
  have hcounted : OnlyChanges [7] takeWatchdog h (setHub h { h.til.hub with nAns := h.til.hub.nAns + 1 }) :=
    ⟨.of_rf_eq rfl, rfl⟩
  dsimp only
  split
  · exact ⟨.of_rf_eq rfl, rfl⟩
  · split
    · exact hcounted.wdRefused ..
    · split
      · exact hcounted.wdRefused ..
      · exact ⟨.of_rf_eq rfl, rfl⟩

theorem execFsLock_frame {hart : Fin 19} {tile : Fin 8} (ht : execFsLock dt hart tile s = .next t) :
    OnlyChanges [7] (fun h g => { h with rf := g.rf }) (s.hw.elapse dt) t.hw := by
  refine run_onlyChanges ht (fun _ => rfl) fun h => ?_
  split
  · exact ⟨(RegsKept.refl.put tile.is_le (by decide)).put tile.is_le (by decide), rfl⟩
  · exact ⟨.refl, rfl⟩

end

/-! ## DIO channels -/

/-- What setting up a DIO channel changes: what switching an output changes, and the channel's filter. -/
def takeDio (h g : Hw) : Hw := { h with rf := g.rf, til := g.til, dios := g.dios, smk := g.smk }

theorem syncFilter_onlyChanges (h : Hw) {c : Nat} (hc : c ≤ 127) :
    OnlyChanges [8] (fun h g => { h with rf := g.rf, dios := g.dios }) h (syncFilter h c) := by
  have hdeb : RegsKept [8] h (h.put F.DIO_STATUS_DEB_ACTIVE (b2n (wantDeb h c)) c) := RegsKept.refl.put hc (by decide)
  unfold syncFilter
  dsimp only
  split
  · exact ⟨hdeb, rfl⟩
  · split <;> exact ⟨hdeb, rfl⟩

/-- A channel that is shown after its filter follows a change keeps within the frame of the change. -/
theorem OnlyChanges.showDio_syncFilter {h g : Hw} {c : Nat} (hk : OnlyChanges [8] takeDio h g) (hc : c ≤ 127) :
    OnlyChanges [8] takeDio h (Machine.showDio (syncFilter g c) c) := by
  refine OnlyChanges.showDio ?_ hc
  exact hk.trans ((syncFilter_onlyChanges g hc).widen fun _ _ => rfl) fun _ _ _ => rfl

theorem dioCfgWrite_onlyChanges (h : Hw) {c : Nat} (hc : c ≤ 127) (v : Nat) : OnlyChanges [8] takeDio h (dioCfgWrite h c v) := by
  have hcfg (w : Word) : OnlyChanges [8] takeDio h (h.setReg (F.DIO_CFG_ENABLE.at c 0) w) :=
    ⟨RegsKept.refl.setReg hc (by decide), rfl⟩
  unfold dioCfgWrite
  dsimp only
  split
  · exact (hcfg _).showDio_syncFilter hc
  · split
    · exact (hcfg _).showDio_syncFilter hc
    · refine OnlyChanges.showDio_syncFilter ?_ hc
      have herr := fun w st => (hcfg w).put (f := F.DIO_STATUS_ERR) (v := st) (j := 0) hc (by decide) fun _ _ _ => rfl
      split
      · exact (herr _ _).setOut _ _
      · exact herr _ _

/-- What silence of a tile changes: registers, occurrences to be recorded, and the state of tiles. -/
def takeSilence (h g : Hw) : Hw := { h with rf := g.rf, diag := g.diag, til := g.til }

section
variable {dt : Nat} {s t : State} {c : Fin 128}

theorem execDioEnable_frame {hart : Fin 19} {v : Word} (ht : execDioEnable dt hart c v s = .next t) :
    OnlyChanges [8] takeDio (s.hw.elapse dt) t.hw :=
  run_onlyChanges ht (fun _ => rfl) fun h => (dioCfgWrite_onlyChanges h c.is_le _).ite ⟨.refl, rfl⟩

theorem execFilterChange_frame (ht : execFilterChange dt c s = .next t) :
    OnlyChanges [8] (fun h g => { h with rf := g.rf, dios := g.dios }) (s.hw.elapse dt) t.hw :=
  run_onlyChanges ht (fun _ => rfl) fun h => syncFilter_onlyChanges h c.is_le

theorem execDioOverload_frame (ht : execDioOverload dt c s = .next t) :
    OnlyChanges [8] takeOutputFault (s.hw.elapse dt) t.hw := by
  refine run_onlyChanges ht (fun _ => rfl) fun h => ?_
  split
  · refine ((OnlyChanges.setOut ?_ _ _).log 0x0A01 c).showDio c.is_le
    exact ⟨RegsKept.refl.put c.is_le (by decide), rfl⟩
  · exact ⟨.refl, rfl⟩

theorem execDioFaultDetect_frame {kind : DioFaultKind} (ht : execDioFaultDetect dt c kind s = .next t) :
    OnlyChanges [8] (fun h g => { h with rf := g.rf, diag := g.diag, til := g.til, dios := g.dios, smk := g.smk })
      (s.hw.elapse dt) t.hw := by
  refine run_onlyChanges ht (fun _ => rfl) fun h => ?_
  dsimp only
  split
  case h_1 =>
    exact ((put_log_onlyChanges h c.is_le (by decide) ..).widen fun _ _ => rfl).ite ⟨.refl, rfl⟩
  case h_2 =>
    split
    · refine OnlyChanges.showDio (OnlyChanges.log ?_ 0x0A02 c true) c.is_le
      exact ⟨RegsKept.put (.of_rf_eq rfl) c.is_le (by decide), rfl⟩
    · exact ⟨.refl, rfl⟩
  case h_3 =>
    split
    · refine ((OnlyChanges.put ?_ c.is_le (by decide) fun _ _ _ => rfl).log 0x0A03 c).showDio c.is_le
      exact OnlyChanges.setOut ⟨.refl, rfl⟩ _ _
    · exact ⟨.refl, rfl⟩

/-- Silence is shown at each of the tile's 64 channels (R496). -/
theorem execSilent_frame {tile : Fin 2} (ht : execSilent dt tile s = .next t) :
    OnlyChanges [8] takeSilence (s.hw.elapse dt) t.hw := by
  refine run_onlyChanges ht (fun _ => rfl) fun h => ?_
  dsimp only
  split
  · refine OnlyChanges.log ?_ _ _
    refine List.foldlRecOn (motive := OnlyChanges [8] takeSilence h) _ _ ⟨.of_rf_eq rfl, rfl⟩ fun g hg c hc => ?_
    have hle : c ≤ 127 := by
      obtain ⟨i, hi, rfl⟩ := List.mem_map.1 hc
      have hi64 := List.mem_range.1 hi
      omega
    exact ((hg.put hle (by decide) fun _ _ _ => rfl).ite hg).showDio hle
  · exact ⟨.refl, rfl⟩

theorem execDioOvertempRecovery_frame (ht : execDioOvertempRecovery dt c s = .next t) :
    OnlyChanges [8] takeOutput (s.hw.elapse dt) t.hw :=
  run_onlyChanges ht (fun _ => rfl) fun _ => (OnlyChanges.setOut ⟨.refl, rfl⟩ _ _).showDio c.is_le

theorem execDioOpenWireEnds_frame (ht : execDioOpenWireEnds dt c s = .next t) :
    OnlyChanges [8] (fun h g => { h with rf := g.rf, dios := g.dios }) (s.hw.elapse dt) t.hw := by
  refine run_onlyChanges ht (fun _ => rfl) fun h => OnlyChanges.showDio ?_ c.is_le
  exact ⟨.of_rf_eq rfl, rfl⟩

end

/-- Settles O40: each command keeps within the frame of its action. -/
theorem sensorsAndLoadsFrames : Obligations.SensorsAndLoadsFrames := by
  unfold Obligations.SensorsAndLoadsFrames
  refine ⟨?recbuf, ?bufferFlushTimeout, ?impactBegin, ?width, ?yieldEnable, ?ctlSlotSelWrite, ?recCmdRead, ?clampLimit,
    ?lswEnable, ?currentLimitTimeout, ?openOn, ?offHigh, ?overtemp, ?overtempRestart, ?lswFaultClear, ?watchdogPeriodStart,
    ?wdans, ?fsLock, ?dioEnable, ?diobuf, ?filterChange, ?dioOverload, ?dioFaultDetect, ?silent, ?sensorInputFault,
    ?dioOvertempRecovery, ?dioOpenWireEnds⟩
  case recbuf => exact fun _ _ _ _ ht => (execRecbuf_frame ht).2
  case bufferFlushTimeout => exact fun _ _ _ _ ht => (execBufferFlushTimeout_frame ht).2
  case impactBegin => exact fun _ _ _ _ ht => (execImpactBegin_frame ht).2
  case width => exact fun _ _ _ _ ht => (execWidth_frame ht).2
  case yieldEnable => exact fun _ _ _ _ _ ht => execYieldEnable_frame ht
  case ctlSlotSelWrite => exact fun _ _ _ _ _ ht => execCtlSlotSelWrite_frame ht
  case recCmdRead => exact fun _ _ _ _ ht => execRecCmdRead_frame ht
  case clampLimit => exact fun _ _ _ _ ht => execClampLimit_frame ht
  case lswEnable => exact fun _ _ _ _ _ _ ht => execLswEnable_frame ht
  case currentLimitTimeout => exact fun _ _ _ _ _ ht => execCurrentLimitTimeout_frame ht
  case openOn => exact fun _ _ _ _ ht => execOpenOn_frame ht
  case offHigh => exact fun _ _ _ _ ht => execOffHigh_frame ht
  case overtemp => exact fun _ _ _ _ ht => execOvertemp_frame ht
  case overtempRestart => exact fun _ _ _ _ ht => execOvertempRestart_frame ht
  case lswFaultClear => exact fun _ _ _ _ _ _ _ ht => execLswFaultClear_frame ht
  case watchdogPeriodStart => exact fun _ _ _ ht => execWatchdogPeriodStart_frame ht
  case wdans => exact fun _ _ _ _ ht => execWdans_frame ht
  case fsLock => exact fun _ _ _ _ _ ht => execFsLock_frame ht
  case dioEnable => exact fun _ _ _ _ _ _ ht => execDioEnable_frame ht
  case diobuf => exact fun _ _ _ _ ht => (execDiobuf_frame ht).2
  case filterChange => exact fun _ _ _ _ ht => execFilterChange_frame ht
  case dioOverload => exact fun _ _ _ _ ht => execDioOverload_frame ht
  case dioFaultDetect => exact fun _ _ _ _ _ ht => execDioFaultDetect_frame ht
  case silent => exact fun _ _ _ _ ht => execSilent_frame ht
  case sensorInputFault => exact fun _ _ _ _ _ _ ht => execSensorInputFault_frame ht
  case dioOvertempRecovery => exact fun _ _ _ _ ht => execDioOvertempRecovery_frame ht
  case dioOpenWireEnds => exact fun _ _ _ _ ht => execDioOpenWireEnds_frame ht

end Sys2Proof.Machine
end

section
/-!
PROOF. Sensor front-end: what stores to memory and records to streams change, samples, loss windows and faults of inputs, and from that
the own effects of the commands of the sensor front-end (O13).
-/
namespace Sys2Proof.Machine

/-! ## What records change -/

/-- What writing records changes: registers, memory with its errors and its directory, interrupts, occurrences to be recorded, open
values drawn, operations with their rings, and queues of buffers. -/
def takeRecords (h g : Hw) : Hw :=
  { h with rf := g.rf, mem := g.mem, ecc := g.ecc, eccAt := g.eccAt, dir := g.dir, irqs := g.irqs, diag := g.diag,
           freeCtr := g.freeCtr, rng := g.rng, bufs := g.bufs }

/-- Two modules differ at most in what writing records changes. -/
def OnlyRecords (h g : Hw) : Prop := g = takeRecords h g

section
variable {h g k : Hw} {w : Who} {a b c i n : Nat} {r : Bool} {bs : List Byte}

theorem OnlyRecords.refl : OnlyRecords h h := rfl

theorem OnlyRecords.trans (hg : OnlyRecords h g) (hk : OnlyRecords g k) : OnlyRecords h k := by
  unfold OnlyRecords at hg hk ⊢
  rw [hg] at hk
  exact hk

theorem OnlyRecords.ite {p : Prop} [Decidable p] (hg : OnlyRecords h g) (hk : OnlyRecords h k) :
    OnlyRecords h (if p then g else k) := by
  split
  · exact hg
  · exact hk

/-- The sensor front-end is no part of it. -/
theorem OnlyRecords.sfe (hg : OnlyRecords h g) : g.sfe = h.sfe :=
  (congrArg Hw.sfe hg).trans (rfl : (takeRecords h g).sfe = h.sfe)

/-- Steps that each change only records change only records together. -/
theorem foldl_onlyRecords {α : Type} {step : Hw → α → Hw} (hstep : ∀ g x, OnlyRecords g (step g x)) (l : List α) (h : Hw) :
    OnlyRecords h (l.foldl step h) :=
  List.foldlRecOn l step .refl fun g hg x _ => hg.trans (hstep g x)

/-! ## Stores -/

theorem setReg_onlyRecords (v : Word) : OnlyRecords h (h.setReg a v) := rfl

theorem eccNote_onlyRecords : OnlyRecords h (h.eccNote i b a c w r) := by
  unfold Hw.eccNote
  have hcount : OnlyRecords h (if i = 0 then h.bump F.MEM_ERR_CNT_CE b else h.bump F.MEM_ERR_CNT_UE b) :=
    .ite (setReg_onlyRecords _) (setReg_onlyRecords _)
  refine .ite hcount (hcount.trans ?_)
  exact (setReg_onlyRecords _).trans ((setReg_onlyRecords _).trans (setReg_onlyRecords _))

theorem eccFixed_onlyRecords : OnlyRecords h (h.eccFixed b a c w r) := by
  unfold Hw.eccFixed
  dsimp only
  split <;> exact eccNote_onlyRecords.trans rfl

theorem eccLost_onlyRecords : OnlyRecords h (h.eccLost b a w) := eccNote_onlyRecords.trans rfl

theorem eccRead_onlyRecords (e : EccDev) : OnlyRecords h (h.eccRead w n e) := by
  unfold Hw.eccRead
  split
  · exact .refl
  · refine OnlyRecords.trans ?_ eccFixed_onlyRecords
    rfl
  · refine OnlyRecords.trans ?_ eccLost_onlyRecords
    split <;> rfl

theorem scan_onlyRecords : OnlyRecords h (h.scan w a n).1 := by
  unfold Hw.scan
  split
  · exact .refl
  · exact foldl_onlyRecords (fun _ _ => eccRead_onlyRecords _) _ h

theorem wrEcc_onlyRecords : OnlyRecords h (h.wrEcc a n w) := by
  unfold Hw.wrEcc
  dsimp only
  refine .ite .refl (OnlyRecords.trans ?_ rfl)
  exact (OnlyRecords.ite .refl scan_onlyRecords).trans (.ite .refl scan_onlyRecords)

theorem wr_onlyRecords : OnlyRecords h (h.wr a bs w) := .ite .refl (wrEcc_onlyRecords.trans rfl)

theorem scatter_onlyRecords (ps : List (Nat × Nat)) : OnlyRecords h (scatter h ps bs) := by
  induction ps generalizing h bs with
  | nil => exact .refl
  | cons p ps ih => exact wr_onlyRecords.trans ih

/-! ## Buffers and streams -/

theorem bufStore_onlyRecords {sg : Bool} {f : Flight} : OnlyRecords h (bufStore h sg f a bs) := scatter_onlyRecords _

theorem bufClose_onlyRecords : OnlyRecords h (bufClose h a b) :=
  ((bufClose_onlyChanges h a b).widen (take' := takeRecords) fun _ _ => rfl).2

theorem bufPutAux_onlyRecords (sg : Bool) (fuel : Nat) : OnlyRecords h (bufPutAux sg a bs b fuel h).1 := by
  induction fuel generalizing h with
  | zero => exact .refl
  | succ fuel ih =>
    unfold bufPutAux
    dsimp only
    split
    · exact .refl
    · split
      · exact .refl
      · split
        · exact bufClose_onlyRecords.trans ih
        · exact bufStore_onlyRecords.trans rfl

theorem bufPut_onlyRecords {sg : Bool} : OnlyRecords h (bufPut h sg a bs b).1 := by
  unfold bufPut
  dsimp only
  split
  · exact bufPutAux_onlyRecords sg 66
  · exact (bufPutAux_onlyRecords sg 66).trans rfl

theorem streamPut_onlyRecords {part : Option Nat} : OnlyRecords h (streamPut h a part bs b) := by
  unfold streamPut
  split
  · exact .ite bufPut_onlyRecords (bufPut_onlyRecords.trans rfl)
  · rfl

theorem rawPutAux_onlyRecords (fuel : Nat) : OnlyRecords h (rawPutAux a bs b fuel h).1 := by
  induction fuel generalizing h with
  | zero => exact .refl
  | succ fuel ih =>
    unfold rawPutAux
    dsimp only
    split
    · exact .refl
    · split
      · exact .refl
      · split
        · split
          · exact bufClose_onlyRecords.trans ih
          · exact bufStore_onlyRecords.trans (bufStore_onlyRecords.trans rfl)
        · split
          · exact bufClose_onlyRecords.trans ih
          · obtain ⟨x, m, hround⟩ := openRound_changes_freeCtr h (qmul (h.sfePeriod a) (qi 256))
            rw [hround]
            exact OnlyRecords.trans (g := { h with freeCtr := m }) rfl (bufStore_onlyRecords.trans rfl)

theorem rawPut_onlyRecords : OnlyRecords h (rawPut h a bs b) := by
  unfold rawPut
  dsimp only
  exact .ite (rawPutAux_onlyRecords 66) ((rawPutAux_onlyRecords 66).trans rfl)

end

/-! ## Buffers that are posted and closed -/

@[simp] theorem bufq_setBufq_same (h : Hw) (k : Nat) (q : BufQ) : (h.setBufq k q).bufq k = q := mgetD_mset_same ..

/-- A posted buffer joins a queue that has room for it (R292). -/
theorem bufs_bufPost {h : Hw} {k : Nat} {f : Flight} (hnew : (h.bufq k).bufs.contains f.id = false)
    (hroom : (h.bufq k).bufs.length < 64) : ((bufPost h k f).bufq k).bufs = (h.bufq k).bufs ++ [f.id] := by
  simp only [bufPost, hnew, Nat.not_le.2 hroom, Bool.false_eq_true, if_false, bufq_setBufq_same]

/-- The operation of a closed buffer ends with the status of the close (R294). -/
theorem opEnded_bufClose {h : Hw} {k id : Nat} {rest : List Nat} {f : Flight} (hq : (h.bufq k).bufs = id :: rest)
    (hf : h.flight id = some f) (hst : f.stage ≠ 2) (st : Nat) : OpEnded (bufClose h k st) id st := by
  have hf' : (h.setBufq k { bufs := rest }).flight id = some f := hf
  simp only [bufClose, hq, Hw.finishId, hf', hst, if_false]
  exact opEnded_finish hf' ..

/-! ## Samples, loss windows and faults of inputs -/

/-- The newest samples are a part of the sensor front-end. -/
theorem newest_of_sfe_eq {h g : Hw} (hs : g.sfe = h.sfe) (p : Nat) : g.newest p = h.newest p := by rw [Hw.newest, Hw.newest, hs]

@[simp] theorem newest_keepSample_same (h : Hw) (p t : Nat) (x : Int) : (h.keepSample p t x).newest p = some (t, x) := by
  simp only [Hw.newest, Hw.keepSample, mgetD_mset_same, List.take_succ_cons, List.head?_cons]

theorem newest_keepSample_other (h : Hw) {p q : Nat} (hn : q ≠ p) (t : Nat) (x : Int) :
    (h.keepSample q t x).newest p = h.newest p := by
  simp only [Hw.newest, Hw.keepSample, mgetD_mset_other _ _ _ _ _ hn]

theorem yldMoist_sfe (h : Hw) (port data : Nat) : (yldMoist h port data).sfe = h.sfe := by
  unfold yldMoist
  split <;> rfl

@[simp] theorem win_setWin_same (h : Hw) (w : Nat) (x : Win) : (h.setWin w x).win w = x := mgetD_mset_same ..

/-- Loss windows are a part of the sensor front-end. -/
theorem win_of_sfe_eq {h g : Hw} (hs : g.sfe = h.sfe) (w : Nat) : g.win w = h.win w := by rw [Hw.win, Hw.win, hs]

/-- Writing the loss samples of a window neither opens nor closes it (R304). -/
theorem openAt_flushPend (w fuel : Nat) (h : Hw) : ((flushPend w fuel h).win w).openAt = (h.win w).openAt := by
  induction fuel generalizing h with
  | zero => rfl
  | succ fuel ih =>
    unfold flushPend
    split
    · rfl
    case h_2 x r _ =>
      split
      · dsimp only
        rw [ih, win_of_sfe_eq streamPut_onlyRecords.sfe, win_setWin_same]
        split <;> rfl
      · rfl

/-- Every cause but a full step closes the window (R305). -/
theorem openAt_endInterval {h : Hw} {w cause t : Nat} (hc : cause ≠ 0) : ((endInterval h w cause t).win w).openAt = none := by
  unfold endInterval
  dsimp only
  rw [openAt_flushPend, if_neg hc]
  exact congrArg Win.openAt (win_setWin_same ..)

/-- Besides its own state and the paddles it shows as waiting, a fault of its bridge changes nothing of the yield unit (R313). -/
theorem get_yldFault (h : Hw) (port : Nat) (f : Fld) (i j : Nat) (hn : F.SFE_YLD_STATUS_PEND.at 0 0 ≠ f.at i j) :
    (yldFault h port).get f i j = h.get f i j := by
  have hadv : (yldAdvance h).get f i j = h.get f i j := by
    unfold yldAdvance
    split
    · obtain ⟨y, hy⟩ := padsPass_changes_yld (padAt h (elevHwm h) - h.yld.nextJ + 1).toNat h
      rw [hy]
      exact get_put_other _ _ _ _ _ _ _ _ hn
    · rfl
  unfold yldFault
  split
  · exact hadv
  · rfl

theorem yldFault_sfe (h : Hw) (port : Nat) : (yldFault h port).sfe = h.sfe :=
  (congrArg Hw.sfe (yldFault_onlyChanges h port).2).trans (rfl : (takeYield h (yldFault h port)).sfe = h.sfe)

/-- Showing whether a fault is present leaves the faults as they are. -/
theorem showFaultNow_sfe (h : Hw) (p : Nat) : (showFaultNow h p).sfe = h.sfe := rfl

/-- Showing whether a fault is present leaves the flags of faults seen alone (R341). -/
theorem get_showFaultNow {h : Hw} {p : Nat} (f : Fld) (i : Nat) (hf : F.SFE_FAULT_NOW.lo + F.SFE_FAULT_NOW.w ≤ f.lo ∨
    f.lo + f.w ≤ F.SFE_FAULT_NOW.lo) (hw : f.lo + f.w ≤ 32) : (showFaultNow h p).get f i = h.get f i :=
  get_put_disjoint _ F.SFE_FAULT_NOW f _ _ _ _ _ hf hw

section
variable (h : Hw) (port ty inst : Nat) {p : Prop} [Decidable p]

/-- Reporting a fault that begins leaves the faults as they are. -/
theorem sfe_reportFault : (if p then (yldFault h port).log ty inst else h).sfe = h.sfe := by
  split
  · exact yldFault_sfe h port
  · rfl

theorem get_reportFault {f : Fld} {i j : Nat} (hn : F.SFE_YLD_STATUS_PEND.at 0 0 ≠ f.at i j) :
    (if p then (yldFault h port).log ty inst else h).get f i j = h.get f i j := by
  split
  · exact get_yldFault h port f i j hn
  · rfl

end

/-! ## The commands -/

section
variable {dt : Nat} {s : State} (hon : s.hw.isOn = true)
include hon

/-- The stamped sample feeds its channel (R283, R907). -/
theorem converterSample_feeds {port t : Nat} {vals : List Int}
    (hport : (isAin port || isImp port || isBrg port || port == imuPort) = true) (hen : s.hw.sfeOn port = true)
    (hvals : vals ≠ []) (htov : sampleTov (s.hw.elapse dt) port = some t) : Does (.converterSample dt port vals) s fun h =>
      h = sfeSample (s.hw.elapse dt) port t vals := by
  refine does_of_run (show execConverterSample dt port vals s = _ from rfl) hon ?_
  have hen' : (s.hw.elapse dt).sfeOn port = true := hen
  have hguard : ((isAin port || isImp port || isBrg port || port == imuPort) && (s.hw.elapse dt).sfeOn port &&
      !vals.isEmpty) = true := by
    simp only [hport, hen', List.isEmpty_eq_false_iff.2 hvals, Bool.not_false, Bool.and_self]
  simp only [hguard, if_true, htov]

theorem sfeChannelReconfig_stores {hart : Fin 19} {port : Fin 512} {v : Word} (hport : (isAin port || isBrg port) = true)
    (hown : s.hw.byOwner hart port = true) : Does (.sfeChannelReconfig dt hart port v) s fun h =>
      h = convCfgWrite (s.hw.elapse dt) port v.toNat := by
  refine does_of_run (show execSfeChannelReconfig dt hart port v s = _ from rfl) hon (if_pos ?_)
  rw [Bool.and_assoc, hport, Bool.true_and]
  exact hown

/-- The edge is the input's newest (R282). -/
theorem spdEdgeCapture_is_newest {k : Fin 40} {partner : Bool} {width : Nat} (hen : s.hw.sfeOn (390 + k.val) = true)
    (hwidth : 100 * s.hw.get F.SFE_SPD_CFG_MINPULSE k ≤ width) : Does (.spdEdgeCapture dt k partner width) s fun h =>
      (mget h.sfe.spd k).map (·.1) = some (s.hw.elapse dt).tb := by
  refine does_of_run (show execSpdEdgeCapture dt k partner width s = _ from rfl) hon ?_
  have hen' : (s.hw.elapse dt).sfeOn (390 + k.val) = true := hen
  simp only [hen', elapse_get, hwidth, decide_true, Bool.and_self, if_true]
  rw [(OnlyRecords.ite rawPut_onlyRecords .refl).sfe]
  simp only [Hw.keepSample, mget_mset_same, Option.map_some]

/-- The frame is the input's newest; what its streams and the yield unit take of it leaves it so (R287). -/
theorem sentFrame_is_newest {k status : Fin 16} {age tick : Nat} {data : List (Fin 16)}
    {slow : Option (BitVec 8 × BitVec 16 × Bool)} (hen : s.hw.sfeOn (494 + k.val) = true)
    (hlen : data.length = s.hw.get F.SFE_SNT_CFG_NIB k) (hmin : 1500 * s.hw.get F.SFE_SNT_CFG_TICK k ≤ 4 * tick)
    (hmax : 4 * tick ≤ 2500 * s.hw.get F.SFE_SNT_CFG_TICK k) : Does (.sentFrame dt k age tick status data true slow) s fun h =>
      h.newest (494 + k.val) = some ((s.hw.elapse dt).tb - age, ((nibbles data : Nat) : Int)) := by
  refine does_of_run (show execSentFrame dt k age tick status data true slow s = _ from rfl) hon ?_
  have hen' : (s.hw.elapse dt).sfeOn (494 + k.val) = true := hen
  have hlow : 3 * (500 * s.hw.get F.SFE_SNT_CFG_TICK k) ≤ 4 * tick := by omega
  have hhigh : 4 * tick ≤ 5 * (500 * s.hw.get F.SFE_SNT_CFG_TICK k) := by omega
  simp only [hen', Bool.not_true, Bool.false_eq_true, if_false, elapse_get, ← hlen, BEq.rfl, hlow, hhigh, decide_true,
    Bool.and_self, if_true]
  generalize hkept : ((s.hw.elapse dt).keepSample (494 + k.val) ((s.hw.elapse dt).tb - age) (nibbles data)).keepSample
    (1000 + (494 + k.val)) (s.hw.elapse dt).tb (nibbles data) = g
  have hnew : g.newest (494 + k.val) = some ((s.hw.elapse dt).tb - age, ((nibbles data : Nat) : Int)) := by
    rw [← hkept, newest_keepSample_other _ (by omega), newest_keepSample_same]
  have hmoist (bs : List Byte) (t : Nat) : (yldMoist (rawPut g (494 + k.val) bs t) (494 + k.val) (nibbles data)).sfe = g.sfe :=
    (yldMoist_sfe ..).trans rawPut_onlyRecords.sfe
  refine (newest_of_sfe_eq ?_ _).trans hnew
  split
  · split
    · exact (OnlyRecords.ite rawPut_onlyRecords .refl).sfe.trans (hmoist ..)
    · exact hmoist ..
  · rfl

theorem recbuf_joins_stream {id : Nat} {f : Flight} (hf : OpRuns s.hw id 11 1 f)
    (hnew : (s.hw.bufq (qKey (fld f.desc 1 1) (if fld f.desc 1 1 = 0 then fld f.desc 2 2 else f.part))).bufs.contains id = false)
    (hroom : (s.hw.bufq (qKey (fld f.desc 1 1) (if fld f.desc 1 1 = 0 then fld f.desc 2 2 else f.part))).bufs.length < 64) :
    Does (.recbuf dt id) s fun h =>
      (h.bufq (qKey (fld f.desc 1 1) (if fld f.desc 1 1 = 0 then fld f.desc 2 2 else f.part))).bufs =
        (s.hw.bufq (qKey (fld f.desc 1 1) (if fld f.desc 1 1 = 0 then fld f.desc 2 2 else f.part))).bufs ++ [id] := by
  obtain rfl : f.id = id := flight_id hf.1
  exact does_of_run_onOp (show execRecbuf dt f.id s = _ from rfl) hon hf (bufs_bufPost (h := s.hw.elapse dt) hnew hroom)

/-- A buffer whose first record has waited FLUSH µs closes (R294). -/
theorem bufferFlushTimeout_closes {id k t : Nat} {f : Flight} (hq : s.hw.queueOf id = some k) (hf : s.hw.flight id = some f)
    (hst : f.stage ≠ 2) (hhead : (s.hw.bufq k).bufs.head? = some id) (hfirst : (s.hw.bufq k).first = some t)
    (hflush : fld f.desc 20 4 ≠ 0) (hdue : t + 1000 * fld f.desc 20 4 ≤ s.hw.now + dt) :
    Does (.bufferFlushTimeout dt id) s fun h => OpEnded h id ST_OK := by
  refine does_of_run (show execBufferFlushTimeout dt id s = _ from rfl) hon ?_
  have hq' : (s.hw.elapse dt).queueOf id = some k := hq
  have hf' : (s.hw.elapse dt).flight id = some f := hf
  have hfirst' : ((s.hw.elapse dt).bufq k).first = some t := hfirst
  simp only [hq', hf', hfirst', elapse_now, hflush, hdue, ne_eq, not_false_eq_true, and_self, if_true]
  obtain ⟨rest, hbufs⟩ := List.head?_eq_some_iff.1 hhead
  exact opEnded_bufClose (h := s.hw.elapse dt) hbufs hf hst ST_OK

/-- An impact begins with the sample that hit (R297). -/
theorem impactBegin_begins {c : Fin 48} {b : Nat} (hhit : (mgetD s.hw.sfe.dets c {}).hit = some b)
    (hnot : (mgetD s.hw.sfe.dets c {}).begun = false) : Does (.impactBegin dt c) s fun h =>
      (mgetD h.sfe.dets c {}).begun = true ∧ (mgetD h.sfe.dets c {}).hit = some b := by
  refine does_of_run (show execImpactBegin dt c s = _ from rfl) hon ?_
  simp only [elapse_sfe, hhit, hnot, Bool.false_eq_true, if_false, mgetD_mset_same, and_self]

theorem impactEnd_ends {c : Fin 48} {b e : Nat} {long : Bool} (hhit : (mgetD s.hw.sfe.dets c {}).hit = some b)
    (hended : (mgetD s.hw.sfe.dets c {}).ended = some (e, long)) (hbegun : (mgetD s.hw.sfe.dets c {}).begun = true) :
    Does (.impactEnd dt c) s fun h => h = impactDone (s.hw.elapse dt) c b e long (mgetD s.hw.sfe.dets c {}) := by
  refine does_of_run (show execImpactEnd dt c s = _ from rfl) hon ?_
  simp only [elapse_sfe, hhit, hended, hbegun, if_true]

/-- A full step ends the interval; a length that ends with it gives the cause (R305, R306). -/
theorem lossSampleStep_ends_interval {w : Fin 16} (hopen : (s.hw.win w).openAt.isSome = true)
    (hstep : s.hw.get F.SFE_WIN_STEP_STEP w ≠ 0)
    (hdue : (s.hw.win w).start + s.hw.get F.SFE_WIN_STEP_STEP w ≤ (s.hw.elapse dt).domHwm (s.hw.get F.SFE_WIN_CFG_DOMAIN w)) :
    Does (.lossSampleStep dt w) s fun h => h = endInterval (s.hw.elapse dt) w
      (if lengthReached (s.hw.elapse dt) (s.hw.win w) then 2 else 0) (s.hw.elapse dt).tb := by
  refine does_of_run (show execLossSampleStep dt w s = _ from rfl) hon (if_pos ?_)
  have hopen' : ((s.hw.elapse dt).win w).openAt.isSome = true := hopen
  simp only [hopen', elapse_get, bne_iff_ne.2 hstep, Bool.true_and]
  exact decide_eq_true hdue

theorem lossWindowLengthEnd_closes {w : Fin 16} (hopen : (s.hw.win w).openAt.isSome = true)
    (hlen : lengthReached (s.hw.elapse dt) (s.hw.win w) = true) : Does (.lossWindowLengthEnd dt w) s fun h =>
      h = endInterval (s.hw.elapse dt) w 2 (s.hw.elapse dt).tb ∧ (h.win w).openAt = none := by
  refine does_of_run (show execLossWindowLengthEnd dt w s = _ from rfl) hon ?_
  have hguard : (((s.hw.elapse dt).win w).openAt.isSome && lengthReached (s.hw.elapse dt) ((s.hw.elapse dt).win w)) = true :=
    Bool.and_eq_true_iff.2 ⟨hopen, hlen⟩
  simp only [hguard, if_true, true_and]
  exact openAt_endInterval (by decide)

/-- The faults of the input are kept, and each that is present is flagged (R341). -/
theorem sensorInputFault_keeps {port : Fin 512} {openWire range : Bool} (hport : (isAin port || isBrg port) = true) :
    Does (.sensorInputFault dt port openWire range) s fun h => mget h.sfe.faults port = some (openWire, range) ∧
      (openWire = true → h.get F.SFE_FAULT_OPEN (port.val - 326) = 1) ∧
      (range = true → h.get F.SFE_FAULT_RANGE (port.val - 326) = 1) := by
  have hne (f : Fld) (ha : f.addr = F.SFE_FAULT_OPEN.addr) (hst : f.st1 = F.SFE_FAULT_OPEN.st1) :
      F.SFE_YLD_STATUS_PEND.at 0 0 ≠ f.at (port.val - 326) 0 := by
    simp only [Fld.at, ha, hst, F.SFE_YLD_STATUS_PEND, F.SFE_FAULT_OPEN]
    omega
  refine does_of_run (show execSensorInputFault dt port openWire range s = _ from rfl) hon ?_
  rw [if_pos hport]
  refine ⟨?_, fun hopen => ?_, fun hrange => ?_⟩
  · rw [showFaultNow_sfe, sfe_reportFault]
    simp only [apply_ite Hw.sfe, put_sfe, ite_self, mget_mset_same]
  · rw [get_showFaultNow _ _ (by decide) (by decide), get_reportFault _ _ _ _ (hne F.SFE_FAULT_OPEN rfl rfl), if_pos hopen]
    split
    · rw [get_put_disjoint _ F.SFE_FAULT_RANGE F.SFE_FAULT_OPEN _ _ _ _ _ (by decide) (by decide),
        get_put_fits _ F.SFE_FAULT_OPEN 1 _ _ (by decide)]
    · exact get_put_fits _ F.SFE_FAULT_OPEN 1 _ _ (by decide)
  · rw [get_showFaultNow _ _ (by decide) (by decide), get_reportFault _ _ _ _ (hne F.SFE_FAULT_RANGE rfl rfl), if_pos hrange]
    exact get_put_fits _ F.SFE_FAULT_RANGE 1 _ _ (by decide)

end

/-- Settles O13: one command after another, each from its own effect. -/
theorem sensorCommandsComplete : Obligations.SensorCommandsComplete := by
  unfold Obligations.SensorCommandsComplete
  refine ⟨?converterSample, ?sfeChannelReconfig, ?spdEdgeCapture, ?sentFrame, ?recbuf, ?bufferFlushTimeout, ?impactBegin,
    ?impactEnd, ?lossSampleStep, ?lossWindowLengthEnd, ?sensorInputFault⟩
  case converterSample => exact fun _ _ _ _ _ hon hport hen hvals htov => converterSample_feeds hon hport hen hvals htov
  case sfeChannelReconfig => exact fun _ _ _ _ _ hon hport hown => sfeChannelReconfig_stores hon hport hown
  case spdEdgeCapture => exact fun _ _ _ _ _ hon hen hwidth => spdEdgeCapture_is_newest hon hen hwidth
  case sentFrame =>
    exact fun _ _ _ _ _ _ _ _ hon hen hlen hmin hmax => sentFrame_is_newest hon hen hlen hmin hmax
  case recbuf => exact fun _ _ _ _ hon hf hnew hroom => recbuf_joins_stream hon hf hnew hroom
  case bufferFlushTimeout =>
    exact fun _ _ _ _ _ _ hon hq hf hst hhead hfirst hflush hdue =>
      bufferFlushTimeout_closes hon hq hf hst hhead hfirst hflush hdue
  case impactBegin => exact fun _ _ _ _ hon hhit hnot => impactBegin_begins hon hhit hnot
  case impactEnd => exact fun _ _ _ _ _ _ hon hhit hended hbegun => impactEnd_ends hon hhit hended hbegun
  case lossSampleStep => exact fun _ _ _ hon hopen hstep hdue => lossSampleStep_ends_interval hon hopen hstep hdue
  case lossWindowLengthEnd => exact fun _ _ _ hon hopen hlen => lossWindowLengthEnd_closes hon hopen hlen
  case sensorInputFault => exact fun _ _ _ _ _ hon hport => sensorInputFault_keeps hon hport

end Sys2Proof.Machine
end

section
/-!
PROOF. Valve channels: what showing a channel and switching it off change, and from that the own effects of the faults of the valve
drive (O17).
-/
namespace Sys2Proof.Machine

/-! ## A channel's own state -/

@[simp] theorem sol_setSol_same (h : Hw) (c : Nat) (x : Sol) : (h.setSol c x).sol c = x := mgetD_mset_same ..

/-- Channels are a part of the valve drive. -/
theorem sol_of_vlv_eq {h g : Hw} (hv : g.vlv = h.vlv) (c : Nat) : g.sol c = h.sol c := by rw [Hw.sol, Hw.sol, hv]

@[simp] theorem sol_elapse (h : Hw) (dt c : Nat) : (h.elapse dt).sol c = h.sol c := rfl
@[simp] theorem sol_put (h : Hw) (f : Fld) (v i j c : Nat) : (h.put f v i j).sol c = h.sol c := rfl
@[simp] theorem sol_log (h : Hw) (ty inst c : Nat) (l : Bool) : (h.log ty inst l).sol c = h.sol c := rfl
@[simp] theorem get_setSol (h : Hw) (c : Nat) (x : Sol) (f : Fld) (i j : Nat) : (h.setSol c x).get f i j = h.get f i j := rfl
@[simp] theorem setSol_diag (h : Hw) (c : Nat) (x : Sol) : (h.setSol c x).diag = h.diag := rfl
theorem log_diag (h : Hw) (ty inst : Nat) (l : Bool) : (h.log ty inst l).diag = h.diag ++ [⟨ty, inst, l⟩] := rfl

/-! ## Showing a channel -/

/-- The registers of a channel in which it is shown are SOL_STATUS and SOL_CURRENT, and a rounding may draw an open value. -/
theorem showSol_shows (h : Hw) (c : Nat) : ∃ n state phase prof pend limited fault code,
    showSol h c = ((((((({ h with freeCtr := n }.put F.SOL_STATUS_STATE state c).put F.SOL_STATUS_PHASE phase c).put
      F.SOL_STATUS_PROF prof c).put F.SOL_STATUS_PEND pend c).put F.SOL_STATUS_LIMITED limited c).put
      F.SOL_STATUS_CH_FAULT fault c).put F.SOL_CURRENT_CODE code c) := by
  unfold showSol
  dsimp only
  split
  · exact ⟨_, _, _, _, _, _, _, _, rfl⟩
  · obtain ⟨x, n, hround⟩ := openRound_changes_freeCtr h (qmin (solRequest h c) (qi (solCeiling h c)))
    rw [hround]
    exact ⟨_, _, _, _, _, _, _, _, rfl⟩

@[simp] theorem showSol_vlv (h : Hw) (c : Nat) : (showSol h c).vlv = h.vlv := by
  obtain ⟨n, _, _, _, _, _, _, _, hshow⟩ := showSol_shows h c
  rw [hshow]
  rfl

@[simp] theorem showSol_diag (h : Hw) (c : Nat) : (showSol h c).diag = h.diag := by
  obtain ⟨n, _, _, _, _, _, _, _, hshow⟩ := showSol_shows h c
  rw [hshow]
  rfl

@[simp] theorem showSol_rng (h : Hw) (c : Nat) : (showSol h c).rng = h.rng := by
  obtain ⟨n, _, _, _, _, _, _, _, hshow⟩ := showSol_shows h c
  rw [hshow]
  rfl

@[simp] theorem sol_showSol (h : Hw) (c k : Nat) : (showSol h c).sol k = h.sol k := sol_of_vlv_eq (showSol_vlv h c) k

/-- Showing a channel leaves its other registers alone. -/
theorem get_showSol (h : Hw) (c : Nat) (f : Fld) (hst : F.SOL_STATUS_STATE.st1 = f.st1 := by rfl)
    (hstatus : F.SOL_STATUS_STATE.addr ≠ f.addr := by decide) (hcurrent : F.SOL_CURRENT_CODE.addr ≠ f.addr := by decide) :
    (showSol h c).get f c = h.get f c := by
  obtain ⟨n, _, _, _, _, _, _, _, hshow⟩ := showSol_shows h c
  rw [hshow, get_put_same_row _ F.SOL_CURRENT_CODE f _ _ hst hcurrent, get_put_same_row _ F.SOL_STATUS_CH_FAULT f _ _ hst hstatus,
    get_put_same_row _ F.SOL_STATUS_LIMITED f _ _ hst hstatus, get_put_same_row _ F.SOL_STATUS_PEND f _ _ hst hstatus,
    get_put_same_row _ F.SOL_STATUS_PROF f _ _ hst hstatus, get_put_same_row _ F.SOL_STATUS_PHASE f _ _ hst hstatus,
    get_put_same_row _ F.SOL_STATUS_STATE f _ _ hst hstatus]
  rfl

/-! ## Switching a channel off -/

/-- A channel that switches off keeps everything but its output and the end of its off-time (R416, R424). -/
@[simp] theorem sol_solOffAt (h : Hw) (c t : Nat) : (solOffAt h c t).sol c = { h.sol c with
    out := 0, base := 0, offEnd := if (h.sol c).out = 3 then t + 1000 * (h.sol c).offtime else (h.sol c).offEnd } := by
  rw [solOffAt, sol_showSol, sol_setSol_same]

@[simp] theorem solOffAt_diag (h : Hw) (c t : Nat) : (solOffAt h c t).diag = h.diag := showSol_diag ..

theorem get_solOffAt (h : Hw) (c t : Nat) (f : Fld) (hst : F.SOL_STATUS_STATE.st1 = f.st1 := by rfl)
    (hstatus : F.SOL_STATUS_STATE.addr ≠ f.addr := by decide) (hcurrent : F.SOL_CURRENT_CODE.addr ≠ f.addr := by decide) :
    (solOffAt h c t).get f c = h.get f c := get_showSol _ c f hst hstatus hcurrent

/-! ## Faults -/

/-- A fault that is latched, logged and then shown. -/
theorem showSol_of_latched (h : Hw) (c : Nat) (x : Sol) (ty : Nat) (l : Bool) (f : Fld)
    (hst : F.SOL_STATUS_STATE.st1 = f.st1 := by rfl)
    (hstatus : F.SOL_STATUS_STATE.addr ≠ f.addr := by decide) (hcurrent : F.SOL_CURRENT_CODE.addr ≠ f.addr := by decide)
    (hone : 1 < 2 ^ f.w := by decide) (hf : f.lo + f.w ≤ 32 := by decide) :
    (showSol (((h.setSol c x).put f 1 c).log ty c l) c).sol c = x ∧
      (showSol (((h.setSol c x).put f 1 c).log ty c l) c).get f c = 1 ∧
      (showSol (((h.setSol c x).put f 1 c).log ty c l) c).diag = h.diag ++ [⟨ty, c, l⟩] := by
  refine ⟨?_, ?_, ?_⟩
  · rw [sol_showSol, sol_log, sol_put, sol_setSol_same]
  · rw [get_showSol _ _ f hst hstatus hcurrent, log_get, get_put_fits _ f 1 _ _ hone hf]
  · rw [showSol_diag, log_diag, put_diag, setSol_diag]

section
variable {dt : Nat} {s : State} {c : Fin 48} (hon : s.hw.isOn = true)
include hon

/-- An overcurrent trips the channel off (R431). -/
theorem solOvercurrent_trips (hout : (s.hw.sol c).out ≠ 0) : Does (.solOvercurrent dt c) s fun h =>
    (h.sol c).out = 0 ∧ h.get F.SOL_FAULT_OVERCURRENT c = 1 ∧ h.diag = s.hw.diag ++ [⟨0x0801, c, false⟩] := by
  refine does_of_run (show execSolOvercurrent dt c s = _ from rfl) hon ?_
  rw [sol_elapse, if_neg hout]
  simp only [solOff, sol_solOffAt, solOffAt_diag, log_diag, bump_diag, put_diag, elapse_diag, true_and, and_true]
  rw [get_solOffAt _ _ _ F.SOL_FAULT_OVERCURRENT, log_get, get_bump_other]
  · exact get_put_fits _ F.SOL_FAULT_OVERCURRENT 1 _ _ (by decide)
  · simp only [Fld.at, F.SOL_CNT_COUNT, F.SOL_FAULT_OVERCURRENT]
    omega

theorem solFaultDetect_shortBat_latches (hcode : (showSol (s.hw.elapse dt) c).get F.SOL_CURRENT_CODE c = 0)
    (hnew : (s.hw.sol c).shortBat = false) : Does (.solFaultDetect dt c .shortBat) s fun h => (h.sol c).shortBat = true ∧
      h.get F.SOL_FAULT_SHORT_BAT c = 1 ∧ h.diag = s.hw.diag ++ [⟨0x0802, c, true⟩] := by
  refine does_of_run (show execSolFaultDetect dt c .shortBat s = _ from rfl) hon ?_
  dsimp only
  rw [if_neg (not_or.2 ⟨fun hne => hne hcode, by rw [sol_showSol, sol_elapse, hnew]; exact Bool.false_ne_true⟩)]
  obtain ⟨hsol, hfault, hdiag⟩ := showSol_of_latched (showSol (s.hw.elapse dt) c) c
    { (showSol (s.hw.elapse dt) c).sol c with shortBat := true } 0x0802 true F.SOL_FAULT_SHORT_BAT
  exact ⟨by rw [hsol], hfault, by rw [hdiag, showSol_diag, elapse_diag]⟩

theorem solFaultDetect_openLoad_latches (hcode : 256 ≤ (showSol (s.hw.elapse dt) c).get F.SOL_CURRENT_CODE c)
    (hnew : (s.hw.sol c).openNow = false) : Does (.solFaultDetect dt c .openLoad) s fun h => (h.sol c).openNow = true ∧
      h.get F.SOL_FAULT_OPEN c = 1 ∧ h.diag = s.hw.diag ++ [⟨0x0802, c, true⟩] := by
  refine does_of_run (show execSolFaultDetect dt c .openLoad s = _ from rfl) hon ?_
  dsimp only
  rw [if_neg (not_or.2 ⟨Nat.not_lt.2 hcode, by rw [sol_showSol, sol_elapse, hnew]; exact Bool.false_ne_true⟩)]
  obtain ⟨hsol, hfault, hdiag⟩ := showSol_of_latched (showSol (s.hw.elapse dt) c) c
    { (showSol (s.hw.elapse dt) c).sol c with openNow := true } 0x0802 true F.SOL_FAULT_OPEN
  exact ⟨by rw [hsol], hfault, by rw [hdiag, showSol_diag, elapse_diag]⟩

/-- A regulation error is judged while the channel regulates a code or a REG phase (Table 08.7). -/
theorem solFaultDetect_regErr_latches (hreg : (s.hw.sol c).out = 1 ∨ (s.hw.sol c).out = 2 ∨
      ((s.hw.sol c).out = 3 ∧ phKind (s.hw.sol c).prof (s.hw.sol c).phase = 0)) :
    Does (.solFaultDetect dt c .regErr) s fun h => h.get F.SOL_FAULT_REG_ERR c = 1 ∧ h.vlv = s.hw.vlv := by
  refine does_of_run (show execSolFaultDetect dt c .regErr s = _ from rfl) hon ?_
  simp only [sol_showSol, sol_elapse]
  rw [if_pos (or_assoc.2 hreg).symm]
  exact ⟨get_put_fits _ F.SOL_FAULT_REG_ERR 1 _ _ (by decide), by rw [put_vlv, showSol_vlv, elapse_vlv]⟩

theorem solFaultEnds_shortBat_ends : Does (.solFaultEnds dt c .shortBat) s fun h =>
    (h.sol c).shortBat = false ∧ (h.sol c).openNow = (s.hw.sol c).openNow := by
  refine does_of_run (show execSolFaultEnds dt c .shortBat s = _ from rfl) hon ?_
  simp only [sol_showSol, sol_setSol_same, sol_elapse, and_self]

theorem solFaultEnds_openLoad_ends : Does (.solFaultEnds dt c .openLoad) s fun h =>
    (h.sol c).openNow = false ∧ (h.sol c).shortBat = (s.hw.sol c).shortBat := by
  refine does_of_run (show execSolFaultEnds dt c .openLoad s = _ from rfl) hon ?_
  simp only [sol_showSol, sol_setSol_same, sol_elapse, and_self]

/-- A hot driver ends a running profile; any other output is only shown (Table 08.7). -/
theorem drvHot_latches (hcool : (s.hw.sol c).drvHot = false) : Does (.drvHot dt c true) s fun h =>
    (h.sol c).drvHot = true ∧ h.get F.SOL_FAULT_DRV_HOT c = 1 ∧ h.diag = s.hw.diag ++ [⟨0x0804, c, false⟩] := by
  refine does_of_run (show execDrvHot dt c true s = _ from rfl) hon ?_
  rw [if_pos rfl, sol_elapse, hcool, if_neg Bool.false_ne_true]
  by_cases hrun : (s.hw.sol c).out = 3
  · rw [if_pos hrun]
    refine ⟨?_, ?_, solOffAt_diag ..⟩
    · rw [solOff, sol_solOffAt, sol_log, sol_put, sol_setSol_same]
    · rw [solOff, get_solOffAt _ _ _ F.SOL_FAULT_DRV_HOT, log_get]
      exact get_put_fits _ F.SOL_FAULT_DRV_HOT 1 _ _ (by decide)
  · rw [if_neg hrun]
    obtain ⟨hsol, hfault, hdiag⟩ := showSol_of_latched (s.hw.elapse dt) c { s.hw.sol c with drvHot := true } 0x0804 false
      F.SOL_FAULT_DRV_HOT
    exact ⟨by rw [hsol], hfault, hdiag⟩

theorem drvHot_cools : Does (.drvHot dt c false) s fun h => (h.sol c).drvHot = false := by
  refine does_of_run (show execDrvHot dt c false s = _ from rfl) hon ?_
  simp only [Bool.false_eq_true, if_false, sol_showSol, sol_setSol_same]

/-- The decay goes on in slow mode; the valve drive itself does not change (R411). -/
theorem clampLimit_latches : Does (.clampLimit dt c) s fun h => h.get F.SOL_FAULT_CLAMP_LIMIT c = 1 ∧ h.vlv = s.hw.vlv ∧
    h.diag = s.hw.diag ++ [⟨0x0807, c, true⟩] := by
  refine does_of_run (show execClampLimit dt c s = _ from rfl) hon ⟨?_, rfl, rfl⟩
  exact get_put_fits _ F.SOL_FAULT_CLAMP_LIMIT 1 _ _ (by decide)

end

/-- Settles O17: one fault after another, each from its own effect. -/
theorem valveFaultsComplete : Obligations.ValveFaultsComplete := by
  unfold Obligations.ValveFaultsComplete
  refine ⟨?overcurrent, ?shortBat, ?openLoad, ?regErr, ?shortBatEnds, ?openLoadEnds, ?drvHot, ?drvCools, ?clampLimit⟩
  case overcurrent => exact fun _ _ _ hon hout => solOvercurrent_trips hon hout
  case shortBat => exact fun _ _ _ hon hcode hnew => solFaultDetect_shortBat_latches hon hcode hnew
  case openLoad => exact fun _ _ _ hon hcode hnew => solFaultDetect_openLoad_latches hon hcode hnew
  case regErr => exact fun _ _ _ hon hreg => solFaultDetect_regErr_latches hon hreg
  case shortBatEnds => exact fun _ _ _ hon => solFaultEnds_shortBat_ends hon
  case openLoadEnds => exact fun _ _ _ hon => solFaultEnds_openLoad_ends hon
  case drvHot => exact fun _ _ _ hon hcool => drvHot_latches hon hcool
  case drvCools => exact fun _ _ _ hon => drvHot_cools hon
  case clampLimit => exact fun _ _ _ hon => clampLimit_latches hon

end Sys2Proof.Machine
end

section
/-!
PROOF. Commands of the valve drive: what the coil model and the ends of waiting starts change, stored profiles, and from that the
own effects of the commands on settings, profiles and phases (O16).
-/
namespace Sys2Proof.Machine

/-! ## Coil model -/

/-- The coil estimate against its limit is shown in registers alone (R437). -/
@[simp] theorem sol_solHot (h : Hw) (c k : Nat) : (solHot h c).sol k = h.sol k := by
  unfold solHot
  dsimp only
  repeat' split
  all_goals rfl

theorem get_solHot (h : Hw) (c : Nat) (f : Fld) (hst : F.SOL_STATUS_COIL_HOT.st1 = f.st1 := by rfl)
    (hstatus : F.SOL_STATUS_COIL_HOT.addr ≠ f.addr := by decide) (hfault : F.SOL_FAULT_COIL_HOT.addr ≠ f.addr := by decide) :
    (solHot h c).get f c = h.get f c := by
  have hshown (v : Nat) : (h.put F.SOL_STATUS_COIL_HOT v c).get f c = h.get f c :=
    get_put_same_row _ F.SOL_STATUS_COIL_HOT f _ _ hst hstatus
  unfold solHot
  dsimp only
  split
  · split
    · rfl
    · rw [log_get, get_put_same_row _ F.SOL_FAULT_COIL_HOT f _ _ hst hfault, hshown]
  · split
    · exact hshown 0
    · rfl

/-- The validity of the model and its correction factor are all that is judged of a channel (R438, R440). -/
theorem sol_solModel (h : Hw) (c : Nat) : ∃ k b, (solModel h c).sol c = { h.sol c with k := k, invalid := b } := by
  unfold solModel
  extract_lets x cal d long ok x1 h1
  have hjudged : ∃ k b, x1 = { h.sol c with k := k, invalid := b } := by
    unfold x1
    split <;> exact ⟨_, _, rfl⟩
  obtain ⟨k, b, hx1⟩ := hjudged
  have hsol : h1.sol c = { h.sol c with k := k, invalid := b } := (sol_setSol_same ..).trans hx1
  refine ⟨k, b, ?_⟩
  split
  · exact hsol
  · exact hsol

theorem get_solModel (h : Hw) (c : Nat) (f : Fld) (hst : F.SOL_STATUS_MODEL_INVALID.st1 = f.st1 := by rfl)
    (hstatus : F.SOL_STATUS_MODEL_INVALID.addr ≠ f.addr := by decide) : (solModel h c).get f c = h.get f c := by
  unfold solModel
  extract_lets x cal d long ok x1 h1
  have hshown : h1.get f c = h.get f c := get_put_same_row _ F.SOL_STATUS_MODEL_INVALID f _ _ hst hstatus
  split
  · exact hshown
  · exact hshown

@[simp] theorem sol_showTemp (h : Hw) (c k : Nat) : (showTemp h c).sol k = h.sol k := by
  obtain ⟨x, n, hround⟩ := openRound_changes_freeCtr h (qmul (qi 10) (h.sol c).temp)
  rw [showTemp, hround]
  rfl

theorem get_showTemp (h : Hw) (c : Nat) (f : Fld) (hst : F.SOL_TEMP_T.st1 = f.st1 := by rfl)
    (htemp : F.SOL_TEMP_T.addr ≠ f.addr := by decide) : (showTemp h c).get f c = h.get f c := by
  obtain ⟨x, n, hround⟩ := openRound_changes_freeCtr h (qmul (qi 10) (h.sol c).temp)
  rw [showTemp, hround]
  exact get_put_same_row _ F.SOL_TEMP_T f _ _ hst htemp

/-- What the coil model judges and shows leaves the other registers of a channel alone. -/
theorem get_coilShown (h : Hw) (c : Nat) (f : Fld) (hst : F.SOL_STATUS_STATE.st1 = f.st1 := by rfl)
    (hstatus : F.SOL_STATUS_STATE.addr ≠ f.addr := by decide) (hfault : F.SOL_FAULT_COIL_HOT.addr ≠ f.addr := by decide)
    (hcurrent : F.SOL_CURRENT_CODE.addr ≠ f.addr := by decide) (htemp : F.SOL_TEMP_T.addr ≠ f.addr := by decide) :
    (showSol (showTemp (solModel (solHot h c) c) c) c).get f c = h.get f c := by
  rw [get_showSol _ _ f hst hstatus hcurrent, get_showTemp _ _ f hst htemp, get_solModel _ _ f hst hstatus,
    get_solHot _ _ f hst hstatus hfault]

/-- The coil estimate of a channel stands at a temperature, taken in a millisecond. -/
def CoilAt (h : Hw) (c ms : Nat) (t : Q) : Prop := (h.sol c).stepMs = some ms ∧ (h.sol c).temp = t

theorem CoilAt.of_sol_eq {h g : Hw} {c ms : Nat} {t : Q} (ht : CoilAt h c ms t) (hs : g.sol c = h.sol c) : CoilAt g c ms t := by
  unfold CoilAt
  rw [hs]
  exact ht

/-- Judging and showing the coil model leaves the estimate as it is. -/
theorem CoilAt.shown {h : Hw} {c ms : Nat} {t : Q} (ht : CoilAt h c ms t) :
    CoilAt (showSol (showTemp (solModel (solHot h c) c) c) c) c ms t := by
  obtain ⟨k, b, hmodel⟩ := sol_solModel (solHot h c) c
  unfold CoilAt
  rw [sol_showSol, sol_showTemp, hmodel, sol_solHot]
  exact ht

/-- Drawing a rounding leaves the estimate as it is. -/
theorem CoilAt.openRound {h : Hw} {c ms : Nat} {t : Q} (ht : CoilAt h c ms t) (q : Q) : CoilAt (h.openRound q).2 c ms t := by
  obtain ⟨x, n, hround⟩ := openRound_changes_freeCtr h q
  rw [hround]
  exact ht

/-! ## Enabling and disabling -/

@[simp] theorem get_solTake (h : Hw) (c : Nat) (f : Fld) (i j : Nat) : (solTake h c).get f i j = h.get f i j := rfl

/-- An enabled channel is set up from its registers, and its coil model judged anew (R408, R435). -/
theorem solEnable_sets_up {h g : Hw} {c v : Nat} (hoff : solOn h c = false)
    (hg : h.setReg (F.SOL_CFG_ENABLE.at c 0) (BitVec.ofNat 32 ((v % 2 ^ 12 + v / 2 ^ 16 * 2 ^ 16) / 2 * 2)) = g)
    (hok : solCheck g c = ST_OK) : ∃ x, solEnable h c v =
      showSol (showTemp (solModel (solHot ((((solTake ((g.put F.SOL_ST_STATUS ST_OK c).put F.SOL_CFG_ENABLE 1 c) c).setSol c x).put
        F.SOL_TTP_LAST_VALID 0 c).put F.SOL_TEMP_T_MEAS 0x8000 c) c) c) c) c := by
  unfold solEnable
  dsimp only
  rw [hoff, if_neg Bool.false_ne_true, hg, hok, if_neg fun hne => hne rfl]
  exact ⟨_, rfl⟩

/-- A channel whose settings pass is enabled (R447). -/
theorem solEnable_of_check_ok {h : Hw} {c v : Nat} (hoff : solOn h c = false)
    (hok : solCheck (h.setReg (F.SOL_CFG_ENABLE.at c 0) (BitVec.ofNat 32 ((v % 2 ^ 12 + v / 2 ^ 16 * 2 ^ 16) / 2 * 2))) c = ST_OK) :
    solOn (solEnable h c v) c = true ∧ (solEnable h c v).get F.SOL_ST_STATUS c = ST_OK := by
  obtain ⟨x, hset⟩ := solEnable_sets_up hoff rfl hok
  rw [hset, solOn, Hw.flag]
  constructor
  · rw [get_coilShown _ _ F.SOL_CFG_ENABLE, get_put_same_row _ F.SOL_TEMP_T_MEAS F.SOL_CFG_ENABLE _ _ rfl (by decide),
      get_put_same_row _ F.SOL_TTP_LAST_VALID F.SOL_CFG_ENABLE _ _ rfl (by decide), get_setSol, get_solTake,
      get_put_fits _ F.SOL_CFG_ENABLE 1 _ _ (by decide)]
    rfl
  · rw [get_coilShown _ _ F.SOL_ST_STATUS, get_put_same_row _ F.SOL_TEMP_T_MEAS F.SOL_ST_STATUS _ _ rfl (by decide),
      get_put_same_row _ F.SOL_TTP_LAST_VALID F.SOL_ST_STATUS _ _ rfl (by decide), get_setSol, get_solTake,
      get_put_same_row _ F.SOL_CFG_ENABLE F.SOL_ST_STATUS _ _ rfl (by decide), get_put_fits _ F.SOL_ST_STATUS ST_OK _ _ (by decide)]

/-- The completion of a firing waits at its ring at most. -/
theorem fireCpl_changes_rng (h : Hw) (f : Fire) (st defer : Nat) (after : Option Nat) :
    ∃ r, h.fireCpl f st defer after = { h with rng := r } := by
  unfold Hw.fireCpl
  split <;> exact ⟨_, rfl⟩

/-- A waiting start that ends leaves everything else of its channel alone, and every register (R428). -/
theorem endPend_ends (h : Hw) (c st defer : Nat) :
    (endPend h c st defer).sol c = { h.sol c with pend := none } ∧ (endPend h c st defer).rf = h.rf := by
  unfold endPend
  split
  case h_1 hnone => exact ⟨by rw [← hnone], rfl⟩
  case h_2 src _ =>
    split
    case h_1 f _ =>
      obtain ⟨r, hfire⟩ := fireCpl_changes_rng (h.setSol c { h.sol c with pend := none }) f st defer none
      rw [hfire]
      exact ⟨sol_setSol_same .., rfl⟩
    case h_2 => exact ⟨sol_setSol_same .., rfl⟩

/-- Fields are read from the registers alone. -/
theorem get_of_rf_eq {h g : Hw} (hr : g.rf = h.rf) (f : Fld) (i j : Nat) : g.get f i j = h.get f i j := by
  rw [Hw.get, Hw.get, Hw.reg, Hw.reg, hr]

/-- ENABLE reads 0 where the settings of SOL_CFG that are locked while enabled keep their value (R446). -/
theorem get_enable_cleared (h : Hw) (c n old : Nat) :
    (h.setReg (F.SOL_CFG_ENABLE.at c 0) (BitVec.ofNat 32 (n * 2 ^ 7 + (old &&& (2 ^ 7 - 2))))).get F.SOL_CFG_ENABLE c = 0 := by
  have hlocked : (old &&& (2 ^ 7 - 2)) % 2 = 0 := by
    rw [← Nat.pow_one 2, Nat.and_mod_two_pow]
    exact Nat.and_zero _
  rw [Hw.get, reg_setReg_same, BitVec.extractLsb'_toNat, BitVec.toNat_ofNat]
  simp only [F.SOL_CFG_ENABLE, Nat.shiftRight_zero]
  omega

/-- A disabled channel has neither a waiting start nor a code (R428). -/
theorem solDisable_of_on {h : Hw} {c : Nat} (hon : solOn h c = true) (v : Nat) : solOn (solDisable h c v) c = false ∧
    ((solDisable h c v).sol c).pend = none ∧ ((solDisable h c v).sol c).code = 0 := by
  generalize hd : solDisable h c v = g
  unfold solDisable at hd
  extract_lets old new h1 h2 h3 at hd
  rw [hon, Bool.not_true, if_neg Bool.false_ne_true] at hd
  subst hd
  obtain ⟨hsol, hrf⟩ := endPend_ends h1 c ST_SOL_MODE 0
  refine ⟨?_, ?_, ?_⟩
  · have hcfg : h3.get F.SOL_CFG_ENABLE c = h2.get F.SOL_CFG_ENABLE c := by
      unfold h3
      split
      · rfl
      · exact get_solOffAt _ _ _ F.SOL_CFG_ENABLE
    rw [solOn, Hw.flag, get_showSol _ _ F.SOL_CFG_ENABLE,
      get_put_same_row _ F.SOL_STATUS_COIL_HOT F.SOL_CFG_ENABLE _ _ rfl (by decide), get_setSol, hcfg,
      get_of_rf_eq hrf, get_enable_cleared]
    rfl
  · have hpend : (h3.sol c).pend = none := by
      unfold h3
      split
      · rw [hsol]
      · rw [solOff, sol_solOffAt, hsol]
    rw [sol_showSol, sol_put, sol_setSol_same]
    exact hpend
  · rw [sol_showSol, sol_put, sol_setSol_same]

/-! ## Stored profiles -/

theorem firstBad_cons_eq_ok {ok : Bool} {st : Nat} (hst : st ≠ ST_OK) (cs : List (Bool × Nat)) :
    firstBad ((ok, st) :: cs) = ST_OK ↔ ok = true ∧ firstBad cs = ST_OK := by
  cases ok with
  | true => simp only [firstBad, if_true, true_and]
  | false => simp only [firstBad, Bool.false_eq_true, if_false, hst, false_and]

/-- No two blocks of an image that passes name one profile (R421). -/
theorem distinct_of_profCheck_ok {h : Hw} {p len : Nat} {img : List Byte} (hok : profCheck h p img len = ST_OK) :
    distinct ((profBlocks img (fld img 2 2)).map fun b => fld b 0 1) = true := by
  obtain ⟨hform, -⟩ := (firstBad_cons_eq_ok (by decide) _).1 hok
  exact (Bool.and_eq_true_iff.1 hform).2

theorem profs_profStore_same (p : Nat) (h : Hw) (b : List Byte) : mget (profStore p h b).vlv.profs (fld b 0 1) = some (p, b) :=
  mget_mset_same ..

theorem profs_profStore_other (p : Nat) (h : Hw) {b : List Byte} {n : Nat} (hn : fld b 0 1 ≠ n) :
    mget (profStore p h b).vlv.profs n = mget h.vlv.profs n := mget_mset_other _ _ _ _ hn

theorem profs_foldl_other (p : Nat) {bs : List (List Byte)} {n : Nat} (hn : ∀ b ∈ bs, fld b 0 1 ≠ n) (h : Hw) :
    mget (bs.foldl (profStore p) h).vlv.profs n = mget h.vlv.profs n :=
  List.foldlRecOn (motive := fun g : Hw => mget g.vlv.profs n = mget h.vlv.profs n) bs (profStore p) rfl
    fun g hg b hb => (profs_profStore_other p g (hn b hb)).trans hg

/-- Blocks that name different profiles are all stored for their partition (R421). -/
theorem profs_foldl_profStore (p : Nat) {bs : List (List Byte)} (hd : distinct (bs.map fun b => fld b 0 1) = true) (h : Hw) :
    ∀ b ∈ bs, mget (bs.foldl (profStore p) h).vlv.profs (fld b 0 1) = some (p, b) := by
  induction bs generalizing h with
  | nil => exact fun _ hb => absurd hb List.not_mem_nil
  | cons b bs ih =>
    simp only [List.map_cons, distinct, Bool.and_eq_true, Bool.not_eq_true', List.contains_eq_mem, decide_eq_false_iff_not,
      List.mem_map, not_exists, not_and] at hd
    obtain ⟨hfirst, hrest⟩ := hd
    refine List.forall_mem_cons.2 ⟨?_, ih hrest (profStore p h b)⟩
    rw [List.foldl_cons, profs_foldl_other p hfirst, profs_profStore_same]

/-- Storing profiles touches no operation. -/
theorem flight_foldl_profStore (p : Nat) (bs : List (List Byte)) (h : Hw) (id : Nat) :
    (bs.foldl (profStore p) h).flight id = h.flight id :=
  List.foldlRecOn (motive := fun g : Hw => g.flight id = h.flight id) bs (profStore p) rfl fun _ hg _ _ => hg

/-- Taking over currents touches no operation (R422). -/
theorem rng_foldl_solcur (es : List Nat) (h : Hw) : (es.foldl (fun g e => if solOn g (e % 256) && solMode g (e % 256) == 2
    then solCode g (e % 256) (e / 256 % 4096) else g) h).rng = h.rng := by
  have hcode (g : Hw) (c code : Nat) : (solCode g c code).rng = g.rng := by
    unfold solCode
    split
    · exact showSol_rng ..
    · rfl
  refine List.foldlRecOn (motive := fun g : Hw => g.rng = h.rng) es _ rfl fun g hg e _ => ?_
  split
  · exact (hcode ..).trans hg
  · exact hg

/-! ## Time to peak -/

/-- The time to peak is judged and reported. -/
def TtpJudged (h : Hw) (c : Nat) : Prop := (h.sol c).ttpDone = true ∧ h.get F.SOL_TTP_LAST_VALID c = 1

/-- Reporting a time ends the check of the phase (R429). -/
theorem ttpJudged_of_reported (h : Hw) (c : Nat) (x : Sol) :
    TtpJudged ((h.put F.SOL_TTP_LAST_VALID 1 c).setSol c { x with ttpDone := true }) c :=
  ⟨by rw [sol_setSol_same], get_put_fits _ F.SOL_TTP_LAST_VALID 1 _ _ (by decide)⟩

/-- Switching off leaves what has been judged (R430). -/
theorem TtpJudged.solOffAt {h : Hw} {c : Nat} (hj : TtpJudged h c) (t : Nat) : TtpJudged (solOffAt h c t) c := by
  obtain ⟨hdone, hvalid⟩ := hj
  exact ⟨by rw [sol_solOffAt, hdone], (get_solOffAt _ _ _ F.SOL_TTP_LAST_VALID).trans hvalid⟩

theorem ttpJudged_ttpFail (h : Hw) (c us : Nat) (short : Bool) (t : Nat) : TtpJudged (ttpFail h c us short t) c := by
  unfold ttpFail
  dsimp only
  split
  · exact (ttpJudged_of_reported ..).solOffAt t
  · exact ttpJudged_of_reported ..

theorem ttpJudged_ttpReached (h : Hw) (c t : Nat) : TtpJudged (ttpReached h c t) c := by
  unfold ttpReached
  dsimp only
  split
  · exact ttpJudged_ttpFail ..
  · exact ttpJudged_of_reported ..

/-! ## Oil temperature -/

/-- A signed number stands in w bits as the bits it was read from. -/
theorem ux_sx (w n : Nat) : ux w (sx w n) = n % 2 ^ w := by
  unfold ux sx
  split
  · rw [← Int.natCast_emod, Nat.mod_mod, Int.toNat_natCast]
  · rw [Int.sub_emod_right, ← Int.natCast_emod, Nat.mod_mod, Int.toNat_natCast]

theorem get_putS_getS (h g : Hw) {f k : Fld} (i j l m : Nat) (hw : f.w = k.w) (hf : f.lo + f.w ≤ 32) :
    (h.putS f (g.getS k l m) i j).get f i j = g.get k l m := by
  rw [Hw.putS, Hw.getS, get_put_same _ _ _ _ _ hf, hw, ux_sx, Nat.mod_mod, Nat.mod_eq_of_lt (get_lt ..)]

/-- With no source the fixed value stands for the oil temperature (R433). -/
theorem oilTemp_of_no_source {h : Hw} (hsrc : h.get F.SOL_OIL_CFG_SRC = 0) : oilTemp h = (h.getS F.SOL_OIL_CFG_FIXED, true, h) := by
  simp only [oilTemp, hsrc, true_or, if_true]

/-! ## The commands -/

section
variable {dt : Nat} {s : State} (hon : s.hw.isOn = true)
include hon

theorem solEnable_enables {hart : Fin 19} {c : Fin 48} {v : Word} (hown : s.hw.byOwner hart c = true) (hoff : solOn s.hw c = false)
    (hok : solCheck ((s.hw.elapse dt).setReg (F.SOL_CFG_ENABLE.at c 0)
      (BitVec.ofNat 32 ((v.toNat % 2 ^ 12 + v.toNat / 2 ^ 16 * 2 ^ 16) / 2 * 2))) c = ST_OK) :
    Does (.solEnable dt hart c v) s fun h => solOn h c = true ∧ h.get F.SOL_ST_STATUS c = ST_OK := by
  refine does_of_run (show execSolEnable dt hart c v s = _ from rfl) hon ?_
  rw [elapse_byOwner, if_pos hown]
  exact solEnable_of_check_ok hoff hok

theorem solDisable_disables {hart : Fin 19} {c : Fin 48} {v : Word} (hown : s.hw.byOwner hart c = true)
    (hen : solOn s.hw c = true) : Does (.solDisable dt hart c v) s fun h =>
      solOn h c = false ∧ (h.sol c).pend = none ∧ (h.sol c).code = 0 := by
  refine does_of_run (show execSolDisable dt hart c v s = _ from rfl) hon ?_
  rw [elapse_byOwner, if_pos hown]
  exact solDisable_of_on (h := s.hw.elapse dt) hen v.toNat

/-- The image is read and judged as it stands in memory. -/
theorem solprof_stores {id : Nat} {f : Flight} (hf : OpRuns s.hw id 12 1 f) (he : s.hw.ecc = []) {img : List Byte}
    (himg : img = s.hw.rd (fld f.desc 8 8) (fld f.desc 16 4)) (hok : profCheck s.hw f.part img (fld f.desc 16 4) = ST_OK) :
    Does (.solprof dt id) s fun h => OpEnded h id ST_OK ∧
      ∀ b ∈ profBlocks img (fld img 2 2), mget h.vlv.profs (fld b 0 1) = some (f.part, b) := by
  refine does_of_run_onOp (show execSolprof dt id s = _ from rfl) hon hf ?_
  obtain ⟨g, ⟨n, rfl⟩, hread⟩ := engRead_changes_freeCtr (h := s.hw.elapse dt) he f [(fld f.desc 8 8, fld f.desc 16 4)]
  have hrd : { s.hw.elapse dt with freeCtr := n }.rd (fld f.desc 8 8) (fld f.desc 16 4) = img := himg.symm
  have hok' : profCheck { s.hw.elapse dt with freeCtr := n } f.part img (fld f.desc 16 4) = ST_OK := hok
  dsimp only
  rw [hread, hrd, hok', if_pos rfl]
  refine ⟨opEnded_finish ?_ .., ?_⟩
  · rw [flight_foldl_profStore]
    exact hf.1
  · rw [finish_vlv]
    exact profs_foldl_profStore f.part (distinct_of_profCheck_ok hok) _

theorem solcur_takes_effect {id : Nat} {f : Flight} (hf : OpRuns s.hw id 12 2 f) : Does (.solcur dt id) s fun h =>
    OpEnded h id ST_OK ∧ h.vlv = ((setEntries f.desc).foldl (fun g e => if solOn g (e % 256) && solMode g (e % 256) == 2
      then solCode g (e % 256) (e / 256 % 4096) else g) (s.hw.elapse dt)).vlv := by
  refine does_of_run_onOp (show execSolcur dt id s = _ from rfl) hon hf ⟨opEnded_finish ?_ .., finish_vlv ..⟩
  rw [Hw.flight, rng_foldl_solcur]
  exact hf.1

/-- A running phase with no time to peak to judge ends with its DURATION (R415). -/
theorem phaseEnd_after_duration {c : Fin 48} (hrun : (s.hw.sol c).out = 3) (hjudged : ttpOpen s.hw c = false)
    (hdur : phDur (s.hw.sol c).prof (s.hw.sol c).phase ≠ 0)
    (hdue : (s.hw.sol c).phaseAt + phDur (s.hw.sol c).prof (s.hw.sol c).phase ≤ s.hw.now + dt) :
    Does (.phaseEnd dt c false) s fun h =>
      h = phaseNext (s.hw.elapse dt) c ((s.hw.sol c).phaseAt + phDur (s.hw.sol c).prof (s.hw.sol c).phase) := by
  refine does_of_run (show execPhaseEnd dt c false s = _ from rfl) hon ?_
  have hjudged' : ttpOpen (s.hw.elapse dt) c = false := hjudged
  simp only [sol_elapse, elapse_now, hrun, hjudged', hdur, hdue, ne_eq, not_true_eq_false, not_false_eq_true, decide_true,
    Bool.and_self, Bool.false_and, Bool.false_eq_true, if_false, if_true]

/-- A PEAK phase that reaches its TARGET by its DURATION ends there (R415). -/
theorem phaseEnd_at_target {c : Fin 48} (hrun : (s.hw.sol c).out = 3) (hpeak : phKind (s.hw.sol c).prof (s.hw.sol c).phase = 1)
    (hjudged : ttpOpen s.hw c = false)
    (hdue : s.hw.now + dt ≤ (s.hw.sol c).phaseAt + phDur (s.hw.sol c).prof (s.hw.sol c).phase) :
    Does (.phaseEnd dt c true) s fun h => h = phaseNext (s.hw.elapse dt) c (s.hw.now + dt) := by
  refine does_of_run (show execPhaseEnd dt c true s = _ from rfl) hon ?_
  have hjudged' : ttpOpen (s.hw.elapse dt) c = false := hjudged
  have hguard : (!(decide (phDur (s.hw.sol c).prof (s.hw.sol c).phase ≠ 0) &&
      decide ((s.hw.sol c).phaseAt + phDur (s.hw.sol c).prof (s.hw.sol c).phase ≤ s.hw.now + dt)) ||
      decide ((s.hw.sol c).phaseAt + phDur (s.hw.sol c).prof (s.hw.sol c).phase = s.hw.now + dt)) = true := by
    simp only [Bool.or_eq_true, Bool.not_eq_true', Bool.and_eq_false_iff, decide_eq_true_eq, decide_eq_false_iff_not]
    omega
  simp only [sol_elapse, elapse_now, hrun, hjudged', hpeak, ne_eq, not_true_eq_false, BEq.rfl, Bool.and_self, Bool.true_and,
    Bool.false_eq_true, if_false, if_true]
  exact if_pos hguard

theorem offtimeEnd_judges {c : Fin 48} (hidle : (s.hw.sol c).out ≠ 3) (hdue : (s.hw.sol c).offEnd ≤ s.hw.now + dt) :
    Does (.offtimeEnd dt c) s fun h => h = showSol (solDeferredStart (s.hw.elapse dt) c) c :=
  does_of_run (show execOfftimeEnd dt c s = _ from rfl) hon (if_pos ⟨hidle, hdue⟩)

/-- Each PEAK phase is judged once: at TARGET, or when MAX has passed without it (R429, log entry 24). -/
theorem timeToPeak_reports {c : Fin 48} {reached : Bool} (hopen : ttpOpen s.hw c = true)
    (hend : reached = true ∨ (s.hw.sol c).phaseAt + 10000 * (s.hw.sol c).ttpMax ≤ s.hw.now + dt) :
    Does (.timeToPeak dt c reached) s fun h => TtpJudged h c := by
  refine does_of_run (show execTimeToPeak dt c reached s = _ from rfl) hon ?_
  have hopen' : ttpOpen (s.hw.elapse dt) c = true := hopen
  dsimp only
  rw [hopen', Bool.not_true, if_neg Bool.false_ne_true]
  by_cases hr : reached = true
  · rw [if_pos hr]
    exact ttpJudged_ttpReached ..
  · have hdue : ((s.hw.elapse dt).sol c).phaseAt + 10000 * ((s.hw.elapse dt).sol c).ttpMax ≤ (s.hw.elapse dt).now :=
      hend.resolve_left hr
    rw [if_neg hr, if_pos hdue]
    exact ttpJudged_ttpFail ..

/-- The temperature is taken in each millisecond in which it has not been (R433). -/
theorem oilTempUpdate_takes (hms : s.hw.vlv.oilMs ≠ some ((s.hw.now + dt) / 1000000)) : Does (.oilTempUpdate dt) s fun h =>
    h.vlv.oilMs = some ((s.hw.now + dt) / 1000000) ∧ (s.hw.get F.SOL_OIL_CFG_SRC = 0 →
      h.get F.SOL_OIL_TEMP_T_OIL = s.hw.get F.SOL_OIL_CFG_FIXED ∧ h.get F.SOL_OIL_TEMP_FIXED_USED = 1) := by
  refine does_of_run (show execOilTempUpdate dt s = _ from rfl) hon ?_
  dsimp only
  rw [elapse_vlv, elapse_now, if_neg hms]
  refine ⟨rfl, fun hsrc => ?_⟩
  rw [oilTemp_of_no_source (h := s.hw.elapse dt) hsrc]
  refine ⟨?_, get_put_fits _ F.SOL_OIL_TEMP_FIXED_USED 1 _ _ (by decide)⟩
  rw [get_put_disjoint _ F.SOL_OIL_TEMP_FIXED_USED F.SOL_OIL_TEMP_T_OIL _ _ _ _ _ (by decide) (by decide)]
  exact get_putS_getS _ _ 0 0 0 0 rfl (by decide)

/-- The coil estimate takes its next value in each millisecond in which it has not, by the exact model (R434, log entry 24). -/
theorem thermalModelStep_steps {c : Fin 48} {duty vf i irms : Nat} (hen : solOn s.hw c = true)
    (hms : (s.hw.sol c).stepMs ≠ some ((s.hw.now + dt) / 1000000)) : Does (.thermalModelStep dt c duty vf i irms) s fun h =>
      CoilAt h c ((s.hw.now + dt) / 1000000) (coilStep (s.hw.elapse dt) c duty vf i irms).1 := by
  refine does_of_run (show execThermalModelStep dt c duty vf i irms s = _ from rfl) hon ?_
  have hdue : (!solOn (s.hw.elapse dt) c || ((s.hw.elapse dt).sol c).stepMs == some ((s.hw.elapse dt).now / 1000000)) = false :=
    Bool.or_eq_false_iff.2 ⟨(Bool.not_eq_false' _).mpr hen, beq_eq_false_iff_ne.2 hms⟩
  dsimp only
  rw [hdue, if_neg Bool.false_ne_true]
  generalize coilStep (s.hw.elapse dt) c duty vf i irms = step
  obtain ⟨t, tm⟩ := step
  have htaken (dev : Option Nat) : CoilAt ((solTake (s.hw.elapse dt) c).setSol c { (solTake (s.hw.elapse dt) c).sol c with
      temp := t, stepMs := some ((s.hw.elapse dt).now / 1000000), devSince := dev }) c ((s.hw.now + dt) / 1000000) t := by
    unfold CoilAt
    rw [sol_setSol_same]
    exact ⟨rfl, rfl⟩
  refine CoilAt.shown (CoilAt.of_sol_eq ?_ (sol_put ..))
  cases tm with
  | none => exact htaken _
  | some m => exact (htaken _).openRound _

end

/-- Settles O16: one command after another, each from its own effect. -/
theorem valveCommandsComplete : Obligations.ValveCommandsComplete := by
  unfold Obligations.ValveCommandsComplete
  refine ⟨?solEnable, ?solDisable, ?solprof, ?solcur, ?phaseEnd, ?phaseEndPeak, ?offtimeEnd, ?timeToPeak, ?oilTempUpdate,
    ?thermalModelStep⟩
  case solEnable => exact fun _ _ _ _ _ hon hown hoff hok => solEnable_enables hon hown hoff hok
  case solDisable => exact fun _ _ _ _ _ hon hown hen => solDisable_disables hon hown hen
  case solprof => exact fun _ _ _ _ _ hon hf he himg hok => solprof_stores hon hf he himg hok
  case solcur => exact fun _ _ _ _ hon hf => solcur_takes_effect hon hf
  case phaseEnd => exact fun _ _ _ hon hrun hjudged hdur hdue => phaseEnd_after_duration hon hrun hjudged hdur hdue
  case phaseEndPeak => exact fun _ _ _ hon hrun hpeak hjudged hdue => phaseEnd_at_target hon hrun hpeak hjudged hdue
  case offtimeEnd => exact fun _ _ _ hon hidle hdue => offtimeEnd_judges hon hidle hdue
  case timeToPeak => exact fun _ _ _ _ hon hopen hend => timeToPeak_reports hon hopen hend
  case oilTempUpdate => exact fun _ _ hon hms => oilTempUpdate_takes hon hms
  case thermalModelStep => exact fun _ _ _ _ _ _ _ hon hen hms => thermalModelStep_steps hon hen hms

end Sys2Proof.Machine
end

section
/-!
PROOF. Outputs and load switches: what showing a switch and setting an output leave alone, when a switch is off, and from that the
own effects of the commands of the load switches (O18).
-/
namespace Sys2Proof.Machine

/-! ## An output channel's own state -/

@[simp] theorem out_setOut_same (h : Hw) (p : Nat) (x : OutCh) : (h.setOut p x).out p = x := mgetD_mset_same ..
@[simp] theorem out_elapse (h : Hw) (dt p : Nat) : (h.elapse dt).out p = h.out p := rfl
@[simp] theorem out_put (h : Hw) (f : Fld) (v i j p : Nat) : (h.put f v i j).out p = h.out p := rfl
@[simp] theorem out_log (h : Hw) (ty inst : Nat) (l : Bool) (p : Nat) : (h.log ty inst l).out p = h.out p := rfl
@[simp] theorem out_showLs (h : Hw) (c p : Nat) : (showLs h c).out p = h.out p := rfl
@[simp] theorem get_setOut (h : Hw) (p : Nat) (x : OutCh) (f : Fld) (i j : Nat) : (h.setOut p x).get f i j = h.get f i j := rfl
@[simp] theorem setOut_rng (h : Hw) (p : Nat) (x : OutCh) : (h.setOut p x).rng = h.rng := rfl
@[simp] theorem setOut_diag (h : Hw) (p : Nat) (x : OutCh) : (h.setOut p x).diag = h.diag := rfl

/-! ## Showing a load switch -/

@[simp] theorem showLs_rng (h : Hw) (c : Nat) : (showLs h c).rng = h.rng := rfl
@[simp] theorem showLs_diag (h : Hw) (c : Nat) : (showLs h c).diag = h.diag := rfl

/-- Showing a switch leaves its other registers alone. -/
theorem get_showLs (h : Hw) (c : Nat) (f : Fld) (hst : F.LSW_STATUS_ON.st1 = f.st1)
    (ha : F.LSW_STATUS_ON.addr ≠ f.addr) : (showLs h c).get f c = h.get f c := by
  rw [showLs, get_put_same_row _ F.LSW_STATUS_CH_FAULT f _ _ hst ha, get_put_same_row _ F.LSW_STATUS_FORCED f _ _ hst ha,
    get_put_same_row _ F.LSW_STATUS_ON f _ _ hst ha]

/-- Showing a switch leaves what its last enable was answered. -/
theorem get_err_showLs (h : Hw) (c : Nat) : (showLs h c).get F.LSW_STATUS_ERR c = h.get F.LSW_STATUS_ERR c := by
  have hfields (g : Hw) (f : Fld) (v : Nat) (hf : f.lo + f.w ≤ 16) :
      (g.put f v c).get F.LSW_STATUS_ERR c = g.get F.LSW_STATUS_ERR c :=
    get_put_disjoint _ f F.LSW_STATUS_ERR _ _ _ _ _ (.inl hf) (by decide)
  rw [showLs, hfields _ _ _ (by decide), hfields _ _ _ (by decide), hfields _ _ _ (by decide)]

/-! ## When a load switch is off -/

/-- Protection comes first: a switch with a channel fault is off (R471). -/
theorem lsOn_of_lsFault {h : Hw} {c : Nat} (hf : lsFault h c = true) : lsOn h c = false := by
  simp only [lsOn, hf, Bool.true_or, if_true]

theorem lsFault_of_short {h : Hw} {c : Nat} (hs : h.get F.LSW_FAULT_SHORT c = 1) : lsFault h c = true := by
  simp only [lsFault, Hw.flag, hs, Nat.reduceBneDiff, Bool.true_or]

theorem lsFault_of_overtemp {h : Hw} {c : Nat} (ht : (h.out (48 + c)).ot = true) : lsFault h c = true := by
  simp only [lsFault, ht, Bool.or_true]

/-- A switch that goes off for a latched cause keeps its fault bits and forgets its command (R461). -/
theorem lsLatch_latches (h : Hw) (c : Nat) (f : Fld) (hst : F.LSW_STATUS_ON.st1 = f.st1)
    (ha : F.LSW_STATUS_ON.addr ≠ f.addr) : (lsLatch h c).get f c = h.get f c ∧
      ((lsLatch h c).out (48 + c)).cmd = false ∧ (lsLatch h c).diag = h.diag := by
  refine ⟨?_, ?_, ?_⟩
  · rw [lsLatch, get_showLs _ _ f hst ha, get_setOut]
  · rw [lsLatch, out_showLs, out_setOut_same]
  · rw [lsLatch, showLs_diag, setOut_diag]

/-! ## Registers as numbers -/

theorem get_eq_div_mod (h : Hw) (f : Fld) (i j : Nat) : h.get f i j = (h.reg (f.at i j)).toNat / 2 ^ f.lo % 2 ^ f.w := by
  rw [Hw.get, BitVec.extractLsb'_toNat, Nat.shiftRight_eq_div_pow]

theorem get_setReg_ofNat (h : Hw) (f : Fld) (i j : Nat) {n : Nat} (hn : n < 2 ^ 32) :
    (h.setReg (f.at i j) (BitVec.ofNat 32 n)).get f i j = n / 2 ^ f.lo % 2 ^ f.w := by
  rw [get_eq_div_mod, reg_setReg_same, BitVec.toNat_ofNat, Nat.mod_eq_of_lt hn]

/-- Where no borrow comes from the low bits, a difference is taken in the high bits alone. -/
theorem sub_div_of_mod_le {n y p : Nat} (hp : 0 < p) (hdiv : y / p ≤ n / p) (hmod : y % p ≤ n % p) :
    (n - y) / p = n / p - y / p := by
  have hparts : n - y = p * (n / p - y / p) + (n % p - y % p) := by
    have hn := Nat.div_add_mod n p
    have hy := Nat.div_add_mod y p
    have hle := Nat.mul_le_mul_left p hdiv
    rw [Nat.mul_sub]
    omega
  have hrest : (n % p - y % p) / p = 0 := Nat.div_eq_of_lt (Nat.lt_of_le_of_lt (Nat.sub_le ..) (Nat.mod_lt n hp))
  rw [hparts, Nat.mul_add_div hp, hrest, Nat.add_zero]

/-- A bit that a write of ones clears is gone. -/
theorem cleared_bit {n m k : Nat} (hm : m / 2 ^ k % 2 = 1) : (n - (n &&& m)) / 2 ^ k % 2 = 0 := by
  have hbit : (n &&& m) / 2 ^ k % 2 = 1 ↔ n / 2 ^ k % 2 = 1 ∧ m / 2 ^ k % 2 = 1 := by
    rw [Nat.and_div_two_pow]
    exact Nat.and_mod_two_eq_one
  have hhigh : (n &&& m) / 2 ^ k ≤ n / 2 ^ k := Nat.div_le_div_right Nat.and_le_left
  have hlow : (n &&& m) % 2 ^ k ≤ n % 2 ^ k := by
    rw [Nat.and_mod_two_pow]
    exact Nat.and_le_left
  rw [sub_div_of_mod_le (Nat.two_pow_pos k) hhigh hlow]
  omega

/-! ## Enabling and clearing faults -/

/-- Settings that pass are stored, and the switch waits for its next command (R482). -/
theorem lsCfgWrite_of_check_ok {h : Hw} {c v : Nat} (hoff : h.flag F.LSW_CFG_ENABLE c = false) (hv : v % 2 = 1)
    (hlimit : bits v 15 8 ≠ 0) (h7 : bits v 7 7 = 0) (h16 : bits v 31 16 = 0) :
    (lsCfgWrite h c v).flag F.LSW_CFG_ENABLE c = true ∧ (lsCfgWrite h c v).get F.LSW_STATUS_ERR c = ST_OK ∧
      ((lsCfgWrite h c v).out (48 + c)).cmd = false := by
  have hold : ¬ (h.reg (F.LSW_CFG_ENABLE.at c 0)).toNat % 2 = 1 := by
    have hget : h.get F.LSW_CFG_ENABLE c = 0 := by simpa only [Hw.flag, bne_eq_false_iff_eq] using hoff
    rw [get_eq_div_mod] at hget
    simp only [F.LSW_CFG_ENABLE] at hget ⊢
    omega
  have hset : bits (v % 2 ^ 7 + bits v 15 8 * 2 ^ 8) 15 8 ≠ 0 := by
    simp only [bits] at hlimit ⊢
    omega
  have hcheck : firstBad [(bits (v % 2 ^ 7 + bits v 15 8 * 2 ^ 8) 15 8 != 0 && bits v 7 7 == 0 && bits v 31 16 == 0,
      ST_LSW_CONFIG)] = ST_OK := by
    rw [h7, h16, bne_iff_ne.2 hset]
    rfl
  unfold lsCfgWrite
  dsimp only
  rw [if_neg hold, if_neg (by omega), hcheck, if_pos rfl, if_pos rfl]
  refine ⟨?_, ?_, ?_⟩
  · have hnew : v % 2 ^ 7 + bits v 15 8 * 2 ^ 8 < 2 ^ 32 := by
      simp only [bits]
      omega
    have hen : (v % 2 ^ 7 + bits v 15 8 * 2 ^ 8) / 2 ^ F.LSW_CFG_ENABLE.lo % 2 ^ F.LSW_CFG_ENABLE.w = 1 := by
      simp only [F.LSW_CFG_ENABLE]
      omega
    rw [Hw.flag, get_showLs _ _ F.LSW_CFG_ENABLE rfl (by decide), get_setOut,
      get_put_same_row _ F.LSW_STATUS_ERR F.LSW_CFG_ENABLE _ _ rfl (by decide), get_setReg_ofNat _ _ _ _ hnew, hen]
    rfl
  · rw [get_err_showLs, get_setOut, get_put_fits _ F.LSW_STATUS_ERR _ _ _ (by decide) (by decide)]
  · rw [out_showLs, out_setOut_same]

/-- A cause that is cleared is gone, whatever becomes of OVERTEMP (R461). -/
theorem lsFaultClear_clears (h : Hw) (c v : Nat) (stillHot : Bool) :
    (bit v 0 = true → (lsFaultClear h c v stillHot).get F.LSW_FAULT_SHORT c = 0) ∧
      (bit v 4 = true → (lsFaultClear h c v stillHot).get F.LSW_FAULT_SHED c = 0) := by
  unfold lsFaultClear
  extract_lets x keepOt clear old h1 ends endsOt x1 x2
  have hleft : old - (old &&& clear) < 2 ^ 32 := Nat.lt_of_le_of_lt (Nat.sub_le ..) (BitVec.isLt _)
  have hclear {k : Nat} (hk : k = 0 ∨ k = 4) (hv : bit v k = true) : clear / 2 ^ k % 2 = 1 := by
    simp only [bit, decide_eq_true_eq] at hv
    unfold clear bits
    obtain rfl | rfl := hk
    · split <;> omega
    · split <;> omega
  refine ⟨fun hv => ?_, fun hv => ?_⟩
  · rw [get_showLs _ _ F.LSW_FAULT_SHORT rfl (by decide), get_setOut]
    exact (get_setReg_ofNat h F.LSW_FAULT_SHORT c 0 hleft).trans (cleared_bit (hclear (.inl rfl) hv))
  · rw [get_showLs _ _ F.LSW_FAULT_SHED rfl (by decide), get_setOut]
    exact (get_setReg_ofNat h F.LSW_FAULT_SHED c 0 hleft).trans (cleared_bit (hclear (.inr rfl) hv))

/-- Commands to load switches touch no operation (R459). -/
theorem rng_foldl_lswset (es : List Nat) (h : Hw) : (es.foldl (fun g e => if g.flag F.LSW_CFG_ENABLE (e % 128) &&
    g.get F.LSW_CFG_MODE (e % 128) == 1 then lsCommand g (e % 128) (bit e 8) else g) h).rng = h.rng := by
  have hcommand (g : Hw) (c : Nat) (on : Bool) : (lsCommand g c on).rng = g.rng := by
    unfold lsCommand
    split
    · rw [showLs_rng, setOut_rng]
    · rfl
  refine List.foldlRecOn (motive := fun g : Hw => g.rng = h.rng) es _ rfl fun g hg e _ => ?_
  split
  · exact (hcommand ..).trans hg
  · exact hg

/-! ## The commands -/

section
variable {dt : Nat} {s : State} {c : Fin 96} (hon : s.hw.isOn = true)
include hon

theorem lswEnable_enables {hart : Fin 19} {v : Word} (hown : s.hw.byOwner hart (48 + c) = true)
    (hoff : s.hw.flag F.LSW_CFG_ENABLE c = false) (hlimit : bits (v ||| 1).toNat 15 8 ≠ 0) (h7 : bits (v ||| 1).toNat 7 7 = 0)
    (h16 : bits (v ||| 1).toNat 31 16 = 0) : Does (.lswEnable dt hart c v) s fun h => h.flag F.LSW_CFG_ENABLE c = true ∧
      h.get F.LSW_STATUS_ERR c = ST_OK ∧ (h.out (48 + c)).cmd = false := by
  refine does_of_run (show execLswEnable dt hart c v s = _ from rfl) hon ?_
  have hodd : (v ||| 1).toNat % 2 = 1 := by
    rw [BitVec.toNat_or]
    exact Nat.or_mod_two_eq_one.2 (.inr rfl)
  rw [elapse_byOwner, if_pos hown]
  exact lsCfgWrite_of_check_ok (h := s.hw.elapse dt) hoff hodd hlimit h7 h16

theorem lswset_takes_effect {id : Nat} {f : Flight} (hf : OpRuns s.hw id 12 3 f) : Does (.lswset dt id) s fun h =>
    OpEnded h id ST_OK ∧ h.til = ((setEntries f.desc).foldl (fun g e => if g.flag F.LSW_CFG_ENABLE (e % 128) &&
      g.get F.LSW_CFG_MODE (e % 128) == 1 then lsCommand g (e % 128) (bit e 8) else g) (s.hw.elapse dt)).til := by
  refine does_of_run_onOp (show execLswset dt id s = _ from rfl) hon hf ⟨opEnded_finish ?_ .., finish_til ..⟩
  rw [Hw.flight, rng_foldl_lswset]
  exact hf.1

/-- A switch that limits its current for too long latches a short (R453). -/
theorem currentLimitTimeout_latches {dur : Nat} (hls : lsOn s.hw c = true)
    (hdur : 100000 * s.hw.get F.LSW_CFG_LIMIT_T c < dur) : Does (.currentLimitTimeout dt c dur) s fun h =>
      h.get F.LSW_FAULT_SHORT c = 1 ∧ (h.out (48 + c)).cmd = false ∧ lsOn h c = false ∧
        h.diag = s.hw.diag ++ [⟨0x0901, c, false⟩] := by
  refine does_of_run (show execCurrentLimitTimeout dt c dur s = _ from rfl) hon ?_
  have hdue : (lsOn (s.hw.elapse dt) c && decide (100000 * (s.hw.elapse dt).get F.LSW_CFG_LIMIT_T c < dur)) = true :=
    Bool.and_eq_true_iff.2 ⟨hls, decide_eq_true hdur⟩
  rw [if_pos hdue]
  obtain ⟨hget, hcmd, hdiag⟩ := lsLatch_latches (((s.hw.elapse dt).put F.LSW_FAULT_SHORT 1 c).log 0x0901 c) c F.LSW_FAULT_SHORT
    rfl (by decide)
  rw [log_get, get_put_fits _ F.LSW_FAULT_SHORT 1 _ _ (by decide) (by decide)] at hget
  exact ⟨hget, hcmd, lsOn_of_lsFault (lsFault_of_short hget), hdiag⟩

theorem openOn_latches (hls : lsOn s.hw c = true) : Does (.openOn dt c) s fun h => h.get F.LSW_FAULT_OPEN_ON c = 1 ∧
    h.til = s.hw.til ∧ h.diag = s.hw.diag ++ [⟨0x0902, c, true⟩] := by
  refine does_of_run (show execOpenOn dt c s = _ from rfl) hon ?_
  have hls' : lsOn (s.hw.elapse dt) c = true := hls
  rw [if_pos hls']
  exact ⟨get_put_fits _ F.LSW_FAULT_OPEN_ON 1 _ _ (by decide) (by decide), rfl, rfl⟩

theorem offHigh_latches (hls : lsOn s.hw c = false) (hcheck : s.hw.flag F.LSW_CFG_OL_OFF c = true) : Does (.offHigh dt c) s fun h =>
    h.get F.LSW_FAULT_OFF_HIGH c = 1 ∧ h.til = s.hw.til ∧ h.diag = s.hw.diag ++ [⟨0x0902, c, true⟩] := by
  refine does_of_run (show execOffHigh dt c s = _ from rfl) hon ?_
  have hjudged : (!lsOn (s.hw.elapse dt) c && (s.hw.elapse dt).flag F.LSW_CFG_OL_OFF c) = true :=
    Bool.and_eq_true_iff.2 ⟨(Bool.not_eq_true' _).mpr hls, hcheck⟩
  rw [if_pos hjudged]
  exact ⟨get_put_fits _ F.LSW_FAULT_OFF_HIGH 1 _ _ (by decide) (by decide), rfl, rfl⟩

/-- A switch that is too hot goes off, in either mode (R455). -/
theorem overtemp_latches (hcool : (s.hw.out (48 + c)).ot = false) : Does (.overtemp dt c) s fun h =>
    (h.out (48 + c)).ot = true ∧ lsOn h c = false ∧ h.get F.LSW_FAULT_OVERTEMP c = 1 ∧
      h.diag = s.hw.diag ++ [⟨0x0903, c, false⟩] := by
  refine does_of_run (show execOvertemp dt c s = _ from rfl) hon ?_
  dsimp only
  rw [out_elapse, hcool, if_neg Bool.false_ne_true]
  have hhot (x : OutCh) (hx : x.ot = true) (h : Hw) :
      ((showLs ((((h.setOut (48 + c) x).put F.LSW_FAULT_OVERTEMP 1 c).log 0x0903 c)) c).out (48 + c)).ot = true := by
    rw [out_showLs, out_log, out_put, out_setOut_same, hx]
  refine ⟨hhot _ rfl _, lsOn_of_lsFault (lsFault_of_overtemp (hhot _ rfl _)), ?_, rfl⟩
  rw [get_showLs _ _ F.LSW_FAULT_OVERTEMP rfl (by decide), log_get,
    get_put_fits _ F.LSW_FAULT_OVERTEMP 1 _ _ (by decide) (by decide)]

/-- In restart mode a switch that has cooled takes up what was commanded (R455). -/
theorem overtempRestart_restarts (hot : (s.hw.out (48 + c)).ot = true) (hmode : (s.hw.out (48 + c)).otLatch = false) :
    Does (.overtempRestart dt c) s fun h => (h.out (48 + c)).ot = false ∧
      (h.out (48 + c)).cmd = (s.hw.out (48 + c)).cmd := by
  refine does_of_run (show execOvertempRestart dt c s = _ from rfl) hon ?_
  dsimp only
  rw [out_elapse, hot, hmode, Bool.not_false, Bool.and_true, if_pos rfl, out_showLs, out_setOut_same]
  exact ⟨rfl, rfl⟩

theorem lswFaultClear_clears {hart : Fin 19} {v : Word} {stillHot : Bool} (hown : s.hw.byOwner hart (48 + c) = true) :
    Does (.lswFaultClear dt hart c v stillHot) s fun h => (bit v.toNat 0 = true → h.get F.LSW_FAULT_SHORT c = 0) ∧
      (bit v.toNat 4 = true → h.get F.LSW_FAULT_SHED c = 0) := by
  refine does_of_run (show execLswFaultClear dt hart c v stillHot s = _ from rfl) hon ?_
  rw [elapse_byOwner, if_pos hown]
  exact lsFaultClear_clears ..

end

/-- Settles O18: one command after another, each from its own effect. -/
theorem loadSwitchCommandsComplete : Obligations.LoadSwitchCommandsComplete := by
  unfold Obligations.LoadSwitchCommandsComplete
  refine ⟨?lswEnable, ?lswset, ?currentLimitTimeout, ?openOn, ?offHigh, ?overtemp, ?overtempRestart, ?lswFaultClear⟩
  case lswEnable => exact fun _ _ _ _ _ hon hown hoff hlimit h7 h16 => lswEnable_enables hon hown hoff hlimit h7 h16
  case lswset => exact fun _ _ _ _ hon hf => lswset_takes_effect hon hf
  case currentLimitTimeout => exact fun _ _ _ _ hon hls hdur => currentLimitTimeout_latches hon hls hdur
  case openOn => exact fun _ _ _ hon hls => openOn_latches hon hls
  case offHigh => exact fun _ _ _ hon hls hcheck => offHigh_latches hon hls hcheck
  case overtemp => exact fun _ _ _ hon hcool => overtemp_latches hon hcool
  case overtempRestart => exact fun _ _ _ hon hot hmode => overtempRestart_restarts hon hot hmode
  case lswFaultClear => exact fun _ _ _ _ _ _ hon hown => lswFaultClear_clears hon hown

end Sys2Proof.Machine
end

section
/-!
PROOF. Power tiles and the serial watchdog: what the output channels of a tile leave alone, and from that the own effects of the
commands of the tiles and of the watchdog (O19).
-/
namespace Sys2Proof.Machine

/-! ## What output channels leave alone -/

/-- The registers of the tiles and of the watchdog stand as they were (LSW, below the switches' own), and so does the tiles' own
state apart from their output channels. -/
def TilesKept (h g : Hw) : Prop :=
  (∀ a, 0x70000 ≤ a → a < 0x71000 → g.reg a = h.reg a) ∧ g.til = { h.til with outs := g.til.outs }

/-- The first n + 1 rows of a field lie outside the registers of the tiles and of the watchdog. -/
abbrev Fld.OffTiles (f : Fld) (n : Nat) : Prop := f.addr + n * f.st1 < 0x70000 ∨ 0x71000 ≤ f.addr

section
variable {h g k : Hw}

theorem TilesKept.refl : TilesKept h h := ⟨fun _ _ _ => rfl, rfl⟩

theorem TilesKept.trans (hg : TilesKept h g) (hk : TilesKept g k) : TilesKept h k := by
  obtain ⟨hgr, hgt⟩ := hg
  obtain ⟨hkr, hkt⟩ := hk
  exact ⟨fun a hlo hhi => (hkr a hlo hhi).trans (hgr a hlo hhi), by rw [hkt, hgt]⟩

theorem TilesKept.of_eq (hg : TilesKept h g) (hr : k.rf = g.rf) (ht : k.til = g.til) : TilesKept h k :=
  hg.trans ⟨fun a _ _ => by rw [Hw.reg, Hw.reg, hr], by rw [ht]⟩

theorem TilesKept.put (hg : TilesKept h g) {f : Fld} {i n : Nat} (v : Nat) (hi : i ≤ n) (hf : f.OffTiles n) :
    TilesKept h (g.put f v i) := by
  refine hg.trans ⟨fun a hlo hhi => reg_put_other _ _ _ _ _ _ ?_, rfl⟩
  have hrow : i * f.st1 ≤ n * f.st1 := Nat.mul_le_mul_right _ hi
  simp only [Fld.OffTiles, Fld.at] at hf ⊢
  omega

theorem TilesKept.log (hg : TilesKept h g) (ty inst : Nat) (l : Bool) : TilesKept h (g.log ty inst l) := hg
theorem TilesKept.setSol (hg : TilesKept h g) (c : Nat) (x : Sol) : TilesKept h (g.setSol c x) := hg
theorem TilesKept.setFan (hg : TilesKept h g) (n : Nat) (x : Fan) : TilesKept h (g.setFan n x) := hg

theorem TilesKept.setOut (hg : TilesKept h g) (p : Nat) (x : OutCh) : TilesKept h (g.setOut p x) :=
  hg.trans ⟨fun _ _ _ => rfl, rfl⟩

theorem TilesKept.ite (hg : TilesKept h g) (hk : TilesKept h k) {p : Prop} [Decidable p] : TilesKept h (if p then g else k) := by
  split
  · exact hg
  · exact hk

theorem TilesKept.shedMs (hg : TilesKept h g) : g.til.shedMs = h.til.shedMs := by
  obtain ⟨-, htil⟩ := hg
  rw [htil]

/-- A register of a tile reads as before. -/
theorem TilesKept.get (hg : TilesKept h g) {f : Fld} {t : Nat} (ht : t ≤ 7)
    (hf : 0x70000 ≤ f.addr ∧ f.addr + 7 * f.st1 < 0x71000) : g.get f t = h.get f t := by
  obtain ⟨hregs, -⟩ := hg
  have hrow : t * f.st1 ≤ 7 * f.st1 := Nat.mul_le_mul_right _ ht
  have hat : 0x70000 ≤ f.at t 0 ∧ f.at t 0 < 0x71000 := by
    simp only [Fld.at]
    omega
  rw [Hw.get, Hw.get, hregs _ hat.1 hat.2]

end

theorem foldl_tilesKept {α : Type} {step : Hw → α → Hw} (hstep : ∀ g x, TilesKept g (step g x)) (l : List α) (h : Hw) :
    TilesKept h (l.foldl step h) :=
  List.foldlRecOn l step TilesKept.refl fun g hg x _ => hg.trans (hstep g x)

/-! ## Output channels shown, forced and switched off -/

theorem showSol_tilesKept (h : Hw) {c : Nat} (hc : c ≤ 47) : TilesKept h (showSol h c) := by
  obtain ⟨n, _, _, _, _, _, _, _, hshow⟩ := showSol_shows h c
  rw [hshow]
  iterate 7 refine TilesKept.put ?_ _ hc (by decide)
  exact TilesKept.refl.of_eq rfl rfl

theorem showLs_tilesKept (h : Hw) (c : Nat) : TilesKept h (showLs h c) := by
  iterate 3 refine TilesKept.put ?_ _ (Nat.le_refl c) (.inr (by decide))
  exact .refl

theorem showDio_tilesKept (h : Hw) (c : Nat) : TilesKept h (showDio h c) := by
  iterate 3 refine TilesKept.put ?_ _ (Nat.le_refl c) (.inr (by decide))
  exact .refl

theorem showFan_tilesKept (h : Hw) (n : Nat) : TilesKept h (showFan h n) := by
  iterate 6 refine TilesKept.put ?_ _ (Nat.le_refl n) (.inr (by decide))
  exact .refl

theorem showOut_tilesKept (h : Hw) (p : Nat) : TilesKept h (showOut h p) := by
  unfold showOut
  split
  · exact showSol_tilesKept h (by omega)
  · exact (showLs_tilesKept h _).ite ((showDio_tilesKept h _).ite (showFan_tilesKept h _))

theorem solOff_tilesKept (h : Hw) {c : Nat} (hc : c ≤ 47) : TilesKept h (solOff h c) := by
  unfold solOff solOffAt
  exact (TilesKept.refl.setSol c _).trans (showSol_tilesKept _ hc)

theorem heldCode_tilesKept (h : Hw) (c : Nat) : TilesKept h (heldCode h c).2 := by
  unfold heldCode
  split
  · exact .refl
  · obtain ⟨x, n, hround⟩ := openRound_changes_freeCtr h (solBase h c)
    rw [hround]
    exact TilesKept.refl.of_eq rfl rfl

theorem solFailsafe_tilesKept (h : Hw) {c : Nat} (hc : c ≤ 47) : TilesKept h (solFailsafe h c) := by
  unfold solFailsafe
  split
  · exact solOff_tilesKept h hc
  · exact (TilesKept.refl.setSol c _).trans (showSol_tilesKept _ hc)
  · exact ((heldCode_tilesKept h c).setSol c _).trans (showSol_tilesKept _ hc)

theorem fanFailsafe_tilesKept (h : Hw) (n : Nat) : TilesKept h (fanFailsafe h n) := by
  have hanchor : TilesKept h (fanAnchor h n) := TilesKept.refl.setFan n _
  unfold fanFailsafe
  exact (((hanchor.setFan n _).ite hanchor).setOut _ _).trans (showFan_tilesKept _ n)

theorem forceCh_tilesKept (h : Hw) (p : Nat) : TilesKept h (forceCh h p) := by
  unfold forceCh
  dsimp only
  split
  · have hc : p ≤ 47 := by omega
    exact ((solFailsafe_tilesKept h hc).setOut _ _).trans (showSol_tilesKept _ hc)
  · exact ((TilesKept.refl.setOut _ _).trans (showOut_tilesKept _ p)).ite (fanFailsafe_tilesKept h _)

theorem dropCh_tilesKept (h : Hw) (p : Nat) : TilesKept h (dropCh h p) := by
  unfold dropCh
  dsimp only
  split
  · have hc : p ≤ 47 := by omega
    exact ((solOff_tilesKept h hc).setOut _ _).trans (showSol_tilesKept _ hc)
  · refine ((TilesKept.refl.setOut _ _).trans (showOut_tilesKept _ p)).ite ?_
    exact ((TilesKept.refl.setFan _ _).setOut _ _).trans (showFan_tilesKept _ _)

theorem forceTile_tilesKept (h : Hw) (t : Nat) : TilesKept h (forceTile h t) := foldl_tilesKept forceCh_tilesKept _ h
theorem dropTile_tilesKept (h : Hw) (t : Nat) : TilesKept h (dropTile h t) := foldl_tilesKept dropCh_tilesKept _ h
theorem showTile_tilesKept (h : Hw) (t : Nat) : TilesKept h (showTile h t) := foldl_tilesKept showOut_tilesKept _ h

/-- A channel that is shed leaves its tile as the count of sheds leaves it (R464). -/
theorem shedCh_tilesKept (h : Hw) (t p : Nat) : TilesKept (h.bump F.LSW_TILE_SHED_COUNT t) (shedCh h t p) := by
  have hfault (f : Fld) (i : Nat) (hf : 0x71000 ≤ f.addr) :
      TilesKept (h.bump F.LSW_TILE_SHED_COUNT t) ((h.bump F.LSW_TILE_SHED_COUNT t).put f 1 i) :=
    TilesKept.refl.put _ (Nat.le_refl i) (.inr hf)
  unfold shedCh
  dsimp only
  split
  · have hc : p ≤ 47 := by omega
    exact ((TilesKept.refl.put 1 hc (by decide)).log _ _ _).trans (solOff_tilesKept _ hc)
  · refine TilesKept.ite ?_ (TilesKept.ite ?_ ?_)
    · exact (((hfault F.LSW_FAULT_SHED _ (by decide)).log _ _ _).setOut _ _).trans (showLs_tilesKept _ _)
    · exact ((hfault F.DIO_FAULT_SHED _ (by decide)).setOut _ _).trans (showDio_tilesKept _ _)
    · refine TilesKept.trans (TilesKept.put ?_ _ (Nat.le_refl _) (.inr (by decide))) (showFan_tilesKept _ _)
      exact TilesKept.refl.setFan _ _

/-! ## Measurements -/

/-- Measurements are no part of a tile's own state. -/
theorem takeMeas_til (t : Nat) (h : Hw) (m : Meas) : (takeMeas t h m).til = h.til := by
  unfold takeMeas
  cases m with
  | current p mA lim =>
    dsimp only
    split
    · rfl
    · split <;> rfl
  | fan n sp tc =>
    dsimp only
    split
    · rfl
    · show (ite _ _ _ : Hw).til = h.til
      split <;> split <;> rfl
  | volt v => rfl

theorem foldl_takeMeas_til (t : Nat) (meas : List Meas) (h : Hw) : (meas.foldl (takeMeas t) h).til = h.til :=
  List.foldlRecOn (motive := fun g : Hw => g.til = h.til) meas (takeMeas t) rfl fun g hg m _ => (takeMeas_til t g m).trans hg

/-! ## Feed supervision -/

/-- The update of a tile's feed current is taken for a millisecond, and the current is reported. -/
def FeedTaken (h : Hw) (t ms curr : Nat) : Prop := mget h.til.shedMs t = some ms ∧ h.get F.LSW_TILE_FEED_CURR t = curr

/-- What is shed in an update does not change what the update reports (R462). -/
theorem FeedTaken.shedCh {h : Hw} {t ms curr : Nat} (hk : FeedTaken h t ms curr) (ht : t ≤ 7) (p : Nat) :
    FeedTaken (shedCh h t p) t ms curr := by
  obtain ⟨hms, hcurr⟩ := hk
  have hkept := shedCh_tilesKept h t p
  refine ⟨?_, ?_⟩
  · rw [hkept.shedMs]
    exact hms
  · rw [hkept.get ht (f := F.LSW_TILE_FEED_CURR) (by decide), get_bump_other _ F.LSW_TILE_SHED_COUNT F.LSW_TILE_FEED_CURR, hcurr]
    simp only [Fld.at, F.LSW_TILE_SHED_COUNT, F.LSW_TILE_FEED_CURR]
    omega

/-! ## The commands of the tiles -/

section
variable {dt : Nat} {s : State} {t : Fin 8} (hon : s.hw.isOn = true)
include hon

theorem feedShed_reports {mean inst : Nat} (hms : mget s.hw.til.shedMs t ≠ some ((s.hw.now + dt) / 1000000)) :
    Does (.feedShed dt t mean inst) s fun h =>
      FeedTaken h t ((s.hw.now + dt) / 1000000) (satN 16 (mean / 100)) := by
  refine does_of_run (show execFeedShed dt t mean inst s = _ from rfl) hon ?_
  extract_lets ms h1 tiles h2
  have htaken : FeedTaken h2 t ((s.hw.now + dt) / 1000000) (satN 16 (mean / 100)) := by
    refine ⟨mget_mset_same .., get_put_fits _ F.LSW_TILE_FEED_CURR _ _ _ ?_ (by decide)⟩
    simp only [satN, F.LSW_TILE_FEED_CURR]
    omega
  have hdue : mget (s.hw.elapse dt).til.shedMs t ≠ some ms := hms
  rw [if_neg hdue]
  split
  · split
    · exact htaken.shedCh t.is_le _
    · exact htaken
  · exact htaken

/-- A tripped tile is switched off whole and stays TRIPPED (R465). -/
theorem feedTrip_trips {inst dur : Nat} (hinst : 2 * feedLimit t < inst) (hdur : 1000000 ≤ dur) (hst : s.hw.tileState t ≠ 2) :
    Does (.feedTrip dt t inst dur) s fun h => h.tileState t = 2 := by
  refine does_of_run (show execFeedTrip dt t inst dur s = _ from rfl) hon ?_
  have htrips : 2 * feedLimit t < inst ∧ 1000000 ≤ dur ∧ (s.hw.elapse dt).tileState t ≠ 2 := ⟨hinst, hdur, hst⟩
  rw [if_pos htrips, Hw.tileState, (dropTile_tilesKept _ _).get t.is_le (f := F.LSW_TILE_STATUS_STATE) (by decide), log_get]
  exact get_put_fits _ F.LSW_TILE_STATUS_STATE 2 _ _ (by decide) (by decide)

/-- A valid frame is taken with its time, and carries FEED as the hub has it (R472). -/
theorem tileFrame_is_taken {meas : List Meas} : Does (.tileFrame dt t true meas) s fun h =>
    mget h.til.goodAt t = some (s.hw.now + dt) ∧ (s.hw.til.hub.feed = true → mget h.til.feedAt t = some (s.hw.now + dt)) := by
  refine does_of_run (show execTileFrame dt t true meas s = _ from rfl) hon ?_
  extract_lets tiles h1 h2
  have htil : h2.til = h1.til := by
    unfold h2
    split <;> rfl
  rw [Bool.not_true, if_neg Bool.false_ne_true, foldl_takeMeas_til, htil]
  refine ⟨mget_mset_same .., fun hfeed => ?_⟩
  have hat : h1.til.feedAt = mset s.hw.til.feedAt t (s.hw.now + dt) := if_pos hfeed
  rw [hat, mget_mset_same]

/-- A tile in RUN that FEED no longer reaches goes to SAFE with its channels (R472). -/
theorem tileWatchdogExpiry_makes_safe (hdue : mgetD s.hw.til.feedAt t 0 + 100000 ≤ s.hw.now + dt) (hrun : s.hw.tileState t = 1) :
    Does (.tileWatchdogExpiry dt t) s fun h => h.tileState t = 0 ∧ h.get F.LSW_TILE_STATUS_FEED t = 0 := by
  refine does_of_run (show execTileWatchdogExpiry dt t s = _ from rfl) hon ?_
  have hdue' : mgetD (s.hw.elapse dt).til.feedAt t 0 + 100000 ≤ (s.hw.elapse dt).now := hdue
  have hrun' : (s.hw.elapse dt).tileState t = 1 := hrun
  rw [if_pos hdue']
  dsimp only
  rw [if_pos hrun', Hw.tileState, (forceTile_tilesKept _ _).get t.is_le (f := F.LSW_TILE_STATUS_STATE) (by decide),
    (forceTile_tilesKept _ _).get t.is_le (f := F.LSW_TILE_STATUS_FEED) (by decide), log_get, log_get]
  refine ⟨get_put_fits _ F.LSW_TILE_STATUS_STATE 0 _ _ (by decide) (by decide), ?_⟩
  rw [get_put_disjoint _ F.LSW_TILE_STATUS_STATE F.LSW_TILE_STATUS_FEED _ _ _ _ _ (by decide) (by decide)]
  exact get_put_fits _ F.LSW_TILE_STATUS_FEED 0 _ _ (by decide) (by decide)

/-- An armed tile enters RUN; channels under a force of their own are forced (R470, R477). -/
theorem arm_runs {hart : Fin 19} (hp0 : s.hw.byP0 hart = true) (htest : s.hw.flag F.SMK_TESTMODE_ACTIVE = false)
    (hfeed : s.hw.til.hub.feed = true) (hdone : 2 ≤ s.hw.til.hub.done) (hst : s.hw.tileState t ≠ 1) :
    Does (.arm dt hart t) s fun h => h.tileState t = 1 := by
  refine does_of_run (show execArm dt hart t s = _ from rfl) hon ?_
  have hready : (!(s.hw.elapse dt).flag F.SMK_TESTMODE_ACTIVE && (s.hw.elapse dt).til.hub.feed &&
      decide (2 ≤ (s.hw.elapse dt).til.hub.done) && (s.hw.elapse dt).tileState t != 1) = true := by
    simp only [elapse_flag, htest, elapse_til, hfeed, hdone, Bool.not_false, decide_true, Bool.and_self, Bool.true_and, bne_iff_ne]
    exact hst
  rw [elapse_byP0, if_pos hp0, armTile, if_pos hready]
  extract_lets trip tiles h1 h2
  have hkept : TilesKept h1 h2 := TilesKept.ite (foldl_tilesKept forceCh_tilesKept _ h1) .refl
  rw [Hw.tileState, (hkept.trans (showTile_tilesKept h2 t)).get t.is_le (f := F.LSW_TILE_STATUS_STATE) (by decide)]
  exact get_put_fits _ F.LSW_TILE_STATUS_STATE 1 _ _ (by decide) (by decide)

theorem fsLock_locks {hart : Fin 19} (hp0 : s.hw.byP0 hart = true) : Does (.fsLock dt hart t) s fun h =>
    h.get F.LSW_TILE_STATUS_FS_LOCKED t = 1 ∧ h.get F.LSW_TILE_CTRL_FS_LOCK t = 1 := by
  refine does_of_run (show execFsLock dt hart t s = _ from rfl) hon ?_
  rw [elapse_byP0, if_pos hp0, fsLock]
  refine ⟨get_put_fits _ F.LSW_TILE_STATUS_FS_LOCKED 1 _ _ (by decide) (by decide), ?_⟩
  rw [get_put_same_row _ F.LSW_TILE_STATUS_FS_LOCKED F.LSW_TILE_CTRL_FS_LOCK _ _ rfl (by decide)]
  exact get_put_fits _ F.LSW_TILE_CTRL_FS_LOCK 1 _ _ (by decide) (by decide)

end

/-! ## The commands of the watchdog -/

/-- A period that has run its length and has not ended yet is due (R475). -/
theorem wdPeriodEnd_due {h : Hw} (hen : h.flag F.LSW_WD_CFG_EN = true) (hopen : h.til.hub.ended = false)
    (hdue : h.til.hub.periodAt + wdPeriod h ≤ h.now) :
    (h.flag F.LSW_WD_CFG_EN && !h.til.hub.ended && decide (h.til.hub.periodAt + wdPeriod h ≤ h.now)) = true := by
  rw [hen, hopen]
  exact decide_eq_true hdue

section
variable {dt : Nat} {s : State} (hon : s.hw.isOn = true)
include hon

theorem watchdogPeriodStart_begins (hen : s.hw.flag F.LSW_WD_CFG_EN = true) (hended : s.hw.til.hub.ended = true) :
    Does (.watchdogPeriodStart dt) s fun h => h.til.hub.periodAt = s.hw.til.hub.periodAt + wdPeriod s.hw ∧
      h.til.hub.ended = false ∧ h.til.hub.nAns = 0 ∧ h.get F.LSW_WD_TOKEN_SEQ = (s.hw.get F.LSW_WD_TOKEN_SEQ + 1) % 65536 := by
  refine does_of_run (show execWatchdogPeriodStart dt s = _ from rfl) hon ?_
  have hdue : ((s.hw.elapse dt).flag F.LSW_WD_CFG_EN && (s.hw.elapse dt).til.hub.ended) = true :=
    Bool.and_eq_true_iff.2 ⟨hen, hended⟩
  dsimp only
  rw [if_pos hdue]
  exact ⟨rfl, rfl, rfl, get_put_fits _ F.LSW_WD_TOKEN_SEQ _ _ _ (Nat.mod_lt _ (by decide)) (by decide)⟩

/-- A period with a right answer ends the run of failures (R475). -/
theorem watchdogPeriodEnd_answered (hen : s.hw.flag F.LSW_WD_CFG_EN = true) (hopen : s.hw.til.hub.ended = false)
    (hdue : s.hw.til.hub.periodAt + wdPeriod s.hw ≤ s.hw.now + dt) (hans : s.hw.til.hub.answered = true) :
    Does (.watchdogPeriodEnd dt) s fun h => h.til.hub.ended = true ∧ h.til.hub.fails = 0 ∧ h.diag = s.hw.diag := by
  refine does_of_run (show execWatchdogPeriodEnd dt s = _ from rfl) hon ?_
  dsimp only
  rw [if_pos (wdPeriodEnd_due (h := s.hw.elapse dt) hen hopen hdue), elapse_til, hans, Bool.true_or, if_pos rfl, if_pos rfl,
    if_neg (fun h => h.1 (Nat.le_zero.1 h.2))]
  exact ⟨rfl, rfl, rfl⟩

/-- A period without an answer fails at its end; too few failures in a row leave the module running (R475, R829). -/
theorem watchdogPeriodEnd_fails (hen : s.hw.flag F.LSW_WD_CFG_EN = true) (hopen : s.hw.til.hub.ended = false)
    (hdue : s.hw.til.hub.periodAt + wdPeriod s.hw ≤ s.hw.now + dt) (hans : s.hw.til.hub.answered = false)
    (hfirst : s.hw.til.hub.failed = false)
    (hfew : s.hw.get F.PWR_RST_CFG_WD_RESET = 0 ∨ s.hw.til.hub.fails + 1 < s.hw.get F.PWR_RST_CFG_WD_RESET) :
    Does (.watchdogPeriodEnd dt) s fun h => h.til.hub.ended = true ∧ h.til.hub.feed = false ∧
      h.til.hub.fails = s.hw.til.hub.fails + 1 ∧ h.diag = s.hw.diag ++ [⟨0x0907, 0xFFFF, false⟩] := by
  refine does_of_run (show execWatchdogPeriodEnd dt s = _ from rfl) hon ?_
  dsimp only
  rw [if_pos (wdPeriodEnd_due (h := s.hw.elapse dt) hen hopen hdue), elapse_til, hans, hfirst, Bool.or_self,
    if_neg Bool.false_ne_true, if_neg Bool.false_ne_true]
  have hruns : ¬ ((s.hw.elapse dt).get F.PWR_RST_CFG_WD_RESET ≠ 0 ∧
      (s.hw.elapse dt).get F.PWR_RST_CFG_WD_RESET ≤ (wdFail (s.hw.elapse dt)).til.hub.fails + 1) := by
    have hfails : (wdFail (s.hw.elapse dt)).til.hub.fails = s.hw.til.hub.fails := rfl
    rw [elapse_get, hfails]
    omega
  rw [if_neg hruns]
  exact ⟨rfl, rfl, rfl, rfl⟩

/-- The first right answer to the token, fetched in the second half of its period, is taken (R474, R475). -/
theorem wdans_is_taken {id : Nat} {f : Flight} (hf : OpRuns s.hw id 12 4 f) (hen : s.hw.flag F.LSW_WD_CFG_EN = true)
    (hopen : s.hw.til.hub.ended = false) (htoken : fld f.desc 4 2 = s.hw.get F.LSW_WD_TOKEN_TOKEN)
    (hright : fld f.desc 6 2 = wdAnswer (s.hw.get F.LSW_WD_TOKEN_TOKEN))
    (hhalf : s.hw.til.hub.periodAt + wdPeriod s.hw / 2 ≤ f.since) (hfirst : s.hw.til.hub.nAns = 0) :
    Does (.wdans dt id) s fun h => OpEnded h id ST_OK ∧ h.til.hub.answered = true ∧ h.til.hub.feed = true := by
  refine does_of_run_onOp (show execWdans dt id s = _ from rfl) hon hf ?_
  have hruns : ¬ (!(s.hw.elapse dt).flag F.LSW_WD_CFG_EN || (s.hw.elapse dt).til.hub.ended) = true := by
    rw [elapse_flag, hen, elapse_til, hopen]
    exact Bool.false_ne_true
  have hanswer : ¬ (fld f.desc 4 2 ≠ (s.hw.elapse dt).get F.LSW_WD_TOKEN_TOKEN ∨
      fld f.desc 6 2 ≠ wdAnswer (fld f.desc 4 2)) := by
    rw [htoken]
    exact not_or.2 ⟨fun hne => hne rfl, fun hne => hne hright⟩
  have hwindow : ¬ (f.since < (s.hw.elapse dt).til.hub.periodAt + wdPeriod (s.hw.elapse dt) / 2 ∨
      1 ≤ (s.hw.elapse dt).til.hub.nAns) := not_or.2 ⟨Nat.not_lt.2 hhalf, by rw [elapse_til, hfirst]; omega⟩
  dsimp only
  rw [if_neg hruns, if_neg hanswer, if_neg hwindow]
  exact ⟨opEnded_finish hf.1 .., rfl, rfl⟩

end

/-- Settles O19: one command after another, each from its own effect. -/
theorem tileAndWatchdogCommandsComplete : Obligations.TileAndWatchdogCommandsComplete := by
  unfold Obligations.TileAndWatchdogCommandsComplete
  refine ⟨?feedShed, ?feedTrip, ?tileFrame, ?tileWatchdogExpiry, ?arm, ?fsLock, ?periodStart, ?periodAnswered, ?periodFailed,
    ?wdans⟩
  case feedShed => exact fun _ _ _ _ _ hon hms => feedShed_reports hon hms
  case feedTrip => exact fun _ _ _ _ _ hon hinst hdur hst => feedTrip_trips hon hinst hdur hst
  case tileFrame => exact fun _ _ _ _ hon => tileFrame_is_taken hon
  case tileWatchdogExpiry => exact fun _ _ _ hon hdue hrun => tileWatchdogExpiry_makes_safe hon hdue hrun
  case arm => exact fun _ _ _ _ hon hp0 htest hfeed hdone hst => arm_runs hon hp0 htest hfeed hdone hst
  case fsLock => exact fun _ _ _ _ hon hp0 => fsLock_locks hon hp0
  case periodStart => exact fun _ _ hon hen hended => watchdogPeriodStart_begins hon hen hended
  case periodAnswered => exact fun _ _ hon hen hopen hdue hans => watchdogPeriodEnd_answered hon hen hopen hdue hans
  case periodFailed => exact fun _ _ hon hen hopen hdue hans hfirst hfew =>
    watchdogPeriodEnd_fails hon hen hopen hdue hans hfirst hfew
  case wdans => exact fun _ _ _ _ hon hf hen hopen htoken hright hhalf hfirst =>
    wdans_is_taken hon hf hen hopen htoken hright hhalf hfirst

end Sys2Proof.Machine
end

section
/-!
PROOF. Digital inputs and outputs: an output that mirrors a strobe goes off as time passes, and from that the refutation of O20.
-/
namespace Sys2Proof.Machine

/-- A condition of overload acts only on an output that is still on once the command's time has passed (Table 10.3). -/
theorem dioOverload_of_off {dt : Nat} {s : State} {c : Fin 128} (hoff : dioOn (s.hw.elapse dt) c = false) :
    exec (.dioOverload dt c) s = .next { s with hw := s.hw.elapse dt } := by
  refine (show exec (.dioOverload dt c) s = execDioOverload dt c s from rfl).trans (run_eq_elapse_of_act_eq fun _ => ?_)
  rw [hoff, if_neg Bool.false_ne_true]

/-- Where an output goes off within the time of a command, no overload is latched. -/
theorem not_does_dioOverload {dt : Nat} {s : State} {c : Fin 128} {P : Hw → Prop} (hoff : dioOn (s.hw.elapse dt) c = false)
    (hclear : s.hw.get F.DIO_FAULT_OVERLOAD c = 0) :
    ¬ Does (.dioOverload dt c) s fun h => h.get F.DIO_FAULT_OVERLOAD c = 1 ∧ P h := by
  rintro ⟨t, ht, -, hlatched, -⟩
  obtain rfl : { s with hw := s.hw.elapse dt } = t := Host.Outcome.next.inj ((dioOverload_of_off hoff).symm.trans ht)
  rw [elapse_get, hclear] at hlatched
  exact Nat.zero_ne_one hlatched

/-- A module with tile 6 in RUN, where DIO output 0 is enabled in MODE 2 and mirrors the strobe of the enabled camera 0, whose
line 1 is high for the first ns of the timebase (R236, R493). -/
def strobeFalling : State :=
  ⟨[], { rf := [(0x31000, 1), (0x31008, 0x800000), (0x70184, 1), (0x81000, 0xb)],
         img := { cams := [(0, { line1 := (0, 1) })] } }⟩

/-- The output is on at the command before, and off 1 ns later with the strobe. -/
theorem strobeFalling_goes_off : dioOn strobeFalling.hw 0 = true ∧ dioOn (strobeFalling.hw.elapse 1) 0 = false := by decide

/-- Refutes O20: DIO_OVERLOAD is taken to latch the fault of any output that is on before the command's time passes, but an output
in MODE 2 follows its strobe (R493) and can go off within that time, and then the command lets its time pass alone. -/
theorem not_dioCommandsComplete : ¬ Obligations.DioCommandsComplete := by
  unfold Obligations.DioCommandsComplete
  rintro ⟨-, -, -, -, -, -, hoverload, -⟩
  obtain ⟨hbefore, hafter⟩ := strobeFalling_goes_off
  exact not_does_dioOverload (dt := 1) (c := 0) hafter (by decide) (hoverload 1 strobeFalling 0 (by decide) hbefore)

end Sys2Proof.Machine
end

section
/-!
PROOF. Fan drives: what showing a drive and anchoring its ramp change, and from that the own effects of the faults of the fan drives
and of their ends (O22).
-/
namespace Sys2Proof.Machine

/-! ## A drive's own state -/

@[simp] theorem fan_setFan_same (h : Hw) (n : Nat) (x : Fan) : (h.setFan n x).fan n = x := mgetD_mset_same ..
@[simp] theorem fan_elapse (h : Hw) (dt n : Nat) : (h.elapse dt).fan n = h.fan n := rfl
@[simp] theorem fan_put (h : Hw) (f : Fld) (v i j n : Nat) : (h.put f v i j).fan n = h.fan n := rfl
@[simp] theorem fan_log (h : Hw) (ty inst n : Nat) (l : Bool) : (h.log ty inst l).fan n = h.fan n := rfl
@[simp] theorem setFan_diag (h : Hw) (n : Nat) (x : Fan) : (h.setFan n x).diag = h.diag := rfl

/-- An anchored ramp goes on from its present value and time; the rest of the drive's state stays (R502). -/
@[simp] theorem fan_fanAnchor (h : Hw) (n : Nat) :
    (fanAnchor h n).fan n = { h.fan n with from_ := fanRamp h n, fromAt := h.now } := fan_setFan_same ..

@[simp] theorem fanAnchor_diag (h : Hw) (n : Nat) : (fanAnchor h n).diag = h.diag := rfl

/-! ## Showing a drive -/

@[simp] theorem fan_showFan (h : Hw) (n k : Nat) : (showFan h n).fan k = h.fan k := rfl
@[simp] theorem showFan_diag (h : Hw) (n : Nat) : (showFan h n).diag = h.diag := rfl

/-- A drive is shown in FAN_STATUS and FAN_SPEED, and its other registers stay. -/
theorem get_showFan (h : Hw) (n : Nat) (f : Fld) (hst : F.FAN_STATUS_TABLE.st1 = f.st1)
    (hstatus : F.FAN_STATUS_TABLE.addr ≠ f.addr) (hspeed : F.FAN_SPEED_TEMP.addr ≠ f.addr) :
    (showFan h n).get f n = h.get f n := by
  rw [showFan, Hw.putS, get_put_same_row _ F.FAN_SPEED_TEMP f _ _ hst hspeed,
    get_put_same_row _ F.FAN_STATUS_IN_BAND f _ _ hst hstatus, get_put_same_row _ F.FAN_STATUS_CH_FAULT f _ _ hst hstatus,
    get_put_same_row _ F.FAN_STATUS_FORCED f _ _ hst hstatus, get_put_same_row _ F.FAN_STATUS_TAB_VALID f _ _ hst hstatus,
    get_put_same_row _ F.FAN_STATUS_TABLE f _ _ hst hstatus]

/-! ## Faults and their ends -/

/-- Whether a drive is off does not depend on the time. -/
@[simp] theorem fanOff_elapse (h : Hw) (dt n : Nat) : fanOff (h.elapse dt) n = fanOff h n := rfl

/-- A latched overcurrent stops its drive (Table 11.2). -/
theorem fanOff_of_overcurrent {h : Hw} {n : Nat} (hoc : h.get F.FAN_FAULT_OVERCURRENT n = 1) : fanOff h n = true := by
  simp only [fanOff, Hw.flag, hoc, Nat.reduceBneDiff, Bool.true_or]

/-- A fault bit that is set, logged and then shown reads 1 (R518). -/
theorem get_showFan_of_put (h : Hw) (n ty : Nat) (l : Bool) (f : Fld) (hst : F.FAN_STATUS_TABLE.st1 = f.st1)
    (hstatus : F.FAN_STATUS_TABLE.addr ≠ f.addr) (hspeed : F.FAN_SPEED_TEMP.addr ≠ f.addr) (hone : 1 < 2 ^ f.w)
    (hf : f.lo + f.w ≤ 32) :
    (showFan ((h.put f 1 n).log ty n l) n).get f n = 1 := by
  rw [get_showFan _ _ f hst hstatus hspeed, log_get, get_put_fits _ f 1 _ _ hone hf]

section
variable {dt : Nat} {s : State} {n : Fin 8} (hon : s.hw.isOn = true)
include hon

/-- The thermistor's condition is present from its fault on (R512). -/
theorem thermistorFault_latches (hnew : (s.hw.fan n).sensor = false) : Does (.thermistorFault dt n) s fun h =>
    (h.fan n).sensor = true ∧ h.get F.FAN_FAULT_SENSOR n = 1 ∧ h.diag = s.hw.diag ++ [⟨0x0B04, n, true⟩] := by
  refine does_of_run (show execThermistorFault dt n s = _ from rfl) hon ?_
  rw [fan_elapse, hnew, if_neg Bool.false_ne_true]
  refine ⟨?_, get_showFan_of_put _ _ _ _ F.FAN_FAULT_SENSOR rfl (by decide) (by decide) (by decide) (by decide), rfl⟩
  rw [fan_showFan, fan_log, fan_put, fan_setFan_same]

theorem thermistorRelease_ends : Does (.thermistorRelease dt n) s fun h =>
    (h.fan n).sensor = false ∧ (h.fan n).table = (s.hw.fan n).table := by
  refine does_of_run (show execThermistorRelease dt n s = _ from rfl) hon ?_
  simp only [fan_showFan, fan_setFan_same, fan_fanAnchor, fan_elapse, and_self]

/-- An overcurrent trips a drive that is not off (R501). -/
theorem fanOvercurrent_trips (hrun : fanOff s.hw n = false) : Does (.fanOvercurrent dt n) s fun h =>
    h.get F.FAN_FAULT_OVERCURRENT n = 1 ∧ fanOff h n = true ∧ h.diag = s.hw.diag ++ [⟨0x0B01, n, false⟩] := by
  refine does_of_run (show execFanOvercurrent dt n s = _ from rfl) hon ?_
  rw [fanOff_elapse, hrun, if_neg Bool.false_ne_true]
  have hlatched := get_showFan_of_put (fanAnchor (s.hw.elapse dt) n) n 0x0B01 false F.FAN_FAULT_OVERCURRENT rfl
    (by decide) (by decide) (by decide) (by decide)
  exact ⟨hlatched, fanOff_of_overcurrent hlatched, rfl⟩

/-- A drive far below its request for 2 s is stalled from then on (Table 11.2). -/
theorem stall_latches {dur : Nat} (hreq : 300 ≤ (fanTarget (s.hw.elapse dt) n).1.natAbs)
    (hslow : 10 * (s.hw.getS F.FAN_SPEED_SPEED n).natAbs < (fanTarget (s.hw.elapse dt) n).1.natAbs) (hdur : 2000000000 ≤ dur) :
    Does (.stall dt n dur) s fun h => (h.fan n).stall = some (s.hw.now + dt) ∧ h.get F.FAN_FAULT_STALL n = 1 ∧
      h.diag = s.hw.diag ++ [⟨0x0B02, n, true⟩] := by
  refine does_of_run (show execStall dt n dur s = _ from rfl) hon ?_
  dsimp only
  rw [if_pos ⟨hreq, hslow, hdur⟩]
  refine ⟨?_, get_showFan_of_put _ _ _ _ F.FAN_FAULT_STALL rfl (by decide) (by decide) (by decide) (by decide), rfl⟩
  rw [fan_showFan, fan_log, fan_put, fan_setFan_same, elapse_now]

theorem stallRestart_ends {t : Nat} (hstall : (s.hw.fan n).stall = some t) (hdue : t + 5000000000 ≤ s.hw.now + dt) :
    Does (.stallRestart dt n) s fun h => (h.fan n).stall = none ∧ (h.fan n).req = (s.hw.fan n).req := by
  refine does_of_run (show execStallRestart dt n s = _ from rfl) hon ?_
  rw [fan_elapse, hstall]
  dsimp only
  rw [elapse_now, if_pos hdue]
  simp only [fan_showFan, fan_setFan_same, fan_fanAnchor, fan_elapse, and_self]

/-- A drive with an invalid Hall code continues sensorless, so the drive itself does not change (Table 11.2). -/
theorem fanFaultDetect_hall_latches (htype : s.hw.get F.FAN_CFG_TYPE n = 1) : Does (.fanFaultDetect dt n .hall) s fun h =>
    h.get F.FAN_FAULT_HALL n = 1 ∧ h.fans = s.hw.fans ∧ h.diag = s.hw.diag ++ [⟨0x0B03, n, true⟩] := by
  refine does_of_run (show execFanFaultDetect dt n .hall s = _ from rfl) hon ?_
  dsimp only
  rw [elapse_get, if_pos htype]
  exact ⟨get_put_fits _ F.FAN_FAULT_HALL 1 _ _ (by decide) (by decide), rfl, rfl⟩

theorem fanFaultDetect_drvHot_latches (hcool : (s.hw.fan n).hot = false) : Does (.fanFaultDetect dt n .drvHot) s fun h =>
    (h.fan n).hot = true ∧ h.get F.FAN_FAULT_DRV_HOT n = 1 ∧ h.diag = s.hw.diag ++ [⟨0x0B05, n, false⟩] := by
  refine does_of_run (show execFanFaultDetect dt n .drvHot s = _ from rfl) hon ?_
  dsimp only
  rw [fan_elapse, hcool, if_neg Bool.false_ne_true]
  refine ⟨?_, get_showFan_of_put _ _ _ _ F.FAN_FAULT_DRV_HOT rfl (by decide) (by decide) (by decide) (by decide), rfl⟩
  rw [fan_showFan, fan_log, fan_put, fan_setFan_same]

theorem fanDrvHotRecovery_ends : Does (.fanDrvHotRecovery dt n) s fun h =>
    (h.fan n).hot = false ∧ (h.fan n).req = (s.hw.fan n).req := by
  refine does_of_run (show execFanDrvHotRecovery dt n s = _ from rfl) hon ?_
  simp only [fan_showFan, fan_setFan_same, fan_fanAnchor, fan_elapse, and_self]

end

/-- Settles O22: one fault or its end after another, each from its own effect. -/
theorem fanFaultsComplete : Obligations.FanFaultsComplete := by
  unfold Obligations.FanFaultsComplete
  refine ⟨?thermistorFault, ?thermistorRelease, ?overcurrent, ?stall, ?stallRestart, ?hall, ?drvHot, ?drvHotRecovery⟩
  case thermistorFault => exact fun _ _ _ hon hnew => thermistorFault_latches hon hnew
  case thermistorRelease => exact fun _ _ _ hon => thermistorRelease_ends hon
  case overcurrent => exact fun _ _ _ hon hrun => fanOvercurrent_trips hon hrun
  case stall => exact fun _ _ _ _ hon hreq hslow hdur => stall_latches hon hreq hslow hdur
  case stallRestart => exact fun _ _ _ _ hon hstall hdue => stallRestart_ends hon hstall hdue
  case hall => exact fun _ _ _ hon htype => fanFaultDetect_hall_latches hon htype
  case drvHot => exact fun _ _ _ hon hcool => fanFaultDetect_drvHot_latches hon hcool
  case drvHotRecovery => exact fun _ _ _ hon => fanDrvHotRecovery_ends hon

end Sys2Proof.Machine
end

section
/-!
PROOF. Frames of the commands of fusion, GNSS, CAN, LIN and Ethernet: what the operations that they share change, and from that what
each command leaves unchanged (O41).
-/
namespace Sys2Proof.Machine

section
variable {ps : List Nat} {take : Hw → Hw → Hw} {h g : Hw}

/-- One operation ends besides, where operations are among the pieces taken over. -/
theorem OnlyChanges.finishId (hk : OnlyChanges ps take h g) {id st t a b c d : Nat}
    (htake : ∀ h g r, take h { g with rng := r } = { take h g with rng := r }) :
    OnlyChanges ps take h (g.finishId id st t a b c d) := by
  obtain ⟨hregs, hrest⟩ := hk
  obtain ⟨r, hfinish⟩ := finishId_changes_rng g id st t a b c d
  rw [hfinish]
  refine ⟨hregs, ?_⟩
  rw [htake, ← hrest]

/-- One rounding is left open besides, where open values drawn are among the pieces taken over. -/
theorem OnlyChanges.openRound (hk : OnlyChanges ps take h g) (q : Q)
    (htake : ∀ h g n, take h { g with freeCtr := n } = { take h g with freeCtr := n }) :
    OnlyChanges ps take h (g.openRound q).2 := by
  obtain ⟨hregs, hrest⟩ := hk
  obtain ⟨x, n, hround⟩ := openRound_changes_freeCtr g q
  rw [hround]
  refine ⟨hregs, ?_⟩
  rw [htake, ← hrest]

/-- Steps that each keep within a frame keep within it together. -/
theorem foldl_onlyChanges {α : Type} {step : Hw → α → Hw} (hstep : ∀ g x, OnlyChanges ps take g (step g x))
    (hself : ∀ h, h = take h h) (htake : ∀ h g k, take (take h g) k = take h k) (l : List α) (h : Hw) :
    OnlyChanges ps take h (l.foldl step h) :=
  List.foldlRecOn l step ⟨.refl, hself h⟩ fun g hg x _ => hg.trans (hstep g x) htake

end

/-- An operation that posts a buffer changes operations and queues of buffers, whatever its queue. -/
theorem run_bufPost_frame {dt id eng op : Nat} {s t : State} {key : Flight → Nat}
    (ht : run dt s (fun h => h.onOp id eng op fun f => bufPost h (key f) f) = .next t) :
    OnlyChanges [] takeBuffers (s.hw.elapse dt) t.hw :=
  run_onlyChanges ht (fun _ => rfl) fun h => onOp_onlyChanges _ _ _ ⟨.refl, rfl⟩ fun f => bufPost_onlyChanges h (key f) f

/-! ## Fusion -/

/-- What judging the fusion step changes: registers, occurrences to be recorded, and the fusion engine. -/
def takeFusion (h g : Hw) : Hw := { h with rf := g.rf, diag := g.diag, fus := g.fus }

theorem fusJudge_onlyChanges (h : Hw) : OnlyChanges [10] takeFusion h (fusJudge h) := by
  have hshown : RegsKept [10] h (showAvail h) := RegsKept.refl.put (Nat.le_refl 0) (by decide)
  unfold fusJudge
  dsimp only
  split
  · refine ⟨(RegsKept.put ?_ (Nat.le_refl 0) (by decide)).log, rfl⟩
    exact hshown.trans (.of_rf_eq rfl)
  · split
    · exact ⟨hshown.trans (.of_rf_eq rfl), rfl⟩
    · split
      · split <;> exact ⟨hshown.trans (.of_rf_eq rfl), rfl⟩
      · exact ⟨hshown.trans (.of_rf_eq rfl), rfl⟩

/-- A change within the frame of fusion is judged within it. -/
theorem OnlyChanges.fusJudge {h g : Hw} (hk : OnlyChanges [10] takeFusion h g) :
    OnlyChanges [10] takeFusion h (Machine.fusJudge g) :=
  hk.trans (fusJudge_onlyChanges g) fun _ _ _ => rfl

section
variable {dt id : Nat} {s t : State}

theorem execFix_frame (ht : execFix dt id s = .next t) :
    OnlyChanges [10] (fun h g => { h with rf := g.rf, diag := g.diag, rng := g.rng, fus := g.fus }) (s.hw.elapse dt) t.hw := by
  refine run_onlyChanges ht (fun _ => rfl) fun h => onOp_onlyChanges _ _ _ ⟨.refl, rfl⟩ fun f => ?_
  dsimp only
  split
  · exact ⟨.of_rf_eq rfl, rfl⟩
  · split
    · exact ⟨RegsKept.put (g := dropFixes h) (.of_rf_eq rfl) (Nat.le_refl 1) (by decide), rfl⟩
    · exact ⟨.of_rf_eq rfl, rfl⟩

theorem execInit_frame (ht : execInit dt id s = .next t) :
    OnlyChanges [] (fun h g => { h with fus := g.fus }) (s.hw.elapse dt) t.hw := by
  refine run_onlyChanges ht (fun _ => rfl) fun h => onOp_onlyChanges _ _ _ ⟨.refl, rfl⟩ fun f => ?_
  split <;> exact ⟨.of_rf_eq rfl, rfl⟩

theorem execImuTimeout_frame (ht : execImuTimeout dt s = .next t) : OnlyChanges [10] takeFusion (s.hw.elapse dt) t.hw := by
  refine run_onlyChanges ht (fun _ => rfl) fun h => ?_
  dsimp only
  split
  · exact ⟨.refl, rfl⟩
  · refine OnlyChanges.fusJudge ⟨(RegsKept.put ?_ (Nat.le_refl 0) (by decide)).log, rfl⟩
    exact .of_rf_eq rfl

theorem execEgoFaultExit_frame (ht : execEgoFaultExit dt s = .next t) : OnlyChanges [10] takeFusion (s.hw.elapse dt) t.hw := by
  refine run_onlyChanges ht (fun _ => rfl) fun h => ?_
  split
  · refine OnlyChanges.ite (OnlyChanges.fusJudge ?_) ⟨.refl, rfl⟩
    exact ⟨RegsKept.refl.put (Nat.le_refl 0) (by decide), rfl⟩
  · exact ⟨.refl, rfl⟩

theorem execGnssLost_frame (ht : execGnssLost dt s = .next t) : OnlyChanges [10] takeFusion (s.hw.elapse dt) t.hw := by
  refine run_onlyChanges ht (fun _ => rfl) fun h => OnlyChanges.ite (OnlyChanges.fusJudge ?_) ⟨.refl, rfl⟩
  exact ⟨RegsKept.refl.put (Nat.le_refl 0) (by decide), rfl⟩

theorem execGnssHoldoffEnd_frame (ht : execGnssHoldoffEnd dt s = .next t) :
    OnlyChanges [] (fun h g => { h with fus := g.fus }) (s.hw.elapse dt) t.hw :=
  run_onlyChanges ht (fun _ => rfl) fun _ => OnlyChanges.ite ⟨.of_rf_eq rfl, rfl⟩ ⟨.refl, rfl⟩

theorem execSourceStale_frame {src : Fin 16} (ht : execSourceStale dt src s = .next t) :
    OnlyChanges [10] takeFusion (s.hw.elapse dt) t.hw := by
  refine run_onlyChanges ht (fun _ => rfl) fun h => OnlyChanges.ite (OnlyChanges.fusJudge ?_) ⟨.refl, rfl⟩
  exact ⟨(RegsKept.refl.put src.is_le (by decide)).log, rfl⟩

theorem execDegradationRecover_frame (ht : execDegradationRecover dt s = .next t) :
    OnlyChanges [10] takeFusion (s.hw.elapse dt) t.hw := by
  refine run_onlyChanges ht (fun _ => rfl) fun h => ?_
  split
  · refine OnlyChanges.ite ⟨(RegsKept.put ?_ (Nat.le_refl 0) (by decide)).log, rfl⟩ ⟨.refl, rfl⟩
    exact .of_rf_eq rfl
  · exact ⟨.refl, rfl⟩

end

/-! ## GNSS -/

/-- What a Forager's bands change: registers and the GNSS baseband. -/
def takeGnss (h g : Hw) : Hw := { h with rf := g.rf, gns := g.gns }

/-- What a Forager changes as its CHAN ends: its bands, and operations. -/
def takeForager (h g : Hw) : Hw := { h with rf := g.rf, rng := g.rng, gns := g.gns }

/-- What a fault of an antenna or of a band changes: the GNSS baseband as above, and occurrences to be recorded. -/
def takeGnssFault (h g : Hw) : Hw := { h with rf := g.rf, diag := g.diag, gns := g.gns }

/-- The Foragers of both antennas have the numbers 0 to 127. -/
theorem forNo_le (a : Fin 2) (i : Fin 64) : forNo a i ≤ 127 := by
  unfold forNo
  omega

section
variable {h g : Hw} {n b st : Nat}

theorem setBand_onlyChanges (h : Hw) (hn : n ≤ 127) (b st : Nat) : OnlyChanges [11] takeGnss h (setBand h n b st) := by
  have hfld : (if b = 0 then F.GNS_FOR_STATUS_B1 else F.GNS_FOR_STATUS_B5).LiesOn [11] 127 0 := by
    split <;> decide
  refine OnlyChanges.put ?_ hn hfld fun _ _ _ => rfl
  exact OnlyChanges.ite ⟨.of_rf_eq rfl, rfl⟩ ⟨.refl, rfl⟩

theorem bandTrack_onlyChanges (h : Hw) (hn : n ≤ 127) (b : Nat) : OnlyChanges [11] takeGnss h (bandTrack h n b) :=
  OnlyChanges.trans ⟨.of_rf_eq rfl, rfl⟩ (setBand_onlyChanges _ hn b 3) fun _ _ _ => rfl

/-- A Forager's change goes on with a band. -/
theorem OnlyChanges.setBand (hk : OnlyChanges [11] takeForager h g) (hn : n ≤ 127) :
    OnlyChanges [11] takeForager h (Machine.setBand g n b st) :=
  hk.trans ((setBand_onlyChanges g hn b st).widen fun _ _ => rfl) fun _ _ _ => rfl

theorem forIdle_onlyChanges (h : Hw) (hn : n ≤ 127) (st : Nat) : OnlyChanges [11] takeForager h (forIdle h n st) := by
  unfold forIdle
  split
  · exact ⟨.refl, rfl⟩
  case h_2 x _ =>
    have hended : OnlyChanges [11] takeForager h (if x.pending then h.finishId x.op st h.tb else h) :=
      OnlyChanges.ite (OnlyChanges.finishId ⟨.refl, rfl⟩ fun _ _ _ => rfl) ⟨.refl, rfl⟩
    refine ((hended.setBand (b := 0) (st := 0) hn).setBand (b := 1) (st := 0) hn).trans ?_ fun _ _ _ => rfl
    exact ⟨RegsKept.setReg (.of_rf_eq rfl) hn (by decide), rfl⟩

end

section
variable {dt : Nat} {s t : State} {a : Fin 2} {i : Fin 64}

theorem execBiasFault_frame {short : Bool} (ht : execBiasFault dt a short s = .next t) :
    OnlyChanges [11] takeGnssFault (s.hw.elapse dt) t.hw := by
  refine run_onlyChanges ht (fun _ => rfl) fun h => OnlyChanges.ite ?_ ?_
  · refine OnlyChanges.ite ⟨(RegsKept.put ?_ a.is_le (by decide)).log, rfl⟩ ⟨.refl, rfl⟩
    exact .of_rf_eq rfl
  · exact OnlyChanges.ite ⟨(RegsKept.refl.put a.is_le (by decide)).log, rfl⟩ ⟨.refl, rfl⟩

theorem execBiasRetry_frame {still : Bool} (ht : execBiasRetry dt a still s = .next t) :
    OnlyChanges [11] takeGnss (s.hw.elapse dt) t.hw := by
  refine run_onlyChanges ht (fun _ => rfl) fun h => OnlyChanges.ite (OnlyChanges.ite ?_ ?_) ⟨.refl, rfl⟩
  · exact ⟨.of_rf_eq rfl, rfl⟩
  · exact ⟨RegsKept.refl.put a.is_le (by decide), rfl⟩

theorem execAntennaBiasRecovery_frame (ht : execAntennaBiasRecovery dt a s = .next t) :
    OnlyChanges [11] (fun h g => { h with rf := g.rf }) (s.hw.elapse dt) t.hw :=
  run_onlyChanges ht (fun _ => rfl) fun _ =>
    OnlyChanges.ite ⟨RegsKept.refl.put a.is_le (by decide), rfl⟩ ⟨.refl, rfl⟩

theorem execAcquisitionPeak_frame {cn0 : BitVec 16} (ht : execAcquisitionPeak dt a i cn0 s = .next t) :
    OnlyChanges [11] takeGnss (s.hw.elapse dt) t.hw := by
  refine run_onlyChanges ht (fun _ => rfl) fun h => ?_
  dsimp only
  split
  · refine OnlyChanges.ite ?_ ⟨.refl, rfl⟩
    exact OnlyChanges.trans ⟨.of_rf_eq rfl, rfl⟩ (setBand_onlyChanges _ (forNo_le a i) 0 2) fun _ _ _ => rfl
  · exact ⟨.refl, rfl⟩

/-- A pending CHAN completes between the changes of the two bands. -/
theorem execTrackReached_frame {b5 : Bool} {doppler code : Word} (ht : execTrackReached dt a i b5 doppler code s = .next t) :
    OnlyChanges [11] takeForager (s.hw.elapse dt) t.hw := by
  refine run_onlyChanges ht (fun _ => rfl) fun h => ?_
  have htrack (b : Nat) : OnlyChanges [11] takeForager h (bandTrack h (forNo a i) b) :=
    (bandTrack_onlyChanges h (forNo_le a i) b).widen fun _ _ => rfl
  dsimp only
  split
  case h_1 x _ =>
    refine OnlyChanges.ite ⟨.refl, rfl⟩ (OnlyChanges.ite (htrack 1) (OnlyChanges.ite ⟨.refl, rfl⟩ ?_))
    have hchan : OnlyChanges [11] takeForager h (if x.pending then
        ((bandTrack h (forNo a i) 0).finishId x.op ST_OK (bandTrack h (forNo a i) 0).tb doppler.toNat code.toNat).setForager
          (forNo a i) { x with pending := false } else bandTrack h (forNo a i) 0) := by
      refine OnlyChanges.ite ?_ (htrack 0)
      exact ((htrack 0).finishId fun _ _ _ => rfl).trans ⟨.of_rf_eq rfl, rfl⟩ fun _ _ _ => rfl
    exact OnlyChanges.ite (hchan.setBand (forNo_le a i)) hchan
  case h_2 => exact ⟨.refl, rfl⟩

theorem execPullInTimeout_frame (ht : execPullInTimeout dt a i s = .next t) :
    OnlyChanges [11] takeGnss (s.hw.elapse dt) t.hw :=
  run_onlyChanges ht (fun _ => rfl) fun h => OnlyChanges.ite (setBand_onlyChanges h (forNo_le a i) 0 1) ⟨.refl, rfl⟩

theorem execSearchTimeout_frame (ht : execSearchTimeout dt a i s = .next t) :
    OnlyChanges [11] takeForager (s.hw.elapse dt) t.hw := by
  refine run_onlyChanges ht (fun _ => rfl) fun h => ?_
  dsimp only
  split
  · exact OnlyChanges.ite (forIdle_onlyChanges h (forNo_le a i) _) ⟨.refl, rfl⟩
  · exact ⟨.refl, rfl⟩

theorem execLossOfLock_frame {b5 : Bool} (ht : execLossOfLock dt a i b5 s = .next t) :
    OnlyChanges [11] takeGnssFault (s.hw.elapse dt) t.hw := by
  refine run_onlyChanges ht (fun _ => rfl) fun h => ?_
  have hcounted : OnlyChanges [11] takeGnssFault h ((h.bump F.GNS_CNT_COUNT 1).log 0x0D02 a true) :=
    ⟨(RegsKept.refl.bump (Nat.le_refl 1) (by decide)).log true, rfl⟩
  dsimp only
  split
  · refine OnlyChanges.ite ⟨.refl, rfl⟩ (hcounted.trans ?_ fun _ _ _ => rfl)
    exact (setBand_onlyChanges _ (forNo_le a i) _ _).widen fun _ _ => rfl
  · exact ⟨.refl, rfl⟩

theorem execInternalPpsInvalid_frame (ht : execInternalPpsInvalid dt s = .next t) :
    OnlyChanges [11] takeReport (s.hw.elapse dt) t.hw := by
  refine run_onlyChanges ht (fun _ => rfl) fun h => OnlyChanges.ite (OnlyChanges.ite ?_ ?_) ⟨.refl, rfl⟩
  · exact ⟨((RegsKept.refl.put (Nat.le_refl 0) (by decide)).bump (Nat.le_refl 3) (by decide)).log, rfl⟩
  · exact ⟨RegsKept.refl.put (Nat.le_refl 0) (by decide), rfl⟩

theorem execPpsOutPulse_frame (ht : execPpsOutPulse dt s = .next t) :
    OnlyChanges [] (fun h g => { h with gns := g.gns }) (s.hw.elapse dt) t.hw := by
  refine run_onlyChanges ht (fun _ => rfl) fun h =>
    OnlyChanges.ite (OnlyChanges.ite ?_ ⟨.refl, rfl⟩) (OnlyChanges.ite ?_ ⟨.refl, rfl⟩)
  all_goals exact ⟨.of_rf_eq rfl, rfl⟩

end

/-! ## CAN and LIN -/

/-- What ending transmit requests changes: operations and CAN. -/
def takeRequests (h g : Hw) : Hw := { h with rng := g.rng, can := g.can }

/-- What a controller changes as it starts to send: registers and CAN. -/
def takeController (h g : Hw) : Hw := { h with rf := g.rf, can := g.can }

/-- What the agent of a controller changes: registers, occurrences to be recorded, and CAN. -/
def takeAgent (h g : Hw) : Hw := { h with rf := g.rf, diag := g.diag, can := g.can }

/-- What an attempt that fails changes: registers, operations, and CAN. -/
def takeAttempt (h g : Hw) : Hw := { h with rf := g.rf, rng := g.rng, can := g.can }

/-- What an error on the bus changes: what a failed attempt changes, and occurrences to be recorded. -/
def takeBusError (h g : Hw) : Hw := { h with rf := g.rf, diag := g.diag, rng := g.rng, can := g.can }

section
variable {ps : List Nat}

theorem reqDone_onlyChanges (h : Hw) (r : CanReq) (st sent : Nat) : OnlyChanges ps takeRequests h (reqDone h r st sent) := by
  unfold reqDone
  split
  · exact OnlyChanges.finishId ⟨.refl, rfl⟩ fun _ _ _ => rfl
  · exact ⟨.refl, rfl⟩

/-- What has changed when a request ends, with the request or without one. -/
theorem OnlyChanges.reqDone_of_option {h g : Hw} (hk : OnlyChanges ps takeRequests h g) (r : Option CanReq) (st sent : Nat) :
    OnlyChanges ps takeRequests h (match r with | some r => reqDone g r st sent | none => g) := by
  split
  · exact hk.trans (reqDone_onlyChanges ..) fun _ _ _ => rfl
  · exact hk

theorem reqEnd_onlyChanges (h : Hw) (n b st sent : Nat) : OnlyChanges ps takeRequests h (reqEnd h n b st sent) :=
  OnlyChanges.reqDone_of_option ⟨.of_rf_eq rfl, rfl⟩ _ st sent

theorem abortDone_onlyChanges (h : Hw) (t : CanTx) : OnlyChanges ps takeRequests h (abortDone h t) := by
  unfold abortDone
  split
  · exact OnlyChanges.finishId ⟨.refl, rfl⟩ fun _ _ _ => rfl
  · exact ⟨.refl, rfl⟩

theorem canFailed_onlyChanges (h : Hw) (n : Nat) (t : CanTx) (st : Nat) : OnlyChanges ps takeRequests h (canFailed h n t st) := by
  refine OnlyChanges.ite ?_ (OnlyChanges.ite (reqEnd_onlyChanges ..) ?_)
  · exact (reqEnd_onlyChanges ..).trans (abortDone_onlyChanges ..) fun _ _ _ => rfl
  · dsimp only
    split <;> exact ⟨.of_rf_eq rfl, rfl⟩

theorem canFlush_onlyChanges (h : Hw) (n st : Nat) (all : Bool) : OnlyChanges ps takeRequests h (canFlush h n st all) := by
  refine foldl_onlyChanges (take := takeRequests) (fun g b => ?_) (fun _ => rfl) (fun _ _ _ => rfl) (List.range 128) h
  refine OnlyChanges.ite (OnlyChanges.ite ⟨.refl, rfl⟩ ?_) ⟨.refl, rfl⟩
  exact OnlyChanges.reqDone_of_option (OnlyChanges.reqDone_of_option ⟨.of_rf_eq rfl, rfl⟩ _ st 0) _ st 0

/-- A request of the buffer that has not started ends; a frame on the bus is marked. -/
theorem canAbort_onlyChanges (h : Hw) (n b id : Nat) : OnlyChanges ps takeRequests h (canAbort h n b id) := by
  have hnext : OnlyChanges ps takeRequests h (match (h.canb n b).next with
      | some r => reqDone (h.setCanb n b { h.canb n b with next := none }) r ST_CAN_ABORTED 0
      | none => h) := by
    split
    · exact OnlyChanges.trans ⟨.of_rf_eq rfl, rfl⟩ (reqDone_onlyChanges ..) fun _ _ _ => rfl
    · exact ⟨.refl, rfl⟩
  unfold canAbort
  dsimp only
  refine OnlyChanges.ite (hnext.trans ⟨.of_rf_eq rfl, rfl⟩ fun _ _ _ => rfl)
    (OnlyChanges.finishId (OnlyChanges.ite ?_ hnext) fun _ _ _ => rfl)
  exact hnext.trans (reqEnd_onlyChanges ..) fun _ _ _ => rfl

end

section
variable {n : Nat} (hn : n ≤ 15)
include hn

theorem busFree_onlyChanges (h : Hw) : OnlyChanges [12] takeController h (busFree h n) :=
  ⟨RegsKept.put (.of_rf_eq rfl) hn (by decide), rfl⟩

theorem canBusOff_onlyChanges (h : Hw) : OnlyChanges [12] takeBusError h (canBusOff h n) := by
  have hstate : OnlyChanges [12] takeBusError h (h.put F.CAN_STATUS_STATE 3 n) := ⟨RegsKept.refl.put hn (by decide), rfl⟩
  have hentered : OnlyChanges [12] takeBusError h (((h.put F.CAN_STATUS_STATE 3 n).bump F.CAN_BUSOFF_CNT_COUNT n).log 0x0E02 n) :=
    (hstate.put hn (by decide) fun _ _ _ => rfl).log _ _ (htake := fun _ _ _ => rfl)
  refine OnlyChanges.trans ?_ ((canFlush_onlyChanges _ n _ _).widen fun _ _ => rfl) fun _ _ _ => rfl
  refine OnlyChanges.trans ?_ ((busFree_onlyChanges hn _).widen fun _ _ => rfl) fun _ _ _ => rfl
  exact hentered.trans ⟨.of_rf_eq rfl, rfl⟩ fun _ _ _ => rfl

theorem canErrState_onlyChanges (h : Hw) (tec rec_ : Nat) : OnlyChanges [12] takeBusError h (canErrState h n tec rec_) := by
  have hcounts : OnlyChanges [12] takeBusError h ((h.put F.CAN_ECR_TEC (satN 9 tec) n).put F.CAN_ECR_REC (satN 8 rec_) n) :=
    ⟨(RegsKept.refl.put hn (by decide)).put hn (by decide), rfl⟩
  unfold canErrState
  dsimp only
  generalize (h.put F.CAN_ECR_TEC (satN 9 tec) n).put F.CAN_ECR_REC (satN 8 rec_) n = g at hcounts ⊢
  have hstate (x : Nat) : OnlyChanges [12] takeBusError h (g.put F.CAN_STATUS_STATE x n) :=
    hcounts.put hn (by decide) fun _ _ _ => rfl
  have hpassive : OnlyChanges [12] takeBusError h ((g.put F.CAN_STATUS_STATE 2 n).log 0x0E01 n) :=
    (hstate 2).log _ _ (htake := fun _ _ _ => rfl)
  refine OnlyChanges.ite hcounts (OnlyChanges.ite ?_ (OnlyChanges.ite (OnlyChanges.ite hcounts hpassive) (hstate 1)))
  exact hcounts.trans (canBusOff_onlyChanges hn g) fun _ _ _ => rfl

/-- The wire becomes free before the request of a failed attempt goes on or ends. -/
theorem canFailed_busFree_onlyChanges (h : Hw) (t : CanTx) (st : Nat) :
    OnlyChanges [12] takeAttempt h (canFailed (busFree h n) n t st) :=
  ((busFree_onlyChanges hn h).widen fun _ _ => rfl).trans ((canFailed_onlyChanges ..).widen fun _ _ => rfl) fun _ _ _ => rfl

theorem canStart_onlyChanges (h : Hw) (b : Nat) : OnlyChanges [12] takeController h (canStart h n b) := by
  refine OnlyChanges.ite ⟨.of_rf_eq rfl, rfl⟩ ⟨RegsKept.put ?_ hn (by decide), rfl⟩
  exact .of_rf_eq rfl

theorem claimLost_onlyChanges (h : Hw) (sa : Nat) : OnlyChanges [12] takeAgent h (claimLost h n sa) := by
  have hnull : RegsKept [12] h (h.put F.CAN_ADDR_ADDR 254 n) := RegsKept.refl.put hn (by decide)
  unfold claimLost
  dsimp only
  split <;> exact ⟨hnull.trans (.of_rf_eq rfl), rfl⟩

end

section
variable {dt id : Nat} {s t : State} {n : Fin 16}

theorem execCanRestart_frame {hart : Fin 19} (ht : execCanRestart dt hart n s = .next t) :
    OnlyChanges [] (fun h g => { h with can := g.can }) (s.hw.elapse dt) t.hw :=
  run_onlyChanges ht (fun _ => rfl) fun _ =>
    OnlyChanges.ite (OnlyChanges.ite ⟨.of_rf_eq rfl, rfl⟩ ⟨.refl, rfl⟩) ⟨.refl, rfl⟩

theorem execCanBusIntegrated_frame (ht : execCanBusIntegrated dt n s = .next t) :
    OnlyChanges [12] (fun h g => { h with rf := g.rf }) (s.hw.elapse dt) t.hw :=
  run_onlyChanges ht (fun _ => rfl) fun _ =>
    OnlyChanges.ite ⟨RegsKept.refl.put n.is_le (by decide), rfl⟩ ⟨.refl, rfl⟩

theorem execBusOffRecoveryDone_frame (ht : execBusOffRecoveryDone dt n s = .next t) :
    OnlyChanges [12] takeAgent (s.hw.elapse dt) t.hw := by
  refine run_onlyChanges ht (fun _ => rfl) fun h =>
    OnlyChanges.ite (OnlyChanges.log ?_ 0x0E03 n (htake := fun _ _ _ => rfl)) ⟨.refl, rfl⟩
  iterate 3 refine OnlyChanges.put (j := 0) ?_ n.is_le (by decide) fun _ _ _ => rfl
  exact ⟨.of_rf_eq rfl, rfl⟩

theorem execCanRxError_frame {by8 : Bool} (ht : execCanRxError dt n by8 s = .next t) :
    OnlyChanges [12] takeBusError (s.hw.elapse dt) t.hw :=
  run_onlyChanges ht (fun _ => rfl) fun h => OnlyChanges.ite (canErrState_onlyChanges n.is_le h _ _) ⟨.refl, rfl⟩

theorem execCanAbort_frame (ht : execCanAbort dt id s = .next t) : OnlyChanges [] takeRequests (s.hw.elapse dt) t.hw := by
  refine run_onlyChanges ht (fun _ => rfl) fun h => onOp_onlyChanges _ _ _ ⟨.refl, rfl⟩ fun f => ?_
  exact OnlyChanges.ite ⟨.refl, rfl⟩ (OnlyChanges.ite ⟨.of_rf_eq rfl, rfl⟩ (canAbort_onlyChanges ..))

theorem execLinpub_frame (ht : execLinpub dt id s = .next t) : OnlyChanges [] takeRequests (s.hw.elapse dt) t.hw := by
  refine run_onlyChanges ht (fun _ => rfl) fun h => onOp_onlyChanges _ _ _ ⟨.refl, rfl⟩ fun f => ?_
  dsimp only
  split <;> exact ⟨.of_rf_eq rfl, rfl⟩

theorem execCanTransmitStart_frame (ht : execCanTransmitStart dt n s = .next t) :
    OnlyChanges [12] takeController (s.hw.elapse dt) t.hw := by
  refine run_onlyChanges ht (fun _ => rfl) fun h => OnlyChanges.ite ?_ ⟨.refl, rfl⟩
  split
  · exact canStart_onlyChanges n.is_le h _
  · exact ⟨.refl, rfl⟩

theorem execCanArbLost_frame (ht : execCanArbLost dt n s = .next t) :
    OnlyChanges [12] takeAttempt (s.hw.elapse dt) t.hw := by
  refine run_onlyChanges ht (fun _ => rfl) fun h => ?_
  split
  · exact canFailed_busFree_onlyChanges n.is_le h _ _
  · exact ⟨.refl, rfl⟩

theorem execCanTxError_frame {counted : Bool} (ht : execCanTxError dt n counted s = .next t) :
    OnlyChanges [12] takeBusError (s.hw.elapse dt) t.hw := by
  refine run_onlyChanges ht (fun _ => rfl) fun h => ?_
  split
  case h_1 x _ =>
    have hfailed : OnlyChanges [12] takeBusError h (canFailed (busFree h n) n x ST_CAN_TX_ERROR) :=
      (canFailed_busFree_onlyChanges n.is_le h x _).widen fun _ _ => rfl
    exact OnlyChanges.ite (hfailed.trans (canErrState_onlyChanges n.is_le _ _ _) fun _ _ _ => rfl) hfailed
  case h_2 => exact ⟨.refl, rfl⟩

theorem execAddressClaim_frame {ev : ClaimEv} (ht : execAddressClaim dt n ev s = .next t) :
    OnlyChanges [12] takeAgent (s.hw.elapse dt) t.hw := by
  refine run_onlyChanges ht (fun _ => rfl) fun h => OnlyChanges.ite ⟨.refl, rfl⟩ ?_
  cases ev with
  | claim => exact OnlyChanges.ite ⟨.of_rf_eq rfl, rfl⟩ ⟨.of_rf_eq rfl, rfl⟩
  | settled =>
    dsimp only
    split
    · exact ⟨RegsKept.put (.of_rf_eq rfl) n.is_le (by decide), rfl⟩
    · exact ⟨.refl, rfl⟩
  | other name sa =>
    refine OnlyChanges.ite (OnlyChanges.ite ⟨.of_rf_eq rfl, rfl⟩ ?_) ⟨.of_rf_eq rfl, rfl⟩
    exact OnlyChanges.trans ⟨.of_rf_eq rfl, rfl⟩ (claimLost_onlyChanges n.is_le _ _) fun _ _ _ => rfl

theorem execHeartbeatSend_frame (ht : execHeartbeatSend dt n s = .next t) :
    OnlyChanges [] (fun h g => { h with can := g.can }) (s.hw.elapse dt) t.hw :=
  run_onlyChanges ht (fun _ => rfl) fun _ =>
    OnlyChanges.ite ⟨.refl, rfl⟩ (OnlyChanges.ite ⟨.of_rf_eq rfl, rfl⟩ ⟨.of_rf_eq rfl, rfl⟩)

theorem execLinWake_frame {c : Fin 2} (ht : execLinWake dt c s = .next t) :
    OnlyChanges [12] (fun h g => { h with rf := g.rf }) (s.hw.elapse dt) t.hw :=
  run_onlyChanges ht (fun _ => rfl) fun _ => ⟨RegsKept.refl.put c.is_le (by decide), rfl⟩

end

/-! ## Ethernet and Swarm -/

/-- What a port or the Swarm agent changes: registers and Ethernet. -/
def takeEthernet (h g : Hw) : Hw := { h with rf := g.rf, eth := g.eth }

/-- What a port or the Swarm agent changes and reports: Ethernet as above, and occurrences to be recorded. -/
def takeEthernetReport (h g : Hw) : Hw := { h with rf := g.rf, diag := g.diag, eth := g.eth }

/-- What an ANNOUNCE changes: what the Swarm agent changes and reports, and open values drawn. -/
def takeAnnounce (h g : Hw) : Hw := { h with rf := g.rf, diag := g.diag, freeCtr := g.freeCtr, eth := g.eth }

/-- What sending on a port changes: operations and Ethernet. -/
def takeSending (h g : Hw) : Hw := { h with rng := g.rng, eth := g.eth }

theorem setG_onlyChanges (h : Hw) (x : Int) : OnlyChanges [13] takeEthernet h (setG h x) := by
  refine ⟨RegsKept.setReg (f := F.ETH_SWARM_GOFS_HI_G) (i := 0) (j := 0) ?_ (Nat.le_refl 0) (by decide), rfl⟩
  exact RegsKept.refl.setReg (Nat.le_refl 0) (by decide)

theorem swarmAnnounce_onlyChanges (h : Hw) : OnlyChanges [13] takeEthernet h (swarmAnnounce h) :=
  ⟨RegsKept.put (.of_rf_eq rfl) (Nat.le_refl 0) (by decide), rfl⟩

theorem swarmJoin_onlyChanges (h : Hw) : OnlyChanges [13] takeEthernet h (swarmJoin h) := ⟨.of_rf_eq rfl, rfl⟩

theorem swarmLead_onlyChanges (h : Hw) : OnlyChanges [13] takeEthernet h (swarmLead h) :=
  ⟨RegsKept.put (.of_rf_eq rfl) (Nat.le_refl 0) (by decide), rfl⟩

/-- An enabled agent leads with G = 0 and sends its ANNOUNCE at once (R682). -/
theorem swarmCtrlWrite_onlyChanges (h : Hw) : OnlyChanges [13] takeEthernet h (swarmCtrlWrite h 1) := by
  have hled : OnlyChanges [13] takeEthernet h (swarmLead (setG (h.put F.ETH_SWARM_CTRL_EN 1) 0)) := by
    refine OnlyChanges.trans ?_ (swarmLead_onlyChanges _) fun _ _ _ => rfl
    refine OnlyChanges.trans ?_ (setG_onlyChanges _ 0) fun _ _ _ => rfl
    exact ⟨RegsKept.refl.put (Nat.le_refl 0) (by decide), rfl⟩
  unfold swarmCtrlWrite
  dsimp only
  rw [if_neg (by decide)]
  refine OnlyChanges.ite ⟨.refl, rfl⟩ ?_
  refine OnlyChanges.trans ?_ (swarmAnnounce_onlyChanges _) fun _ _ _ => rfl
  exact hled.trans ⟨.of_rf_eq rfl, rfl⟩ fun _ _ _ => rfl

section
variable {dt id : Nat} {s t : State} {n : Fin 12}

theorem execEthLinkChange_frame {up : Bool} (ht : execEthLinkChange dt n up s = .next t) :
    OnlyChanges [13] takeEthernetReport (s.hw.elapse dt) t.hw := by
  refine run_onlyChanges ht (fun _ => rfl) fun h =>
    OnlyChanges.ite (OnlyChanges.ite ?_ ⟨.refl, rfl⟩) (OnlyChanges.ite ?_ ⟨.refl, rfl⟩)
  · exact ⟨(RegsKept.refl.put n.is_le (by decide)).log, rfl⟩
  · exact ⟨(RegsKept.put (.of_rf_eq rfl) n.is_le (by decide)).log, rfl⟩

theorem execEthLinkRetry_frame (ht : execEthLinkRetry dt n s = .next t) :
    OnlyChanges [13] takeEthernet (s.hw.elapse dt) t.hw :=
  run_onlyChanges ht (fun _ => rfl) fun _ =>
    OnlyChanges.ite ⟨RegsKept.put (.of_rf_eq rfl) n.is_le (by decide), rfl⟩ ⟨.refl, rfl⟩

theorem execTxpkt_frame (ht : execTxpkt dt id s = .next t) : OnlyChanges [] takeSending (s.hw.elapse dt) t.hw := by
  refine run_onlyChanges ht (fun _ => rfl) fun h => onOp_onlyChanges _ _ _ ⟨.refl, rfl⟩ fun f => ?_
  exact OnlyChanges.ite ⟨.refl, rfl⟩ (OnlyChanges.ite ⟨.of_rf_eq rfl, rfl⟩ ⟨.of_rf_eq rfl, rfl⟩)

theorem execGateListTakesEffect_frame (ht : execGateListTakesEffect dt n s = .next t) :
    OnlyChanges [] takeSending (s.hw.elapse dt) t.hw := by
  refine run_onlyChanges ht (fun _ => rfl) fun h => ?_
  dsimp only
  split
  · exact OnlyChanges.ite (OnlyChanges.finishId (take := takeSending) ⟨.of_rf_eq rfl, rfl⟩ fun _ _ _ => rfl) ⟨.refl, rfl⟩
  · exact ⟨.refl, rfl⟩

theorem execGptpSync_frame (ht : execGptpSync dt n s = .next t) :
    OnlyChanges [] (fun h g => { h with eth := g.eth }) (s.hw.elapse dt) t.hw :=
  run_onlyChanges ht (fun _ => rfl) fun _ => OnlyChanges.ite ⟨.of_rf_eq rfl, rfl⟩ ⟨.refl, rfl⟩

theorem execPdelayExchange_frame {measured : Option Nat} (ht : execPdelayExchange dt n measured s = .next t) :
    OnlyChanges [] (fun h g => { h with eth := g.eth }) (s.hw.elapse dt) t.hw := by
  refine run_onlyChanges ht (fun _ => rfl) fun h => OnlyChanges.ite ?_ ⟨.refl, rfl⟩
  split <;> exact ⟨.of_rf_eq rfl, rfl⟩

theorem execSwarmEnable_frame {hart : Fin 19} (ht : execSwarmEnable dt hart s = .next t) :
    OnlyChanges [13] takeEthernet (s.hw.elapse dt) t.hw :=
  run_onlyChanges ht (fun _ => rfl) fun h => OnlyChanges.ite (swarmCtrlWrite_onlyChanges h) ⟨.refl, rfl⟩

theorem execSwarmPeriod_frame (ht : execSwarmPeriod dt s = .next t) :
    OnlyChanges [13] takeEthernet (s.hw.elapse dt) t.hw := by
  refine run_onlyChanges ht (fun _ => rfl) fun h => OnlyChanges.ite (OnlyChanges.ite ?_ ?_) ⟨.refl, rfl⟩
  · exact OnlyChanges.trans ⟨.of_rf_eq rfl, rfl⟩ (swarmAnnounce_onlyChanges _) fun _ _ _ => rfl
  · exact OnlyChanges.trans ⟨.of_rf_eq rfl, rfl⟩ (swarmJoin_onlyChanges _) fun _ _ _ => rfl

/-- An ANNOUNCE of a better leader is followed by a JOIN; one of the agent's own leader takes part in judging its G (R686, R687). -/
theorem execAnnounceReceived_frame {sender : BitVec 160} {field : Word} {tSend : DWord} {ents : List (BitVec 160 × DWord)}
    {age back : Nat} (ht : execAnnounceReceived dt sender field tSend ents age back s = .next t) :
    OnlyChanges [13] takeAnnounce (s.hw.elapse dt) t.hw := by
  refine run_onlyChanges ht (fun _ => rfl) fun h => ?_
  dsimp only
  have hmembers : OnlyChanges [13] takeAnnounce h (h.put F.ETH_SWARM_STATUS_MEMBERS (min ents.length 31)) :=
    ⟨RegsKept.refl.put (Nat.le_refl 0) (by decide), rfl⟩
  generalize h.put F.ETH_SWARM_STATUS_MEMBERS (min ents.length 31) = g at hmembers ⊢
  have hswarm (x : Swarm) : OnlyChanges [13] takeAnnounce h (g.setSwarm x) :=
    hmembers.trans ⟨.of_rf_eq rfl, rfl⟩ fun _ _ _ => rfl
  have hjudged (x : Swarm) (q : Q) (c : Int) : OnlyChanges [13] takeAnnounce h (setG ((g.setSwarm x).openRound q).2 c) :=
    ((hswarm x).openRound q fun _ _ _ => rfl).trans ((setG_onlyChanges _ c).widen fun _ _ => rfl) fun _ _ _ => rfl
  refine OnlyChanges.ite ⟨.refl, rfl⟩ (OnlyChanges.ite ⟨.refl, rfl⟩ (OnlyChanges.ite ?_ (OnlyChanges.ite ?_ hmembers)))
  · refine OnlyChanges.put (n := 0) ?_ (Nat.le_refl 0) (by decide) fun _ _ _ => rfl
    exact (hswarm _).trans ((swarmJoin_onlyChanges _).widen fun _ _ => rfl) fun _ _ _ => rfl
  · split
    case h_1 =>
      refine OnlyChanges.ite (OnlyChanges.log ?_ _ _ (htake := fun _ _ _ => rfl)) ?_
      · refine OnlyChanges.put (n := 0) ?_ (Nat.le_refl 0) (by decide) fun _ _ _ => rfl
        exact hjudged _ _ _
      · exact hjudged _ _ _
    case h_2 => exact hswarm _

theorem execJoinReceived_frame {sender : BitVec 160} {field : Word} {leader : BitVec 160} {age : Nat}
    (ht : execJoinReceived dt sender field leader age s = .next t) :
    OnlyChanges [13] takeEthernet (s.hw.elapse dt) t.hw := by
  refine run_onlyChanges ht (fun _ => rfl) fun h => OnlyChanges.ite ⟨.refl, rfl⟩ (OnlyChanges.ite ?_ ⟨.of_rf_eq rfl, rfl⟩)
  exact ⟨RegsKept.refl.bump (Nat.le_refl 0) (by decide), rfl⟩

theorem execJoinTimeout_frame (ht : execJoinTimeout dt s = .next t) :
    OnlyChanges [13] takeEthernet (s.hw.elapse dt) t.hw := by
  refine run_onlyChanges ht (fun _ => rfl) fun h => OnlyChanges.ite ?_ ⟨.refl, rfl⟩
  exact OnlyChanges.trans ⟨.of_rf_eq rfl, rfl⟩ (swarmLead_onlyChanges _) fun _ _ _ => rfl

theorem execLeaderLost_frame (ht : execLeaderLost dt s = .next t) :
    OnlyChanges [13] takeEthernetReport (s.hw.elapse dt) t.hw :=
  run_onlyChanges ht (fun _ => rfl) fun h =>
    OnlyChanges.ite (((swarmLead_onlyChanges h).widen fun _ _ => rfl).log _ _ (htake := fun _ _ _ => rfl)) ⟨.refl, rfl⟩

end

/-- Settles O41: each command keeps within the frame of its action. -/
theorem fusionAndNetworkFrames : Obligations.FusionAndNetworkFrames := by
  unfold Obligations.FusionAndNetworkFrames
  refine ⟨?fix, ?init, ?outbuf, ?imuTimeout, ?egoFaultExit, ?gnssLost, ?gnssHoldoffEnd, ?sourceStale, ?degradationRecover,
    ?biasFault, ?biasRetry, ?obsbuf, ?acquisitionPeak, ?trackReached, ?pullInTimeout, ?searchTimeout, ?lossOfLock,
    ?internalPpsInvalid, ?ppsOutPulse, ?canRestart, ?busOffRecoveryDone, ?canAbort, ?canRxbuf, ?linpub, ?canTransmitStart,
    ?canArbLost, ?canTxError, ?addressClaim, ?heartbeatSend, ?linWake, ?ethLinkChange, ?ethLinkRetry, ?txpkt, ?ethRxbuf,
    ?gateListTakesEffect, ?gptpSync, ?pdelayExchange, ?swarmEnable, ?swarmPeriod, ?announceReceived, ?joinReceived,
    ?joinTimeout, ?leaderLost, ?antennaBiasRecovery, ?canRxError, ?canBusIntegrated⟩
  case fix => exact fun _ _ _ _ ht => execFix_frame ht
  case init => exact fun _ _ _ _ ht => (execInit_frame ht).2
  case outbuf => exact fun _ _ _ _ ht => (run_bufPost_frame ht).2
  case imuTimeout => exact fun _ _ _ ht => execImuTimeout_frame ht
  case egoFaultExit => exact fun _ _ _ ht => execEgoFaultExit_frame ht
  case gnssLost => exact fun _ _ _ ht => execGnssLost_frame ht
  case gnssHoldoffEnd => exact fun _ _ _ ht => (execGnssHoldoffEnd_frame ht).2
  case sourceStale => exact fun _ _ _ _ ht => execSourceStale_frame ht
  case degradationRecover => exact fun _ _ _ ht => execDegradationRecover_frame ht
  case biasFault => exact fun _ _ _ _ _ ht => execBiasFault_frame ht
  case biasRetry => exact fun _ _ _ _ _ ht => execBiasRetry_frame ht
  case obsbuf => exact fun _ _ _ _ ht => (run_bufPost_frame ht).2
  case acquisitionPeak => exact fun _ _ _ _ _ _ ht => execAcquisitionPeak_frame ht
  case trackReached => exact fun _ _ _ _ _ _ _ _ ht => execTrackReached_frame ht
  case pullInTimeout => exact fun _ _ _ _ _ ht => execPullInTimeout_frame ht
  case searchTimeout => exact fun _ _ _ _ _ ht => execSearchTimeout_frame ht
  case lossOfLock => exact fun _ _ _ _ _ _ ht => execLossOfLock_frame ht
  case internalPpsInvalid => exact fun _ _ _ ht => execInternalPpsInvalid_frame ht
  case ppsOutPulse => exact fun _ _ _ ht => (execPpsOutPulse_frame ht).2
  case canRestart => exact fun _ _ _ _ _ ht => (execCanRestart_frame ht).2
  case busOffRecoveryDone => exact fun _ _ _ _ ht => execBusOffRecoveryDone_frame ht
  case canAbort => exact fun _ _ _ _ ht => (execCanAbort_frame ht).2
  case canRxbuf => exact fun _ _ _ _ ht => (run_bufPost_frame ht).2
  case linpub => exact fun _ _ _ _ ht => (execLinpub_frame ht).2
  case canTransmitStart => exact fun _ _ _ _ ht => execCanTransmitStart_frame ht
  case canArbLost => exact fun _ _ _ _ ht => execCanArbLost_frame ht
  case canTxError => exact fun _ _ _ _ _ ht => execCanTxError_frame ht
  case addressClaim => exact fun _ _ _ _ _ ht => execAddressClaim_frame ht
  case heartbeatSend => exact fun _ _ _ _ ht => (execHeartbeatSend_frame ht).2
  case linWake => exact fun _ _ _ _ ht => execLinWake_frame ht
  case ethLinkChange => exact fun _ _ _ _ _ ht => execEthLinkChange_frame ht
  case ethLinkRetry => exact fun _ _ _ _ ht => execEthLinkRetry_frame ht
  case txpkt => exact fun _ _ _ _ ht => (execTxpkt_frame ht).2
  case ethRxbuf => exact fun _ _ _ _ ht => (run_bufPost_frame ht).2
  case gateListTakesEffect => exact fun _ _ _ _ ht => (execGateListTakesEffect_frame ht).2
  case gptpSync => exact fun _ _ _ _ ht => (execGptpSync_frame ht).2
  case pdelayExchange => exact fun _ _ _ _ _ ht => (execPdelayExchange_frame ht).2
  case swarmEnable => exact fun _ _ _ _ ht => execSwarmEnable_frame ht
  case swarmPeriod => exact fun _ _ _ ht => execSwarmPeriod_frame ht
  case announceReceived => exact fun _ _ _ _ _ _ _ _ _ ht => execAnnounceReceived_frame ht
  case joinReceived => exact fun _ _ _ _ _ _ _ ht => execJoinReceived_frame ht
  case joinTimeout => exact fun _ _ _ ht => execJoinTimeout_frame ht
  case leaderLost => exact fun _ _ _ ht => execLeaderLost_frame ht
  case antennaBiasRecovery => exact fun _ _ _ _ ht => execAntennaBiasRecovery_frame ht
  case canRxError => exact fun _ _ _ _ _ ht => execCanRxError_frame ht
  case canBusIntegrated => exact fun _ _ _ _ ht => execCanBusIntegrated_frame ht

end Sys2Proof.Machine
end

section
/-!
PROOF. Fusion engine: what judging the fusion step changes, what an engine that starts shows, and what a propagator step and a tracker
cycle leave alone.
-/
namespace Sys2Proof.Machine

/-! ## Judging the fusion step -/

/-- Judging the fusion step shows the classes' availability and may show another step; of the engine's own state it changes what it
knows of a lower-numbered step alone (R567). -/
theorem fusJudge_judges (h : Hw) : (∃ l, (fusJudge h).fus = { h.fus with lower := l }) ∧
    ((fusJudge h).rf = (showAvail h).rf ∨ ∃ x, (fusJudge h).rf = ((showAvail h).put F.FUS_STATUS_STEP x).rf) := by
  unfold fusJudge
  dsimp only
  split
  · exact ⟨⟨_, rfl⟩, .inr ⟨_, rfl⟩⟩
  · split
    · exact ⟨⟨_, rfl⟩, .inl rfl⟩
    · split
      · split <;> exact ⟨⟨_, rfl⟩, .inl rfl⟩
      · exact ⟨⟨_, rfl⟩, .inl rfl⟩

theorem fus_fusJudge (h : Hw) : ∃ l, (fusJudge h).fus = { h.fus with lower := l } := (fusJudge_judges h).1

theorem cyc_fusJudge (h : Hw) : (fusJudge h).fus.cyc = h.fus.cyc := by
  obtain ⟨l, hfus⟩ := fus_fusJudge h
  rw [hfus]

theorem lateN_fusJudge (h : Hw) : (fusJudge h).fus.lateN = h.fus.lateN := by
  obtain ⟨l, hfus⟩ := fus_fusJudge h
  rw [hfus]

/-- A field of FUS_STATUS between STEP and CLS_AVAIL, or one of another register. -/
abbrev Fld.OffJudged (f : Fld) (i j : Nat) : Prop :=
  f.lo + f.w ≤ 32 ∧ (F.FUS_STATUS_STEP.at 0 0 ≠ f.at i j ∨
    F.FUS_STATUS_STEP.lo + F.FUS_STATUS_STEP.w ≤ f.lo ∧ f.lo + f.w ≤ F.FUS_STATUS_CLS_AVAIL.lo)

theorem get_put_judged {f g : Fld} {i j : Nat} (hf : f.OffJudged i j)
    (hg : g = F.FUS_STATUS_STEP ∨ g = F.FUS_STATUS_CLS_AVAIL) (h : Hw) (v : Nat) : (h.put g v).get f i j = h.get f i j := by
  obtain ⟨hf32, hreg | ⟨hlo, hhi⟩⟩ := hf <;> obtain rfl | rfl := hg
  · exact get_put_other _ _ _ _ _ _ _ _ hreg
  · exact get_put_other _ _ _ _ _ _ _ _ hreg
  · exact get_put_disjoint _ _ _ _ _ _ _ _ (.inl hlo) hf32
  · exact get_put_disjoint _ _ _ _ _ _ _ _ (.inr hhi) hf32

theorem get_fusJudge (h : Hw) {f : Fld} {i j : Nat} (hf : f.OffJudged i j) : (fusJudge h).get f i j = h.get f i j := by
  have hshown : (showAvail h).get f i j = h.get f i j := get_put_judged hf (.inr rfl) h _
  obtain ⟨-, hrf | ⟨x, hrf⟩⟩ := fusJudge_judges h
  · rw [get_of_rf_eq hrf, hshown]
  · rw [get_of_rf_eq hrf, get_put_judged hf (.inl rfl), hshown]

/-! ## Enabling -/

/-- A source's state is shown above the registers of the engine itself. -/
theorem get_srcReset (h : Hw) (k : Nat) {f : Fld} (hf : f.addr < 0xa1010) : (srcReset h k).get f = h.get f := by
  have hne (g : Fld) (hg : g.addr = 0xa1010) : g.at k 0 ≠ f.at 0 0 := by
    simp only [Fld.at, hg]
    omega
  unfold srcReset
  dsimp only
  rw [get_put_other _ _ _ _ _ _ _ _ (hne F.FUS_SRC_STATUS_MNIS rfl), get_put_other _ _ _ _ _ _ _ _ (hne F.FUS_SRC_STATUS_STATE rfl)]
  rfl

theorem get_foldl_srcReset (l : List Nat) (h : Hw) {f : Fld} (hf : f.addr < 0xa1010) : (l.foldl srcReset h).get f = h.get f :=
  List.foldlRecOn (motive := fun g => g.get f = h.get f) l srcReset rfl fun g hg k _ => (get_srcReset g k hf).trans hg

/-- Wheels, sources and classes are shown apart from the other fields of FUS_STATUS. -/
theorem get_shownInputs (h : Hw) {f : Fld} (hf : f.addr < 0xa1010)
    (hbits : f.lo + f.w ≤ F.FUS_STATUS_WHEEL0.lo ∨ F.FUS_STATUS_CLS_AVAIL.lo + F.FUS_STATUS_CLS_AVAIL.w ≤ f.lo)
    (hf32 : f.lo + f.w ≤ 32) :
    (showAvail ((List.range 16).foldl srcReset ([0, 1].foldl (fun g i => setWheelState g i (if wheelIn g i then 1 else 2)) h))).get f
      = h.get f := by
  simp only [F.FUS_STATUS_WHEEL0, F.FUS_STATUS_CLS_AVAIL] at hbits
  have havail : F.FUS_STATUS_CLS_AVAIL.lo + F.FUS_STATUS_CLS_AVAIL.w ≤ f.lo ∨ f.lo + f.w ≤ F.FUS_STATUS_CLS_AVAIL.lo := by
    simp only [F.FUS_STATUS_CLS_AVAIL]
    omega
  have hwheel (g : Hw) (i v : Nat) : (setWheelState g i v).get f = g.get f := by
    refine get_put_disjoint _ _ _ _ _ _ _ _ ?_ hf32
    split <;> simp only [F.FUS_STATUS_WHEEL0, F.FUS_STATUS_WHEEL1] <;> omega
  rw [showAvail, get_put_disjoint _ _ _ _ _ _ _ _ havail hf32, get_foldl_srcReset _ _ hf]
  simp only [List.foldl_cons, List.foldl_nil, hwheel]

/-- The engine starts UNALIGNED, in G4 and without fixes (R574). -/
theorem fusStart_shows (h : Hw) : (fusStart h).get F.FUS_CTRL_EN = 1 ∧ (fusStart h).get F.FUS_STATUS_STEP = 4 ∧
    (fusStart h).get F.FUS_STATUS_EGO = 0 ∧ (fusStart h).get F.FUS_STATUS_GNSS = 2 ∧ (fusStart h).get F.FUS_STATUS_ERR = ST_OK := by
  unfold fusStart
  dsimp only
  refine ⟨?_, ?_, ?_, ?_, ?_⟩
  all_goals
    rw [get_shownInputs _ (by decide) (by decide) (by decide)]
    simp (disch := decide) only [get_put_fits, get_put_disjoint, get_put_other]

/-! ## What a step and a cycle leave alone -/

/-- The numbers of the next step and of the next cycle, and the INITs that wait, are the same in two modules. -/
def CountsKept (h g : Hw) : Prop := g.fus.step = h.fus.step ∧ g.fus.cyc = h.fus.cyc ∧ g.fus.inits = h.fus.inits

theorem OnlyRecords.fus {h g : Hw} (hg : OnlyRecords h g) : g.fus = h.fus :=
  (congrArg Hw.fus hg).trans (rfl : (takeRecords h g).fus = h.fus)

section
variable {h g k : Hw}

theorem CountsKept.refl : CountsKept h h := ⟨rfl, rfl, rfl⟩

theorem CountsKept.trans (hg : CountsKept h g) (hk : CountsKept g k) : CountsKept h k := by
  obtain ⟨hgs, hgc, hgi⟩ := hg
  obtain ⟨hks, hkc, hki⟩ := hk
  exact ⟨hks.trans hgs, hkc.trans hgc, hki.trans hgi⟩

theorem CountsKept.ite {p : Prop} [Decidable p] (hg : CountsKept h g) (hk : CountsKept h k) : CountsKept h (if p then g else k) := by
  split
  · exact hg
  · exact hk

theorem CountsKept.of_fus_eq (hf : g.fus = h.fus) : CountsKept h g := by
  unfold CountsKept
  rw [hf]
  exact ⟨rfl, rfl, rfl⟩

theorem CountsKept.of_onlyRecords (hg : OnlyRecords h g) : CountsKept h g := .of_fus_eq hg.fus

/-- Steps that each leave the counts alone leave them alone together. -/
theorem foldl_countsKept {α : Type} {step : Hw → α → Hw} (hstep : ∀ g x, CountsKept g (step g x)) (l : List α) (h : Hw) :
    CountsKept h (l.foldl step h) :=
  List.foldlRecOn l step .refl fun g hg x _ => hg.trans (hstep g x)

theorem fusJudge_countsKept (h : Hw) : CountsKept h (fusJudge h) := by
  obtain ⟨l, hfus⟩ := fus_fusJudge h
  unfold CountsKept
  rw [hfus]
  exact ⟨rfl, rfl, rfl⟩

theorem finishId_fus (h : Hw) (id st t a b c d : Nat) : (h.finishId id st t a b c d).fus = h.fus := by
  obtain ⟨r, hfinish⟩ := finishId_changes_rng h id st t a b c d
  rw [hfinish]

theorem openRound_onlyRecords (h : Hw) (q : Q) : OnlyRecords h (h.openRound q).2 := by
  obtain ⟨x, n, hround⟩ := openRound_changes_freeCtr h q
  rw [hround]
  rfl

/-! ## Records of the engine -/

theorem fmtFields_onlyRecords (l : List (Nat × Nat × Q)) (h : Hw) : OnlyRecords h (fmtFields l h).2 := by
  induction l generalizing h with
  | nil => exact .refl
  | cons x l ih =>
    obtain ⟨n, kind, q⟩ := x
    unfold fmtFields
    dsimp only
    refine OnlyRecords.trans ?_ (ih _)
    split
    · exact openRound_onlyRecords h q
    · split
      · exact openRound_onlyRecords h q
      · exact (openRound_onlyRecords h q).trans rfl

theorem fusPut_onlyRecords (h : Hw) (stream : Nat) (bs : List Byte) (tov : Nat) : OnlyRecords h (fusPut h stream bs tov) := by
  refine foldl_onlyRecords (fun g p => ?_) (fusReaders h) h
  dsimp only
  split
  · exact bufPut_onlyRecords
  · exact bufPut_onlyRecords.trans rfl

theorem bestWheel_onlyRecords (h : Hw) : OnlyRecords h (bestWheel h).2 := by
  unfold bestWheel
  dsimp only
  split
  · exact .refl
  · split
    · exact .refl
    · rfl

theorem egoRecord_onlyRecords (h : Hw) (t : Nat) : OnlyRecords h (egoRecord h t) := by
  unfold egoRecord
  dsimp only
  refine OnlyRecords.trans ?_ (fusPut_onlyRecords _ _ _ _)
  refine OnlyRecords.trans ?_ (fmtFields_onlyRecords _ _)
  exact (bestWheel_onlyRecords h).trans (fmtFields_onlyRecords _ _)

theorem trackRecord_onlyRecords (h : Hw) (i : Nat) (x : Track) (tf : Nat) : OnlyRecords h (trackRecord h i x tf).2 := by
  unfold trackRecord
  dsimp only
  refine OnlyRecords.trans ?_ (fmtFields_onlyRecords _ _)
  refine OnlyRecords.trans ?_ (fmtFields_onlyRecords _ _)
  refine OnlyRecords.trans ?_ (fmtFields_onlyRecords _ _)
  rfl

/-! ## The propagator step -/

theorem egoInits_countsKept (h : Hw) (t : Nat) : CountsKept h (egoInits h t) := by
  refine foldl_countsKept (fun g id => ?_) h.fus.inits h
  split
  · dsimp only
    split <;> exact ⟨rfl, rfl, rfl⟩
  · exact .refl

/-- A fix that fails is counted, and the GNSS input may change its state. -/
theorem gnssJudge_countsKept (h : Hw) (pass : Bool) (tov : Nat) : CountsKept h (gnssJudge h pass tov).1 := by
  unfold gnssJudge
  extract_lets g st recent newest f h0 h1
  have hcounted : CountsKept h h1 := by
    unfold h1
    split <;> exact ⟨rfl, rfl, rfl⟩
  split
  · split <;> exact hcounted.trans ⟨rfl, rfl, rfl⟩
  · split
    · exact hcounted.trans ⟨rfl, rfl, rfl⟩
    · dsimp only
      split <;> exact hcounted.trans ⟨rfl, rfl, rfl⟩

theorem nis256_onlyRecords (w : Nat) (q : Q) (h : Hw) : OnlyRecords h (nis256 w q h).2 := openRound_onlyRecords h _

theorem fixTest_countsKept (h : Hw) (x : FFix) : CountsKept h (fixTest h x) := by
  unfold fixTest
  extract_lets arm n e nis pass
  refine CountsKept.trans (gnssJudge_countsKept h pass x.tov) ?_
  generalize gnssJudge h pass x.tov = judged
  obtain ⟨g, used⟩ := judged
  dsimp only
  refine CountsKept.trans ?_ (.of_fus_eq (finishId_fus ..))
  refine CountsKept.trans ?_ (.of_onlyRecords (nis256_onlyRecords _ _ _))
  exact ⟨rfl, rfl, rfl⟩

theorem dropFixes_countsKept (h : Hw) : CountsKept h (dropFixes h) := ⟨rfl, rfl, rfl⟩

/-- Updates go to Waggle alone (R539). -/
theorem egoSend_fus (h : Hw) (t : Nat) : (egoSend h t).fus = h.fus := by
  unfold egoSend
  split
  · rfl
  · refine List.foldlRecOn (motive := fun g : Hw => g.fus = h.fus) _ _ rfl fun g hg i _ => ?_
    dsimp only
    split
    · exact (OnlyRecords.fus (openRound_onlyRecords g _)).trans hg
    · exact hg

end

/-! ## The tracker cycle -/

theorem batchLost_countsKept (h : Hw) (op n st tov : Nat) : CountsKept h (batchLost h op n st tov) := by
  unfold batchLost
  refine CountsKept.trans ?_ (.of_fus_eq (finishId_fus ..))
  exact ⟨rfl, rfl, rfl⟩

theorem srcPush_countsKept (h : Hw) (s : Nat) (nis : Q) : CountsKept h (srcPush h s nis) := by
  unfold srcPush
  extract_lets win l mean
  obtain ⟨x, n, hround⟩ := openRound_changes_freeCtr h (qmul mean (qi 256))
  rw [hround]
  dsimp only
  split
  · exact ⟨rfl, rfl, rfl⟩
  · split <;> exact ⟨rfl, rfl, rfl⟩

theorem foldl_srcPush_countsKept (src : Nat) (assigned : List (Q × Nat × Nat)) (h : Hw) :
    CountsKept h (assigned.foldl (fun g a => srcPush g src a.1) h) := by
  refine foldl_countsKept (fun g a => ?_) assigned h
  exact srcPush_countsKept ..

theorem trackNew_countsKept (h : Hw) (d : Det) (src tov : Nat) : CountsKept h (trackNew h d src tov).1 := by
  unfold trackNew
  dsimp only
  split
  · exact .refl
  · split <;> exact ⟨rfl, rfl, rfl⟩

theorem batchRun_countsKept (h : Hw) (b : DBatch) : CountsKept h (batchRun h b).1 := by
  unfold batchRun
  split
  · exact .refl
  · extract_lets pose ds ts st as ts1 f h1 rest
    have hpushed : CountsKept h h1 := CountsKept.trans ⟨rfl, rfl, rfl⟩ (foldl_srcPush_countsKept b.src as _)
    clear_value h1 rest
    refine hpushed.trans ?_
    dsimp only
    split
    · refine List.foldlRecOn (motive := fun x : Hw × Nat => CountsKept h1 x.1) _ _ .refl fun x hx d _ => ?_
      exact hx.trans (trackNew_countsKept x.1 d b.src b.tov)
    · exact .refl

theorem cycleBatch_countsKept (tf : Nat) (x : Hw × CycleAcc) (b : DBatch) : CountsKept x.1 (cycleBatch tf x b).1 := by
  unfold cycleBatch
  dsimp only
  split
  · exact batchLost_countsKept ..
  · exact (batchRun_countsKept x.1 b).trans (.of_fus_eq (finishId_fus ..))

/-- The batches of a cycle that came too late are lost. -/
theorem foldl_batchLost_countsKept (tf : Nat) (late : List DBatch) (h : Hw) :
    CountsKept h (late.foldl (fun g b => batchLost g b.op b.dets.length ST_FUS_LATE tf) h) := by
  refine foldl_countsKept (fun g b => ?_) late h
  exact batchLost_countsKept ..

theorem foldl_cycleBatch_countsKept (tf : Nat) (due : List DBatch) (x : Hw × CycleAcc) :
    CountsKept x.1 (due.foldl (cycleBatch tf) x).1 :=
  List.foldlRecOn (motive := fun y : Hw × CycleAcc => CountsKept x.1 y.1) due (cycleBatch tf) .refl
    fun y hy b _ => hy.trans (cycleBatch_countsKept tf y b)

theorem foldl_trackRecord_onlyRecords (tf : Nat) (out : Map Track) (h : Hw) : OnlyRecords h (out.foldl (fun g x =>
    fusPut (trackRecord g x.1 x.2 tf).2 1 (trackRecord g x.1 x.2 tf).1 tf) h) := by
  refine foldl_onlyRecords (fun g x => ?_) out h
  exact (trackRecord_onlyRecords g x.1 x.2 tf).trans (fusPut_onlyRecords ..)

end Sys2Proof.Machine
end

section
/-!
PROOF. Commands of the fusion engine: what each of them does by itself, and from that the completion of all (O23).
-/
namespace Sys2Proof.Machine

section
variable {dt : Nat} {s : State} (hon : s.hw.isOn = true)
include hon

/-! ## Enabling and descriptors -/

theorem fusEnable_starts {hart : Fin 19} (hby : s.hw.byFus hart = true) (hoff : s.hw.flag F.FUS_CTRL_EN = false)
    (hok : fusCheck s.hw = ST_OK) : Does (.fusEnable dt hart) s fun h => h.get F.FUS_CTRL_EN = 1 ∧ h.get F.FUS_STATUS_STEP = 4 ∧
      h.get F.FUS_STATUS_EGO = 0 ∧ h.get F.FUS_STATUS_GNSS = 2 ∧ h.get F.FUS_STATUS_ERR = ST_OK := by
  refine does_of_run (show execFusEnable dt hart s = _ from rfl) hon ?_
  have hby' : (s.hw.elapse dt).byFus hart = true := hby
  have hok' : fusCheck (s.hw.elapse dt) = ST_OK := hok
  have hstart : fusCtrlWrite (s.hw.elapse dt) 1 = fusStart (s.hw.elapse dt) := by
    unfold fusCtrlWrite
    simp only [elapse_flag, hoff, hok', Nat.reduceMod, Nat.reduceEqDiff, Bool.false_eq_true, if_false, if_true]
  rw [if_pos hby', hstart]
  exact fusStart_shows _

/-- The batch's source is fetched from at this time; where it was LOST it is OK again (R564). -/
theorem detect_joins_batches {id : Nat} {f : Flight} (hf : OpRuns s.hw id 9 1 f)
    (hnew : s.hw.fus.batches.any (fun b => b.op == id) = false)
    (hroom : (s.hw.fus.batches.map (·.dets.length)).sum + fld f.desc 2 2 ≤ 16384)
    (hlate : batchLate s.hw (fld f.desc 8 8) = false) (he : s.hw.ecc = [])
    (hdets : (chunks64 (fld f.desc 2 2) (gather s.hw (detPieces s.hw f.desc))).all detOk = true) : Does (.detect dt id) s fun h =>
      h.fus.batches = s.hw.fus.batches ++ [⟨id, (fld f.desc 1 1 % 16), fld f.desc 8 8, f.cpl.tov, (chunks64 (fld f.desc 2 2)
        (gather s.hw (detPieces s.hw f.desc)))⟩] ∧ mget h.fus.srcAt (fld f.desc 1 1 % 16) = some (s.hw.now + dt) := by
  refine does_of_run_onOp (show execDetect dt id s = _ from rfl) hon hf ?_
  extract_lets d src n tov held h1 f1 h2
  have hroom' : ¬ 16384 < held + n := Nat.not_lt.2 hroom
  have hlate' : batchLate h2 tov = false := hlate
  have he' : h2.ecc = [] := he
  obtain ⟨g, ⟨m, hg⟩, hread⟩ := engRead_changes_freeCtr he' f (detPieces h2 d)
  have hents : chunks64 n (gather g (detPieces g d)) = chunks64 n (gather s.hw (detPieces s.hw d)) := by
    rw [hg]
    rfl
  have hbatches : g.fus.batches = s.hw.fus.batches := by
    rw [hg]
    rfl
  have hsrc : mget g.fus.srcAt src = some (s.hw.now + dt) := by
    rw [hg]
    exact mget_mset_same ..
  rw [elapse_fus, if_neg (ne_true_of_eq_false hnew), if_neg hroom', if_neg (ne_true_of_eq_false hlate'), hread]
  extract_lets es f4 h4
  have hok : es.all detOk = true := (congrArg (List.all · detOk) hents).trans hdets
  have hjoined : h4.fus.batches = s.hw.fus.batches ++ [⟨id, src, tov, f.cpl.tov, chunks64 n (gather s.hw (detPieces s.hw d))⟩] := by
    rw [← hbatches, ← hents]
  rw [hok, if_neg (by decide)]
  split
  · obtain ⟨l, hfus⟩ := fus_fusJudge (h4.put F.FUS_SRC_STATUS_STATE 1 src)
    rw [hfus]
    exact ⟨hjoined, hsrc⟩
  · exact ⟨hjoined, hsrc⟩

theorem fix_joins_fixes {id : Nat} {f : Flight} (hf : OpRuns s.hw id 9 2 f)
    (hnew : (dropFixes (s.hw.elapse dt)).fus.fixes.any (fun x => x.op == id) = false)
    (hroom : (dropFixes (s.hw.elapse dt)).fus.fixes.length < 64) : Does (.fix dt id) s fun h =>
      h.fus.fixes = (dropFixes (s.hw.elapse dt)).fus.fixes ++ [⟨id, f.desc, fld f.desc 8 8, false⟩] := by
  refine does_of_run_onOp (show execFix dt id s = _ from rfl) hon hf ?_
  simp only [hnew, Nat.not_le.2 hroom, Bool.false_eq_true, if_false]

theorem init_joins_inits {id : Nat} {f : Flight} (hf : OpRuns s.hw id 9 3 f) (hnew : s.hw.fus.inits.contains id = false) :
    Does (.init dt id) s fun h => h.fus.inits = s.hw.fus.inits ++ [id] := by
  refine does_of_run_onOp (show execInit dt id s = _ from rfl) hon hf ?_
  simp only [elapse_fus, hnew, Bool.false_eq_true, if_false]

theorem outbuf_joins_stream {id : Nat} {f : Flight} (hf : OpRuns s.hw id 9 4 f)
    (hnew : (s.hw.bufq (qKey (7 + fld f.desc 1 1 % 2) f.part)).bufs.contains id = false)
    (hroom : (s.hw.bufq (qKey (7 + fld f.desc 1 1 % 2) f.part)).bufs.length < 64) : Does (.outbuf dt id) s fun h =>
      (h.bufq (qKey (7 + fld f.desc 1 1 % 2) f.part)).bufs = (s.hw.bufq (qKey (7 + fld f.desc 1 1 % 2) f.part)).bufs ++ [id] := by
  obtain rfl : f.id = id := flight_id hf.1
  exact does_of_run_onOp (show execOutbuf dt f.id s = _ from rfl) hon hf (bufs_bufPost (h := s.hw.elapse dt) hnew hroom)

/-! ## Steps and states of the ego input -/

theorem egoStep_steps {l0 l1 : Bool} (hen : s.hw.flag F.FUS_CTRL_EN = true) (hdue : 500000 * s.hw.fus.step ≤ (s.hw.elapse dt).tb) :
    Does (.egoStep dt l0 l1) s fun h => h.fus.step = s.hw.fus.step + 1 ∧ h.fus.inits = [] := by
  refine does_of_run (show execEgoStep dt l0 l1 s = _ from rfl) hon ?_
  have hgo : ¬ (!(s.hw.elapse dt).flag F.FUS_CTRL_EN || decide ((s.hw.elapse dt).tb < 500000 * (s.hw.elapse dt).fus.step)) = true := by
    simp only [elapse_fus, elapse_flag, hen, Nat.not_lt.2 hdue, Bool.not_true, decide_false, Bool.or_self, Bool.false_eq_true,
      not_false_eq_true]
  dsimp -zeta only
  extract_lets n t e f h2 h3 f3 h4 due h5 h6 h7
  rw [if_neg hgo]
  have hbegun : h2.fus.step = s.hw.fus.step + 1 := rfl
  obtain ⟨hinit, -, -⟩ : CountsKept h2 h3 := egoInits_countsKept h2 t
  have hnone : h4.fus.inits = [] := rfl
  have hsame : h4.fus.step = h3.fus.step := rfl
  have htested : CountsKept h4 h5 := (foldl_countsKept fixTest_countsKept due h4).trans (dropFixes_countsKept _)
  have hsent : CountsKept h5 h6 := .of_fus_eq (egoSend_fus h5 t)
  have hrecorded : CountsKept h6 h7 := .ite (.of_onlyRecords (egoRecord_onlyRecords h6 t)) .refl
  clear_value h7 h6 h5 due h4 f3 h3 h2
  obtain ⟨hstep, -, hinits⟩ := ((htested.trans hsent).trans hrecorded).trans (fusJudge_countsKept h7)
  exact ⟨hstep.trans (hsame.trans (hinit.trans hbegun)), hinits.trans hnone⟩

theorem imuTimeout_faults (hen : s.hw.flag F.FUS_CTRL_EN = true) (hego : s.hw.get F.FUS_STATUS_EGO ≠ 2)
    (hquiet : imuWithin (s.hw.elapse dt) 2000000 = false) : Does (.imuTimeout dt) s fun h => h.get F.FUS_STATUS_EGO = 2 ∧
      h.fus.before = s.hw.get F.FUS_STATUS_EGO := by
  refine does_of_run (show execImuTimeout dt s = _ from rfl) hon ?_
  simp only [elapse_flag, elapse_get, hen, hquiet, beq_eq_false_iff_ne.2 hego, Bool.not_true, Bool.or_self, Bool.false_eq_true, if_false]
  constructor
  · rw [get_fusJudge _ (by decide), log_get, get_put_fits _ _ _ _ _ (by decide) (by decide)]
  · obtain ⟨l, hfus⟩ := fus_fusJudge ((({ s.hw.elapse dt with fus := { (s.hw.elapse dt).fus with
      before := s.hw.get F.FUS_STATUS_EGO } } : Hw).put F.FUS_STATUS_EGO 2).log 0x0C08)
    exact congrArg Fus.before hfus

theorem egoFaultExit_restores {t : Nat} (hen : s.hw.flag F.FUS_CTRL_EN = true) (hego : s.hw.get F.FUS_STATUS_EGO = 2)
    (hwithin : imuWithin (s.hw.elapse dt) 2000000 = true) (hsince : imuSince s.hw = some t)
    (hdue : t + 100000000 ≤ (s.hw.elapse dt).tb) : Does (.egoFaultExit dt) s fun h =>
      h = fusJudge ((s.hw.elapse dt).put F.FUS_STATUS_EGO s.hw.fus.before) ∧
      h.get F.FUS_STATUS_EGO = s.hw.fus.before % 2 ^ F.FUS_STATUS_EGO.w := by
  refine does_of_run (show execEgoFaultExit dt s = _ from rfl) hon ?_
  have hsince' : imuSince (s.hw.elapse dt) = some t := hsince
  simp only [hsince', elapse_flag, elapse_get, hen, hego, hwithin, hdue, BEq.rfl, decide_true, Bool.and_self, if_true, elapse_fus,
    true_and]
  rw [get_fusJudge _ (by decide), get_put_same _ _ _ _ _ (by decide)]

/-! ## States of the GNSS input -/

theorem gnssLost_loses (hen : s.hw.flag F.FUS_CTRL_EN = true) (hgnss : s.hw.get F.FUS_STATUS_GNSS = 1)
    (hold : s.hw.fus.fixTov.all (fun t => decide (t + 1000000 * s.hw.get F.FUS_FIX_STALE ≤ (s.hw.elapse dt).tb)) = true) :
    Does (.gnssLost dt) s fun h => h.get F.FUS_STATUS_GNSS = 2 := by
  refine does_of_run (show execGnssLost dt s = _ from rfl) hon ?_
  have hlost : (fusJudge ((s.hw.elapse dt).put F.FUS_STATUS_GNSS 2)).get F.FUS_STATUS_GNSS = 2 := by
    rw [get_fusJudge _ (by decide), get_put_fits _ _ _ _ _ (by decide) (by decide)]
  cases hfix : s.hw.fus.fixTov with
  | none => simpa only [elapse_fus, elapse_flag, elapse_get, hen, hgnss, hfix, BEq.rfl, Bool.and_self, if_true] using hlost
  | some t =>
    rw [hfix, Option.all_some, decide_eq_true_iff] at hold
    simpa only [elapse_fus, elapse_flag, elapse_get, hen, hgnss, hfix, hold, BEq.rfl, decide_true, Bool.and_self, if_true] using hlost

theorem gnssHoldoffEnd_opens (hen : s.hw.flag F.FUS_CTRL_EN = true) (hgnss : s.hw.get F.FUS_STATUS_GNSS = 3)
    (hclosed : s.hw.fus.gnss.open_ = false)
    (hdue : s.hw.fus.gnss.since + 1000000000 * s.hw.get F.FUS_DEG_HOLDOFF ≤ s.hw.now + dt) : Does (.gnssHoldoffEnd dt) s fun h =>
      h.fus.gnss.open_ = true ∧ h.fus.gnss.passes = 0 ∧ h.get F.FUS_STATUS_GNSS = 3 := by
  refine does_of_run (show execGnssHoldoffEnd dt s = _ from rfl) hon ?_
  simp only [elapse_fus, elapse_flag, elapse_get, elapse_now, hen, hgnss, hclosed, hdue, BEq.rfl, Bool.not_false, decide_true,
    Bool.and_self, if_true]
  exact ⟨trivial, trivial, hgnss⟩

/-! ## The tracker cycle, sources and steps -/

theorem fusionCycle_cycles (hen : s.hw.flag F.FUS_CTRL_EN = true) (hdue : s.hw.fus.cyc * cycleNs s.hw ≤ (s.hw.elapse dt).tb) :
    Does (.fusionCycle dt) s fun h => h.fus.cyc = s.hw.fus.cyc + 1 ∧ h.fus.lateN = 0 := by
  refine does_of_run (show execFusionCycle dt s = _ from rfl) hon ?_
  have hgo : ¬ (!(s.hw.elapse dt).flag F.FUS_CTRL_EN
      || decide ((s.hw.elapse dt).tb < (s.hw.elapse dt).fus.cyc * cycleNs (s.hw.elapse dt))) = true := by
    have hdue' : ¬ (s.hw.elapse dt).tb < s.hw.fus.cyc * cycleNs (s.hw.elapse dt) := Nat.not_lt.2 hdue
    simp only [elapse_fus, elapse_flag, hen, hdue', Bool.not_true, decide_false, Bool.or_self, Bool.false_eq_true,
      not_false_eq_true]
  dsimp -zeta only
  extract_lets j start tfi tf came left old f h1 h2 order ts out gone cand h4 h5 h6 h7 gens f7
  rw [if_neg hgo]
  have hbegun : h1.fus.cyc = s.hw.fus.cyc + 1 := cyc_fusJudge _
  have hlate : CountsKept h1 h2 := foldl_batchLost_countsKept tf _ h1
  have htaken : CountsKept h2 (order.foldl (cycleBatch tf) (h2, {})).1 := foldl_cycleBatch_countsKept tf order (h2, {})
  have hcand : CountsKept (order.foldl (cycleBatch tf) (h2, {})).1 h4 := .ite .refl (.of_fus_eq (bump_fus ..))
  have hgone : CountsKept h4 h5 := .ite .refl (.of_fus_eq (bump_fus ..))
  have hheader : OnlyRecords h5 h6 := fusPut_onlyRecords ..
  have hrecords : OnlyRecords h6 h7 := foldl_trackRecord_onlyRecords tf out h6
  have hended : CountsKept h1 h7 :=
    ((hlate.trans htaken).trans (hcand.trans hgone)).trans (.of_onlyRecords (hheader.trans hrecords))
  obtain ⟨-, hcyc, -⟩ := hended
  exact ⟨(cyc_fusJudge _).trans (hcyc.trans hbegun), lateN_fusJudge _⟩

theorem sourceStale_loses {src : Fin 16} (hen : s.hw.flag F.FUS_CTRL_EN = true) (hsrc : s.hw.flag F.FUS_SRC_EN src = true)
    (hstate : s.hw.get F.FUS_SRC_STATUS_STATE src = 1 ∨ s.hw.get F.FUS_SRC_STATUS_STATE src = 3)
    (hdue : mgetD s.hw.fus.srcAt src 0 + 1000000 * s.hw.get F.FUS_SRC_STALE src ≤ s.hw.now + dt) :
    Does (.sourceStale dt src) s fun h => h.get F.FUS_SRC_STATUS_STATE src = 2 := by
  refine does_of_run (show execSourceStale dt src s = _ from rfl) hon ?_
  have hstate' : (s.hw.get F.FUS_SRC_STATUS_STATE src == 1 || s.hw.get F.FUS_SRC_STATUS_STATE src == 3) = true := by
    simpa only [Bool.or_eq_true, beq_iff_eq] using hstate
  simp only [elapse_fus, elapse_flag, elapse_get, elapse_now, hen, hsrc, hstate', hdue, decide_true, Bool.and_self, if_true]
  have hoff : F.FUS_SRC_STATUS_STATE.OffJudged src 0 := by
    refine ⟨by decide, .inl ?_⟩
    simp only [Fld.at, F.FUS_STATUS_STEP, F.FUS_SRC_STATUS_STATE]
    omega
  rw [get_fusJudge _ hoff, log_get, get_put_fits _ _ _ _ _ (by decide) (by decide)]

theorem degradationRecover_lowers {x t : Nat} (hen : s.hw.flag F.FUS_CTRL_EN = true) (hlower : s.hw.fus.lower = some (x, t))
    (hdue : t + 100000000 * s.hw.get F.FUS_DEG_RECOVER ≤ s.hw.now + dt) : Does (.degradationRecover dt) s fun h =>
      h.get F.FUS_STATUS_STEP = x % 2 ^ F.FUS_STATUS_STEP.w ∧ h.fus.lower = none ∧
      h.diag = s.hw.diag ++ [⟨0x0C01, 0xFFFF, false⟩] := by
  refine does_of_run (show execDegradationRecover dt s = _ from rfl) hon ?_
  simp only [elapse_fus, elapse_flag, elapse_get, elapse_now, hen, hlower, hdue, decide_true, Bool.and_self, if_true]
  refine ⟨?_, rfl, rfl⟩
  rw [log_get, get_put_same _ _ _ _ _ (by decide)]

end

/-- Settles O23: each command does what its action does at the end of its time. -/
theorem fusionCommandsComplete : Obligations.FusionCommandsComplete := by
  unfold Obligations.FusionCommandsComplete
  refine ⟨?fusEnable, ?detect, ?fix, ?init, ?outbuf, ?egoStep, ?imuTimeout, ?egoFaultExit, ?gnssLost, ?gnssHoldoffEnd,
    ?fusionCycle, ?sourceStale, ?degradationRecover⟩
  case fusEnable => exact fun _ _ _ hon hby hoff hok => fusEnable_starts hon hby hoff hok
  case detect => exact fun _ _ _ _ hon hf hnew hroom hlate he hdets => detect_joins_batches hon hf hnew hroom hlate he hdets
  case fix => exact fun _ _ _ _ hon hf hnew hroom => fix_joins_fixes hon hf hnew hroom
  case init => exact fun _ _ _ _ hon hf hnew => init_joins_inits hon hf hnew
  case outbuf => exact fun _ _ _ _ hon hf hnew hroom => outbuf_joins_stream hon hf hnew hroom
  case egoStep => exact fun _ _ _ _ hon hen hdue => egoStep_steps hon hen hdue
  case imuTimeout => exact fun _ _ hon hen hego hquiet => imuTimeout_faults hon hen hego hquiet
  case egoFaultExit =>
    exact fun _ _ _ hon hen hego hwithin hsince hdue => egoFaultExit_restores hon hen hego hwithin hsince hdue
  case gnssLost => exact fun _ _ hon hen hgnss hold => gnssLost_loses hon hen hgnss hold
  case gnssHoldoffEnd => exact fun _ _ hon hen hgnss hclosed hdue => gnssHoldoffEnd_opens hon hen hgnss hclosed hdue
  case fusionCycle => exact fun _ _ hon hen hdue => fusionCycle_cycles hon hen hdue
  case sourceStale => exact fun _ _ _ hon hen hsrc hstate hdue => sourceStale_loses hon hen hsrc hstate hdue
  case degradationRecover => exact fun _ _ _ _ hon hen hlower hdue => degradationRecover_lowers hon hen hlower hdue

end Sys2Proof.Machine
end
